-- ==== Sys2Proof/Word.lean ====
section
/-! DEFINITION. The word and byte types of the controller and their plainest arithmetic (R7). -/
namespace Sys2Proof

/-- A word is 32 bits (R7). -/
abbrev Word := BitVec 32
/-- A byte of an addressed memory. -/
abbrev Byte := BitVec 8

/-- The word that holds the low 32 bits of a number. -/
def word (n : Nat) : Word := BitVec.ofNat 32 n
/-- The byte that holds the low 8 bits of a number. -/
def byte (n : Nat) : Byte := BitVec.ofNat 8 n

end Sys2Proof
end

