-- ==== Sys2Proof/Syntax.lean ====
section
/-! DEFINITION. The commands of the controller: one constructor per row of the opcode table, each with the instant `t` at which it happens, in ticks of
the time base, and with what comes from outside with it. An operand with a default is what comes
with only some of the events of its row, or, for a level, how long it has stood (64 ticks: longer than any filter). A command packet carries the window it is written to (`urgent`), its TAG, UID, FLAGS and
parameters as R75 lays them out; `env` is the address where executing it would meet an uncorrectable memory error, if it would. -/
namespace Sys2Proof

/-- What the self-tests and measurements of units that come on find (R160, R241, R529): lanes whose physical lane fails, units whose queue self-test
fails, and for each AFE channel the sums (low point, high point) of its calibrations in order. -/
structure Outcomes where
  lanes : List Nat := []
  queues : List Nat := []
  cals : List (Nat × List (Nat × Nat)) := []
  deriving DecidableEq, Repr

/-- What start-up finds (R477, R483, R488, R537, R583): boot flash bytes that the board wrote during the reset, ticks from the rise to lock and to READY, the
RATE code up to which training succeeds, whether both packages report one density, vendor, revision and density of the packages, MRAM records
repaired (false) or lost (true) by logical row with the record (a slot below 1,024, else the UID of a unit), and whether the regulator answers VOUT_MODE with ULINEAR16. -/
structure StartUp where
  flash : List (Nat × Nat) := []
  lock : Nat := 160000
  ready : Nat := 480000000
  train : Nat := 3
  dense : Bool := true
  ids : Nat × Nat × Nat := (1, 0, 0)
  mram : List (Nat × Bool × Option Nat) := []
  linear16 : Bool := true
  found : Outcomes := {}
  deriving DecidableEq, Repr

/-- When a line came in on the lowest enabled lane, as a tick, and the bit rates of LCLK0 and LCLK1 as measured, in kb/s (R164, R165). -/
structure Arrival where
  sol : Nat
  clk0 : Nat
  clk1 : Nat
  deriving DecidableEq, Repr

/-- The words of configuration space that the host writes (R61). -/
inductive CfgReg where
  | command | bar0Lo | bar0Hi | bar2Lo | bar2Hi | msixControl | deviceControl | aerUncStatus | aerUncMask | aerUncSeverity | aerCorStatus | aerCorMask
  deriving DecidableEq, Repr

/-- One constructor per row of the opcode table. -/
inductive Instr where
  /-- COMMAND_WORD_WRITE (R79): a word for a command window; byte enables not all set make an overflow (R82). `env`: where a command that the word completes
    meets an uncorrectable memory error; `fails`: the lanes whose self-test it finds failed. -/
  | commandWordWrite (t : Nat) (urgent : Bool) (w be : Nat) (env : Option Nat) (fails : List Nat)
  /-- RESYNC_URGENT (R82): RESYNC_URGENT is written with 1. -/
  | resyncUrgent (t : Nat)
  /-- RESYNC_NORMAL (R82): RESYNC_NORMAL is written with 1. -/
  | resyncNormal (t : Nat)
  /-- NORMAL_PACKET_START (R83): the next NORMAL packet starts, when the sequencer or the hardware can take one (R83, R87, R91). -/
  | normalPacketStart (t : Nat) (env : Option Nat) (fails : List Nat)
  /-- REPLY_POP (R92): REPLY_POP is read, in a 64-bit read with REPLY_FLAGS beside it. -/
  | replyPop (t : Nat) (wide : Bool)
  /-- RES_TAG_READ (R71): RES_TAG of the unit in window n is read. -/
  | resTagRead (t n : Nat)
  /-- TIME_LO_READ (R68): TIME_LO is read, in a 64-bit read with TIME_HI beside it. -/
  | timeLoRead (t : Nat) (wide : Bool)
  /-- RC_READ (R9): a 32-bit read of BAR0; RC fields of the word are cleared after it. An offset with a row of its own acts as that row. -/
  | rcRead (t off : Nat)
  /-- REGISTER_WRITE (R42): a write to BAR0 with its byte enables. An offset with a row of its own acts as that row. -/
  | registerWrite (t off w be : Nat)
  /-- EVENT_RING_ENABLE (R96): the word with ENABLE is written. -/
  | eventRingEnable (t w : Nat)
  /-- EVT_RD_WRITE (R97): EVT_RD is written. -/
  | evtRdWrite (t w : Nat)
  /-- EVENT_HOLDOFF_EXPIRY (R100): the hold-off of vector v ends. -/
  | eventHoldoffExpiry (t v : Nat)
  /-- SEQ_WEDGED (R108): 250 ms have passed without a heartbeat (`beat`) or without a reply. -/
  | seqWedged (t : Nat) (beat : Bool)
  /-- SUPPLY_FAIL_CLEAR (R39): SUPPLY_FAIL is written with 1. -/
  | supplyFailClear (t : Nat)
  /-- MIN_CLEAR (R39): MIN_CLEAR is written with 1. -/
  | minClear (t : Nat)
  /-- BAR2_READ (R72): a read through BAR2. -/
  | bar2Read (t off len : Nat) (env : Option Nat)
  /-- BAR2_WRITE (R73): a write through BAR2. -/
  | bar2Write (t off : Nat) (bytes : List Nat)
  /-- FUNCTION_LEVEL_RESET (R66): a Function Level Reset. -/
  | functionLevelReset (t : Nat)
  /-- PERST_N (R536): PERST_N is asserted. -/
  | perstN (t : Nat)
  /-- D3HOT_ENTRY (R67): the function enters D3hot. -/
  | d3hotEntry (t : Nat)
  /-- D0_RETURN (R67): the function returns to D0; `cfg`: the configuration writes of the host that go with it (log entry 70). -/
  | d0Return (t : Nat) (cfg : List (CfgReg × Nat) := [])
  /-- LINK_RETRAIN (R64): the link has trained at a rate and a width; `cfg`: the configuration writes of the host that follow (log entry 70). -/
  | linkRetrain (t rate width : Nat) (cfg : List (CfgReg × Nat) := [])
  /-- ABORT (R104): ABORT as a packet. -/
  | abort (t : Nat) (urgent : Bool) (tag uid flags : Nat) (params : List Nat) (env : Option Nat)
  /-- ABORT_COMPLETION (R22): the waiting members of a unit or group have stopped. -/
  | abortCompletion (t uid : Nat)
  /-- ABORT_LATE (R23): a member has not stopped within its bound. -/
  | abortLate (t u : Nat)
  /-- RESET_UNIT (R106): RESET_UNIT as a packet; `fails`: the lanes that fail the self-test of R241. -/
  | resetUnit (t : Nat) (urgent : Bool) (tag uid flags : Nat) (params : List Nat) (env : Option Nat) (fails : List Nat)
  /-- FREEZE (R543): FREEZE as a packet. -/
  | freeze (t : Nat) (urgent : Bool) (tag uid flags : Nat) (params : List Nat) (env : Option Nat)
  /-- THAW (R550): THAW as a packet. -/
  | thaw (t : Nat) (urgent : Bool) (tag uid flags : Nat) (params : List Nat) (env : Option Nat)
  /-- GET_STATUS (R18): GET_STATUS as a packet. -/
  | getStatus (t : Nat) (urgent : Bool) (tag uid flags : Nat) (params : List Nat) (env : Option Nat)
  /-- COMMIT (R42): COMMIT as a packet. -/
  | commit (t : Nat) (urgent : Bool) (tag uid flags : Nat) (params : List Nat) (env : Option Nat)
  /-- UNIT_WRITE (R562): UNIT_WRITE as a packet. -/
  | unitWrite (t : Nat) (urgent : Bool) (tag uid flags : Nat) (params : List Nat) (env : Option Nat)
  /-- POWER_SET (R527): POWER_SET as a packet. -/
  | powerSet (t : Nat) (urgent : Bool) (tag uid flags : Nat) (params : List Nat) (env : Option Nat)
  /-- DOMAIN_READY (R529): domain d has loaded its records and tested its units, with what the tests found. -/
  | domainReady (t d : Nat) (o : Outcomes)
  /-- PACE_UPDATE (R36, R37): the pace monitor has timed the paths: of each running path its unit and its capacity in samples per second, and of each idle path
    the same of its replica; `ack`: the regulator acknowledges a request. -/
  | paceUpdate (t : Nat) (running replicas : List (Nat × Nat)) (ack : Bool)
  /-- VOUT_READBACK (R583): READ_VOUT gives a voltage, or is not acknowledged. -/
  | voutReadback (t mv : Nat) (ack : Bool)
  /-- PMB_ALERT (R583): PMB_ALERT_N goes low. -/
  | pmbAlert (t : Nat)
  /-- TIMEBASE_UNLOCK (R34): the time base loses lock. -/
  | timebaseUnlock (t : Nat)
  /-- TIMEBASE_RELOCK (R35): the time base regains lock. -/
  | timebaseRelock (t : Nat)
  /-- LINE_FIRE (R179): the next line of port p, when its tick has come. -/
  | lineFire (t p : Nat)
  /-- PG_STEP (R115): the next step of the pattern generator, with the converter codes of the nine channels. -/
  | pgStep (t p : Nat) (codes : List Nat)
  /-- EXPOSURE_START (R125): the exposure of the next line begins, when its instant has come. -/
  | exposureStart (t p : Nat)
  /-- EXPOSURE_END (R125): the open exposure ends, when its instant has come. -/
  | exposureEnd (t p : Nat)
  /-- LANE_LINE_RECEIVED (R165): a line has come in: the words of each lane as received, with their synchronising sequences (sync framing) or those sampled while LV was
    high, and when and at which rates it came. -/
  | laneLineReceived (t p : Nat) (words : List (List Nat)) (came : Arrival)
  /-- LINE_CORRECTED (R200): the oldest line read out leaves the pipeline; `ce`: entries corrected, `ue`: 1 an uncorrectable entry in the active segment, 2
    in the staged one. -/
  | lineCorrected (t p ce ue : Nat)
  /-- BLOCK_IDLE_EXPIRY (R314): BLOCK_IDLE has passed without a line. -/
  | blockIdleExpiry (t p : Nat)
  /-- TSENSE_READING (R205): a reading of TSENSE, as a 12-bit code. -/
  | tsenseReading (t p code : Nat)
  /-- RELIEF_DUE (R156): the next relief of the rotation, when it is due. -/
  | reliefDue (t p : Nat)
  /-- CALIBRATION_DONE (R149): a calibration has given its two sums. -/
  | calibrationDone (t p mLo mHi : Nat)
  /-- ENCODER_EDGE (R171): A and B of input i stand at a and b, and have done so for ga and gb ticks. A device that does not work only keeps the levels. -/
  | encoderEdge (t i : Nat) (a b : Bool) (ga gb : Nat := 64)
  /-- Z_EDGE (R173): a rising edge of Z of input i, which has stood high for g ticks. -/
  | zEdge (t i : Nat) (g : Nat := 64)
  /-- WEB_STOPPED (R185): STOP_TICKS have passed without a counted edge. -/
  | webStopped (t p : Nat)
  /-- MARK_REPORT (R191): the oldest crossing of MARK_COND is reported to the line clock of port p. -/
  | markReport (t p : Nat)
  /-- GPIO_EDGE (R277): GPIO input k has stood at a level for g ticks, as the filter looks at it. A device that does not work only keeps the level. -/
  | gpioEdge (t k : Nat) (level : Bool) (g : Nat := 64)
  /-- SPLICE (R277): the splice input has held its new level. -/
  | splice (t : Nat)
  /-- LINE_COMPARED (R254): the oldest line that waits is compared; `ecc`: a reference fetch met an uncorrectable error; `chk`: a lane that has detected an internal fault on it (R242). -/
  | lineCompared (t p : Nat) (ecc : Bool) (chk : Option Nat := none)
  /-- TRIGGER_SLOT (R278): the conditions are evaluated in the present slot; a trigger may freeze the device (R295). -/
  | triggerSlot (t : Nat)
  /-- PLACE_WAIT_EXPIRY (R286): PLACE_WAIT has passed without a fire. -/
  | placeWaitExpiry (t : Nat)
  /-- HOLD_EXPIRY (R293): the time hold-off of condition c ends. -/
  | holdExpiry (t c : Nat)
  /-- A_OUT_PULSE_START (R294): pulses whose start has come begin. -/
  | aOutPulseStart (t : Nat)
  /-- A_OUT_PULSE_END (R294): pulses end. -/
  | aOutPulseEnd (t : Nat)
  /-- ARM_AT (R281): Rope time reaches AT. -/
  | armAt (t : Nat)
  /-- SOFT_FIRE (R283): SOFT_FIRE is written with 1. -/
  | softFire (t : Nat)
  /-- DOORBELL (R329): DOORBELL of channel k is written. -/
  | doorbell (t k : Nat)
  /-- DESCRIPTOR_READ_DONE (R329): a descriptor read (eight words) or a link-word read (two words) completes. -/
  | descriptorReadDone (t k : Nat) (ws : List Nat)
  /-- DESC_READ_TIMEOUT (R339): a descriptor read has failed (`error`), or 10 ms have passed. -/
  | descReadTimeout (t k : Nat) (error : Bool)
  /-- FLUSH_TICKS_EXPIRY (R332): committed data reach the age FLUSH_TICKS; the engine begins what is ready. -/
  | flushTicksExpiry (t k : Nat)
  /-- BARRIER_READ_DONE (R334): the zero-length read of a barrier completes. -/
  | barrierReadDone (t k : Nat)
  /-- DMA_TRANSFER_END (R335): the last data write of a transfer has been sent. -/
  | dmaTransferEnd (t k : Nat)
  /-- MOVER_COPY_DONE (R341): the running copy of mover i ends. -/
  | moverCopyDone (t i : Nat)
  /-- AXIS_UPDATE (R349): the update of axis a at the last multiple of 16 ticks, once. -/
  | axisUpdate (t a : Nat)
  /-- PWM_PERIOD (R367): a PWM period begins; `cycle`: the back-EMF of an electrical cycle that has just ended, in µV. -/
  | pwmPeriod (t a : Nat) (cycle : Option Nat)
  /-- VMOT_SAMPLE (R370): the two motor supplies are measured, in mV. -/
  | vmotSample (t mv0 mv1 : Nat)
  /-- AXIS_INPUT_TRANSITION (R378): a raw transition of an axis input (0 LIMP, 1 LIMN, 2 HOME, 3 INDEX). A device that does not work only keeps the level. -/
  | axisInputTransition (t a k : Nat) (level : Bool)
  /-- AXIS_INPUT_DEBOUNCED (R378): an axis input has held its new level for DEBOUNCE. -/
  | axisInputDebounced (t a k : Nat)
  /-- INDEX_EDGE (R378): a rising active edge of INDEX. -/
  | indexEdge (t a : Nat)
  /-- DRIVER_FAULT (R364): AXn_FAULT_N has been active for 1 µs. -/
  | driverFault (t a : Nat)
  /-- IDENTIFY_PHASE_DONE (R376): a measurement phase of AXIS_IDENTIFY ends with a value. -/
  | identifyPhaseDone (t a val : Nat)
  /-- SPEEDWELL_EVAL (R392): Speedwell evaluates. -/
  | speedwellEval (t a : Nat)
  /-- BELAY_PARK_MAX (R400): a park has lasted PARK_MAX. -/
  | belayParkMax (t a : Nat)
  /-- STROBE_START (R410): the strobe of the next line begins, when its instant has come. -/
  | strobeStart (t g : Nat)
  /-- STROBE_END (R410): the strobe or the diagnosis pulse ends. -/
  | strobeEnd (t g : Nat)
  /-- OVP_TRIP (R413): the flyback comparator of slot k trips in a lit pulse. -/
  | ovpTrip (t g k : Nat)
  /-- LAMP_MEASUREMENT (R413): the voltage (mV) and current (µA) of the last 800 lit ticks of slot k; `mean`: the patch mean of its line in a DELTA run. In
    a SENSE run the two operands are the sums of a calibration. -/
  | lampMeasurement (t g k mv ua mean : Nat)
  /-- CONTINUOUS_MEASURE (R413): a CONTINUOUS string is measured. -/
  | continuousMeasure (t g k mv ua : Nat)
  /-- DIAG_PULSE (R414): a due diagnosis pulse begins at its instant. -/
  | diagPulse (t g : Nat)
  /-- LAMP_RELIGHT (R417): the group is relit with the spare at the boundary found. -/
  | lampRelight (t g : Nat)
  /-- CHAIN_LATCH (R423): CHAIN_LAT pulses, when a latch is due. -/
  | chainLatch (t : Nat)
  /-- CHAIN_SHIFT_DONE (R424): a shift ends; `ret`: the bits that came back, `count`: the clocks until the marker returned. -/
  | chainShiftDone (t ret count : Nat)
  /-- CHAIN_RESTART (R424): CHAIN_RESTART is written with 1. -/
  | chainRestart (t : Nat)
  /-- HAREBELL_TICK (R425): engine e computes the brightness of its targets. -/
  | harebellTick (t e : Nat)
  /-- JOB_BOUNDARY (R445): the sample point of a job boundary. -/
  | jobBoundary (t : Nat)
  /-- NEW_JOB_START (R52): the drain is complete and the next job starts. -/
  | newJobStart (t : Nat)
  /-- STAGING_DONE (R438): staging has done what it can; `ues`: addresses of uncorrectable errors that it met. -/
  | stagingDone (t : Nat) (ues : List Nat)
  /-- PITCH_SYMBOL_LOCK (R459): pitch k (0 to 3 downstream, 4 upstream) gains symbol lock. -/
  | pitchSymbolLock (t k : Nat)
  /-- PITCH_LOCK_LOSS (R471): pitch k has lost symbol lock for 1 µs. -/
  | pitchLockLoss (t k : Nat)
  /-- LINK_RETRY (R459): a failed pitch tries again. -/
  | linkRetry (t k : Nat)
  /-- DELAY_EXCHANGE (R460): an answer of the delay exchange, as (t4 − t1) − (t3 − t2). -/
  | delayExchange (t k : Nat) (d : Int)
  /-- ROPE_ACK (R462): an acknowledgement (`ok`) or a negative one. -/
  | ropeAck (t k lseq : Nat) (ok : Bool)
  /-- ROPE_ACK_TIMEOUT (R462): no acknowledgement within 2 µs. -/
  | ropeAckTimeout (t k lseq : Nat)
  /-- TIME_SEND (R464): TIME falls due. -/
  | timeSend (t : Nat)
  /-- TIME (R464): a TIME message; `crc`: its CRC is good. -/
  | time (t : Nat) (crc : Bool) (at64 delay : Nat) (alignedUp : Bool) (depth : Nat)
  /-- TIME_TIMEOUT (R465): no TIME for 4 ms. -/
  | timeTimeout (t : Nat)
  /-- ARM (R468): an ARM message on pitch k. -/
  | arm (t k : Nat) (crc : Bool) (src on lo hi : Nat)
  /-- FIRE (R468): a FIRE message on pitch k. -/
  | fire (t k : Nat) (crc : Bool) (src lo hi : Nat)
  /-- JOB (R450): a JOB message on pitch k. -/
  | job (t k : Nat) (crc : Bool) (src rc id : Nat)
  /-- MARK (R468): a MARK message on pitch k. -/
  | mark (t k : Nat) (crc : Bool) (src dst data lo hi : Nat)
  /-- MARK_SRC_READ (R468): MARK_SRC is read. -/
  | markSrcRead (t : Nat)
  /-- REPORT (R469): a STATUS REPORT on pitch k. -/
  | report (t k : Nat) (crc : Bool) (st worst count members : Nat)
  /-- REPORT_TIMER (R469): a REPORT falls due. -/
  | reportTimer (t : Nat)
  /-- JOIN (R469): a STATUS JOIN, from below or as the answer from above. -/
  | join (t k : Nat) (crc : Bool) (src node role refused reason : Nat)
  /-- STATUS_ABORT (R470): a STATUS ABORT on pitch k; `tag`: its TAG, and above the 16 bits of that its SRC (log entry 89). -/
  | statusAbort (t k : Nat) (crc : Bool) (purge tag : Nat)
  /-- STATUS_RESET (R470): a STATUS RESET on pitch k; `tag`: as in STATUS_ABORT; `fails`: the lanes that fail the self-test of R241. -/
  | statusReset (t k : Nat) (crc : Bool) (tag : Nat) (fails : List Nat)
  /-- DONE (R470): a STATUS DONE on pitch k. -/
  | done (t k : Nat) (crc : Bool) (tag : Nat)
  /-- LOST (R471): a STATUS LOST on pitch k. -/
  | lost (t k : Nat) (crc : Bool) (src : Nat)
  /-- JOB_REPLY (R468): a STATUS JOB_REPLY on pitch k. -/
  | jobReply (t k : Nat) (crc : Bool) (src status id : Nat)
  /-- SCRUB_PASS (R480): a scrub pass ends; addresses of corrected and of uncorrectable errors. -/
  | scrubPass (t : Nat) (ce ue : List Nat)
  /-- PAGE_RETIRE_DONE (R481): the oldest retirement copy ends. -/
  | pageRetireDone (t : Nat)
  /-- WCK_TRACKING (R476): the interval oscillators are read; write timing follows them. -/
  | wckTracking (t : Nat) (osc : List Nat)
  /-- TJ_UPDATE (R584): a reading of Tj, in sixteenths of a degree; `upsets`: queues whose pointer copies have come to disagree since the last reading, as the code of R321 and an
  index (the port, the DMA channel, 0 URGENT or 1 NORMAL, the UID, else 0), as code 9, units whose read of a queue found it empty (R322), and, from code 16 on, what
  the memories met (R479, R488, log entry 81). -/
  | tjUpdate (t : Nat) (tj : Int) (upsets : List (Nat × Nat) := [])
  /-- THERMTRIP (R586): Tj reaches the trip point. -/
  | thermtrip (t : Nat) (tj : Int)
  /-- PORESET_N_FALL (R541): PORESET_N goes low. -/
  | poresetNFall (t : Nat)
  /-- PORESET_N_RISE (R537): PORESET_N rises; start-up runs to READY with what it finds. -/
  | poresetNRise (t : Nat) (u : StartUp)
  /-- FREEZE_N_FALL (R542): FREEZE_N has fallen. -/
  | freezeNFall (t : Nat)
  /-- FREEZE_N_RISE (R544): FREEZE_N is released. -/
  | freezeNRise (t : Nat)
  /-- BOOT_RECOVER (R500): BOOT_RECOVER is written. -/
  | bootRecover (t v : Nat)
  /-- PG_LOAD (R121): PG_LOAD as a packet. -/
  | pgLoad (t : Nat) (urgent : Bool) (tag uid flags : Nat) (params : List Nat) (env : Option Nat)
  /-- AFE_CALIBRATE (R159): AFE_CALIBRATE as a packet. -/
  | afeCalibrate (t : Nat) (urgent : Bool) (tag uid flags : Nat) (params : List Nat) (env : Option Nat)
  /-- REF_TRACE (R148): REF_TRACE as a packet. -/
  | refTrace (t : Nat) (urgent : Bool) (tag uid flags : Nat) (params : List Nat) (env : Option Nat)
  /-- SHADING_CAPTURE (R224): SHADING_CAPTURE as a packet. -/
  | shadingCapture (t : Nat) (urgent : Bool) (tag uid flags : Nat) (params : List Nat) (env : Option Nat)
  /-- CAPTURE_ATTEMPT_END (R227): the two captures of an attempt are compared. -/
  | captureAttemptEnd (t p : Nat)
  /-- LUT_LOAD (R223): LUT_LOAD as a packet. -/
  | lutLoad (t : Nat) (urgent : Bool) (tag uid flags : Nat) (params : List Nat) (env : Option Nat)
  /-- EB_RELEASE (R566): EB_RELEASE as a packet. -/
  | ebRelease (t : Nat) (urgent : Bool) (tag uid flags : Nat) (params : List Nat) (env : Option Nat)
  /-- TRIG_ARM (R281): TRIG_ARM as a packet. -/
  | trigArm (t : Nat) (urgent : Bool) (tag uid flags : Nat) (params : List Nat) (env : Option Nat)
  /-- DMA_START (R327): DMA_START as a packet. -/
  | dmaStart (t : Nat) (urgent : Bool) (tag uid flags : Nat) (params : List Nat) (env : Option Nat)
  /-- MOVE (R341): MOVE as a packet. -/
  | move (t : Nat) (urgent : Bool) (tag uid flags : Nat) (params : List Nat) (env : Option Nat)
  /-- AXIS_MOVE (R353): AXIS_MOVE as a packet. -/
  | axisMove (t : Nat) (urgent : Bool) (tag uid flags : Nat) (params : List Nat) (env : Option Nat)
  /-- AXIS_LINEAR (R359): AXIS_LINEAR as a packet. -/
  | axisLinear (t : Nat) (urgent : Bool) (tag uid flags : Nat) (params : List Nat) (env : Option Nat)
  /-- AXIS_STOP (R361): AXIS_STOP as a packet. -/
  | axisStop (t : Nat) (urgent : Bool) (tag uid flags : Nat) (params : List Nat) (env : Option Nat)
  /-- AXIS_RESUME (R362): AXIS_RESUME as a packet. -/
  | axisResume (t : Nat) (urgent : Bool) (tag uid flags : Nat) (params : List Nat) (env : Option Nat)
  /-- AXIS_SET_POSITION (R571): AXIS_SET_POSITION as a packet. -/
  | axisSetPosition (t : Nat) (urgent : Bool) (tag uid flags : Nat) (params : List Nat) (env : Option Nat)
  /-- AXIS_IDENTIFY (R376): AXIS_IDENTIFY as a packet. -/
  | axisIdentify (t : Nat) (urgent : Bool) (tag uid flags : Nat) (params : List Nat) (env : Option Nat)
  /-- AXIS_HOME (R379): AXIS_HOME as a packet. -/
  | axisHome (t : Nat) (urgent : Bool) (tag uid flags : Nat) (params : List Nat) (env : Option Nat)
  /-- LAMP_CAL (R409): LAMP_CAL as a packet. -/
  | lampCal (t : Nat) (urgent : Bool) (tag uid flags : Nat) (params : List Nat) (env : Option Nat)
  /-- CHAIN_LOAD (R572): CHAIN_LOAD as a packet. -/
  | chainLoad (t : Nat) (urgent : Bool) (tag uid flags : Nat) (params : List Nat) (env : Option Nat)
  /-- RECIPE_LOAD (R432): RECIPE_LOAD as a packet. -/
  | recipeLoad (t : Nat) (urgent : Bool) (tag uid flags : Nat) (params : List Nat) (env : Option Nat)
  /-- RECIPE_INFO (R431): RECIPE_INFO as a packet. -/
  | recipeInfo (t : Nat) (urgent : Bool) (tag uid flags : Nat) (params : List Nat) (env : Option Nat)
  /-- JOB_STAGE (R438): JOB_STAGE as a packet. -/
  | jobStage (t : Nat) (urgent : Bool) (tag uid flags : Nat) (params : List Nat) (env : Option Nat)
  /-- JOB_UNSTAGE (R442): JOB_UNSTAGE as a packet. -/
  | jobUnstage (t : Nat) (urgent : Bool) (tag uid flags : Nat) (params : List Nat) (env : Option Nat)
  /-- JOB_START (R443): JOB_START as a packet. -/
  | jobStart (t : Nat) (urgent : Bool) (tag uid flags : Nat) (params : List Nat) (env : Option Nat)
  /-- JOB_END (R447): JOB_END as a packet. -/
  | jobEnd (t : Nat) (urgent : Bool) (tag uid flags : Nat) (params : List Nat) (env : Option Nat)
  /-- ROPE_MARK (R468): ROPE_MARK as a packet. -/
  | ropeMark (t : Nat) (urgent : Bool) (tag uid flags : Nat) (params : List Nat) (env : Option Nat)
  /-- MEM_RETIRE (R481): MEM_RETIRE as a packet. -/
  | memRetire (t : Nat) (urgent : Bool) (tag uid flags : Nat) (params : List Nat) (env : Option Nat)
  /-- SPARE_LEDGER (R490): SPARE_LEDGER as a packet. -/
  | spareLedger (t : Nat) (urgent : Bool) (tag uid flags : Nat) (params : List Nat) (env : Option Nat)
  /-- LOG_READ (R575): LOG_READ as a packet. -/
  | logRead (t : Nat) (urgent : Bool) (tag uid flags : Nat) (params : List Nat) (env : Option Nat)
  /-- ID_CERT (R505): ID_CERT as a packet. -/
  | idCert (t : Nat) (urgent : Bool) (tag uid flags : Nat) (params : List Nat) (env : Option Nat)
  /-- ATTEST (R506): ATTEST as a packet. -/
  | attest (t : Nat) (urgent : Bool) (tag uid flags : Nat) (params : List Nat) (env : Option Nat)
  /-- AUTH_CHALLENGE (R509): AUTH_CHALLENGE as a packet. -/
  | authChallenge (t : Nat) (urgent : Bool) (tag uid flags : Nat) (params : List Nat) (env : Option Nat)
  /-- POLICY_SET (R510): POLICY_SET as a packet. -/
  | policySet (t : Nat) (urgent : Bool) (tag uid flags : Nat) (params : List Nat) (env : Option Nat)
  /-- KEY_INSTALL (R511): KEY_INSTALL as a packet. -/
  | keyInstall (t : Nat) (urgent : Bool) (tag uid flags : Nat) (params : List Nat) (env : Option Nat)
  /-- KEY_REVOKE (R511): KEY_REVOKE as a packet. -/
  | keyRevoke (t : Nat) (urgent : Bool) (tag uid flags : Nat) (params : List Nat) (env : Option Nat)
  /-- OWNER_FUSE (R496): OWNER_FUSE as a packet. -/
  | ownerFuse (t : Nat) (urgent : Bool) (tag uid flags : Nat) (params : List Nat) (env : Option Nat)
  /-- FW_UPDATE (R502): FW_UPDATE as a packet. -/
  | fwUpdate (t : Nat) (urgent : Bool) (tag uid flags : Nat) (params : List Nat) (env : Option Nat)
  /-- FW_ACCEPT (R503): FW_ACCEPT as a packet. -/
  | fwAccept (t : Nat) (urgent : Bool) (tag uid flags : Nat) (params : List Nat) (env : Option Nat)
  /-- DEBUG_UNLOCK (R519): DEBUG_UNLOCK as a packet. -/
  | debugUnlock (t : Nat) (urgent : Bool) (tag uid flags : Nat) (params : List Nat) (env : Option Nat)
  /-- DEBUG_RELOCK (R519): DEBUG_RELOCK as a packet. -/
  | debugRelock (t : Nat) (urgent : Bool) (tag uid flags : Nat) (params : List Nat) (env : Option Nat)
  /-- AUDIT_EXPORT (R517): AUDIT_EXPORT as a packet. -/
  | auditExport (t : Nat) (urgent : Bool) (tag uid flags : Nat) (params : List Nat) (env : Option Nat)
  /-- BUNDLE_EXPORT (R521): BUNDLE_EXPORT as a packet. -/
  | bundleExport (t : Nat) (urgent : Bool) (tag uid flags : Nat) (params : List Nat) (env : Option Nat)
  /-- BUNDLE_IMPORT (R522): BUNDLE_IMPORT as a packet. -/
  | bundleImport (t : Nat) (urgent : Bool) (tag uid flags : Nat) (params : List Nat) (env : Option Nat)
  /-- SMB_STATUS (R599): the SMBus command STATUS. -/
  | smbStatus (t : Nat)
  /-- SMB_TEMP (R599): the SMBus command TEMP. -/
  | smbTemp (t : Nat)
  /-- SMB_POWER (R599): the SMBus command POWER. -/
  | smbPower (t : Nat)
  /-- SMB_IDENTITY (R599): the SMBus command IDENTITY. -/
  | smbIdentity (t : Nat)
  /-- SMB_VCORE (R599): the SMBus command VCORE. -/
  | smbVcore (t : Nat)
  /-- DEVICE_RESET (R600): the SMBus command DEVICE_RESET with a byte; start-up finds what it finds. -/
  | deviceReset (t v : Nat) (u : StartUp)
  /-- EXTEST (R598): EXTEST with the bits shifted in. -/
  | extest (t bits : Nat)
  /-- IDCODE (R598): IDCODE. -/
  | idcode (t : Nat)
  /-- SAMPLE_PRELOAD (R598): SAMPLE/PRELOAD with the bits shifted in. -/
  | samplePreload (t bits : Nat)
  /-- EXTEST_PULSE (R598): EXTEST_PULSE with the bits shifted in. -/
  | extestPulse (t bits : Nat)
  /-- EXTEST_TRAIN (R598): EXTEST_TRAIN with the bits shifted in. -/
  | extestTrain (t bits : Nat)
  /-- CHALLENGE (R518): CHALLENGE. -/
  | challenge (t : Nat)
  /-- UNLOCK (R519): UNLOCK with a scope and the bytes of a signature. -/
  | unlock (t scope : Nat) (sig : List Nat)
  /-- FREEZE_READ (R549): FREEZE_READ with its selection. -/
  | freezeRead (t sel : Nat)
  /-- SCAN_STATE (R598): SCAN_STATE with its selection. -/
  | scanState (t sel : Nat)
  /-- BYPASS (R598): BYPASS, or any code that is not defined. -/
  | bypass (t code : Nat)
  /-- WORD_LOCK (R164): a lane gains word lock, with the delays its receiver has found, or its bit delay follows drift; `seen`: the words just received. -/
  | wordLock (t p lane bit word : Nat) (seen : List Nat := [])
  /-- LATENCY_MAX_EXPIRY (R165): LATENCY_MAX has passed since the cycle start without a line. -/
  | latencyMaxExpiry (t p : Nat)
  /-- BUCK_SWITCH_ON_TIMEOUT (R413): the buck of slot k has not reached its current within 100 µs. -/
  | buckSwitchOnTimeout (t g k : Nat)
  /-- CHALLENGE_LAPSE (R509): the latest owner challenge has stood for 600 s. -/
  | challengeLapse (t : Nat)
  /-- FIRMWARE_READY (R107): the boot ROM has started the firmware, or has found none. -/
  | firmwareReady (t : Nat)
  /-- LONG_WORK_END (R84): sequencer-driven work of an opcode ends; `env`: where it met an uncorrectable memory error. -/
  | longWorkEnd (t op : Nat) (env : Option Nat)
  deriving DecidableEq, Repr

end Sys2Proof
end

