-- ==== Sys2Proof/Decode.lean ====
section
/-! DEFINITION. Words and commands. -/
namespace Sys2Proof

/-- The command that a word spells by the table's bits. The opcode table gives no row any bits: its rows are events at the device's ports, pins and
registers, and a command packet spans several words, so that no single word spells a command. The words of packets (R75) are taken apart where they
arrive, in `Machine.pktOf`. -/
def decodeTableWord (_nbits _w : Nat) : Option Instr := none

end Sys2Proof
end

