-- ==== Sys2Proof/Config.lean ====
section
/-! DEFINITION. What an implementation fixes and the spec leaves open: the free values. Nothing in Lean can
evaluate one; a statement holds for every value of them. -/
namespace Sys2Proof.Config

/-- A random word the device draws (nonces, challenge values; R508, R509). Log entry 8. -/
opaque freshWord : Nat → Word
/-- A word of a freeze read-out bank whose layout the spec leaves to the silicon revision (R549). Log entry 9. -/
opaque bankWord : Nat → Nat → Nat → Word
/-- A byte the device produces with a private key or a certificate that the spec does not give (R505, R507, R517, R521). Log entry 10. -/
opaque secretByte : Nat → Nat → Byte
/-- The vendor ID of the PCIe function: "Brephor's" (R61). Log entry 70. -/
opaque vendorId : Word
/-- A value the spec calls unspecified; the first argument is the draw counter of the state. Log entry 11. -/
opaque freeNat : Nat → Nat
/-- A byte of the digest over the calibration records, whose content the spec does not lay out (R508). Log entry 10. -/
opaque calByte : List Nat → Nat → Byte
/-- Whether a received bundle passes a check that needs a certificate: 2 the chain, 3 the signature (R522). Log entry 10. -/
opaque bundleOk : Nat → List Nat → Bool

end Sys2Proof.Config
end

