-- ==== Sys2Proof/Machine/Types.lean ====
section
/-! DEFINITION. The plain-data types of the state that is not a register field: what each sub-unit, queue, engine and
store of the device holds. Register fields are held in the register maps (Fields.lean, State.lean). -/
namespace Sys2Proof.Machine

/-! ### Register fields (R9 to R11) -/

/-- Access codes of R9. -/
inductive Access where
  | ro | rw | wo | w1c | w1s | rc | sh
  deriving DecidableEq, Repr

/-- On change values of R11, the rarest last. -/
inductive Change where
  | now | line | rep | job | reset
  deriving DecidableEq, Repr

/-- Where a field's reset value comes from: a constant, the part, or the index of the unit or of the field. -/
inductive ResetVal where
  | const (n : Nat) | part | index | ringEn | afeTap | lanePhys | poolBase
  deriving DecidableEq, Repr

/-- One row of a register table: `bit` is the bit offset in the page of instance 0, `stride` the bits between
instances. `mram` marks a field whose value is kept in MRAM over resets. -/
structure Field where
  name : String
  bit : Nat
  width : Nat
  acc : Access
  reset : ResetVal
  chg : Change
  stride : Nat
  count : Nat
  mram : Bool
  deriving DecidableEq, Repr

/-- Register contents: (key, value) pairs, keys strictly rising, no value equal to its field's reset value. -/
abbrev RegMap := List (Nat × Nat)

/-- Byte memory: (address, byte) pairs, addresses strictly rising, no byte equal to what an unlisted address reads as. -/
abbrev Mem := List Host.Cell

/-- What is fixed at manufacture and differs from part to part (R1, R147, R492 to R497). -/
structure Part where
  part : Nat
  grade : Nat
  siliconRev : Nat
  serial : List Nat
  refTrimUv : Nat
  capacity : Nat
  vendorKeyHash : List Nat
  caRootHash : List Nat
  dna : Nat
  deriving DecidableEq, Repr

/-! ### Units, commits, commands (chapters 01 and 02) -/

/-- STATE of a unit (R20). -/
inductive UState where
  | off | idle | running | waiting | degraded | stopping | frozen | fenced
  deriving DecidableEq, Repr

/-- What a unit's status block reports (R18). -/
structure UnitSt where
  st : UState := .idle
  reason : Nat := 0
  activeSeq : Nat := 0
  actLine : Nat := 0
  actKind : Nat := 0
  actRepeat : Nat := 0
  actTime : Nat := 0
  lastTag : Nat := 0
  deriving DecidableEq, Repr

/-- One pending commit of one unit (R42 to R46). `held`: accepted where only long work kept it from coming into force (R49); `kept`: it was pending when
its unit was aborted, and waits for the first boundary of its kind after the unit runs again (R24). -/
structure Commit where
  uid : Nat
  seq : Nat
  kind : Change
  snap : RegMap
  notify : Bool
  staged : Bool
  at_ : Nat
  held : Bool := false
  kept : Bool := false
  deriving DecidableEq, Repr

/-- A command packet as accepted (R75, R80). -/
structure Pkt where
  op : Nat
  tag : Nat
  uid : Nat
  flags : Nat
  params : List Nat
  seq : Nat
  urgent : Bool
  deriving DecidableEq, Repr

/-- One of the two command FIFOs (R79 to R82): the words of the packet under assembly and the packets waiting. -/
structure CmdFifo where
  part : List Nat := []
  waiting : List Pkt := []
  ovf : Bool := false
  deriving DecidableEq, Repr

/-- The reply FIFO (R88 to R93): visible words with a mark on each word 0, the last word popped, the NORMAL replies
held for room, the oldest first, and the flags of the last pop. -/
structure ReplyFifo where
  words : List (Nat × Bool) := []
  last : Nat := 0
  held : List (List Nat) := []
  underrun : Bool := false
  length : Bool := false
  deriving DecidableEq, Repr

/-- One event entry (R94). -/
structure Event where
  source : Nat
  uid : Nat
  detail : Nat
  time : Nat
  deriving DecidableEq, Repr

/-- The event writer (R96 to R100): ring phase, events deferred (R98), vectors in hold-off with the tick at which it ends and
whether a message waits for it, messages sent, and the event log of MRAM (newest first). -/
structure EventSt where
  deferred : List Event := []
  hold : List (Nat × Nat × Bool) := []
  sent : List Nat := []
  log : List Event := []
  deriving DecidableEq, Repr

/-- An abort in progress (R22, R104): the units not yet complete with the tick of their bound, the late ones, the command to answer, whether a
RESET_UNIT follows, whether it came down the Rope (R470) and from which node, the lanes that fail the self-test of the reset (R241), and whether only the boot of the
sequencer is still awaited (R107). -/
structure AbortSt where
  uid : Nat
  waiting : List (Nat × Nat)
  late : List Nat := []
  tag : Nat
  seq : Nat
  flags : Nat := 0
  urgent : Bool
  noReply : Bool := false
  reset : Bool
  rope : Bool := false
  src : Nat := 0
  fails : List Nat := []
  boot : Bool := false
  deriving DecidableEq, Repr

/-- Long work in progress (R84): the unit addressed, tag, and what the work is. -/
structure Work where
  uid : Nat
  op : Nat
  tag : Nat
  params : List Nat
  flags : Nat
  status : Nat := 0
  step : Nat := 0
  data : List Nat := []
  deriving DecidableEq, Repr

/-! ### Ports (chapters 03 to 06) -/

/-- A pattern-generator step (R114). -/
structure PgStep where
  outVal : Nat
  outMask : Nat
  dur : Nat
  ctrl : Nat
  cdsRst : Bool
  cdsSig : Bool
  deriving DecidableEq, Repr

/-- A line as fired: its number, tick, flags so far, the sets in force for it (R48), its place in its repeat (R194),
its exposure (R125, R130), the last valid sensor temperature before it (R205), and whether it follows the closing fire of a Belay (R394). -/
structure Fire where
  line : Nat := 0
  tick : Nat := 0
  flags : Nat := 0
  set : RegMap := []
  repNo : Nat := 0
  repFirst : Nat := 0
  meas : Nat := 0
  resid : Int := 0
  repFlags : Nat := 0
  phased : Bool := true
  ts : Nat := 0
  moved : Bool := false
  te : Option Nat := none
  actual : Nat := 0
  strobeLen : Nat := 0
  strobeNom : Nat := 0
  closing : Bool := false
  capture : Bool := false
  temp : Option Int := none
  seam : Bool := false
  deriving DecidableEq, Repr

/-- One readout cycle: the index of the integration it reads out (none: discarded), its cycle start, the raw samples of each
tap in order, the channel faults of each lane (R167), and whether a channel was stale (R155). -/
structure Readout where
  line : Option Nat
  start : Nat
  taps : List (List Nat)
  faults : List Nat
  stale : Bool
  deriving DecidableEq, Repr

/-- A corrected line (R210): the fire it belongs to and o16 of each plane; 'ring' tells that it entered the ring. -/
structure CLine where
  fire : Fire
  planes : List (List Nat)
  ring : Bool
  deriving DecidableEq, Repr

/-- The header values of a shading set copied at staging (R221). -/
structure SetRegs where
  slot : Nat := 0
  tRef : Int := 0
  obRef : List Int := []
  wtRef : List Int := []
  wtFirst : Nat := 0
  wtCount : Nat := 0
  expNominal : Nat := 0
  deriving DecidableEq, Repr

/-- A SHADING_CAPTURE at work (R224 to R233): its parameters, the attempt, the sums of the capture in progress, the averages of the first one, and what the last
attempt that was judged gave (mean square differences, pixels beyond TOL_PIX, T). -/
structure Capture where
  kind : Nat
  slot : Nat
  lines : Nat
  tries : Nat
  tolRms : Nat
  tolPix : Nat
  tolOut : Nat
  hot : Nat
  weak : Nat
  attempt : Nat := 0
  restarts : Nat := 0
  totalRestarts : Nat := 0
  lastFlags : Nat := 0
  discard : Nat := 0
  phase : Nat := 0
  got : Nat := 0
  sums : List (List Nat) := []
  obSums : List Nat := []
  tSum : Int := 0
  first : List (List Nat) := []
  firstOb : List Nat := []
  firstT : Int := 0
  msq : List Nat := []
  out : List Nat := []
  tRes : Int := 0
  deriving DecidableEq, Repr

/-- A relief or in-place calibration of one channel (R149 to R158): the tap, the channel it is for, the channel being measured,
the phase of PHASE, the gain codes still to calibrate for (the present one, then a staged one), rejected attempts in succession,
the result of the first calibration of the attempt, the accepted coefficients of the present gain with the tick of their acceptance, and when the receiving
channel was connected in parallel. `alone`: the channel serves no tap; `gain`: the gain code of `result`; `points`: points measured of the present calibration, which has
asked for the DAC since `reqAt` (R151); `wait`: a second calibration made while a capture runs, to be judged at its end (R157). -/
structure Relief where
  tap : Nat
  chan : Nat
  meas : Nat
  phase : Nat
  gains : List Nat
  fails : Nat := 0
  first : Option (Int × Int × Nat) := none
  result : Option (Int × Nat) := none
  connectedAt : Nat := 0
  inPlace : Bool := false
  staged : Bool := false
  alone : Bool := false
  gain : Nat := 0
  okAt : Nat := 0
  points : Nat := 0
  reqAt : Nat := 0
  wait : Option (Int × Int × Nat) := none
  deriving DecidableEq, Repr

/-- A port: pattern generator (program banks, step, arrival, loop counters, governing set), the fires not yet corrected, the
readout cycle and the plane-delay store, exposure, lanes (with the sync sequences each has missed and met in succession and the words since its delay last moved,
R164, and whether the cycle has had its line, R165), rotation with the last accepted calibrations of each channel at its own and at its staged gain, temperature,
trackers and shading registers, and a closing fire still to come (R133). -/
structure PortSt where
  started : Bool := false
  jobOn : Bool := false
  hold : Bool := false
  rejoin : Bool := false
  passed : Nat := 0
  bank0 : List PgStep := []
  bank1 : List PgStep := []
  bank : Nat := 0
  step : Nat := 0
  arrive : Nat := 0
  cntA : Nat := 1
  cntB : Nat := 1
  loadA : Nat := 1
  loadB : Nat := 1
  outs : Nat := 0
  pgSet : RegMap := []
  atWait : Bool := false
  consumed : Option Nat := none
  consumedTick : Nat := 0
  pend : Option (Nat × Nat) := none
  fires : List Fire := []
  cycle : Option Readout := none
  ready : List Readout := []
  delay : List Readout := []
  openLine : Option Nat := none
  expLevel : Bool := false
  lastTe : Option Nat := none
  clampedRun : Bool := false
  capFire : Option Nat := none
  staleRun : Bool := false
  laneRun : Nat := 0
  laneFaulted : Bool := false
  relief : Option Relief := none
  queueCal : List Relief := []
  lastRelief : Nat := 0
  lastTap : Nat := 15
  calAge : List (Nat × Nat × Nat) := []
  stgAge : List (Nat × Nat × Nat) := []
  missed : List Nat := List.replicate 16 0
  met : List Nat := List.replicate 16 0
  drift : List Nat := List.replicate 16 0
  lineSeen : Bool := false
  lineWait : Option (Readout × RegMap) := none
  closeAt : Option Nat := none
  tempLast : Option Int := none
  sumB : List Int := List.replicate 16 0
  nB : List Nat := List.replicate 16 0
  delta : List Int := List.replicate 16 0
  sumW : List Int := List.replicate 4 0
  nW : List Nat := List.replicate 4 0
  wf : List Nat := List.replicate 4 0x100000
  seg : Nat := 0
  actRegs : SetRegs := {}
  stgRegs : SetRegs := {}
  lutStaged : List (Nat × Nat) := []
  lutActive : List (Nat × Nat) := []
  capture : Option Capture := none
  degraded : List Nat := []
  scanWait : Bool := false
  deriving DecidableEq, Repr

/-! ### Line clocks and encoders (chapter 05) -/

/-- An encoder input: present levels, count, tick of the last counted edge, counted edges since each of the last quadrature errors,
and the count at the last rising edge of Z. -/
structure EncSt where
  a : Bool := false
  b : Bool := false
  z : Bool := false
  count : Int := 0
  lastEdge : Option Nat := none
  qerrAt : List Nat := []
  zCount : Option Int := none
  /-- Counted edges up and down since the last rising edge of Z (R173). -/
  zUp : Bool := false
  zDown : Bool := false
  deriving DecidableEq, Repr

/-- A decided repeat boundary (R189): the line L_b, the reference of the residue, and whether its report came late. -/
structure NextRep where
  line : Nat
  ref : Int
  late : Bool
  deriving DecidableEq, Repr

/-- A line clock: the phase accumulator X (Q16.32 modulo 2^16 counts), the number of the next line, whether it is aborted, holds
after a STOP, or has been released; held forward edges (newest first, position and tick), the last fires (newest first,
tick and line), the first line skipped and not yet reported, and its repeat finder (R189 to R194). `axis`: the last update of the scan axis, its tick and the
commanded positions before and after it in 2^-48 microstep (R196). -/
structure LcSt where
  x : Nat := 0
  nextLine : Nat := 0
  aborted : Bool := false
  held : Bool := false
  resume : Bool := false
  edges : List (Int × Nat) := []
  settle : Nat := 0
  faultEdges : Nat := 0
  fires : List (Nat × Nat) := []
  lastFire : Option Nat := none
  skipFrom : Option (Nat × Nat × Nat) := none
  repNo : Nat := 0
  repBase : Nat := 0
  repFirst : Nat := 0
  meas : Nat := 0
  resid : Int := 0
  repFlags : Nat := 0
  phased : Bool := true
  mPrev : Option Int := none
  next : Option NextRep := none
  inputT : Option Nat := none
  inputPrev : Option Int := none
  accepted : Bool := false
  overRun : Bool := false
  axis : Option (Nat × Int × Int) := none
  belayHold : Bool := false
  repHist : List (Nat × Nat) := []
  ghost : Nat := 0
  /-- The line after a skip fires no earlier than this tick (R181). -/
  notBefore : Nat := 0
  /-- The measured length that goes with the repeat running; `meas` is that of the last accepted mark or edge (R191, R192). -/
  repMeas : Nat := 0
  deriving DecidableEq, Repr

/-! ### Eyebright (chapter 07) -/

/-- A run of violating pixels of one class on one line (R258). -/
structure Run where
  cls : Nat
  a : Nat
  b : Nat
  planes : Nat
  sumAbs : Nat
  area : Nat
  peak : Int
  peakPlane : Nat
  peakX : Nat
  deriving DecidableEq, Repr

/-- A blob (R259 to R264). -/
structure Blob where
  id : Nat
  cls : Nat
  overflow : Bool
  area : Nat
  planes : Nat
  xMin : Nat
  xMax : Nat
  firstLine : Nat
  firstX : Nat
  lastLine : Nat
  sumAbs : Nat
  peak : Int
  peakPlane : Nat
  peakX : Nat
  peakLine : Nat
  repNo : Nat
  lineInRep : Nat
  shift : Int
  shear : Int
  settling : Bool
  nominal : Bool
  lifted : Bool
  splitStart : Bool
  stopped : Bool
  reps : List Nat
  runs : List (Nat × Nat)
  cur : List (Nat × Nat)
  deriving DecidableEq, Repr

/-- A repeat whose verdict is not yet decided (R271). -/
structure RepSt where
  no : Nat
  first : Nat
  fail : Bool
  incomplete : Bool
  ended : Bool
  deriving DecidableEq, Repr

/-- One lateral tracker (R247, R248). -/
structure Tracker where
  acc : Int := 0
  f : Int := 0
  has : Bool := false
  missed : Nat := 0
  deriving DecidableEq, Repr

/-- The port context's machine: trackers, open blobs, blobs closed by length on the previous line, repeats, settle count; the lines that Eyebright knows will not be
compared while lines before them still wait (R261); and a STOP whose last lines are still to be compared: class, line that reached MIN_AREA, first line not fired (R268). -/
structure EbSt where
  on : Bool := false
  queue : List CLine := []
  resumeAtRepeat : Bool := false
  /-- The line from which comparison is on again, once its repeat boundary has fallen (R242). -/
  resumeLine : Option Nat := none
  gaps : List Nat := []
  stopPend : Option (Nat × Nat × Nat) := none
  imageOk : Bool := false
  ta : Tracker := {}
  tb : Tracker := {}
  heldRun : Bool := false
  blobs : List Blob := []
  split : List (Nat × Nat × Nat) := []
  nextId : Nat := 0
  lastLine : Option Nat := none
  ovfRun : Bool := false
  reps : List RepSt := []
  settleLeft : Nat := 0
  settleRep : Option Nat := none
  stretchRep : Option Nat := none
  /-- The repeat in which the scan of the port was lost, and its first line: it cannot pass (R402). -/
  lostRep : Option (Nat × Nat) := none
  deriving DecidableEq, Repr

/-! ### Triggers and evidence (chapter 08) -/

/-- An event signal that has occurred and waits for its slot: signal number, port, timestamp or receipt, and its position. -/
structure SigEv where
  sig : Nat
  port : Nat
  t : Nat
  line : Nat
  frac : Nat
  pix : Option Nat
  cls : Nat
  node : Nat
  deriving DecidableEq, Repr

/-- One trigger condition's machine (R278, R292 to R294). -/
structure CondSt where
  matched : Bool := false
  rearmAt : Option Nat := none
  holdCount : Nat := 0
  lastSlot : Option Nat := none
  dead : Nat := 0
  missed : Nat := 0
  deriving DecidableEq, Repr

/-- A queued A_OUT pulse (R294): the condition, home port, line at which it starts, the tick at which it starts once known, and, after the end of its
job, the line positions still to pass. -/
structure OutPulse where
  cond : Nat
  port : Nat
  line : Nat
  gpio : Nat
  low : Bool
  width : Nat
  startAt : Option Nat
  left : Option Nat
  deriving DecidableEq, Repr

/-- A trigger that waits to be placed (R286): the cairn's words as far as they are known. -/
structure Waiting where
  conds : Nat
  prim : Nat
  port : Nat
  t : Nat
  ropeT : Nat
  hold : Bool
  remote : Bool
  node : Nat
  interval : Nat
  dead : Nat
  missed : Nat
  sigLo : Nat
  sigHi : Nat
  evid : List Nat
  outs : List Nat
  indicate : List Nat
  deriving DecidableEq, Repr

/-- An open evidence window (R296 to R301). `seq`: its place in the order of opening; `cut`: a case of R300 other than its last line has ended its range. -/
structure Window where
  num : Nat
  seq : Nat
  cut : Bool
  port : Nat
  defect : Bool
  srcSeq : Nat
  lt : Nat
  le : Nat
  preReq : Nat
  postReq : Nat
  first : Nat
  lastWant : Nat
  cropFirst : Nat
  cropCount : Nat
  reqFirst : Nat
  reqCount : Nat
  flags : Nat
  off : Nat
  rsv : Nat
  stride : Nat
  outBits : Nat
  planes : Nat
  lines : List (Nat × Nat × List Nat)
  deriving DecidableEq, Repr

/-- A closed window waiting in the pool for its drain (R333). -/
structure Closed where
  num : Nat
  seq : Nat
  port : Nat
  off : Nat
  size : Nat
  taken : Nat
  closedAt : Nat
  deriving DecidableEq, Repr

/-- A mark detector (R288, R289). -/
structure MarkDet where
  armed : Bool := false
  last : Option (Nat × Nat) := none
  deriving DecidableEq, Repr

/-- The trigger engine. -/
structure TrigSt where
  armed : Bool := false
  armAt : Option (Nat × Bool) := none
  armSlot : Option Nat := none
  gpio : Nat := 0
  /-- The LAMP_INVALID levels last seen, bits 48 to 55, and the transitions of the slot in progress: signal and Rope time (R285). -/
  lampSeen : Nat := 0
  levelT : List (Nat × Nat) := []
  events : List SigEv := []
  lastSlotDone : Option Nat := none
  reports : List (Nat × Nat) := []
  conds : List CondSt := List.replicate 32 {}
  waiting : List Waiting := []
  pulses : List OutPulse := []
  active : List (Nat × Nat × Bool) := []
  windows : List Window := []
  closed : List Closed := []
  nextWin : Nat := 0
  poolWr : Nat := 0
  refusedRun : Bool := false
  noJobRun : Bool := false
  lastFire : Option Nat := none
  spliceT : Option Nat := none
  dets : List MarkDet := List.replicate 8 {}
  froze : Option Nat := none
  deriving DecidableEq, Repr

/-! ### Rings, DMA, movers (chapter 09) -/

/-- One line in a block: number, flags, and whether Eyebright and the lamps have decided its flags. -/
structure BLine where
  line : Nat
  flags : Nat
  ebDone : Bool
  lampDone : Bool
  tick : Nat
  deriving DecidableEq, Repr

/-- The line block being filled (R313, R314). -/
structure Block where
  off : Nat
  first : Nat
  repNo : Nat
  repStart : Bool
  repFlags : Nat
  tick : Nat
  rsv : Nat
  stride : Nat
  lines : List BLine
  lastAt : Nat
  closing : Bool
  deriving DecidableEq, Repr

/-- A record reserved in the ring, in units of 64 B from the job's JOB_START (R310 to R312). -/
structure RingRec where
  off : Nat
  size : Nat
  typ : Nat
  first : Nat
  last : Nat
  done : Bool
  at_ : Nat
  deriving DecidableEq, Repr

/-- A record held until the block of the line it names is reserved (R312). -/
structure HeldRec where
  typ : Nat
  line : Option Nat
  first : Nat
  last : Nat
  words : List Nat
  deriving DecidableEq, Repr

/-- A port's stream ring: absolute write, commit and read offsets in units of 64 B, records, open and
written blocks, held records, lines fired and not yet through the pipeline, and the counts of JOB_END. -/
structure RingSt where
  wr : Nat := 0
  cm : Nat := 0
  rd : Nat := 0
  recs : List RingRec := []
  blocks : List Block := []
  hist : List Block := []
  held : List HeldRec := []
  inFlight : List Nat := []
  stopped : Bool := false
  stopFrom : Option (Nat × Nat × Nat) := none
  lastLine : Option Nat := none
  lastRep : Nat := 0
  /-- Line of the last record of Eyebright or of the trigger engine that was delivered (R321). -/
  lastGiven : Nat := 0
  gapSeq : Nat := 0
  gaps : Nat := 0
  lost : Nat := 0
  cairns : Nat := 0
  refs : Nat := 0
  defects : Nat := 0
  fails : Nat := 0
  incompletes : Nat := 0
  /-- A JOB_START stands in the ring, with neither a JOB_END nor the FENCE record of its port after it. -/
  jobOpen : Bool := false
  deriving DecidableEq, Repr

/-- A descriptor as read (R328). -/
structure Desc where
  at_ : Nat
  addr : Nat
  len : Nat
  segEnd : Bool
  barrier : Bool
  eoc : Bool
  link : Nat
  deriving DecidableEq, Repr

/-- A DMA channel (R327 to R339). `reading`: none, or the address being read and whether it is a link word alone. -/
structure DmaSt where
  st : Nat := 0
  cur : Nat := 0
  seg : List Desc := []
  reading : Option (Nat × Bool × Nat) := none
  /-- Doorbells on a parked channel whose reads of the link word are still to be made (R329). -/
  more : Nat := 0
  segOk : Bool := false
  inXfer : Bool := false
  bytes : Nat := 0
  xfer : List Nat := []
  xferOff : Nat := 0
  xferWin : Option Nat := none
  waitBarrier : Bool := false
  endKind : Nat := 0
  endFlags : Nat := 0
  last : Bool := false
  owed : Option Nat := none
  /-- Kept for the return to D0 (R67): host writes, a completed descriptor or link-word read, a completed barrier read. -/
  late : List (Nat × List Nat) := []
  kept : Option (List Nat) := none
  barrierIn : Bool := false
  deriving DecidableEq, Repr

/-! ### Jobs (chapter 13) -/

/-- The job machine: lead port of the running job, scope of the staged job, the JOB_START pending (acceptance tick, slot, JOB_ID, and
the Rope repeat R_c), the JOB_END pending (acceptance tick), the sample point S of a boundary in progress and whether it starts a job; the
lead port of the staged job, whether the pending start came down the Rope, whether the boundary to come is that of a JOB_END alone, whether the lead port has still to
fire its first line since S (R449), and the JOB_ID of a start of the Rope that has been lost and is still to be reported (R451). -/
structure JobSt where
  lead : Nat := 0
  scope : List Nat := []
  startTick : Option Nat := none
  startSlot : Nat := 0
  startId : Nat := 0
  startRope : Option Nat := none
  endTick : Option Nat := none
  at_ : Option Nat := none
  starts : Bool := false
  noStart : List Nat := []
  lastS : Nat := 0
  newLead : Nat := 0
  remote : Bool := false
  endOnly : Bool := false
  changeDue : Bool := false
  owed : Option Nat := none
  /-- The image bindings that passed R246 at the staging of the staged job, and of the job in force (R604). -/
  images : List (List Nat) := []
  imagesOn : List (List Nat) := []
  deriving DecidableEq, Repr

end Sys2Proof.Machine
end

