-- ==== Sys2Proof/Machine/Fields.lean ====
section
/-! DEFINITION. Every register field of the spec's register tables, one definition each, under the name of its page
and the manual's field name: byte offset in the page (or in BAR0), lowest bit, width, access code (R9), reset value,
On change (R11). The tables of pages follow. -/
namespace Sys2Proof.Machine.R

/-- A field at a byte offset. -/
def fld (name : String) (off lo width : Nat) (acc : Access) (reset : ResetVal) (chg : Change) (stride : Nat := 0)
    (count : Nat := 1) (mram : Bool := false) : Field :=
  { name := name, bit := off * 8 + lo, width := width, acc := acc, reset := reset, chg := chg, stride := stride,
    count := count, mram := mram }

def Pace.HEADROOM : Field := fld "HEADROOM" 0x200 0 8 .ro (.const 0xFF) .now
def Pace.MIN_HEADROOM : Field := fld "MIN_HEADROOM" 0x200 8 8 .ro (.const 0xFF) .now
def Pace.LOW : Field := fld "LOW" 0x200 16 1 .ro (.const 0) .now
def Pace.CRITICAL : Field := fld "CRITICAL" 0x200 17 1 .ro (.const 0) .now
def Pace.SUPPLY_FAIL : Field := fld "SUPPLY_FAIL" 0x200 18 1 .w1c (.const 0) .now
def Pace.SUPPLY_REQ_EN : Field := fld "SUPPLY_REQ_EN" 0x204 0 1 .rw (.const 1) .now
def Pace.MIN_CLEAR : Field := fld "MIN_CLEAR" 0x204 1 1 .wo (.const 0) .now
def Pace.WORST_UID : Field := fld "WORST_UID" 0x208 0 16 .ro (.const 0x0) .now
def Pace.VCORE_REQ : Field := fld "VCORE_REQ" 0x208 16 16 .ro (.const 0x0) .now

def Id.BL_SUPPORTED : Field := fld "BL_SUPPORTED" 0x000 0 32 .ro (.const 0x1) .now
def Id.PART : Field := fld "PART" 0x004 0 16 .ro (.part) .now
def Id.GRADE : Field := fld "GRADE" 0x004 16 4 .ro (.part) .now
def Id.SILICON_REV : Field := fld "SILICON_REV" 0x004 20 8 .ro (.part) .now
def Id.FW_VERSION : Field := fld "FW_VERSION" 0x008 0 32 .ro (.const 0x0) .now
def Id.SERIAL : Field := fld "SERIAL" 0x010 0 32 .ro (.part) .now (stride := 32) (count := 4)

def Tim.TIME_LO : Field := fld "TIME_LO" 0x500 0 32 .ro (.const 0) .now
def Tim.TIME_HI : Field := fld "TIME_HI" 0x504 0 32 .ro (.const 0) .now
def Tim.RATE : Field := fld "RATE" 0x508 0 4 .ro (.const 0) .now
def Tim.WIDTH : Field := fld "WIDTH" 0x508 4 5 .ro (.const 0) .now
def Tim.DEGRADED : Field := fld "DEGRADED" 0x508 9 1 .ro (.const 0) .now
def Tim.APERTURE_BASE : Field := fld "APERTURE_BASE" 0x510 0 5 .rw (.const 0) .now
def Tim.WRITE_EN : Field := fld "WRITE_EN" 0x514 0 1 .rw (.const 0) .now
def Tim.DENIED : Field := fld "DENIED" 0x518 0 32 .rc (.const 0) .now

def Cmd.UID : Field := fld "UID" 0x180 0 16 .rw (.const 0x0) .now (stride := 32) (count := 4)
def Cmd.BAD : Field := fld "BAD" 0x180 31 1 .ro (.const 0) .now (stride := 32) (count := 4)
def Cmd.URGENT_FREE : Field := fld "URGENT_FREE" 0x100 0 9 .ro (.const 0x100) .now
def Cmd.NORMAL_FREE : Field := fld "NORMAL_FREE" 0x100 12 12 .ro (.const 0x800) .now
def Cmd.URGENT_OVF : Field := fld "URGENT_OVF" 0x100 24 1 .ro (.const 0) .now
def Cmd.NORMAL_OVF : Field := fld "NORMAL_OVF" 0x100 25 1 .ro (.const 0) .now
def Cmd.FROZEN : Field := fld "FROZEN" 0x100 26 1 .ro (.const 0) .now
def Cmd.SEQ_RUNNING : Field := fld "SEQ_RUNNING" 0x100 27 1 .ro (.const 0) .now
def Cmd.RESYNC_URGENT : Field := fld "RESYNC_URGENT" 0x104 0 1 .wo (.const 0) .now
def Cmd.RESYNC_NORMAL : Field := fld "RESYNC_NORMAL" 0x104 1 1 .wo (.const 0) .now
def Cmd.CMD_SEQ : Field := fld "CMD_SEQ" 0x108 0 32 .ro (.const 0x0) .now
def Cmd.NORMAL_DONE : Field := fld "NORMAL_DONE" 0x10C 0 32 .ro (.const 0x0) .now
def Cmd.SEQ_HEARTBEAT : Field := fld "SEQ_HEARTBEAT" 0x110 0 32 .ro (.const 0x0) .now
def Cmd.UNDERRUN : Field := fld "UNDERRUN" 0x11C 0 1 .ro (.const 0) .now
def Cmd.LENGTH : Field := fld "LENGTH" 0x11C 1 1 .ro (.const 0) .now
def Cmd.LEVEL : Field := fld "LEVEL" 0x11C 16 12 .ro (.const 0) .now
def Cmd.REPLY_LEVEL : Field := fld "LEVEL" 0x120 0 12 .ro (.const 0) .now
def Cmd.LOST : Field := fld "LOST" 0x120 16 8 .rc (.const 0) .now
def Cmd.UNDERRUN_STICKY : Field := fld "UNDERRUN_STICKY" 0x120 24 1 .w1c (.const 0) .now

def Res.TAG : Field := fld "TAG" 0xF00 0 16 .ro (.const 0x0) .now
def Res.OVERWRITTEN : Field := fld "OVERWRITTEN" 0xF00 30 1 .rc (.const 0) .now
def Res.VALID : Field := fld "VALID" 0xF00 31 1 .rc (.const 0) .now

def Evt.BASE_LO : Field := fld "BASE_LO" 0x300 12 20 .rw (.const 0) .now
def Evt.BASE_HI : Field := fld "BASE_HI" 0x304 0 32 .rw (.const 0) .now
def Evt.ENABLE : Field := fld "ENABLE" 0x308 0 1 .rw (.const 0) .now
def Evt.HOLDOFF : Field := fld "HOLDOFF" 0x308 16 10 .rw (.const 0) .now
def Evt.EVT_WR : Field := fld "EVT_WR" 0x30C 0 12 .ro (.const 0) .now
def Evt.WR_PHASE : Field := fld "WR_PHASE" 0x30C 12 1 .ro (.const 1) .now
def Evt.EVT_RD : Field := fld "EVT_RD" 0x310 0 12 .rw (.const 0) .now
def Evt.RD_ERR : Field := fld "RD_ERR" 0x310 31 1 .w1c (.const 0) .now
def Evt.EVT_LOST : Field := fld "EVT_LOST" 0x314 0 32 .rc (.const 0) .now

def Map.VECTOR : Field := fld "VECTOR" 0x400 0 6 .rw (.index) .now (stride := 8) (count := 256)
def Map.IRQ_EN : Field := fld "IRQ_EN" 0x400 6 1 .rw (.const 0) .now (stride := 8) (count := 256)
def Map.RING_EN : Field := fld "RING_EN" 0x400 7 1 .rw (.ringEn) .now (stride := 8) (count := 256)

def Port.LINE_UNITS : Field := fld "LINE_UNITS" 0x000 0 9 .sh (.const 0x1) .job
def Port.PLANES : Field := fld "PLANES" 0x000 9 2 .sh (.const 0) .job
def Port.CAPTURE : Field := fld "CAPTURE" 0x000 11 1 .sh (.const 0) .job
def Port.SHUTTER : Field := fld "SHUTTER" 0x000 12 1 .sh (.const 0) .job
def Port.READOUT_LAG : Field := fld "READOUT_LAG" 0x000 13 1 .sh (.const 0) .job
def Port.MODE : Field := fld "MODE" 0x000 14 1 .sh (.const 0) .job
def Port.LINE_PERIOD_MIN : Field := fld "LINE_PERIOD_MIN" 0x004 0 24 .sh (.const 0xFA0) .job
def Port.NOMINAL_PERIOD : Field := fld "NOMINAL_PERIOD" 0x008 0 24 .sh (.const 0xFA0) .job
def Port.PLANE_LAG : Field := fld "PLANE_LAG" 0x00C 0 32 .sh (.const 0x0) .job
def Port.BANK : Field := fld "BANK" 0x010 0 1 .sh (.const 0) .line
def Port.OUT_EN : Field := fld "OUT_EN" 0x010 16 16 .sh (.const 0x0) .job
def Port.PG_IDLE : Field := fld "PG_IDLE" 0x014 0 16 .sh (.const 0x0) .job
def Port.COUNT_A : Field := fld "COUNT_A" 0x018 0 16 .sh (.const 0x1) .line
def Port.COUNT_B : Field := fld "COUNT_B" 0x018 16 16 .sh (.const 0x1) .line
def Port.STEP : Field := fld "STEP" 0x01C 0 12 .ro (.const 0) .now
def Port.BANK_ACTIVE : Field := fld "BANK_ACTIVE" 0x01C 12 1 .ro (.const 0) .now
def Port.EXECUTING : Field := fld "EXECUTING" 0x01C 13 1 .ro (.const 0) .now
def Port.LOADED0 : Field := fld "LOADED0" 0x01C 14 1 .ro (.const 0) .now
def Port.LOADED1 : Field := fld "LOADED1" 0x01C 15 1 .ro (.const 0) .now
def Port.FIRE_PENDING : Field := fld "FIRE_PENDING" 0x01C 16 1 .ro (.const 0) .now
def Port.EXP_TIME : Field := fld "EXP_TIME" 0x020 0 24 .sh (.const 0xA0) .line
def Port.EXP_DELAY : Field := fld "EXP_DELAY" 0x024 0 20 .sh (.const 0x0) .line
def Port.EXP_GAP_MIN : Field := fld "EXP_GAP_MIN" 0x028 0 20 .sh (.const 0x0) .job
def Port.EXP_PIN : Field := fld "EXP_PIN" 0x02C 0 4 .sh (.const 0) .job
def Port.EXP_EN : Field := fld "EXP_EN" 0x02C 4 1 .sh (.const 0) .job
def Port.EXP_POL : Field := fld "EXP_POL" 0x02C 5 1 .sh (.const 0) .job
def Port.CLAMPED_LINES : Field := fld "CLAMPED_LINES" 0x030 0 32 .rc (.const 0) .now
def Port.LAST_EXP : Field := fld "LAST_EXP" 0x034 0 24 .ro (.const 0) .now
def Port.LAST_PERIOD : Field := fld "LAST_PERIOD" 0x038 0 24 .ro (.const 0) .now
def Port.ROT_EN : Field := fld "ROT_EN" 0x040 0 1 .rw (.const 1) .now
def Port.ROT_PERIOD : Field := fld "ROT_PERIOD" 0x040 4 20 .rw (.const 10000) .now
def Port.RELIEVED : Field := fld "RELIEVED" 0x044 0 4 .ro (.const 0xF) .now
def Port.PHASE : Field := fld "PHASE" 0x044 4 3 .ro (.const 0) .now
def Port.SPARE_GONE : Field := fld "SPARE_GONE" 0x044 7 1 .ro (.const 0) .now (mram := true)
def Port.SPARE_TAP : Field := fld "SPARE_TAP" 0x044 8 4 .ro (.const 15) .now (mram := true)
def Port.CAL_SPACING : Field := fld "CAL_SPACING" 0x048 0 9 .ro (.const 5) .now
def Port.CAL_TP : Field := fld "CAL_TP" 0x048 9 9 .ro (.const 16) .now

def Tap.FIRST : Field := fld "FIRST" 0x100 0 14 .sh (.const 0x0) .job (stride := 128) (count := 16)
def Tap.PLANE : Field := fld "PLANE" 0x100 14 2 .sh (.const 0) .job (stride := 128) (count := 16)
def Tap.STRIDE : Field := fld "STRIDE" 0x100 16 5 .sh (.const 0x1) .job (stride := 128) (count := 16)
def Tap.DESCEND : Field := fld "DESCEND" 0x100 21 1 .sh (.const 0) .job (stride := 128) (count := 16)
def Tap.EN : Field := fld "EN" 0x100 31 1 .sh (.const 0) .job (stride := 128) (count := 16)
def Tap.COUNT : Field := fld "COUNT" 0x104 0 15 .sh (.const 0x0) .job (stride := 128) (count := 16)
def Tap.SKIP : Field := fld "SKIP" 0x104 16 8 .sh (.const 0x0) .job (stride := 128) (count := 16)
def Tap.OB : Field := fld "OB" 0x104 24 8 .sh (.const 0x0) .job (stride := 128) (count := 16)
def Tap.GAIN_CODE : Field := fld "GAIN_CODE" 0x108 0 8 .sh (.const 0x0) .job (stride := 128) (count := 16)
def Tap.CDS_OFF : Field := fld "CDS_OFF" 0x108 8 1 .sh (.const 0) .job (stride := 128) (count := 16)
def Tap.INVERT : Field := fld "INVERT" 0x108 9 1 .sh (.const 0) .job (stride := 128) (count := 16)
def Tap.COARSE_OFS : Field := fld "COARSE_OFS" 0x108 10 12 .sh (.const 0x0) .job (stride := 128) (count := 16)

def Afe.TAP : Field := fld "TAP" 0x000 0 4 .ro (.afeTap) .now
def Afe.SUSPECT : Field := fld "SUSPECT" 0x000 4 1 .ro (.const 0) .now (mram := true)
def Afe.STALE : Field := fld "STALE" 0x000 5 1 .ro (.const 0) .now
def Afe.FAILS : Field := fld "FAILS" 0x000 8 2 .ro (.const 0) .now
def Afe.CAL_OFS : Field := fld "CAL_OFS" 0x004 0 24 .ro (.const 0x0) .now
def Afe.CAL_GAIN : Field := fld "CAL_GAIN" 0x008 0 24 .ro (.const 0x400000) .now
def Afe.STG_OFS : Field := fld "STG_OFS" 0x00C 0 24 .ro (.const 0x0) .now
def Afe.STG_GAIN : Field := fld "STG_GAIN" 0x010 0 24 .ro (.const 0x400000) .now
def Afe.STG_VALID : Field := fld "STG_VALID" 0x010 31 1 .ro (.const 0) .now
def Afe.CAL_AGE : Field := fld "CAL_AGE" 0x014 0 32 .ro (.const 0xFFFFFFFF) .now
def Afe.CAL_COUNT : Field := fld "CAL_COUNT" 0x018 0 32 .ro (.const 0) .now
def Afe.DISCARDS : Field := fld "DISCARDS" 0x01C 0 32 .ro (.const 0) .now

def CalRef.REF_NOMINAL_UV : Field := fld "REF_NOMINAL_UV" 0x000 0 32 .ro (.const 1250000) .now
def CalRef.REF_TRIM_UV : Field := fld "REF_TRIM_UV" 0x004 0 32 .ro (.part) .now
def CalRef.REF_TRACE_UV : Field := fld "REF_TRACE_UV" 0x008 0 32 .ro (.const 0) .now (mram := true)
def CalRef.REF_USE_UV : Field := fld "REF_USE_UV" 0x00C 0 32 .ro (.part) .now (mram := true)
def CalRef.TRACE_TJ : Field := fld "TRACE_TJ" 0x010 0 16 .ro (.const 0) .now (mram := true)
def CalRef.TRACE_COUNT : Field := fld "TRACE_COUNT" 0x010 16 16 .ro (.const 0) .now (mram := true)
def CalRef.DAC_CODE : Field := fld "DAC_CODE" 0x014 0 20 .ro (.const 0) .now
def CalRef.DAC_PORT : Field := fld "DAC_PORT" 0x014 20 4 .ro (.const 0xF) .now

def LaneRx.LANE_EN : Field := fld "LANE_EN" 0x000 0 16 .sh (.const 0x0) .job
def LaneRx.WORD : Field := fld "WORD" 0x000 16 2 .sh (.const 0) .job
def LaneRx.FRAMING : Field := fld "FRAMING" 0x000 18 1 .sh (.const 0) .job
def LaneRx.LSB_FIRST : Field := fld "LSB_FIRST" 0x000 19 1 .sh (.const 0) .job
def LaneRx.IO_STD : Field := fld "IO_STD" 0x000 20 1 .sh (.const 0) .job
def LaneRx.TERM_EN : Field := fld "TERM_EN" 0x000 21 1 .sh (.const 1) .job
def LaneRx.CLK_SHARED : Field := fld "CLK_SHARED" 0x000 22 1 .sh (.const 0) .job
def LaneRx.SYNC_SOL : Field := fld "SYNC_SOL" 0x004 0 16 .sh (.const 0x800) .job
def LaneRx.SYNC_EOL : Field := fld "SYNC_EOL" 0x004 16 16 .sh (.const 0x9D0) .job
def LaneRx.LATENCY_MAX : Field := fld "LATENCY_MAX" 0x008 0 20 .sh (.const 0xFA0) .job
def LaneRx.TRAIN_WORD : Field := fld "TRAIN_WORD" 0x00C 0 16 .sh (.const 0x555) .job
def LaneRx.LANE_MBPS : Field := fld "LANE_MBPS" 0x00C 16 11 .sh (.const 1600) .job
def LaneRx.LOCKED : Field := fld "LOCKED" 0x010 0 16 .ro (.const 0) .now
def LaneRx.FAULT_STICKY : Field := fld "FAULT_STICKY" 0x010 16 16 .w1c (.const 0) .now
def LaneRx.FAULT_LINES : Field := fld "FAULT_LINES" 0x014 0 32 .rc (.const 0) .now
def LaneRx.BIT_DELAY : Field := fld "BIT_DELAY" 0x040 0 6 .ro (.const 0) .now (stride := 32) (count := 16)
def LaneRx.WORD_DELAY : Field := fld "WORD_DELAY" 0x040 6 2 .ro (.const 0) .now (stride := 32) (count := 16)
def LaneRx.LAST_FAULT : Field := fld "LAST_FAULT" 0x040 8 4 .ro (.const 0) .now (stride := 32) (count := 16)

def Enc.TYPE : Field := fld "TYPE" 0x000 0 2 .rw (.const 0) .now (stride := 256) (count := 4)
def Enc.DIFF : Field := fld "DIFF" 0x000 2 1 .rw (.const 1) .now (stride := 256) (count := 4)
def Enc.FILTER : Field := fld "FILTER" 0x000 3 6 .rw (.const 0x4) .now (stride := 256) (count := 4)
def Enc.Z_EN : Field := fld "Z_EN" 0x000 9 1 .rw (.const 0) .now (stride := 256) (count := 4)
def Enc.Z_DOWN : Field := fld "Z_DOWN" 0x000 10 1 .rw (.const 0) .now (stride := 256) (count := 4)
def Enc.WR_IGNORED : Field := fld "WR_IGNORED" 0x000 31 1 .w1c (.const 0) .now (stride := 256) (count := 4)
def Enc.COUNT : Field := fld "COUNT" 0x004 0 32 .ro (.const 0) .now (stride := 256) (count := 4)
def Enc.LAST_TIME : Field := fld "LAST_TIME" 0x008 0 32 .ro (.const 0) .now (stride := 256) (count := 4)
def Enc.CPR : Field := fld "CPR" 0x00C 0 24 .rw (.const 0) .now (stride := 256) (count := 4)
def Enc.QERR : Field := fld "QERR" 0x010 0 16 .rc (.const 0) .now (stride := 256) (count := 4)
def Enc.ZERR : Field := fld "ZERR" 0x010 16 16 .rc (.const 0) .now (stride := 256) (count := 4)
def Enc.DIR : Field := fld "DIR" 0x014 0 1 .ro (.const 0) .now (stride := 256) (count := 4)
def Enc.RATE_FAULT : Field := fld "RATE_FAULT" 0x014 1 1 .w1c (.const 0) .now (stride := 256) (count := 4)

def Lc.ENC_SEL : Field := fld "ENC_SEL" 0x000 0 2 .sh (.const 0) .job
def Lc.AXIS_SEL : Field := fld "AXIS_SEL" 0x000 2 3 .sh (.const 0) .job
def Lc.EST_SPAN : Field := fld "EST_SPAN" 0x000 5 4 .sh (.const 2) .job
def Lc.ACCEL_COMP : Field := fld "ACCEL_COMP" 0x000 9 1 .sh (.const 1) .job
def Lc.FWD_DOWN : Field := fld "FWD_DOWN" 0x000 10 1 .sh (.const 0) .job
def Lc.PITCH_LO : Field := fld "PITCH_LO" 0x004 0 32 .sh (.const 0x0) .job
def Lc.PITCH_HI : Field := fld "PITCH_HI" 0x008 0 16 .sh (.const 0x1) .job
def Lc.EXTRAP_MAX : Field := fld "EXTRAP_MAX" 0x00C 0 12 .sh (.const 0x100) .job
def Lc.STOP_TICKS : Field := fld "STOP_TICKS" 0x010 0 32 .sh (.const 16000000) .job
def Lc.REPEAT_SRC : Field := fld "REPEAT_SRC" 0x014 0 2 .sh (.const 0) .job
def Lc.MARK_COND : Field := fld "MARK_COND" 0x014 2 5 .sh (.const 0) .job
def Lc.INPUT_GPIO : Field := fld "INPUT_GPIO" 0x014 7 5 .sh (.const 0) .job
def Lc.INPUT_FALL : Field := fld "INPUT_FALL" 0x014 12 1 .sh (.const 0) .job
def Lc.REPEAT_LINES : Field := fld "REPEAT_LINES" 0x018 0 32 .sh (.const 0x4000) .job
def Lc.REPEAT_OFFSET : Field := fld "REPEAT_OFFSET" 0x01C 0 24 .sh (.const 0x0) .job
def Lc.MARK_WINDOW : Field := fld "MARK_WINDOW" 0x020 0 16 .sh (.const 0x40) .job
def Lc.EST_STATE : Field := fld "EST_STATE" 0x030 0 3 .ro (.const 0) .now
def Lc.ACCEL_ACTIVE : Field := fld "ACCEL_ACTIVE" 0x030 3 1 .ro (.const 0) .now
def Lc.SETTLE_LEFT : Field := fld "SETTLE_LEFT" 0x030 4 5 .ro (.const 0) .now
def Lc.TICKS_PER_COUNT : Field := fld "TICKS_PER_COUNT" 0x034 0 32 .ro (.const 0) .now
def Lc.LINE_LO : Field := fld "LINE_LO" 0x038 0 32 .ro (.const 0) .now
def Lc.LINE_HI : Field := fld "LINE_HI" 0x03C 0 16 .ro (.const 0) .now
def Lc.PHASE_LO : Field := fld "PHASE_LO" 0x040 0 32 .ro (.const 0) .now
def Lc.PHASE_HI : Field := fld "PHASE_HI" 0x044 0 16 .ro (.const 0) .now
def Lc.REPEAT_NUM : Field := fld "REPEAT_NUM" 0x048 0 32 .ro (.const 0) .now
def Lc.REPEAT_MEAS : Field := fld "REPEAT_MEAS" 0x04C 0 32 .ro (.const 0) .now
def Lc.OVERSPEED_LINES : Field := fld "OVERSPEED_LINES" 0x050 0 32 .rc (.const 0) .now
def Lc.SKIPPED_LINES : Field := fld "SKIPPED_LINES" 0x054 0 32 .rc (.const 0) .now
def Lc.MARK_MISSED : Field := fld "MARK_MISSED" 0x058 0 16 .rc (.const 0) .now
def Lc.REPEAT_LATE : Field := fld "REPEAT_LATE" 0x058 16 16 .rc (.const 0) .now

def Pipe.REPLACE_EN : Field := fld "REPLACE_EN" 0x000 0 1 .sh (.const 1) .job
def Pipe.CLAMP_EN : Field := fld "CLAMP_EN" 0x000 1 1 .sh (.const 1) .job
def Pipe.TEMP_SRC : Field := fld "TEMP_SRC" 0x000 2 2 .sh (.const 0) .job
def Pipe.NORM_SRC : Field := fld "NORM_SRC" 0x000 4 2 .sh (.const 0) .job
def Pipe.WT_SRC : Field := fld "WT_SRC" 0x000 6 2 .sh (.const 0) .job
def Pipe.WT_SHIFT : Field := fld "WT_SHIFT" 0x000 8 5 .sh (.const 12) .job
def Pipe.OUT_BITS : Field := fld "OUT_BITS" 0x000 13 2 .sh (.const 0) .job
def Pipe.TEMP_HOST : Field := fld "TEMP_HOST" 0x004 0 16 .sh (.const 0x0) .line
def Pipe.WT_FIRST : Field := fld "WT_FIRST" 0x008 0 14 .sh (.const 0x0) .job
def Pipe.WT_COUNT : Field := fld "WT_COUNT" 0x008 16 15 .sh (.const 0x40) .job
def Pipe.WT_ROW_FIRST : Field := fld "WT_ROW_FIRST" 0x00C 0 24 .sh (.const 0x0) .job
def Pipe.WT_ROW_COUNT : Field := fld "WT_ROW_COUNT" 0x010 0 16 .sh (.const 0x40) .job
def Pipe.ACTIVE_SET : Field := fld "ACTIVE_SET" 0x014 0 8 .ro (.const 0) .now
def Pipe.STAGED_SET : Field := fld "STAGED_SET" 0x014 8 8 .ro (.const 0) .now
def Pipe.ACTIVE_OK : Field := fld "ACTIVE_OK" 0x014 16 1 .ro (.const 0) .now
def Pipe.STAGED_OK : Field := fld "STAGED_OK" 0x014 17 1 .ro (.const 0) .now
def Pipe.BLACK_LEFT : Field := fld "BLACK_LEFT" 0x018 0 7 .ro (.const 0) .now
def Pipe.WHITE_LEFT : Field := fld "WHITE_LEFT" 0x018 16 9 .ro (.const 0) .now
def Pipe.TEMP_LAST : Field := fld "TEMP_LAST" 0x01C 0 16 .ro (.const 0x0) .now
def Pipe.TEMP_BAD : Field := fld "TEMP_BAD" 0x01C 16 1 .ro (.const 0) .now
def Pipe.CLAMP_RESTARTS : Field := fld "CLAMP_RESTARTS" 0x020 0 16 .rc (.const 0) .now
def Pipe.WHITE_RESTARTS : Field := fld "WHITE_RESTARTS" 0x020 16 16 .rc (.const 0) .now
def Pipe.ECC_CORRECTED : Field := fld "ECC_CORRECTED" 0x024 0 32 .rc (.const 0) .now
def Pipe.CLAMP_DELTA : Field := fld "CLAMP_DELTA" 0x040 0 24 .ro (.const 0x0) .now (stride := 32) (count := 16)
def Pipe.WT_FACTOR : Field := fld "WT_FACTOR" 0x080 0 24 .ro (.const 0x100000) .now (stride := 32) (count := 4)
def Pipe.WT_MEAN : Field := fld "WT_MEAN" 0x090 0 24 .ro (.const 0x0) .now (stride := 32) (count := 4)

def Lane.PHYS : Field := fld "PHYS" 0x000 0 4 .ro (.lanePhys) .now (mram := true)
def Lane.RETIRED : Field := fld "RETIRED" 0x000 4 1 .ro (.const 0) .now (mram := true)
def Lane.SELFTEST_OK : Field := fld "SELFTEST_OK" 0x000 5 1 .ro (.const 0) .now
def Lane.SAMPLES : Field := fld "SAMPLES" 0x004 0 32 .rc (.const 0) .now

def Clus.PORT : Field := fld "PORT" 0x000 0 3 .sh (.const 0) .job (stride := 32) (count := 8)
def Clus.EN : Field := fld "EN" 0x000 3 1 .sh (.const 0) .job (stride := 32) (count := 8)
def Clus.COL_FIRST : Field := fld "COL_FIRST" 0x000 4 8 .sh (.const 0x0) .job (stride := 32) (count := 8)
def Clus.COL_UNITS : Field := fld "COL_UNITS" 0x000 12 9 .sh (.const 0x1) .job (stride := 32) (count := 8)
def Clus.LANE_GOOD : Field := fld "LANE_GOOD" 0x020 0 8 .ro (.const 0) .now
def Clus.SPARE_FREE : Field := fld "SPARE_FREE" 0x020 8 1 .ro (.const 0) .now (mram := true)
def Clus.CTX_SEL : Field := fld "CTX_SEL" 0x024 0 3 .rw (.const 0) .now

def RefSt.ACTIVE : Field := fld "ACTIVE" 0x000 0 1 .ro (.const 0) .now
def RefSt.STAGED_OK : Field := fld "STAGED_OK" 0x000 1 1 .ro (.const 0) .now
def RefSt.STAGE_LOST : Field := fld "STAGE_LOST" 0x000 2 1 .w1c (.const 0) .now
def RefSt.SLOT_MIB : Field := fld "SLOT_MIB" 0x004 0 16 .ro (.part) .now
def RefSt.REF_ECC : Field := fld "REF_ECC" 0x008 0 32 .rc (.const 0) .now

def Ctx.IMAGE : Field := fld "IMAGE" 0x400 0 4 .sh (.const 0) .job
def Ctx.TR_MODE : Field := fld "TR_MODE" 0x400 4 2 .sh (.const 0) .job
def Ctx.LAT_SHIFT : Field := fld "LAT_SHIFT" 0x400 6 4 .sh (.const 4) .job
def Ctx.SETTLE_REPEATS : Field := fld "SETTLE_REPEATS" 0x400 10 4 .sh (.const 1) .job
def Ctx.SETTLE_SUPPRESS : Field := fld "SETTLE_SUPPRESS" 0x400 14 1 .sh (.const 0) .job
def Ctx.LAT_HOLD : Field := fld "LAT_HOLD" 0x400 16 16 .sh (.const 64) .job
def Ctx.SHEAR_FIXED : Field := fld "SHEAR_FIXED" 0x404 0 16 .sh (.const 0x0) .job
def Ctx.V_TRIM : Field := fld "V_TRIM" 0x408 0 24 .sh (.const 0x0) .job
def Ctx.BLOB_MAX_LINES : Field := fld "BLOB_MAX_LINES" 0x40C 0 16 .sh (.const 4096) .job
def Ctx.WIN_FIRST : Field := fld "WIN_FIRST" 0x410 0 14 .sh (.const 0x0) .job (stride := 64) (count := 2)
def Ctx.WIN_COUNT : Field := fld "WIN_COUNT" 0x410 16 15 .sh (.const 0x40) .job (stride := 64) (count := 2)
def Ctx.LEVEL : Field := fld "LEVEL" 0x414 0 16 .sh (.const 0x7200) .job (stride := 64) (count := 2)
def Ctx.PLANE : Field := fld "PLANE" 0x414 16 2 .sh (.const 0) .job (stride := 64) (count := 2)
def Ctx.FALL : Field := fld "FALL" 0x414 18 1 .sh (.const 0) .job (stride := 64) (count := 2)
def Ctx.EVID_PRE : Field := fld "EVID_PRE" 0x420 0 15 .sh (.const 0) .job
def Ctx.EVID_POST : Field := fld "EVID_POST" 0x420 16 15 .sh (.const 0) .job
def Ctx.EVID_MARGIN : Field := fld "EVID_MARGIN" 0x424 0 14 .sh (.const 0x0) .job
def Ctx.LO : Field := fld "LO" 0x500 0 16 .sh (.const 0x8000) .job (stride := 32) (count := 64)
def Ctx.HI : Field := fld "HI" 0x500 16 16 .sh (.const 0x7FFF) .job (stride := 32) (count := 64)
def Ctx.MIN_AREA : Field := fld "MIN_AREA" 0x600 0 16 .sh (.const 0x1) .job (stride := 32) (count := 16)
def Ctx.ACTION : Field := fld "ACTION" 0x600 16 2 .sh (.const 0) .job (stride := 32) (count := 16)
def Ctx.SHIFT_NOW : Field := fld "SHIFT_NOW" 0x700 0 24 .ro (.const 0x0) .now
def Ctx.SHEAR_NOW : Field := fld "SHEAR_NOW" 0x704 0 16 .ro (.const 0x0) .now
def Ctx.MEAS_NOW : Field := fld "MEAS_NOW" 0x708 0 32 .ro (.const 0) .now
def Ctx.OPEN_BLOBS : Field := fld "OPEN_BLOBS" 0x70C 0 13 .ro (.const 0) .now
def Ctx.INSPECTING : Field := fld "INSPECTING" 0x70C 16 1 .ro (.const 0) .now
def Ctx.HELD_STOP : Field := fld "HELD_STOP" 0x70C 17 1 .ro (.const 0) .now
def Ctx.DEFECTS : Field := fld "DEFECTS" 0x710 0 32 .rc (.const 0) .now
def Ctx.SMALL : Field := fld "SMALL" 0x714 0 32 .rc (.const 0) .now
def Ctx.OVERFLOW_RUNS : Field := fld "OVERFLOW_RUNS" 0x718 0 32 .rc (.const 0) .now
def Ctx.OUTSIDE : Field := fld "OUTSIDE" 0x71C 0 32 .rc (.const 0) .now
def Ctx.SUPPRESSED : Field := fld "SUPPRESSED" 0x720 0 32 .rc (.const 0) .now
def Ctx.MISS_A : Field := fld "MISS_A" 0x724 0 16 .rc (.const 0) .now
def Ctx.MISS_B : Field := fld "MISS_B" 0x724 16 16 .rc (.const 0) .now
def Ctx.VERDICT_REPEAT : Field := fld "VERDICT_REPEAT" 0x728 0 32 .ro (.const 0) .now
def Ctx.VERDICT : Field := fld "VERDICT" 0x72C 0 2 .ro (.const 0) .now
def Ctx.DEFECT_SEQ : Field := fld "DEFECT_SEQ" 0x730 0 32 .ro (.const 0) .now

def Trig.ARM_SRC : Field := fld "ARM_SRC" 0x000 0 1 .rw (.const 0) .now
def Trig.FREEZE_ALLOW : Field := fld "FREEZE_ALLOW" 0x000 1 1 .rw (.const 0) .now
def Trig.STATE : Field := fld "STATE" 0x004 0 2 .ro (.const 0) .now
def Trig.PLACE_WAIT : Field := fld "PLACE_WAIT" 0x008 0 32 .sh (.const 1600000) .job
def Trig.SOFT_FIRE : Field := fld "SOFT_FIRE" 0x00C 0 1 .wo (.const 0) .now
def Trig.POOL_BASE : Field := fld "POOL_BASE" 0x010 0 9 .sh (.poolBase) .job
def Trig.POOL_SIZE : Field := fld "POOL_SIZE" 0x010 16 9 .sh (.const 16) .job
def Trig.POOL_USED : Field := fld "POOL_USED" 0x014 0 26 .ro (.const 0) .now
def Trig.OPEN_WINDOWS : Field := fld "OPEN_WINDOWS" 0x018 0 13 .ro (.const 0) .now
def Trig.SPLICE_GPIO : Field := fld "SPLICE_GPIO" 0x01C 0 5 .sh (.const 0) .job
def Trig.SPLICE_FALL : Field := fld "SPLICE_FALL" 0x01C 5 1 .sh (.const 0) .job
def Trig.SPLICE_MIN : Field := fld "SPLICE_MIN" 0x01C 8 8 .sh (.const 0x10) .job
def Trig.GPIO_FILTER : Field := fld "GPIO_FILTER" 0x020 0 6 .rw (.const 0x4) .now
def Trig.GPIO_OUT_EN : Field := fld "GPIO_OUT_EN" 0x024 0 32 .rw (.const 0x0) .now
def Trig.GPIO_IN : Field := fld "GPIO_IN" 0x028 0 32 .ro (.const 0) .now
def Trig.NO_JOB : Field := fld "NO_JOB" 0x02C 0 32 .rc (.const 0) .now
def Trig.NO_POOL : Field := fld "NO_POOL" 0x030 0 32 .rc (.const 0) .now
def Trig.NO_SLOT : Field := fld "NO_SLOT" 0x034 0 32 .rc (.const 0) .now
def Trig.FIRE_SUPPRESSED : Field := fld "FIRE_SUPPRESSED" 0x038 0 32 .rc (.const 0) .now
def Trig.FC_CONDITIONS : Field := fld "FC_CONDITIONS" 0x040 0 32 .ro (.const 0) .now
def Trig.FC_TIME_LO : Field := fld "FC_TIME_LO" 0x044 0 32 .ro (.const 0) .now
def Trig.FC_TIME_HI : Field := fld "FC_TIME_HI" 0x048 0 32 .ro (.const 0) .now
def Trig.FC_PORT : Field := fld "FC_PORT" 0x04C 0 3 .ro (.const 0) .now
def Trig.FC_PLACED : Field := fld "FC_PLACED" 0x04C 3 1 .ro (.const 0) .now
def Trig.FC_LINE : Field := fld "FC_LINE" 0x050 0 32 .ro (.const 0) .now
def Trig.X_FIRST : Field := fld "X_FIRST" 0x100 0 14 .sh (.const 0x0) .job (stride := 128) (count := 8)
def Trig.X_COUNT : Field := fld "X_COUNT" 0x100 16 11 .sh (.const 0x40) .job (stride := 128) (count := 8)
def Trig.PLANE : Field := fld "PLANE" 0x100 27 2 .sh (.const 0) .job (stride := 128) (count := 8)
def Trig.FALL : Field := fld "FALL" 0x100 29 1 .sh (.const 1) .job (stride := 128) (count := 8)
def Trig.EN : Field := fld "EN" 0x100 31 1 .sh (.const 0) .job (stride := 128) (count := 8)
def Trig.LEVEL : Field := fld "LEVEL" 0x104 0 16 .sh (.const 0x7200) .job (stride := 128) (count := 8)
def Trig.HYST : Field := fld "HYST" 0x104 16 16 .sh (.const 0x400) .job (stride := 128) (count := 8)
def Trig.LAST_MEAN : Field := fld "LAST_MEAN" 0x108 0 16 .ro (.const 0) .now (stride := 128) (count := 8)
def Trig.CROSSINGS : Field := fld "CROSSINGS" 0x10C 0 32 .rc (.const 0) .now (stride := 128) (count := 8)

def Cond.VALUE_LO : Field := fld "VALUE_LO" 0x400 0 32 .sh (.const 0) .job (stride := 512) (count := 32)
def Cond.VALUE_HI : Field := fld "VALUE_HI" 0x404 0 32 .sh (.const 0) .job (stride := 512) (count := 32)
def Cond.MASK_LO : Field := fld "MASK_LO" 0x408 0 32 .sh (.const 0) .job (stride := 512) (count := 32)
def Cond.MASK_HI : Field := fld "MASK_HI" 0x40C 0 32 .sh (.const 0) .job (stride := 512) (count := 32)
def Cond.EN : Field := fld "EN" 0x410 0 1 .sh (.const 0) .job (stride := 512) (count := 32)
def Cond.HOME_PORT : Field := fld "HOME_PORT" 0x410 1 3 .sh (.const 0) .job (stride := 512) (count := 32)
def Cond.A_EVID : Field := fld "A_EVID" 0x410 4 1 .sh (.const 0) .job (stride := 512) (count := 32)
def Cond.A_FIRE_ROPE : Field := fld "A_FIRE_ROPE" 0x410 5 1 .sh (.const 0) .job (stride := 512) (count := 32)
def Cond.A_OUT : Field := fld "A_OUT" 0x410 6 1 .sh (.const 0) .job (stride := 512) (count := 32)
def Cond.A_FREEZE : Field := fld "A_FREEZE" 0x410 7 1 .sh (.const 0) .job (stride := 512) (count := 32)
def Cond.A_INDICATE : Field := fld "A_INDICATE" 0x410 8 1 .sh (.const 0) .job (stride := 512) (count := 32)
def Cond.NOTIFY : Field := fld "NOTIFY" 0x410 9 1 .sh (.const 0) .job (stride := 512) (count := 32)
def Cond.HOLD_MODE : Field := fld "HOLD_MODE" 0x410 10 2 .sh (.const 0) .job (stride := 512) (count := 32)
def Cond.CLASS_MASK : Field := fld "CLASS_MASK" 0x410 16 16 .sh (.const 0xFFFF) .job (stride := 512) (count := 32)
def Cond.HOLD : Field := fld "HOLD" 0x414 0 24 .sh (.const 0) .job (stride := 512) (count := 32)
def Cond.EVID_PRE : Field := fld "EVID_PRE" 0x418 0 15 .sh (.const 0) .job (stride := 512) (count := 32)
def Cond.EVID_POST : Field := fld "EVID_POST" 0x418 16 15 .sh (.const 0) .job (stride := 512) (count := 32)
def Cond.CROP_FIRST : Field := fld "CROP_FIRST" 0x41C 0 14 .sh (.const 0x0) .job (stride := 512) (count := 32)
def Cond.CROP_COUNT : Field := fld "CROP_COUNT" 0x41C 16 15 .sh (.const 0x4000) .job (stride := 512) (count := 32)
def Cond.OUT_GPIO : Field := fld "OUT_GPIO" 0x420 0 5 .sh (.const 0) .job (stride := 512) (count := 32)
def Cond.OUT_LOW : Field := fld "OUT_LOW" 0x420 5 1 .sh (.const 0) .job (stride := 512) (count := 32)
def Cond.INDICATE_ENGINE : Field := fld "INDICATE_ENGINE" 0x420 6 2 .sh (.const 0) .job (stride := 512) (count := 32)
def Cond.OUT_DELAY : Field := fld "OUT_DELAY" 0x420 8 24 .sh (.const 0) .job (stride := 512) (count := 32)
def Cond.OUT_WIDTH : Field := fld "OUT_WIDTH" 0x424 0 24 .sh (.const 0x640) .job (stride := 512) (count := 32)
def Cond.TRIGGERS : Field := fld "TRIGGERS" 0x428 0 32 .rc (.const 0) .now (stride := 512) (count := 32)
def Cond.DISCARDS : Field := fld "DISCARDS" 0x42C 0 32 .rc (.const 0) .now (stride := 512) (count := 32)
def Cond.LAST_DEAD : Field := fld "LAST_DEAD" 0x430 0 32 .ro (.const 0) .now (stride := 512) (count := 32)
def Cond.MISSED_PENDING : Field := fld "MISSED_PENDING" 0x434 0 16 .ro (.const 0) .now (stride := 512) (count := 32)
def Cond.REARMED : Field := fld "REARMED" 0x434 16 1 .ro (.const 0) .now (stride := 512) (count := 32)
def Cond.OUT_DROPPED : Field := fld "OUT_DROPPED" 0x438 0 16 .rc (.const 0) .now (stride := 512) (count := 32)

def Ring.RING_BASE : Field := fld "RING_BASE" 0x060 0 15 .sh (.const 0x0) .job
def Ring.RING_SIZE : Field := fld "RING_SIZE" 0x060 16 16 .sh (.const 0x10) .job
def Ring.BLOCK_LINES : Field := fld "BLOCK_LINES" 0x064 0 7 .sh (.const 64) .job
def Ring.HIGH_MARK : Field := fld "HIGH_MARK" 0x064 8 8 .sh (.const 0xE0) .job
def Ring.RESUME_MARK : Field := fld "RESUME_MARK" 0x064 16 8 .sh (.const 0x80) .job
def Ring.BLOCK_IDLE : Field := fld "BLOCK_IDLE" 0x068 0 32 .sh (.const 1600000) .job
def Ring.KEEP_LINES : Field := fld "KEEP_LINES" 0x06C 0 15 .ro (.const 0) .now
def Ring.CAPTURE_STOPPED : Field := fld "CAPTURE_STOPPED" 0x06C 15 1 .ro (.const 0) .now
def Ring.UNREAD : Field := fld "UNREAD" 0x070 0 32 .ro (.const 0) .now
def Ring.WRITE_OFF : Field := fld "WRITE_OFF" 0x074 0 32 .ro (.const 0) .now
def Ring.COMMIT_OFF : Field := fld "COMMIT_OFF" 0x078 0 32 .ro (.const 0) .now
def Ring.READ_OFF : Field := fld "READ_OFF" 0x07C 0 32 .ro (.const 0) .now
def Ring.LOST_LINES : Field := fld "LOST_LINES" 0x080 0 32 .rc (.const 0) .now
def Ring.HIGH_LEVEL : Field := fld "HIGH_LEVEL" 0x084 0 32 .ro (.const 0) .now

def Dma.SRC_KIND : Field := fld "SRC_KIND" 0x000 0 2 .sh (.const 0) .job
def Dma.SRC_PORT : Field := fld "SRC_PORT" 0x000 2 3 .sh (.const 0) .job
def Dma.RELAXED : Field := fld "RELAXED" 0x000 5 1 .sh (.const 0) .job
def Dma.IRQ_EVERY : Field := fld "IRQ_EVERY" 0x000 8 8 .sh (.const 1) .job
def Dma.CHUNK : Field := fld "CHUNK" 0x000 16 8 .sh (.const 16) .job
def Dma.FLUSH_TICKS : Field := fld "FLUSH_TICKS" 0x004 0 32 .sh (.const 1600000) .job
def Dma.CHAIN_LO : Field := fld "CHAIN_LO" 0x008 5 27 .rw (.const 0) .now
def Dma.CHAIN_HI : Field := fld "CHAIN_HI" 0x00C 0 32 .rw (.const 0) .now
def Dma.STATUS_LO : Field := fld "STATUS_LO" 0x010 5 27 .rw (.const 0) .now
def Dma.STATUS_HI : Field := fld "STATUS_HI" 0x014 0 32 .rw (.const 0) .now
def Dma.XFER_SEQ : Field := fld "XFER_SEQ" 0x018 0 32 .ro (.const 0) .now
def Dma.DB_IGNORED : Field := fld "DB_IGNORED" 0x01C 0 32 .rc (.const 0) .now
def Dma.BYTES_LO : Field := fld "BYTES_LO" 0x020 0 32 .ro (.const 0) .now
def Dma.BYTES_HI : Field := fld "BYTES_HI" 0x024 0 32 .ro (.const 0) .now
def Dma.LAST_CRC : Field := fld "LAST_CRC" 0x028 0 32 .ro (.const 0) .now

def Db.DOORBELL : Field := fld "DOORBELL" 0x3000 0 32 .wo (.const 0) .now (stride := 128) (count := 64)
def Db.STATE : Field := fld "STATE" 0x3004 0 2 .ro (.const 0) .now (stride := 128) (count := 64)
def Db.CUR_LO : Field := fld "CUR_LO" 0x3008 0 32 .ro (.const 0) .now (stride := 128) (count := 64)
def Db.CUR_HI : Field := fld "CUR_HI" 0x300C 0 32 .ro (.const 0) .now (stride := 128) (count := 64)

def Mover.BUSY : Field := fld "BUSY" 0x000 0 1 .ro (.const 0) .now
def Mover.LAST_ALIGN : Field := fld "LAST_ALIGN" 0x004 0 32 .ro (.const 0) .now
def Mover.BYTES : Field := fld "BYTES" 0x008 0 32 .rc (.const 0) .now

def Axis.MODE : Field := fld "MODE" 0x000 0 2 .sh (.const 0) .job
def Axis.DIR_INV : Field := fld "DIR_INV" 0x000 2 1 .sh (.const 0) .job
def Axis.VMOT_SEL : Field := fld "VMOT_SEL" 0x000 3 1 .sh (.const 0) .job
def Axis.SOFT_EN : Field := fld "SOFT_EN" 0x000 4 1 .sh (.const 0) .job
def Axis.STALL_EN : Field := fld "STALL_EN" 0x000 5 1 .sh (.const 0) .job
def Axis.EN_LOW : Field := fld "EN_LOW" 0x000 6 1 .sh (.const 0) .job
def Axis.PWM_KHZ : Field := fld "PWM_KHZ" 0x004 0 7 .sh (.const 40) .job
def Axis.DEAD_TICKS : Field := fld "DEAD_TICKS" 0x004 8 8 .sh (.const 0x50) .job
def Axis.ELEC_OFS : Field := fld "ELEC_OFS" 0x004 16 10 .sh (.const 0x0) .job
def Axis.I_RUN : Field := fld "I_RUN" 0x008 0 16 .sh (.const 1000) .job
def Axis.I_HOLD : Field := fld "I_HOLD" 0x008 16 16 .sh (.const 500) .job
def Axis.HOLD_DELAY : Field := fld "HOLD_DELAY" 0x00C 0 16 .sh (.const 100) .job
def Axis.R_NOM : Field := fld "R_NOM" 0x010 0 24 .sh (.const 0) .job
def Axis.L_NOM : Field := fld "L_NOM" 0x014 0 24 .sh (.const 0) .job
def Axis.KE_NOM : Field := fld "KE_NOM" 0x018 0 24 .sh (.const 0) .job
def Axis.VMAX : Field := fld "VMAX" 0x01C 0 24 .sh (.const 100000) .job
def Axis.AMAX : Field := fld "AMAX" 0x020 0 32 .sh (.const 1000000) .job
def Axis.AQUICK : Field := fld "AQUICK" 0x024 0 32 .sh (.const 4000000) .job
def Axis.SOFT_MIN_LO : Field := fld "SOFT_MIN_LO" 0x028 0 32 .sh (.const 0x0) .job
def Axis.SOFT_MIN_HI : Field := fld "SOFT_MIN_HI" 0x02C 0 8 .sh (.const 0x80) .job
def Axis.SOFT_MAX_LO : Field := fld "SOFT_MAX_LO" 0x030 0 32 .sh (.const 0xFFFFFFFF) .job
def Axis.SOFT_MAX_HI : Field := fld "SOFT_MAX_HI" 0x034 0 8 .sh (.const 0x7F) .job
def Axis.DEBOUNCE : Field := fld "DEBOUNCE" 0x038 0 10 .sh (.const 100) .job
def Axis.IN_LOW : Field := fld "IN_LOW" 0x038 10 4 .sh (.const 0x0) .job
def Axis.IN_EN : Field := fld "IN_EN" 0x038 14 4 .sh (.const 0x0) .job
def Axis.STEP_WIDTH : Field := fld "STEP_WIDTH" 0x03C 0 8 .sh (.const 0x50) .job
def Axis.DIR_SETUP : Field := fld "DIR_SETUP" 0x03C 8 8 .sh (.const 0xA0) .job
def Axis.STALL_FRAC : Field := fld "STALL_FRAC" 0x040 0 8 .sh (.const 0x40) .job
def Axis.STALL_CYCLES : Field := fld "STALL_CYCLES" 0x040 8 8 .sh (.const 4) .job
def Axis.POS_LO : Field := fld "POS_LO" 0x080 0 32 .ro (.const 0) .now
def Axis.POS_HI : Field := fld "POS_HI" 0x084 0 8 .ro (.const 0) .now
def Axis.VEL : Field := fld "VEL" 0x088 0 32 .ro (.const 0) .now
def Axis.MOTION : Field := fld "MOTION" 0x08C 0 3 .ro (.const 0) .now
def Axis.KEPT : Field := fld "KEPT" 0x08C 3 1 .ro (.const 0) .now
def Axis.HOMED : Field := fld "HOMED" 0x08C 4 1 .ro (.const 0) .now
def Axis.REF_UNVERIFIED : Field := fld "REF_UNVERIFIED" 0x08C 5 1 .ro (.const 1) .now
def Axis.UNIDENTIFIED : Field := fld "UNIDENTIFIED" 0x08C 6 1 .ro (.const 1) .now (mram := true)
def Axis.VOLTAGE_LIMIT : Field := fld "VOLTAGE_LIMIT" 0x08C 7 1 .ro (.const 0) .now
def Axis.OWNED : Field := fld "OWNED" 0x08C 8 1 .ro (.const 0) .now
def Axis.QUEUE_LEVEL : Field := fld "QUEUE_LEVEL" 0x08C 9 6 .ro (.const 0) .now
def Axis.FAULT : Field := fld "FAULT" 0x08C 16 4 .ro (.const 0) .now
def Axis.INPUTS : Field := fld "INPUTS" 0x08C 20 4 .ro (.const 0) .now
def Axis.REMAIN_LO : Field := fld "REMAIN_LO" 0x090 0 32 .ro (.const 0) .now
def Axis.REMAIN_HI : Field := fld "REMAIN_HI" 0x094 0 8 .ro (.const 0) .now
def Axis.VMOT_MV : Field := fld "VMOT_MV" 0x098 0 16 .ro (.const 0) .now
def Axis.POS_EPOCH : Field := fld "POS_EPOCH" 0x098 16 16 .ro (.const 0) .now
def Axis.DUTY_A : Field := fld "DUTY_A" 0x09C 0 16 .ro (.const 0) .now
def Axis.DUTY_B : Field := fld "DUTY_B" 0x09C 16 16 .ro (.const 0) .now
def Axis.R_ID : Field := fld "R_ID" 0x0A0 0 24 .ro (.const 0) .now (mram := true)
def Axis.ID_VALID : Field := fld "ID_VALID" 0x0A0 31 1 .ro (.const 0) .now (mram := true)
def Axis.L_ID : Field := fld "L_ID" 0x0A4 0 24 .ro (.const 0) .now (mram := true)
def Axis.KE_ID : Field := fld "KE_ID" 0x0A8 0 24 .ro (.const 0) .now (mram := true)
def Axis.LATCH_LO : Field := fld "LATCH_LO" 0x0AC 0 32 .ro (.const 0) .now
def Axis.LATCH_HI : Field := fld "LATCH_HI" 0x0B0 0 8 .ro (.const 0) .now
def Axis.VLIMIT_UPDATES : Field := fld "VLIMIT_UPDATES" 0x0B4 0 32 .rc (.const 0) .now

def Belay.SCAN_SPEED : Field := fld "SCAN_SPEED" 0x100 0 24 .sh (.const 0x0) .job
def Belay.SW_MIN_SPEED : Field := fld "SW_MIN_SPEED" 0x104 0 24 .sh (.const 0x0) .job
def Belay.SW_ACCEL : Field := fld "SW_ACCEL" 0x108 0 32 .sh (.const 100000) .job
def Belay.SW_MARK : Field := fld "SW_MARK" 0x10C 0 8 .sh (.const 0x80) .job
def Belay.SW_EN : Field := fld "SW_EN" 0x10C 8 1 .sh (.const 1) .job
def Belay.PASS_RETURN : Field := fld "PASS_RETURN" 0x10C 9 1 .sh (.const 0) .job
def Belay.DRIFT_REF : Field := fld "DRIFT_REF" 0x10C 10 2 .sh (.const 0) .job
def Belay.SCAN_START_LO : Field := fld "SCAN_START_LO" 0x110 0 32 .sh (.const 0x0) .job
def Belay.SCAN_START_HI : Field := fld "SCAN_START_HI" 0x114 0 8 .sh (.const 0x0) .job
def Belay.BELAY_DECEL : Field := fld "BELAY_DECEL" 0x118 0 32 .sh (.const 1000000) .job
def Belay.BELAY_ACCEL : Field := fld "BELAY_ACCEL" 0x11C 0 32 .sh (.const 1000000) .job
def Belay.BELAY_BACK_SPEED : Field := fld "BELAY_BACK_SPEED" 0x120 0 24 .sh (.const 100000) .job
def Belay.BELAY_SETTLE : Field := fld "BELAY_SETTLE" 0x124 0 24 .sh (.const 4096) .job
def Belay.DRIFT_MS : Field := fld "DRIFT_MS" 0x128 0 32 .sh (.const 10000) .job
def Belay.PARK_MAX : Field := fld "PARK_MAX" 0x12C 0 32 .sh (.const 60000) .job
def Belay.DRIFT_TOL : Field := fld "DRIFT_TOL" 0x130 0 16 .sh (.const 16) .job
def Belay.BELAY_STATE : Field := fld "BELAY_STATE" 0x140 0 3 .ro (.const 0) .now
def Belay.CAUSES : Field := fld "CAUSES" 0x140 3 3 .ro (.const 0) .now
def Belay.FILL : Field := fld "FILL" 0x140 8 8 .ro (.const 0) .now
def Belay.SW_TARGET : Field := fld "SW_TARGET" 0x144 0 24 .ro (.const 0) .now
def Belay.APPROACH_SPEED : Field := fld "APPROACH_SPEED" 0x148 0 24 .ro (.const 0) .now
def Belay.BELAYS : Field := fld "BELAYS" 0x14C 0 32 .rc (.const 0) .now
def Belay.PARK_LAST : Field := fld "PARK_LAST" 0x150 0 32 .ro (.const 0) .now
def Belay.DRIFT_LAST : Field := fld "DRIFT_LAST" 0x154 0 32 .ro (.const 0) .now
def Belay.SEAM_LO : Field := fld "SEAM_LO" 0x158 0 32 .ro (.const 0) .now
def Belay.SEAM_HI : Field := fld "SEAM_HI" 0x15C 0 8 .ro (.const 0) .now

def Str.ROLE : Field := fld "ROLE" 0x000 0 2 .sh (.const 0) .job
def Str.SETPOINT : Field := fld "SETPOINT" 0x004 0 16 .sh (.const 0x0) .line
def Str.RSENSE : Field := fld "RSENSE" 0x008 0 24 .sh (.const 0x1388) .job
def Str.V_FAULT_FRAC : Field := fld "V_FAULT_FRAC" 0x00C 0 8 .sh (.const 24) .job
def Str.V_WARN_FRAC : Field := fld "V_WARN_FRAC" 0x00C 8 8 .sh (.const 8) .job
def Str.VREF_MV : Field := fld "VREF_MV" 0x010 0 16 .ro (.const 0) .now (mram := true)
def Str.CAL_OK : Field := fld "CAL_OK" 0x010 16 1 .ro (.const 0) .now (mram := true)
def Str.V_LAST_MV : Field := fld "V_LAST_MV" 0x014 0 16 .ro (.const 0) .now
def Str.I_LAST_MA : Field := fld "I_LAST_MA" 0x014 16 16 .ro (.const 0) .now
def Str.LIT : Field := fld "LIT" 0x018 0 1 .ro (.const 0) .now
def Str.SPARE_IN : Field := fld "SPARE_IN" 0x018 1 1 .ro (.const 0) .now
def Str.SPARE_OK : Field := fld "SPARE_OK" 0x018 2 1 .ro (.const 0) .now (mram := true)
def Str.FAULT : Field := fld "FAULT" 0x018 3 4 .ro (.const 0) .now
def Str.SPARE_DELTA : Field := fld "SPARE_DELTA" 0x01C 0 16 .ro (.const 0) .now (mram := true)
def Str.DELTA_VALID : Field := fld "DELTA_VALID" 0x01C 16 1 .ro (.const 0) .now (mram := true)
def Str.MEASURED : Field := fld "MEASURED" 0x020 0 32 .rc (.const 0) .now

def Lamp.PORT : Field := fld "PORT" 0x000 0 3 .sh (.const 0) .job
def Lamp.BOUND : Field := fld "BOUND" 0x000 3 1 .sh (.const 0) .job
def Lamp.LEAD : Field := fld "LEAD" 0x000 4 1 .sh (.const 0) .job
def Lamp.POLICY : Field := fld "POLICY" 0x000 5 2 .sh (.const 0) .job
def Lamp.ON : Field := fld "ON" 0x000 7 1 .sh (.const 0) .line
def Lamp.CHAIN_ILLUM : Field := fld "CHAIN_ILLUM" 0x000 8 1 .sh (.const 0) .job
def Lamp.STROBE_DELAY : Field := fld "STROBE_DELAY" 0x004 0 20 .sh (.const 0x0) .line
def Lamp.STROBE_LEN : Field := fld "STROBE_LEN" 0x008 0 24 .sh (.const 0x0) .line
def Lamp.DIAG_ROW : Field := fld "DIAG_ROW" 0x00C 0 24 .sh (.const 0x0) .job
def Lamp.DIAG_OFFSET : Field := fld "DIAG_OFFSET" 0x010 0 20 .sh (.const 0x0) .job
def Lamp.BUCK_KHZ : Field := fld "BUCK_KHZ" 0x014 0 11 .sh (.const 1000) .job
def Lamp.DARK : Field := fld "DARK" 0x020 0 1 .ro (.const 0) .now
def Lamp.RELIGHT_PENDING : Field := fld "RELIGHT_PENDING" 0x020 1 1 .ro (.const 0) .now
def Lamp.SPARE_USED : Field := fld "SPARE_USED" 0x020 2 1 .ro (.const 0) .now (mram := true)
def Lamp.MEAS_STROBE : Field := fld "MEAS_STROBE" 0x024 0 24 .ro (.const 0) .now
def Lamp.UNVERIFIED_LINES : Field := fld "UNVERIFIED_LINES" 0x028 0 32 .rc (.const 0) .now
def Lamp.INVALID_LINES : Field := fld "INVALID_LINES" 0x02C 0 32 .rc (.const 0) .now
def Lamp.DIAG_PULSES : Field := fld "DIAG_PULSES" 0x030 0 32 .rc (.const 0) .now

def Chain.DRIVERS : Field := fld "DRIVERS" 0x000 0 9 .sh (.const 1) .job
def Chain.WORDS : Field := fld "WORDS" 0x000 9 4 .sh (.const 0) .job
def Chain.WORD_BITS_M1 : Field := fld "WORD_BITS_M1" 0x000 13 4 .sh (.const 7) .job
def Chain.LATCH_KIND : Field := fld "LATCH_KIND" 0x000 17 2 .sh (.const 2) .job
def Chain.CHAIN_PORT : Field := fld "CHAIN_PORT" 0x000 19 3 .sh (.const 0) .job
def Chain.CHAIN_EN : Field := fld "CHAIN_EN" 0x000 22 1 .sh (.const 0) .job
def Chain.CHAIN_KHZ : Field := fld "CHAIN_KHZ" 0x004 0 16 .sh (.const 10000) .job
def Chain.FRAME_TICKS : Field := fld "FRAME_TICKS" 0x008 0 32 .sh (.const 16000000) .job
def Chain.CHAIN_RESTART : Field := fld "CHAIN_RESTART" 0x00C 0 1 .w1s (.const 0) .now
def Chain.CHAIN_FAULT : Field := fld "CHAIN_FAULT" 0x00C 1 1 .ro (.const 0) .now
def Chain.LEN_FAULT : Field := fld "LEN_FAULT" 0x00C 2 1 .ro (.const 0) .now
def Chain.FRAMES : Field := fld "FRAMES" 0x010 0 32 .rc (.const 0) .now
def Chain.MISMATCHES : Field := fld "MISMATCHES" 0x014 0 16 .rc (.const 0) .now
def Chain.LATE : Field := fld "LATE" 0x014 16 16 .rc (.const 0) .now
def Chain.LEN_MEASURED : Field := fld "LEN_MEASURED" 0x018 0 17 .ro (.const 0) .now

def Hare.EFFECT : Field := fld "EFFECT" 0x000 0 2 .rw (.const 0) .now
def Hare.TARGET_STR : Field := fld "TARGET_STR" 0x000 2 1 .rw (.const 0) .now
def Hare.GAMMA : Field := fld "GAMMA" 0x000 3 2 .rw (.const 2) .now
def Hare.RUN : Field := fld "RUN" 0x000 5 1 .rw (.const 0) .now
def Hare.REVERSE : Field := fld "REVERSE" 0x000 6 1 .rw (.const 0) .now
def Hare.SKIPPED : Field := fld "SKIPPED" 0x000 7 1 .w1c (.const 0) .now
def Hare.FIRST : Field := fld "FIRST" 0x004 0 12 .rw (.const 0x0) .now
def Hare.COUNT : Field := fld "COUNT" 0x004 16 13 .rw (.const 0x1) .now
def Hare.LEVEL_MIN : Field := fld "LEVEL_MIN" 0x008 0 16 .rw (.const 0x0) .now
def Hare.LEVEL_MAX : Field := fld "LEVEL_MAX" 0x008 16 16 .rw (.const 0xFFFF) .now
def Hare.PERIOD_MS : Field := fld "PERIOD_MS" 0x00C 0 16 .rw (.const 2000) .now
def Hare.STEP_MS : Field := fld "STEP_MS" 0x00C 16 16 .rw (.const 50) .now
def Hare.LENGTH : Field := fld "LENGTH" 0x010 0 8 .rw (.const 1) .now
def Hare.INDICATE_MS : Field := fld "INDICATE_MS" 0x010 16 16 .rw (.const 5000) .now
def Hare.INDICATIONS : Field := fld "INDICATIONS" 0x014 0 32 .rc (.const 0) .now
def Hare.STEP_LEVEL : Field := fld "STEP_LEVEL" 0x040 0 16 .rw (.const 0x0) .now (stride := 32) (count := 16)

def Job.ACTIVE_SLOT : Field := fld "ACTIVE_SLOT" 0x100 0 10 .ro (.const 0x0) .now
def Job.ACTIVE_VALID : Field := fld "ACTIVE_VALID" 0x100 10 1 .ro (.const 0) .now
def Job.STAGED_SLOT : Field := fld "STAGED_SLOT" 0x100 16 10 .ro (.const 0x0) .now
def Job.JOB_STATE : Field := fld "JOB_STATE" 0x100 26 3 .ro (.const 0) .now
def Job.END_PENDING : Field := fld "END_PENDING" 0x100 29 1 .ro (.const 0) .now
def Job.JOB_ID : Field := fld "JOB_ID" 0x104 0 32 .ro (.const 0) .now
def Job.STAGE_SEQ : Field := fld "STAGE_SEQ" 0x108 0 16 .ro (.const 0x0) .now
def Job.JOB_PORTS : Field := fld "JOB_PORTS" 0x108 16 8 .ro (.const 0x0) .now
def Job.DUE_REPEAT : Field := fld "DUE_REPEAT" 0x10C 0 32 .ro (.const 0xFFFFFFFF) .now
def Job.LAST_CHANGE : Field := fld "LAST_CHANGE" 0x110 0 32 .ro (.const 0) .now

def Rope.ROLE : Field := fld "ROLE" 0x000 0 2 .rw (.const 0) .reset (mram := true)
def Rope.DN_EN : Field := fld "DN_EN" 0x000 4 4 .rw (.const 0xF) .now
def Rope.NODE_ID : Field := fld "NODE_ID" 0x004 0 18 .rw (.const 0x3FFFF) .reset (mram := true)
def Rope.UP_STATE : Field := fld "UP_STATE" 0x010 0 2 .ro (.const 0) .now
def Rope.ALIGNED : Field := fld "ALIGNED" 0x010 2 1 .ro (.const 0) .now
def Rope.ANCHOR : Field := fld "ANCHOR" 0x010 3 1 .ro (.const 0) .now
def Rope.DEPTH : Field := fld "DEPTH" 0x010 4 4 .ro (.const 0) .now
def Rope.REFUSE : Field := fld "REFUSE" 0x010 8 4 .ro (.const 0) .now
def Rope.LEADER_NODE : Field := fld "LEADER_NODE" 0x014 0 18 .ro (.const 0x3FFFF) .now
def Rope.UP_DELAY : Field := fld "UP_DELAY" 0x018 0 16 .ro (.const 0) .now
def Rope.OFFSET_LAST : Field := fld "OFFSET_LAST" 0x01C 0 32 .ro (.const 0) .now
def Rope.RATE : Field := fld "RATE" 0x020 0 32 .ro (.const 0) .now
def Rope.MEMBERS : Field := fld "MEMBERS" 0x024 0 18 .ro (.const 1) .now
def Rope.CRC_ERRORS : Field := fld "CRC_ERRORS" 0x028 0 16 .rc (.const 0) .now
def Rope.RETRIES : Field := fld "RETRIES" 0x028 16 16 .rc (.const 0) .now
def Rope.BREAKS : Field := fld "BREAKS" 0x02C 0 16 .rc (.const 0) .now
def Rope.MSG_DROPPED : Field := fld "MSG_DROPPED" 0x02C 16 16 .rc (.const 0) .now
def Rope.STEP_LAST : Field := fld "STEP_LAST" 0x030 0 32 .ro (.const 0) .now
def Rope.JOB_REFUSED_NODE : Field := fld "JOB_REFUSED_NODE" 0x034 0 18 .ro (.const 0x3FFFF) .now
def Rope.JOB_REFUSALS : Field := fld "JOB_REFUSALS" 0x038 0 32 .rc (.const 0) .now
def Rope.LINK : Field := fld "LINK" 0x040 0 2 .ro (.const 0) .now (stride := 256) (count := 4)
def Rope.DN_REFUSE : Field := fld "REFUSE" 0x040 2 4 .ro (.const 0) .now (stride := 256) (count := 4)
def Rope.SUB_STATE : Field := fld "SUB_STATE" 0x040 8 4 .ro (.const 0) .now (stride := 256) (count := 4)
def Rope.SUB_WORST_NODE : Field := fld "SUB_WORST_NODE" 0x044 0 18 .ro (.const 0x3FFFF) .now (stride := 256) (count := 4)
def Rope.SUB_COUNT : Field := fld "SUB_COUNT" 0x048 0 18 .ro (.const 0) .now (stride := 256) (count := 4)
def Rope.DELAY : Field := fld "DELAY" 0x04C 0 16 .ro (.const 0) .now (stride := 256) (count := 4)
def Rope.SUB_MEMBERS : Field := fld "SUB_MEMBERS" 0x050 0 18 .ro (.const 0) .now (stride := 256) (count := 4)
def Rope.MARK_SRC : Field := fld "MARK_SRC" 0x0C0 0 18 .rc (.const 0) .now
def Rope.MARK_DROPPED : Field := fld "MARK_DROPPED" 0x0C0 30 1 .rc (.const 0) .now
def Rope.MARK_VALID : Field := fld "MARK_VALID" 0x0C0 31 1 .rc (.const 0) .now
def Rope.MARK_DATA : Field := fld "MARK_DATA" 0x0C4 0 32 .ro (.const 0) .now
def Rope.MARK_TIME_LO : Field := fld "MARK_TIME_LO" 0x0C8 0 32 .ro (.const 0) .now
def Rope.MARK_TIME_HI : Field := fld "MARK_TIME_HI" 0x0CC 0 32 .ro (.const 0) .now

def Mem.MAX_MTS : Field := fld "MAX_MTS" 0x000 0 2 .rw (.const 0) .reset (mram := true)
def Mem.ECC_EN : Field := fld "ECC_EN" 0x000 2 1 .rw (.const 0) .reset (mram := true)
def Mem.RATE : Field := fld "RATE" 0x004 0 2 .ro (.const 0) .now
def Mem.CAPACITY : Field := fld "CAPACITY" 0x004 2 2 .ro (.const 0) .now
def Mem.ECC_ACTIVE : Field := fld "ECC_ACTIVE" 0x004 4 1 .ro (.const 0) .now
def Mem.CE_COUNT : Field := fld "CE_COUNT" 0x008 0 32 .rc (.const 0) .now
def Mem.UE_COUNT : Field := fld "UE_COUNT" 0x00C 0 32 .rc (.const 0) .now
def Mem.UE_ADDR_LO : Field := fld "UE_ADDR_LO" 0x010 0 32 .ro (.const 0) .now
def Mem.UE_ADDR_HI : Field := fld "UE_ADDR_HI" 0x014 0 3 .ro (.const 0) .now
def Mem.RESERVE_TOTAL : Field := fld "RESERVE_TOTAL" 0x018 0 17 .ro (.part) .now
def Mem.RESERVE_USED : Field := fld "RESERVE_USED" 0x01C 0 17 .ro (.const 0) .now (mram := true)
def Mem.SCRUB_HOURS : Field := fld "SCRUB_HOURS" 0x020 0 16 .rw (.const 24) .now
def Mem.SCRUB_PASSES : Field := fld "SCRUB_PASSES" 0x024 0 32 .rc (.const 0) .now
def Mem.BW_DEMAND : Field := fld "BW_DEMAND" 0x028 0 32 .ro (.const 0) .now
def Mem.BW_BUDGET : Field := fld "BW_BUDGET" 0x02C 0 32 .ro (.const 0) .now
def Mem.MRAM_SPARE_USED : Field := fld "MRAM_SPARE_USED" 0x100 0 16 .ro (.const 0) .now (mram := true)
def Mem.MRAM_MAX_WRITES : Field := fld "MRAM_MAX_WRITES" 0x104 0 32 .ro (.const 0) .now (mram := true)
def Mem.MRAM_CE : Field := fld "MRAM_CE" 0x108 0 32 .rc (.const 0) .now

def Sec.POLICY : Field := fld "POLICY" 0x000 0 32 .ro (.const 0) .now (mram := true)
def Sec.SVN_RUNNING : Field := fld "SVN_RUNNING" 0x004 0 16 .ro (.const 0) .now
def Sec.COUNTER : Field := fld "COUNTER" 0x004 16 16 .ro (.const 0) .now (mram := true)
def Sec.BOOT_SLOT : Field := fld "BOOT_SLOT" 0x008 0 1 .ro (.const 0) .now
def Sec.TRIAL : Field := fld "TRIAL" 0x008 1 1 .ro (.const 0) .now
def Sec.FALLBACK : Field := fld "FALLBACK" 0x008 2 1 .ro (.const 0) .now
def Sec.OWNER_FUSED : Field := fld "OWNER_FUSED" 0x008 3 1 .ro (.part) .now (mram := true)
def Sec.BOOT_FAIL0 : Field := fld "BOOT_FAIL0" 0x008 4 4 .ro (.const 0) .now
def Sec.BOOT_FAIL1 : Field := fld "BOOT_FAIL1" 0x008 8 4 .ro (.const 0) .now
def Sec.RECOVERED : Field := fld "RECOVERED" 0x008 12 1 .ro (.const 0) .now
def Sec.RECIPE_KEYS : Field := fld "RECIPE_KEYS" 0x00C 0 4 .ro (.const 0) .now (mram := true)
def Sec.DEBUG_OPEN : Field := fld "DEBUG_OPEN" 0x00C 4 1 .ro (.const 0) .now
def Sec.AUDIT_SEQ : Field := fld "AUDIT_SEQ" 0x010 0 32 .ro (.const 0) .now (mram := true)
def Sec.AUDIT_UNEXPORTED : Field := fld "AUDIT_UNEXPORTED" 0x014 0 17 .ro (.const 0) .now (mram := true)
def Sec.AUDIT_OVERWRITTEN : Field := fld "AUDIT_OVERWRITTEN" 0x018 0 32 .rc (.const 0) .now
def Sec.BOOT_RECOVER : Field := fld "BOOT_RECOVER" 0x01C 6 26 .wo (.const 0) .now
def Sec.FW_DIGEST : Field := fld "FW_DIGEST" 0x040 0 32 .ro (.const 0) .now (stride := 32) (count := 16)

def Pd.PD_STAT : Field := fld "PD_STAT" 0x200 0 24 .ro (.part) .now
def Pd.PD_BOOT : Field := fld "PD_BOOT" 0x204 0 24 .ro (.const 0xFFFFFF) .now (mram := true)
def Pd.PHASE : Field := fld "PHASE" 0x208 0 4 .ro (.const 0) .now
def Pd.READY : Field := fld "READY" 0x208 4 1 .ro (.const 0) .now
def Pd.START_FAIL : Field := fld "START_FAIL" 0x208 8 8 .ro (.const 0) .now
def Pd.START_US : Field := fld "START_US" 0x20C 0 16 .ro (.const 0) .now

def Frz.FROZEN : Field := fld "FROZEN" 0x000 0 1 .ro (.const 0) .now
def Frz.SOURCE : Field := fld "SOURCE" 0x000 1 2 .ro (.const 0) .now
def Frz.PIN_LOW : Field := fld "PIN_LOW" 0x000 3 1 .ro (.const 0) .now
def Frz.READOUT_OK : Field := fld "READOUT_OK" 0x000 4 1 .ro (.const 0) .now
def Frz.COUNT : Field := fld "COUNT" 0x000 16 16 .rc (.const 0) .now
def Frz.SEL_UID : Field := fld "SEL_UID" 0x004 0 16 .rw (.const 0x0) .now
def Frz.SEL_BANK : Field := fld "SEL_BANK" 0x004 16 8 .rw (.const 0x0) .now
def Frz.FRZ_TIME_LO : Field := fld "FRZ_TIME_LO" 0x008 0 32 .ro (.const 0) .now
def Frz.FRZ_TIME_HI : Field := fld "FRZ_TIME_HI" 0x00C 0 32 .ro (.const 0) .now
def Frz.FRZ_LEN_LO : Field := fld "FRZ_LEN_LO" 0x010 0 32 .ro (.const 0) .now
def Frz.BANKS : Field := fld "BANKS" 0x014 0 8 .ro (.const 0) .now
def Frz.FRZ_LEN_HI : Field := fld "FRZ_LEN_HI" 0x018 0 32 .ro (.const 0) .now
def Frz.FRZ_DATA : Field := fld "FRZ_DATA" 0x1000 0 32 .ro (.const 0) .now (stride := 32) (count := 1024)

def Th.TJ : Field := fld "TJ" 0x300 0 16 .ro (.const 0x0) .now
def Th.HOT_RATE : Field := fld "HOT_RATE" 0x300 16 1 .rw (.const 0) .reset (mram := true)
def Th.ABOVE_RATE : Field := fld "ABOVE_RATE" 0x300 17 1 .ro (.const 0) .now
def Th.WARN : Field := fld "WARN" 0x300 18 1 .ro (.const 0) .now
def Th.TJ_WARN : Field := fld "TJ_WARN" 0x304 0 16 .rw (.const 1600) .now (mram := true)
def Th.TJ_PEAK : Field := fld "TJ_PEAK" 0x304 16 16 .rc (.const 0x0) .now
def Th.VREG_ADDR : Field := fld "VREG_ADDR" 0x308 0 7 .rw (.const 0x40) .reset (mram := true)
def Th.VREG_PAGE : Field := fld "VREG_PAGE" 0x308 8 8 .rw (.const 0xFF) .now (mram := true)
def Th.VCORE_NOM_MV : Field := fld "VCORE_NOM_MV" 0x30C 0 16 .ro (.const 750) .now
def Th.VCORE_MAX_MV : Field := fld "VCORE_MAX_MV" 0x30C 16 16 .ro (.const 900) .now
def Th.VCORE_READ : Field := fld "VCORE_READ" 0x310 0 16 .ro (.const 0) .now

/-- Result data words (R71). -/
def Res.RES_DATA : Field := fld "RES_DATA" 0xF04 0 32 .ro (.const 0) .now (stride := 32) (count := 16)
/-- MSI-X table (R68): address, data and vector control of each of the 64 entries, and the pending bits. -/
def Msix.ADDR_LO : Field := fld "MSIX_ADDR_LO" 0x000 0 32 .rw (.const 0) .now (stride := 128) (count := 64)
def Msix.ADDR_HI : Field := fld "MSIX_ADDR_HI" 0x004 0 32 .rw (.const 0) .now (stride := 128) (count := 64)
def Msix.DATA : Field := fld "MSIX_DATA" 0x008 0 32 .rw (.const 0) .now (stride := 128) (count := 64)
def Msix.MASK : Field := fld "MSIX_MASK" 0x00C 0 1 .rw (.const 1) .now (stride := 128) (count := 64)
def Msix.PBA : Field := fld "MSIX_PBA" 0x000 0 1 .ro (.const 0) .now (stride := 1) (count := 64)

/-- The fields of the Pace page or block (R39). -/
def tabPace : List Field :=
  [Pace.HEADROOM, Pace.MIN_HEADROOM, Pace.LOW, Pace.CRITICAL, Pace.SUPPLY_FAIL, Pace.SUPPLY_REQ_EN, Pace.MIN_CLEAR,
   Pace.WORST_UID, Pace.VCORE_REQ]

/-- The fields of the Id page or block (R69). -/
def tabId : List Field :=
  [Id.BL_SUPPORTED, Id.PART, Id.GRADE, Id.SILICON_REV, Id.FW_VERSION, Id.SERIAL]

/-- The fields of the Tim page or block (R69). -/
def tabTim : List Field :=
  [Tim.TIME_LO, Tim.TIME_HI, Tim.RATE, Tim.WIDTH, Tim.DEGRADED, Tim.APERTURE_BASE, Tim.WRITE_EN, Tim.DENIED]

/-- The fields of the Cmd page or block (R70, R82, R93). -/
def tabCmd : List Field :=
  [Cmd.UID, Cmd.BAD, Cmd.URGENT_FREE, Cmd.NORMAL_FREE, Cmd.URGENT_OVF, Cmd.NORMAL_OVF, Cmd.FROZEN, Cmd.SEQ_RUNNING,
   Cmd.RESYNC_URGENT, Cmd.RESYNC_NORMAL, Cmd.CMD_SEQ, Cmd.NORMAL_DONE, Cmd.SEQ_HEARTBEAT, Cmd.UNDERRUN, Cmd.LENGTH,
   Cmd.LEVEL, Cmd.REPLY_LEVEL, Cmd.LOST, Cmd.UNDERRUN_STICKY]

/-- The fields of the Res page or block (R71). -/
def tabRes : List Field :=
  [Res.TAG, Res.OVERWRITTEN, Res.VALID, Res.RES_DATA]

/-- The fields of the Evt page or block (R98). -/
def tabEvt : List Field :=
  [Evt.BASE_LO, Evt.BASE_HI, Evt.ENABLE, Evt.HOLDOFF, Evt.EVT_WR, Evt.WR_PHASE, Evt.EVT_RD, Evt.RD_ERR, Evt.EVT_LOST]

/-- The fields of the Map page or block (R99). -/
def tabMap : List Field :=
  [Map.VECTOR, Map.IRQ_EN, Map.RING_EN]

/-- The fields of the Port page or block (R112, R159). -/
def tabPort : List Field :=
  [Port.LINE_UNITS, Port.PLANES, Port.CAPTURE, Port.SHUTTER, Port.READOUT_LAG, Port.MODE, Port.LINE_PERIOD_MIN,
   Port.NOMINAL_PERIOD, Port.PLANE_LAG, Port.BANK, Port.OUT_EN, Port.PG_IDLE, Port.COUNT_A, Port.COUNT_B, Port.STEP,
   Port.BANK_ACTIVE, Port.EXECUTING, Port.LOADED0, Port.LOADED1, Port.FIRE_PENDING, Port.EXP_TIME, Port.EXP_DELAY,
   Port.EXP_GAP_MIN, Port.EXP_PIN, Port.EXP_EN, Port.EXP_POL, Port.CLAMPED_LINES, Port.LAST_EXP, Port.LAST_PERIOD,
   Port.ROT_EN, Port.ROT_PERIOD, Port.RELIEVED, Port.PHASE, Port.SPARE_GONE, Port.SPARE_TAP, Port.CAL_SPACING,
   Port.CAL_TP]

/-- The fields of the Tap page or block (R137). -/
def tabTap : List Field :=
  [Tap.FIRST, Tap.PLANE, Tap.STRIDE, Tap.DESCEND, Tap.EN, Tap.COUNT, Tap.SKIP, Tap.OB, Tap.GAIN_CODE, Tap.CDS_OFF,
   Tap.INVERT, Tap.COARSE_OFS]

/-- The fields of the Afe page or block (R143). -/
def tabAfe : List Field :=
  [Afe.TAP, Afe.SUSPECT, Afe.STALE, Afe.FAILS, Afe.CAL_OFS, Afe.CAL_GAIN, Afe.STG_OFS, Afe.STG_GAIN, Afe.STG_VALID,
   Afe.CAL_AGE, Afe.CAL_COUNT, Afe.DISCARDS]

/-- The fields of the CalRef page or block (R148). -/
def tabCalRef : List Field :=
  [CalRef.REF_NOMINAL_UV, CalRef.REF_TRIM_UV, CalRef.REF_TRACE_UV, CalRef.REF_USE_UV, CalRef.TRACE_TJ,
   CalRef.TRACE_COUNT, CalRef.DAC_CODE, CalRef.DAC_PORT]

/-- The fields of the LaneRx page or block (R167). -/
def tabLaneRx : List Field :=
  [LaneRx.LANE_EN, LaneRx.WORD, LaneRx.FRAMING, LaneRx.LSB_FIRST, LaneRx.IO_STD, LaneRx.TERM_EN, LaneRx.CLK_SHARED,
   LaneRx.SYNC_SOL, LaneRx.SYNC_EOL, LaneRx.LATENCY_MAX, LaneRx.TRAIN_WORD, LaneRx.LANE_MBPS, LaneRx.LOCKED,
   LaneRx.FAULT_STICKY, LaneRx.FAULT_LINES, LaneRx.BIT_DELAY, LaneRx.WORD_DELAY, LaneRx.LAST_FAULT]

/-- The fields of the Enc page or block (R174). -/
def tabEnc : List Field :=
  [Enc.TYPE, Enc.DIFF, Enc.FILTER, Enc.Z_EN, Enc.Z_DOWN, Enc.WR_IGNORED, Enc.COUNT, Enc.LAST_TIME, Enc.CPR, Enc.QERR,
   Enc.ZERR, Enc.DIR, Enc.RATE_FAULT]

/-- The fields of the Lc page or block (R175). -/
def tabLc : List Field :=
  [Lc.ENC_SEL, Lc.AXIS_SEL, Lc.EST_SPAN, Lc.ACCEL_COMP, Lc.FWD_DOWN, Lc.PITCH_LO, Lc.PITCH_HI, Lc.EXTRAP_MAX,
   Lc.STOP_TICKS, Lc.REPEAT_SRC, Lc.MARK_COND, Lc.INPUT_GPIO, Lc.INPUT_FALL, Lc.REPEAT_LINES, Lc.REPEAT_OFFSET,
   Lc.MARK_WINDOW, Lc.EST_STATE, Lc.ACCEL_ACTIVE, Lc.SETTLE_LEFT, Lc.TICKS_PER_COUNT, Lc.LINE_LO, Lc.LINE_HI,
   Lc.PHASE_LO, Lc.PHASE_HI, Lc.REPEAT_NUM, Lc.REPEAT_MEAS, Lc.OVERSPEED_LINES, Lc.SKIPPED_LINES, Lc.MARK_MISSED,
   Lc.REPEAT_LATE]

/-- The fields of the Pipe page or block (R214). -/
def tabPipe : List Field :=
  [Pipe.REPLACE_EN, Pipe.CLAMP_EN, Pipe.TEMP_SRC, Pipe.NORM_SRC, Pipe.WT_SRC, Pipe.WT_SHIFT, Pipe.OUT_BITS,
   Pipe.TEMP_HOST, Pipe.WT_FIRST, Pipe.WT_COUNT, Pipe.WT_ROW_FIRST, Pipe.WT_ROW_COUNT, Pipe.ACTIVE_SET,
   Pipe.STAGED_SET, Pipe.ACTIVE_OK, Pipe.STAGED_OK, Pipe.BLACK_LEFT, Pipe.WHITE_LEFT, Pipe.TEMP_LAST, Pipe.TEMP_BAD,
   Pipe.CLAMP_RESTARTS, Pipe.WHITE_RESTARTS, Pipe.ECC_CORRECTED, Pipe.CLAMP_DELTA, Pipe.WT_FACTOR, Pipe.WT_MEAN]

/-- The fields of the Lane page or block (R242). -/
def tabLane : List Field :=
  [Lane.PHYS, Lane.RETIRED, Lane.SELFTEST_OK, Lane.SAMPLES]

/-- The fields of the Clus page or block (R242). -/
def tabClus : List Field :=
  [Clus.PORT, Clus.EN, Clus.COL_FIRST, Clus.COL_UNITS, Clus.LANE_GOOD, Clus.SPARE_FREE, Clus.CTX_SEL]

/-- The fields of the RefSt page or block (R604). -/
def tabRefSt : List Field :=
  [RefSt.ACTIVE, RefSt.STAGED_OK, RefSt.STAGE_LOST, RefSt.SLOT_MIB, RefSt.REF_ECC]

/-- The fields of the Ctx page or block (R257). -/
def tabCtx : List Field :=
  [Ctx.IMAGE, Ctx.TR_MODE, Ctx.LAT_SHIFT, Ctx.SETTLE_REPEATS, Ctx.SETTLE_SUPPRESS, Ctx.LAT_HOLD, Ctx.SHEAR_FIXED,
   Ctx.V_TRIM, Ctx.BLOB_MAX_LINES, Ctx.WIN_FIRST, Ctx.WIN_COUNT, Ctx.LEVEL, Ctx.PLANE, Ctx.FALL, Ctx.EVID_PRE,
   Ctx.EVID_POST, Ctx.EVID_MARGIN, Ctx.LO, Ctx.HI, Ctx.MIN_AREA, Ctx.ACTION, Ctx.SHIFT_NOW, Ctx.SHEAR_NOW,
   Ctx.MEAS_NOW, Ctx.OPEN_BLOBS, Ctx.INSPECTING, Ctx.HELD_STOP, Ctx.DEFECTS, Ctx.SMALL, Ctx.OVERFLOW_RUNS,
   Ctx.OUTSIDE, Ctx.SUPPRESSED, Ctx.MISS_A, Ctx.MISS_B, Ctx.VERDICT_REPEAT, Ctx.VERDICT, Ctx.DEFECT_SEQ]

/-- The fields of the Trig page or block (R303). -/
def tabTrig : List Field :=
  [Trig.ARM_SRC, Trig.FREEZE_ALLOW, Trig.STATE, Trig.PLACE_WAIT, Trig.SOFT_FIRE, Trig.POOL_BASE, Trig.POOL_SIZE,
   Trig.POOL_USED, Trig.OPEN_WINDOWS, Trig.SPLICE_GPIO, Trig.SPLICE_FALL, Trig.SPLICE_MIN, Trig.GPIO_FILTER,
   Trig.GPIO_OUT_EN, Trig.GPIO_IN, Trig.NO_JOB, Trig.NO_POOL, Trig.NO_SLOT, Trig.FIRE_SUPPRESSED, Trig.FC_CONDITIONS,
   Trig.FC_TIME_LO, Trig.FC_TIME_HI, Trig.FC_PORT, Trig.FC_PLACED, Trig.FC_LINE, Trig.X_FIRST, Trig.X_COUNT,
   Trig.PLANE, Trig.FALL, Trig.EN, Trig.LEVEL, Trig.HYST, Trig.LAST_MEAN, Trig.CROSSINGS]

/-- The fields of the Cond page or block (R304). -/
def tabCond : List Field :=
  [Cond.VALUE_LO, Cond.VALUE_HI, Cond.MASK_LO, Cond.MASK_HI, Cond.EN, Cond.HOME_PORT, Cond.A_EVID, Cond.A_FIRE_ROPE,
   Cond.A_OUT, Cond.A_FREEZE, Cond.A_INDICATE, Cond.NOTIFY, Cond.HOLD_MODE, Cond.CLASS_MASK, Cond.HOLD,
   Cond.EVID_PRE, Cond.EVID_POST, Cond.CROP_FIRST, Cond.CROP_COUNT, Cond.OUT_GPIO, Cond.OUT_LOW,
   Cond.INDICATE_ENGINE, Cond.OUT_DELAY, Cond.OUT_WIDTH, Cond.TRIGGERS, Cond.DISCARDS, Cond.LAST_DEAD,
   Cond.MISSED_PENDING, Cond.REARMED, Cond.OUT_DROPPED]

/-- The fields of the Ring page or block (R309). -/
def tabRing : List Field :=
  [Ring.RING_BASE, Ring.RING_SIZE, Ring.BLOCK_LINES, Ring.HIGH_MARK, Ring.RESUME_MARK, Ring.BLOCK_IDLE,
   Ring.KEEP_LINES, Ring.CAPTURE_STOPPED, Ring.UNREAD, Ring.WRITE_OFF, Ring.COMMIT_OFF, Ring.READ_OFF,
   Ring.LOST_LINES, Ring.HIGH_LEVEL]

/-- The fields of the Dma page or block (R326). -/
def tabDma : List Field :=
  [Dma.SRC_KIND, Dma.SRC_PORT, Dma.RELAXED, Dma.IRQ_EVERY, Dma.CHUNK, Dma.FLUSH_TICKS, Dma.CHAIN_LO, Dma.CHAIN_HI,
   Dma.STATUS_LO, Dma.STATUS_HI, Dma.XFER_SEQ, Dma.DB_IGNORED, Dma.BYTES_LO, Dma.BYTES_HI, Dma.LAST_CRC]

/-- The fields of the Db page or block (R326). -/
def tabDb : List Field :=
  [Db.DOORBELL, Db.STATE, Db.CUR_LO, Db.CUR_HI]

/-- The fields of the Mover page or block (R341). -/
def tabMover : List Field :=
  [Mover.BUSY, Mover.LAST_ALIGN, Mover.BYTES]

/-- The fields of the Axis page or block (R351). -/
def tabAxis : List Field :=
  [Axis.MODE, Axis.DIR_INV, Axis.VMOT_SEL, Axis.SOFT_EN, Axis.STALL_EN, Axis.EN_LOW, Axis.PWM_KHZ, Axis.DEAD_TICKS,
   Axis.ELEC_OFS, Axis.I_RUN, Axis.I_HOLD, Axis.HOLD_DELAY, Axis.R_NOM, Axis.L_NOM, Axis.KE_NOM, Axis.VMAX,
   Axis.AMAX, Axis.AQUICK, Axis.SOFT_MIN_LO, Axis.SOFT_MIN_HI, Axis.SOFT_MAX_LO, Axis.SOFT_MAX_HI, Axis.DEBOUNCE,
   Axis.IN_LOW, Axis.IN_EN, Axis.STEP_WIDTH, Axis.DIR_SETUP, Axis.STALL_FRAC, Axis.STALL_CYCLES, Axis.POS_LO,
   Axis.POS_HI, Axis.VEL, Axis.MOTION, Axis.KEPT, Axis.HOMED, Axis.REF_UNVERIFIED, Axis.UNIDENTIFIED,
   Axis.VOLTAGE_LIMIT, Axis.OWNED, Axis.QUEUE_LEVEL, Axis.FAULT, Axis.INPUTS, Axis.REMAIN_LO, Axis.REMAIN_HI,
   Axis.VMOT_MV, Axis.POS_EPOCH, Axis.DUTY_A, Axis.DUTY_B, Axis.R_ID, Axis.ID_VALID, Axis.L_ID, Axis.KE_ID,
   Axis.LATCH_LO, Axis.LATCH_HI, Axis.VLIMIT_UPDATES]

/-- The fields of the Belay page or block (R386). -/
def tabBelay : List Field :=
  [Belay.SCAN_SPEED, Belay.SW_MIN_SPEED, Belay.SW_ACCEL, Belay.SW_MARK, Belay.SW_EN, Belay.PASS_RETURN,
   Belay.DRIFT_REF, Belay.SCAN_START_LO, Belay.SCAN_START_HI, Belay.BELAY_DECEL, Belay.BELAY_ACCEL,
   Belay.BELAY_BACK_SPEED, Belay.BELAY_SETTLE, Belay.DRIFT_MS, Belay.PARK_MAX, Belay.DRIFT_TOL, Belay.BELAY_STATE,
   Belay.CAUSES, Belay.FILL, Belay.SW_TARGET, Belay.APPROACH_SPEED, Belay.BELAYS, Belay.PARK_LAST, Belay.DRIFT_LAST,
   Belay.SEAM_LO, Belay.SEAM_HI]

/-- The fields of the Str page or block (R409). -/
def tabStr : List Field :=
  [Str.ROLE, Str.SETPOINT, Str.RSENSE, Str.V_FAULT_FRAC, Str.V_WARN_FRAC, Str.VREF_MV, Str.CAL_OK, Str.V_LAST_MV,
   Str.I_LAST_MA, Str.LIT, Str.SPARE_IN, Str.SPARE_OK, Str.FAULT, Str.SPARE_DELTA, Str.DELTA_VALID, Str.MEASURED]

/-- The fields of the Lamp page or block (R420). -/
def tabLamp : List Field :=
  [Lamp.PORT, Lamp.BOUND, Lamp.LEAD, Lamp.POLICY, Lamp.ON, Lamp.CHAIN_ILLUM, Lamp.STROBE_DELAY, Lamp.STROBE_LEN,
   Lamp.DIAG_ROW, Lamp.DIAG_OFFSET, Lamp.BUCK_KHZ, Lamp.DARK, Lamp.RELIGHT_PENDING, Lamp.SPARE_USED,
   Lamp.MEAS_STROBE, Lamp.UNVERIFIED_LINES, Lamp.INVALID_LINES, Lamp.DIAG_PULSES]

/-- The fields of the Chain page or block (R424). -/
def tabChain : List Field :=
  [Chain.DRIVERS, Chain.WORDS, Chain.WORD_BITS_M1, Chain.LATCH_KIND, Chain.CHAIN_PORT, Chain.CHAIN_EN,
   Chain.CHAIN_KHZ, Chain.FRAME_TICKS, Chain.CHAIN_RESTART, Chain.CHAIN_FAULT, Chain.LEN_FAULT, Chain.FRAMES,
   Chain.MISMATCHES, Chain.LATE, Chain.LEN_MEASURED]

/-- The fields of the Hare page or block (R426). -/
def tabHare : List Field :=
  [Hare.EFFECT, Hare.TARGET_STR, Hare.GAMMA, Hare.RUN, Hare.REVERSE, Hare.SKIPPED, Hare.FIRST, Hare.COUNT,
   Hare.LEVEL_MIN, Hare.LEVEL_MAX, Hare.PERIOD_MS, Hare.STEP_MS, Hare.LENGTH, Hare.INDICATE_MS, Hare.INDICATIONS,
   Hare.STEP_LEVEL]

/-- The fields of the Job page or block (R449). -/
def tabJob : List Field :=
  [Job.ACTIVE_SLOT, Job.ACTIVE_VALID, Job.STAGED_SLOT, Job.JOB_STATE, Job.END_PENDING, Job.JOB_ID, Job.STAGE_SEQ,
   Job.JOB_PORTS, Job.DUE_REPEAT, Job.LAST_CHANGE]

/-- The fields of the Rope page or block (R458). -/
def tabRope : List Field :=
  [Rope.ROLE, Rope.DN_EN, Rope.NODE_ID, Rope.UP_STATE, Rope.ALIGNED, Rope.ANCHOR, Rope.DEPTH, Rope.REFUSE,
   Rope.LEADER_NODE, Rope.UP_DELAY, Rope.OFFSET_LAST, Rope.RATE, Rope.MEMBERS, Rope.CRC_ERRORS, Rope.RETRIES,
   Rope.BREAKS, Rope.MSG_DROPPED, Rope.STEP_LAST, Rope.JOB_REFUSED_NODE, Rope.JOB_REFUSALS, Rope.LINK,
   Rope.DN_REFUSE, Rope.SUB_STATE, Rope.SUB_WORST_NODE, Rope.SUB_COUNT, Rope.DELAY, Rope.SUB_MEMBERS, Rope.MARK_SRC,
   Rope.MARK_DROPPED, Rope.MARK_VALID, Rope.MARK_DATA, Rope.MARK_TIME_LO, Rope.MARK_TIME_HI]

/-- The fields of the Mem page or block (R492). -/
def tabMem : List Field :=
  [Mem.MAX_MTS, Mem.ECC_EN, Mem.RATE, Mem.CAPACITY, Mem.ECC_ACTIVE, Mem.CE_COUNT, Mem.UE_COUNT, Mem.UE_ADDR_LO,
   Mem.UE_ADDR_HI, Mem.RESERVE_TOTAL, Mem.RESERVE_USED, Mem.SCRUB_HOURS, Mem.SCRUB_PASSES, Mem.BW_DEMAND,
   Mem.BW_BUDGET, Mem.MRAM_SPARE_USED, Mem.MRAM_MAX_WRITES, Mem.MRAM_CE]

/-- The fields of the Sec page or block (R523). -/
def tabSec : List Field :=
  [Sec.POLICY, Sec.SVN_RUNNING, Sec.COUNTER, Sec.BOOT_SLOT, Sec.TRIAL, Sec.FALLBACK, Sec.OWNER_FUSED, Sec.BOOT_FAIL0,
   Sec.BOOT_FAIL1, Sec.RECOVERED, Sec.RECIPE_KEYS, Sec.DEBUG_OPEN, Sec.AUDIT_SEQ, Sec.AUDIT_UNEXPORTED,
   Sec.AUDIT_OVERWRITTEN, Sec.BOOT_RECOVER, Sec.FW_DIGEST]

/-- The fields of the Pd page or block (R533). -/
def tabPd : List Field :=
  [Pd.PD_STAT, Pd.PD_BOOT, Pd.PHASE, Pd.READY, Pd.START_FAIL, Pd.START_US]

/-- The fields of the Frz page or block (R547). -/
def tabFrz : List Field :=
  [Frz.FROZEN, Frz.SOURCE, Frz.PIN_LOW, Frz.READOUT_OK, Frz.COUNT, Frz.SEL_UID, Frz.SEL_BANK, Frz.FRZ_TIME_LO,
   Frz.FRZ_TIME_HI, Frz.FRZ_LEN_LO, Frz.BANKS, Frz.FRZ_LEN_HI, Frz.FRZ_DATA]

/-- The fields of the Th page or block (R584). -/
def tabTh : List Field :=
  [Th.TJ, Th.HOT_RATE, Th.ABOVE_RATE, Th.WARN, Th.TJ_WARN, Th.TJ_PEAK, Th.VREG_ADDR, Th.VREG_PAGE, Th.VCORE_NOM_MV,
   Th.VCORE_MAX_MV, Th.VCORE_READ]

/-- The fields of the Msix page or block. -/
def tabMsix : List Field :=
  [Msix.ADDR_LO, Msix.ADDR_HI, Msix.DATA, Msix.MASK, Msix.PBA]

end Sys2Proof.Machine.R
end

