-- ==== Sys2Proof/Machine/LightTypes.lean ====
section
/-! DEFINITION. The plain-data types of lamp groups, the chain port and the Harebell engines (chapter 12). -/
namespace Sys2Proof.Machine

/-- A string: lit now, the pulse that a measurement will judge (line, start, length), lines lit since the last GOOD measurement, lines of the
port since the last measurement, whether wear was reported in this job, when its buck switched on, its INDICATOR duty, and its MRAM record: the
calibration results held (SENSE, VREF), the coefficients with the REF_USE_UV they were found against (R147, R408), and the last GOOD voltage. -/
structure StrSt where
  lit : Bool := false
  pulse : Option (Option Nat × Nat × Nat) := none
  pend : List Nat := []
  unmeas : Nat := 0
  wear : Bool := false
  buckOn : Option Nat := none
  duty : Nat := 0
  senseOk : Bool := false
  vrefOk : Bool := false
  ofs : Int := 0
  gain : Nat := 0
  ref : Nat := 0
  measAt : Nat := 0
  goodMv : Nat := 0
  sums : List Nat := []
  deriving DecidableEq, Repr

/-- What MRAM keeps of a string. -/
def StrSt.kept (x : StrSt) : StrSt := { senseOk := x.senseOk, vrefOk := x.vrefOk, ofs := x.ofs, gain := x.gain, ref := x.ref, goodMv := x.goodMv }
/-- A lamp group: aborted, the commits of the group and of its strings last taken up, the tick after the fire last strobed, the lines lately flagged LAMP_UNVERIFIED, the open strobe, the open and the due diagnosis pulse, the faulted
string with the tick of its detection, the boundary at which it is relit, the spare in service with its setpoint, the slot that a LAMP_CAL lights alone and the string
that its DELTA run measures (R418), the start of the pulse that its VREF run lights (R409), the repeat in which a diagnosis pulse fell due, and
repaired strings that wait for the next job boundary (R420). -/
structure LampSt where
  aborted : Bool := false
  seen : List Nat := List.replicate 6 0
  unver : List Nat := []
  next : Nat := 0
  strobe : Option (Nat × Nat) := none
  diag : Option Nat := none
  diagDue : Bool := false
  diagRow : Option Nat := none
  faultSlot : Option Nat := none
  detected : Nat := 0
  relit : Option (Nat × Nat) := none
  spareFor : Option Nat := none
  spareSp : Nat := 0
  only : Option Nat := none
  delta : Option Nat := none
  calAt : Option Nat := none
  dueRep : Nat := 0
  back : List Nat := []
  strs : List StrSt := List.replicate 5 {}
  deriving DecidableEq, Repr

/-- What MRAM keeps of a group: the spare in service (R416) and the records of its strings. -/
def LampSt.kept (l : LampSt) : LampSt := { spareFor := l.spareFor, spareSp := l.spareSp, strs := l.strs.map StrSt.kept }
/-- The chain port: whether it runs, the host image and the image waiting for the next latch, the frame being shifted or waiting for its latch, the
frame latched before it (frames as numbers, bit b of the frame at bit b), the start of the shift and whether it is the marker, successive
mismatches, a latch due at a boundary, the last latch, lines lit under a frame not verified, and lines since the last shift. -/
structure ChainSt where
  on : Bool := false
  stopped : Bool := false
  image : Nat := 0
  loaded : Option Nat := none
  frame : Nat := 0
  latched : Option Nat := none
  shift : Option Nat := none
  marker : Bool := false
  bad : Nat := 0
  due : Option Nat := none
  begin_ : Option Nat := none
  lastLatch : Nat := 0
  pend : List Nat := []
  lines : Nat := 0
  deriving DecidableEq, Repr

/-- A Harebell engine: when RUN was set, the indication (start, target channel or none), its next tick, and the output of each of its targets. -/
structure HareSt where
  run : Option Nat := none
  ind : Option (Nat × Option Nat) := none
  last : Nat := 0
  outs : List Nat := []
  deriving DecidableEq, Repr

end Sys2Proof.Machine
end

