-- ==== Sys2Proof/Machine/MotionTypes.lean ====
section
/-! DEFINITION. The plain-data types of an axis, of coordinated moves and of the Belay sequencer (chapters 10 and 11). -/
namespace Sys2Proof.Machine

/-- A move (R353): absolute target in microsteps, host speeds, tag, whether NOTIFY was set, and the number of its linked group (0: none). -/
structure AxMove where
  target : Int
  speed : Nat
  accel : Nat
  decel : Nat
  jerk : Nat
  tag : Nat
  notify : Bool
  link : Nat := 0
  deriving DecidableEq, Repr

/-- The profile generator (R349, R354, R355): speed along the direction of travel in 2^-64 microstep per update, acceleration in 2^-96
microstep per update², whether the move brakes, towards which speed and whether without jerk, and the residue correction in 2^-64 microstep per update. -/
structure Prof where
  v : Nat := 0
  a : Int := 0
  braking : Bool := false
  ve : Nat := 0
  hard : Bool := false
  corr : Option Int := none
  deriving DecidableEq, Repr

/-- A step of a homing sequence (R379). `run`: direction, whether at SEARCH_SPEED, what ends it (0 switch active, 1 switch inactive, 2 INDEX, 3
stall), and whether that point is the latched point. -/
inductive HStep where
  | run (dir : Int) (fast : Bool) (wait : Nat) (latch : Bool)
  | stop
  | back
  deriving DecidableEq, Repr

/-- A homing sequence in progress (R379, R380). -/
structure HomeSt where
  seq : Nat
  dir : Int
  src : Nat
  searchSpeed : Nat
  latchSpeed : Nat
  accel : Nat
  backoff : Nat
  searchMax : Nat
  homePos : Int
  iHome : Nat
  steps : List HStep
  from_ : Int := 0
  running : Bool := false
  latched : Bool := false
  /-- What POS took when the point was known: a sequence that ends early gives it back (R380). -/
  shift : Int := 0
  latchBy : Nat := 15
  latchDir : Int := 0
  deriving DecidableEq, Repr

/-- AXIS_IDENTIFY in progress (R376): phase 0 R, 1 L, 2 KE, 3 return; the tick from which its drive holds, the first result of the quantity being measured, attempts made for it, all
attempts, and the results so far. -/
structure IdentSt where
  speed : Nat
  dist : Nat
  start : Int
  phase : Nat := 0
  since : Nat := 0
  back : Bool := false
  first : Option Nat := none
  tries : Nat := 0
  total : Nat := 0
  results : List Nat := []
  deriving DecidableEq, Repr

/-- A raw transition that waits for its debounce time: its tick, the commanded position at it, and the new level. -/
structure InputSt where
  raw : Bool := false
  deb : Bool := false
  pend : Option (Nat × Int) := none
  edges : List Nat := []
  deriving DecidableEq, Repr

/-- What the generator does: 0 rest, 1 a move, 2 a stop, 3 a constant speed, 4 waiting for a linked group, 5 a linked move. What follows a stop: 0 rest,
1 the replacing move, 2 the homing sequence, 3 the scan sequencer. -/
structure AxisSt where
  pos : Int := 0
  dir : Int := 1
  prof : Prof := {}
  gen : Nat := 0
  move : Option AxMove := none
  owner : Nat := 0
  stopDec : Nat := 0
  after : Nat := 0
  speedT : Nat := 0
  speedA : Nat := 0
  queue : List AxMove := []
  kept : Option AxMove := none
  keptEpoch : Nat := 0
  setPos : Option Int := none
  replaced : Bool := false
  set : List (Nat × Nat) := []
  lastMoving : Option Nat := none
  upd : Nat := 0
  dirPin : Bool := false
  /-- The update at which DIR changed last, and the tick at which the last STEP pulse began (R375). -/
  dirAt : Option Nat := none
  stepAt : Option Nat := none
  steps : Nat := 0
  inputs : List InputSt := List.replicate 4 {}
  mode : Nat := 0
  nom : List Nat := [0, 0, 0]
  enabled : Bool := false
  /-- The axis has driven its balls since reset (R535). -/
  driven : Bool := false
  off : Bool := false
  vmotLow : Bool := false
  pwmAt : Nat := 0
  dutyA : Int := 0
  dutyB : Int := 0
  saturated : Bool := false
  stallRun : Nat := 0
  home : Option HomeSt := none
  ident : Option IdentSt := none
  latchBy : Option (Nat × Int) := none
  latchAt : Int := 0
  faulted : Nat := 0
  deriving DecidableEq, Repr

/-- A coordinated move (R359, R360): its members (axis, start, signed distance), the path profile and its position in 2^-48 microstep. -/
structure AxLink where
  id : Nat
  members : List (Nat × Int × Int)
  dmax : Nat
  speed : Nat
  accel : Nat
  decel : Nat
  jerk : Nat
  s : Nat := 0
  prof : Prof := {}
  startAt : Option Nat := none
  upd : Nat := 0
  stopping : Bool := false
  deriving DecidableEq, Repr

/-- The scan sequencer of an axis (R389 to R403): whether a Belay runs, the phase within BELAY_STATE, the approach speed in host units and in 2^-64
microstep per update, X_min, the full positions X_p of the ports in 2^-32 microstep and the ports whose line clock holds until the axis is near, the last lines of the ports, the
ports whose closing fire or first line is awaited, the quick flag, the start of the park, the drift check, and whether the scan ends (R403). -/
structure BelaySt where
  running : Bool := false
  phase : Nat := 0
  va : Nat := 0
  va64 : Nat := 0
  xmin : Int := 0
  full : List (Nat × Int) := []
  far : List Nat := []
  ls : List (Nat × Nat) := []
  closing : List Nat := []
  await : List Nat := []
  passEnded : List Nat := []
  passEnd : Bool := false
  quick : Bool := false
  parkFrom : Nat := 0
  parkMax : Bool := false
  pb : Int := 0
  slow : Bool := false
  evalAt : Nat := 0
  late : Nat := 0
  leaving : Bool := false
  deriving DecidableEq, Repr

end Sys2Proof.Machine
end

