-- ==== Sys2Proof/Machine/RopeTypes.lean ====
section
/-! DEFINITION. The plain-data types of the local Rope part (chapter 14). -/
namespace Sys2Proof.Machine

/-- A Rope message (R461): type, direction, source and destination node, and the payload from word 3 on. -/
structure RMsg where
  typ : Nat
  up : Bool
  src : Nat
  dst : Nat
  pay : List Nat
  deriving DecidableEq, Repr

/-- A message sent and not yet acknowledged (R462): its LSEQ, retransmissions made, and when it was last sent. -/
structure RSent where
  msg : RMsg
  lseq : Nat
  tries : Nat
  at_ : Nat
  deriving DecidableEq, Repr

/-- A pitch (R459, R460): symbol lock, link-up step (0 none, 1 JOIN, 2 delay, 3 TIME), the child that waits for the parent to be joined (node
and ROLE), the exchanges so far and repetitions made, when link-up may be tried again, the messages waiting and unacknowledged, and the STATE of the latest REPORT. -/
structure PitchSt where
  locked : Bool := false
  phase : Nat := 0
  child : Option (Nat × Nat) := none
  exch : List Int := []
  reps : Nat := 0
  retryAt : Nat := 0
  wait : List RMsg := []
  unacked : List RSent := []
  lseq : Nat := 0
  rep : Nat := 1
  deriving DecidableEq, Repr

/-- The local Rope part: pitches 0 to 3 downstream and 4 upstream, the leader's set of joined nodes with the pitch each stands behind (plus 8 while that
pitch is broken), the joins
passed upwards with the pitch they came from, runs of TIME messages, the last TIME and the timers, received MARKs (source, data, time) and the
drop mark, the last ARM and JOB forwarded, the last REPORT, every message sent (pitch and words, newest first), and whether the part has been aborted. -/
structure RopeSt where
  pitches : List PitchSt := List.replicate 5 {}
  joined : List (Nat × Nat) := []
  routes : List (Nat × Nat) := []
  good : Nat := 0
  bad : Nat := 0
  lastTime : Nat := 0
  first : Bool := true
  timeNext : Nat := 1600000
  reportNext : Nat := 1600000
  report : List Nat := []
  marks : List (Nat × Nat × Nat) := []
  dropped : Bool := false
  lastArm : Option RMsg := none
  lastJob : Option RMsg := none
  sent : List (Nat × List Nat) := []
  aborted : Bool := false
  deriving DecidableEq, Repr

end Sys2Proof.Machine
end

