-- ==== Sys2Proof/Machine/SysTypes.lean ====
section
/-! DEFINITION. The plain-data types of memory upkeep, the recipe store, security, power, freeze, pace, thermal and test access (chapters 01, 02, 13 and 15 to 19). -/
namespace Sys2Proof.Machine

/-- The MRAM record of a recipe slot (R431); `loaded` tells LOADED from DIGEST_ONLY. -/
structure SlotRec where
  loaded : Bool
  restored : Bool
  level : Nat
  length : Nat
  digest : List Nat
  uses : Nat
  lastTime : Nat
  lastJobId : Nat
  lastFw : Nat
  loadFw : Nat
  deriving DecidableEq, Repr

/-- An audit entry (R514). -/
structure Audit where
  /-- An AUDIT_EXPORT has covered the entry (R516). -/
  out : Bool := false
  seq : Nat
  kind : Nat
  uid : Nat
  time : Nat
  detail : List Nat
  chain : List Nat
  deriving DecidableEq, Repr

/-- The security unit: boot flash, BOOT_SEL, owner key hash fuses (empty: all zero), recipe keys (empty: none), the valid challenge with its tick of issue,
the audit log (oldest first), the debug scope, OWNER_PUB of the running image, and a boot in progress with the
image of R500 if it names one. -/
structure SecSt where
  flash : List Host.Cell := []
  bootSlot : Nat := 0
  bootTrial : Bool := false
  ownerHash : List Nat := []
  keys : List (List Nat) := [[], [], [], []]
  challenge : Option (List Nat × Nat) := none
  audit : List Audit := []
  /-- The entry overwritten last was unexported (R516). -/
  wrapped : Bool := false
  /-- CHAIN of the entry overwritten last (R517). -/
  gone : List Nat := []
  /-- The three copies of the anti-rollback counter, none where a copy cannot be read (R496, R501). -/
  counters : List (Option Nat) := [some 0, some 0, some 0]
  low : Bool := false
  scope : Nat := 0
  ownerPub : List Nat := []
  booting : Option (Option Nat) := none
  repaired : Bool := false
  nonces : Nat := 0
  deriving DecidableEq, Repr

/-- Memory upkeep (R478 to R483): the retirement table (page, reserve page), pages with one corrected error since start-up, units that hold an uncorrectable or
poisoned code, retirements waiting (the first is being copied), whether the table is to be discarded at the next reset, the package identity beside the
table, whether training took place, and the meter identifier and Rope time of the REF_TRACE entry (R148), and the last readings of the interval oscillators; the device's own copies that
hold a mover: its UID, the units of 64 bytes, and the copies of MOVE that it still has before them (R341). -/
structure MemSt where
  retired : List (Nat × Nat) := []
  once : List Nat := []
  poison : List Nat := []
  copies : List Nat := []
  clear : Bool := false
  ids : Option (Nat × Nat × Nat) := none
  lowRaised : Bool := false
  emptyRaised : Bool := false
  changed : List (Nat × Nat × Nat) := []
  trace : Option (Nat × Nat) := none
  wck : List Nat := []
  own : List (Nat × Nat × Nat) := []
  deriving DecidableEq, Repr

/-- Power and freeze: domains that have come on and not yet passed R529, the tick of the halt, the length of the present or last freeze, the level of FREEZE_N,
whether PD22 was off before the freeze, and the latched upper half of FRZ_LEN. -/
structure PowSt where
  coming : List Nat := []
  haltAt : Nat := 0
  len : Nat := 0
  pinLow : Bool := false
  pd22Off : Bool := false
  deriving DecidableEq, Repr

/-- The rest of the device: held in reset, THERMTRIP_N low, time base unlocked, the ticks of the last rise of PORESET_N and of the lock after it, pace monitor (event armed, last request, headroom of 20 % or more since, request
awaiting its read-back), PMBus transactions (newest first), sequencer watch (main loop stuck, heartbeat and the tick it counts from, last NORMAL_DONE and
since when NORMAL has held a packet with no reply, and the two counters when EV_SEQ_WEDGED was last raised), the JTAG instruction and the boundary-scan preload, and the port that the reference DAC serves with the start of the
point (R151). -/
structure SysSt where
  inReset : Bool := true
  tripped : Bool := false
  unlocked : Bool := false
  riseAt : Nat := 0
  lockAt : Nat := 0
  paceArmed : Bool := true
  paceReqAt : Option Nat := none
  paceHigh : Option Nat := none
  vreq : Option (Nat × Nat) := none
  pmb : List (List Nat) := []
  stuck : Bool := false
  hb : Nat := 0
  hbAt : Nat := 0
  done : Nat := 0
  doneAt : Nat := 0
  wedged : Option (Nat × Nat) := none
  jtagIr : Nat := 0xFF
  bscan : Nat := 0
  extest : Bool := false
  dac : Option (Nat × Nat) := none
  dacUv : Nat := 0
  deriving DecidableEq, Repr

/-- The configuration space of the function as far as the host writes it (R61): the command register, the base addresses, the control words of MSI-X and of the
device capability, and the status and mask words of AER. Reset values and the places of the bits are those of the PCI Express Base Specification 5.0, which R61
takes over (PRESUMED, log entry 70): maximum payload 128 B, maximum read request 512 B, relaxed ordering and no-snoop allowed, everything else 0. -/
structure CfgSt where
  command : Nat := 0
  bar0 : Nat := 0
  bar2 : Nat := 0
  msixControl : Nat := 0
  deviceControl : Nat := 0x2810
  aerUncStatus : Nat := 0
  aerUncMask : Nat := 0
  aerUncSeverity : Nat := 0x00462030
  aerCorStatus : Nat := 0
  aerCorMask : Nat := 0x2000
  deriving DecidableEq, Repr
/-- MSI-X Enable and Function Mask (R61, R100). -/
def CfgSt.msixEnable (c : CfgSt) : Bool := c.msixControl / 2 ^ 15 % 2 == 1
def CfgSt.msixMask (c : CfgSt) : Bool := c.msixControl / 2 ^ 14 % 2 == 1
/-- Maximum payload and maximum read request in bytes (R61, R334). -/
def CfgSt.payload (c : CfgSt) : Nat := 128 * 2 ^ min 2 (c.deviceControl / 2 ^ 5 % 8)
def CfgSt.readRequest (c : CfgSt) : Nat := 128 * 2 ^ min 5 (c.deviceControl / 2 ^ 12 % 8)
/-- Whether the host lets the function set Relaxed Ordering. -/
def CfgSt.relaxed (c : CfgSt) : Bool := c.deviceControl / 2 ^ 4 % 2 == 1

end Sys2Proof.Machine
end

