-- ==== Sys2Proof/Machine/State.lean ====
section
/-! DEFINITION. The state of the controller, its faults and refusals, and the state right after reset. -/
namespace Sys2Proof.Machine

/-- Rope time: in units of 2^-32 tick, with its rate and slew terms (R463, R464). -/
structure RopeTime where
  t32 : Nat := 0
  rate : Int := 0
  slew : Int := 0
  deriving DecidableEq, Repr

structure State where
  /-- The commands that wait, the oldest first. -/
  pending : List Instr
  /-- What the factory fixed (R1, R68, R146): part, grade, serial number, capacity, trims and keys. -/
  part : Part
  /-- The device time, in ticks of 1.6 GHz since PORESET_N (R8). -/
  now : Nat
  /-- Rope time (R464). -/
  ropeT : RopeTime
  /-- Frozen (chapter 17). -/
  frozen : Bool
  /-- The PCIe function is in D3hot (chapter 02). -/
  d3hot : Bool
  /-- The configuration space of the PCIe function (R61). -/
  cfg : CfgSt
  /-- Every register field that the device or a NOW write changes, where it differs from its reset value (R10). -/
  live : RegMap
  /-- The sets in force (R42, R46). -/
  active : RegMap
  /-- The shadows that writes of kind SH change (R42). -/
  shadow : RegMap
  /-- Units with writes not yet committed, and the kind of their next commit (R42, R43). -/
  openSets : List (Nat × Change)
  /-- Status blocks of the units (R18); a unit not listed is IDLE with zeros. -/
  units : List (Nat × UnitSt)
  /-- Commits that wait for their boundary, the oldest first (R45, R46). -/
  commits : List Commit
  /-- The number of the next commit (R44). -/
  commitNext : Nat
  /-- CMD_SEQ of the last packet accepted (R80). -/
  cmdSeq : Nat
  /-- The URGENT command FIFO (R78). -/
  urgentQ : CmdFifo
  /-- The NORMAL command FIFO (R78). -/
  normalQ : CmdFifo
  /-- The reply FIFO (R90 to R95). -/
  reply : ReplyFifo
  /-- The event ring and the interrupts (R94 to R100). -/
  evt : EventSt
  /-- Aborts that have not ended (R22, R23). -/
  aborts : List AbortSt
  /-- Long work that has not ended (R84). -/
  works : List Work
  /-- The eight ports: generator, exposure, readouts, calibration relief, trackers (chapters 03, 04, 06). -/
  ports : List PortSt
  /-- The job and the changeover (chapter 13). -/
  job : JobSt
  /-- The four encoder inputs (R171 to R173). -/
  encs : List EncSt
  /-- The eight line clocks (chapter 05). -/
  lcs : List LcSt
  /-- Comparison on each port (chapter 07). -/
  ebs : List EbSt
  /-- Clusters and lanes that an abort has stopped and nothing has started again (R272). -/
  ebStopped : List Nat
  /-- Queues whose two pointer copies disagree, not yet found: the code of R321 and an index (R321, R322). -/
  skews : List (Nat × Nat)
  /-- The trigger engine, mark detectors, evidence windows and output pulses (chapter 08). -/
  trig : TrigSt
  /-- The stream rings (chapter 09). -/
  rings : List RingSt
  /-- The 64 channels and the movers (chapter 09). -/
  dmas : List DmaSt
  /-- The eight motion axes (chapter 10). -/
  axes : List AxisSt
  /-- Links among axes and ports that a Belay holds (chapter 11). -/
  links : List AxLink
  /-- The Belays (chapter 11). -/
  belays : List BelaySt
  /-- The VMOT samples of the two supplies. -/
  vmot : List (List Nat)
  /-- The eight lamp groups (chapter 12). -/
  lamps : List LampSt
  /-- The lamp chain (chapter 12). -/
  chain : ChainSt
  /-- The four indicating engines (chapter 12). -/
  hares : List HareSt
  /-- The Rope port (chapter 14). -/
  ropeS : RopeSt
  /-- The recipe slots and their MRAM records (R430 to R436). -/
  slots : List (Nat × SlotRec)
  /-- The security unit: keys, policy, counters, audit log (chapter 16). -/
  sec : SecSt
  /-- Memory training, ECC, retirement and wear (chapter 15). -/
  memS : MemSt
  /-- Domains, thermal limits, the ledger (chapter 17). -/
  pow : PowSt
  /-- Resets, boot, freeze, JTAG and the pins (chapters 17, 19). -/
  sys : SysSt
  /-- Host memory that the device reads: descriptors and link words. -/
  host : Mem
  /-- LPDDR5X, by byte address. -/
  dram : Mem
  /-- The 8 MiB of on-chip memory that hold the shading sets in use (R221). -/
  sram : Mem
  /-- What the last reading command answers, word by word. -/
  rdata : List Nat
  /-- Result words of a page that wait until RES_TAG is read (R71). -/
  results : List (Nat × List Nat)
  /-- How many unspecified values have been drawn. The model's own field (log entry 8): it picks the next value of Config. -/
  draw : Nat
  deriving DecidableEq, Repr

/-- Why the machine stops. No command of this block stops it: the spec gives every row an effect, and an event whose conditions do not hold changes nothing. -/
inductive Fault where
  /-- Raised by nobody. It would be safe: a run that ends proves nothing about what follows. -/
  | none
  deriving DecidableEq, Repr

/-- Why a command has no meaning. -/
inductive Refusal where
  /-- The arm of a row without a meaning; no arm of this model answers it. It would be safe. -/
  | notModelled (mnemonic : String)
  deriving DecidableEq, Repr

/-- The part this model describes unless a statement says otherwise: an NV8160-IB with 8 GiB (log entry 1). -/
def Part.default : Part :=
  { part := 0x8160, grade := 1, siliconRev := 0, serial := [0, 0, 0, 0], refTrimUv := 1250000, capacity := 1, vendorKeyHash := List.replicate 64 0,
    caRootHash := List.replicate 64 0, dna := 0 }

/-- The device while PORESET_N is low (R535, R541): every register at its reset value, nothing in the FIFOs, no unit at work, memory with nothing listed. -/
def State.reset : State where
  pending := []
  part := Part.default
  now := 0
  ropeT := {}
  frozen := false
  d3hot := false
  cfg := {}
  live := []
  active := []
  shadow := []
  openSets := []
  units := [(0x9010, { st := .off }), (0x9011, { st := .off }), (0x9012, { st := .off }), (0x9013, { st := .off })]
  commits := []
  commitNext := 1
  cmdSeq := 0
  urgentQ := {}
  normalQ := {}
  reply := {}
  evt := {}
  aborts := []
  works := []
  ports := List.replicate 8 {}
  job := {}
  encs := List.replicate 4 {}
  lcs := List.replicate 8 {}
  ebs := List.replicate 8 {}
  ebStopped := []
  skews := []
  trig := {}
  rings := List.replicate 8 {}
  dmas := List.replicate 64 {}
  axes := List.replicate 8 {}
  links := []
  belays := List.replicate 8 {}
  vmot := [[], []]
  lamps := List.replicate 8 {}
  chain := {}
  hares := List.replicate 4 {}
  ropeS := {}
  slots := []
  sec := {}
  memS := {}
  pow := {}
  sys := {}
  host := []
  dram := []
  sram := []
  rdata := []
  results := []
  draw := 0

end Sys2Proof.Machine
end

