-- ==== Sys2Proof/Machine/Ops.lean ====
section
/-! DEFINITION. The named operations over register contents, memories, units, events and commits that every meaning uses. -/
namespace Sys2Proof.Machine
open R

/-! ### Plain arithmetic -/

/-- A `w`-bit pattern read as signed. -/
def sgn (w n : Nat) : Int := if n % 2 ^ w < 2 ^ (w - 1) then Int.ofNat (n % 2 ^ w) else Int.ofNat (n % 2 ^ w) - Int.ofNat (2 ^ w)
/-- The low `w` bits of an integer. -/
def low (w : Nat) (i : Int) : Nat := (i % Int.ofNat (2 ^ w)).toNat
/-- Bits [hi:lo] of a number. -/
def bits (n hi lo : Nat) : Nat := n / 2 ^ lo % 2 ^ (hi + 1 - lo)
/-- Bit k. -/
def tbit (n k : Nat) : Bool := n / 2 ^ k % 2 == 1
/-- A Bool as 0 or 1. -/
def b2n (b : Bool) : Nat := if b then 1 else 0
/-- Set or clear bit k. -/
def setBit (n k : Nat) (b : Bool) : Nat := n - b2n (tbit n k) * 2 ^ k + b2n b * 2 ^ k
/-- Ceiling division. -/
def cdiv (a b : Nat) : Nat := (a + (b - 1)) / b
/-- Arithmetic shift right (rounds towards minus infinity, R201). -/
def sar (i : Int) (k : Nat) : Int := Int.fdiv i (Int.ofNat (2 ^ k))
/-- Integer division rounding towards minus infinity (R201). -/
def fdiv (a b : Int) : Int := Int.fdiv a b
/-- Clamp. -/
def clamp (lo hi i : Int) : Int := max lo (min hi i)
/-- sat24 of R201. -/
def sat24 (v : Int) : Int := min (max v (-8388608)) 8388607
/-- Saturating 32-bit. -/
def sat32 (n : Nat) : Nat := min n 0xFFFFFFFF
/-- Element i of a list of numbers, 0 beyond its end. -/
def nth (l : List Nat) (i : Nat) : Nat := l.getD i 0
/-- Element i of a list of integers, 0 beyond its end. -/
def nthI (l : List Int) (i : Nat) : Int := l.getD i 0
/-- Change element i. -/
def upd {α : Type} (l : List α) (i : Nat) (f : α → α) : List α := l.modify i f
/-- Entries of a list that satisfy a test, with their index. -/
def indices {α : Type} (l : List α) (f : α → Bool) : List Nat := (l.zipIdx.filter (fun p => f p.1)).map (·.2)
/-- Bytes of a number, little-endian (R7). -/
def leBytes : Nat → Nat → List Nat
  | 0, _ => []
  | k + 1, n => n % 256 :: leBytes k (n / 256)
/-- A number from little-endian bytes. -/
def ofLe : List Nat → Nat
  | [] => 0
  | b :: bs => b + 256 * ofLe bs
/-- Bytes of a list of words. -/
def wordBytes (ws : List Nat) : List Nat := ws.flatMap (leBytes 4)
/-- Pad with zero bytes to a multiple of n. -/
def padTo (n : Nat) (l : List Nat) : List Nat := l ++ List.replicate (cdiv l.length n * n - l.length) 0

/-! ### Register contents -/

/-- Value listed for a key. -/
def RegMap.find (m : RegMap) (k : Nat) : Option Nat := (m.find? (fun p => p.1 == k)).map (·.2)
/-- Insert or replace, keeping keys rising. -/
def RegMap.put : RegMap → Nat → Nat → RegMap
  | [], k, v => [(k, v)]
  | p :: m, k, v => if p.1 < k then p :: RegMap.put m k v else if p.1 = k then (k, v) :: m else (k, v) :: p :: m
/-- Remove a key. -/
def RegMap.del (m : RegMap) (k : Nat) : RegMap := m.filter (fun p => p.1 != k)
/-- The canonical form of register contents: keys strictly rising. -/
def RegMap.wf : RegMap → Bool
  | [] => true
  | p :: m => m.all (fun q => decide (p.1 < q.1)) && RegMap.wf m
/-- Merge two maps whose keys rise, the left winning. -/
def RegMap.join (a b : RegMap) : RegMap := a.foldl (fun m p => RegMap.put m p.1 p.2) b

/-- Position of a field instance in a page: UID, cluster context, bit. -/
def regKey (u ctx : Nat) (f : Field) (i : Nat) : Nat := u * 2 ^ 24 + ctx * 2 ^ 20 + f.bit + f.stride * i
/-- The UID of a key. -/
def keyUid (k : Nat) : Nat := k / 2 ^ 24
/-- The pseudo UID of BAR0 itself, of the freeze window, of the MSI-X table and of its pending bits. -/
def bar0 : Nat := 0x10000
def frzU : Nat := 0x1000C
def msixU : Nat := 0x1000E
def pbaU : Nat := 0x1000F

/-- What a part fixes in a field of the identity or calibration page (R4, R147). -/
def partVal (p : Part) (f : Field) (i : Nat) : Nat :=
  if f.name = "PART" then p.part else if f.name = "GRADE" then p.grade else if f.name = "SILICON_REV" then p.siliconRev
  else if f.name = "SLOT_MIB" then (if p.capacity = 1 then 1024 else if p.capacity = 2 then 2048 else 4096)
  else if f.name = "SERIAL" then nth p.serial i else if f.name = "REF_TRIM_UV" then p.refTrimUv
  else if f.name = "REF_USE_UV" then p.refTrimUv else if f.name = "PD_STAT" then (if p.part = 0x8140 then 0xFFFE1F else 0xFFFFFF)
  else if f.name = "RESERVE_TOTAL" then (if p.capacity = 1 then 82 else if p.capacity = 2 then 164 else 328) * 256
  else 0

/-- Reset value of a field instance (the Reset columns of the register tables). -/
def resetOf (p : Part) (u : Nat) (f : Field) (i : Nat) : Nat :=
  match f.reset with
  | .const n => n
  | .part => partVal p f i
  | .index => i % 64
  | .ringEn => if i = 0x40 then 0 else 1
  | .afeTap => if u % 256 = 9 then 0xF else u % 256 - 1
  | .lanePhys => if u % 256 = 9 then 0 else u % 256
  | .poolBase => if p.capacity = 1 then 45 else if p.capacity = 2 then 77 else 141

/-- A field of the live registers (every access but SH). -/
def State.regC (s : State) (u ctx : Nat) (f : Field) (i : Nat) : Nat :=
  (RegMap.find s.live (regKey u ctx f i)).getD (resetOf s.part u f i)
def State.reg (s : State) (u : Nat) (f : Field) (i : Nat := 0) : Nat := s.regC u 0 f i
/-- An SH field as it stands in a given set. -/
def setVal (p : Part) (m : RegMap) (u ctx : Nat) (f : Field) (i : Nat) : Nat :=
  (RegMap.find m (regKey u ctx f i)).getD (resetOf p u f i)
/-- An SH field of the active copy. -/
def State.actC (s : State) (u ctx : Nat) (f : Field) (i : Nat) : Nat := setVal s.part s.active u ctx f i
def State.act (s : State) (u : Nat) (f : Field) (i : Nat := 0) : Nat := s.actC u 0 f i
/-- An SH field of the shadow copy. -/
def State.sh (s : State) (u ctx : Nat) (f : Field) (i : Nat) : Nat := setVal s.part s.shadow u ctx f i

/-- Put a field value into a map: truncated to its width, unlisted when it is the reset value. -/
def putVal (p : Part) (m : RegMap) (u ctx : Nat) (f : Field) (i v : Nat) : RegMap :=
  if v % 2 ^ f.width = resetOf p u f i then RegMap.del m (regKey u ctx f i)
  else RegMap.put m (regKey u ctx f i) (v % 2 ^ f.width)
/-- Set a live field. -/
def State.setC (s : State) (u ctx : Nat) (f : Field) (i v : Nat) : State :=
  { s with live := putVal s.part s.live u ctx f i v }
def State.set (s : State) (u : Nat) (f : Field) (v : Nat) (i : Nat := 0) : State := s.setC u 0 f i v
/-- Add to a counter field, saturating at its width. -/
def State.bumpC (s : State) (u ctx : Nat) (f : Field) (i n : Nat) : State :=
  s.setC u ctx f i (min (s.regC u ctx f i + n) (2 ^ f.width - 1))
def State.bump (s : State) (u : Nat) (f : Field) (n : Nat := 1) (i : Nat := 0) : State := s.bumpC u 0 f i n

/-! ### Byte memories -/

/-- The byte at an address, none where the memory lists nothing. -/
def Mem.at? (m : Mem) (a : Nat) : Option Byte := (m.find? (fun c => c.1 == a)).map (·.2)
/-- What an unlisted byte reads as: 0 (log entry 4). -/
def Mem.get (m : Mem) (a : Nat) : Byte := (Mem.at? m a).getD 0#8
/-- List a byte at its place. -/
def Mem.ins : Mem → Nat → Byte → Mem
  | [], a, b => [(a, b)]
  | c :: m, a, b => if c.1 < a then c :: Mem.ins m a b else if c.1 = a then (a, b) :: m else (a, b) :: c :: m
/-- Write one byte, keeping the canonical form: a byte that reads as an unlisted one is not listed. -/
def Mem.put (m : Mem) (a : Nat) (b : Byte) : Mem := if b = 0#8 then m.filter (fun c => c.1 != a) else Mem.ins m a b
/-- The canonical form of a byte memory: addresses strictly rising, and no entry equal to what an unlisted byte reads as. -/
def Mem.wf : Mem → Bool
  | [] => true
  | c :: m => c.2 != 0#8 && m.all (fun d => decide (c.1 < d.1)) && Mem.wf m
/-- Write bytes in ascending address order. -/
def Mem.write (m : Mem) (a : Nat) : List Nat → Mem
  | [] => m
  | b :: bs => Mem.write (Mem.put m a (byte b)) (a + 1) bs
/-- Read n bytes. -/
def Mem.read (m : Mem) (a : Nat) : Nat → List Nat
  | 0 => []
  | n + 1 => (Mem.get m a).toNat :: Mem.read m (a + 1) n
/-- Read a little-endian word, and a 64-bit value. -/
def Mem.rd32 (m : Mem) (a : Nat) : Nat := ofLe (Mem.read m a 4)
def Mem.rd64 (m : Mem) (a : Nat) : Nat := ofLe (Mem.read m a 8)
/-- Fitted memory in bytes (R476): CAPACITY 1, 2, 3 are 8, 16, 32 GiB. -/
def Part.dramBytes (p : Part) : Nat := if p.capacity = 1 then 8 * 2 ^ 30 else if p.capacity = 2 then 16 * 2 ^ 30 else if p.capacity = 3 then 32 * 2 ^ 30 else 0

/-! ### CRC-32C (R336) -/

/-- One bit of the reflected CRC. -/
def crcBit (c : Nat) : Nat := if c % 2 = 1 then (c / 2) ^^^ 0x82F63B78 else c / 2
/-- One byte. -/
def crcByte (c b : Nat) : Nat :=
  crcBit (crcBit (crcBit (crcBit (crcBit (crcBit (crcBit (crcBit ((c ^^^ b) % 2 ^ 32))))))))
/-- CRC-32C (Castagnoli) of a byte sequence. -/
def crc32c (bs : List Nat) : Nat := (bs.foldl crcByte 0xFFFFFFFF) ^^^ 0xFFFFFFFF

/-! ### Time -/

/-- Rope time in ticks (R463). -/
def State.rope (s : State) : Nat := s.ropeT.t32 / 2 ^ 32
/-- The Rope time of an instant of the time base (R33). -/
def State.ropeAt (s : State) (t : Nat) : Nat := s.rope + t - s.now
/-- The time-base instant of a Rope time (log entry 14). -/
def State.tickOf (s : State) (r : Nat) : Nat := s.now + r - s.rope
/-- Time passes to the instant of an event: the time base and, unless frozen, Rope time advance (R8, R463, R464). -/
def State.advance (s : State) (at_ : Nat) : State :=
  if at_ ≤ s.now then s else
  let d := at_ - s.now
  let r := if s.frozen then s.ropeT else
    { s.ropeT with t32 := (Int.ofNat s.ropeT.t32 + Int.ofNat d * (2 ^ 32 + s.ropeT.rate + s.ropeT.slew)).toNat }
  { s with now := at_, ropeT := r }

/-! ### Units (R15 to R21, R603) -/

def uClass (u : Nat) : Nat := u / 4096
def uInst (u : Nat) : Nat := u / 256 % 16
def uSub (u : Nat) : Nat := u % 256
def portU (p : Nat) : Nat := 0x1000 + p * 256
def pipeU (p : Nat) : Nat := portU p + 0x20
def rxU (p : Nat) : Nat := portU p + 0x10
def pgU (p : Nat) : Nat := portU p + 0x11
def expU (p : Nat) : Nat := portU p + 0x12
def afeU (p c : Nat) : Nat := portU p + c
def lcU (p : Nat) : Nat := 0x8000 + p * 256
def clU (c : Nat) : Nat := 0x2000 + c * 256
def dmaU (k : Nat) : Nat := 0x4000 + k / 16 * 256 + k % 16 + 1
def movU (m : Nat) : Nat := 0x5000 + m * 256
def axU (a : Nat) : Nat := 0x6000 + a * 256
def lampU (g : Nat) : Nat := 0x7000 + g * 256
def strU (g k : Nat) : Nat := lampU g + k
def hareU (e : Nat) : Nat := 0xD000 + e * 256
def trigU : Nat := 0x3000
def encU : Nat := 0x8F00
def chainU : Nat := 0x7F00
def refU : Nat := 0x2F00
def ropeU : Nat := 0x9001
def memU : Nat := 0xA000
def secU : Nat := 0xB000
def calU : Nat := 0xC000
def devU : Nat := 0x0000

/-- Highest instance of a class, none for a class without instances. -/
def classMax (c : Nat) : Option Nat :=
  if c = 1 ∨ c = 5 ∨ c = 6 ∨ c = 7 ∨ c = 8 then some 7 else if c = 2 then some 1 else if c = 4 ∨ c = 0xD then some 3 else none
/-- Sub-units listed for a class. -/
def classSubs (c : Nat) : List Nat :=
  if c = 1 then [1, 2, 3, 4, 5, 6, 7, 8, 9, 0x10, 0x11, 0x12, 0x20]
  else if c = 2 then [1, 2, 3, 4, 5, 6, 7, 8, 9]
  else if c = 4 then [1, 2, 3, 4, 5, 6, 7, 8, 9, 10, 11, 12, 13, 14, 15, 16]
  else if c = 7 then [1, 2, 3, 4, 5]
  else if c = 9 then [1, 0x10, 0x11, 0x12, 0x13] else []
/-- R16: the UID is formed from the class table. -/
def uidOk (u : Nat) : Bool :=
  u < 65536 && uClass u ≤ 0xD &&
  match classMax (uClass u) with
  | some m => (uInst u ≤ m && (uSub u = 0 || (classSubs (uClass u)).contains (uSub u))) || (uInst u = 15 && uSub u = 0)
  | none => uInst u = 0 && (uSub u = 0 || (classSubs (uClass u)).contains (uSub u))
/-- R3: ports 4 to 7, their sub-units and line clocks 4 to 7 are fused off on the NV8140. -/
def fusedOff (p : Part) (u : Nat) : Bool :=
  p.part == 0x8140 && (uClass u == 1 || uClass u == 8) && 4 ≤ uInst u && uInst u ≤ 7
/-- The units of one instance: itself first, then its sub-units. -/
def instUnits (c i : Nat) : List Nat := (c * 4096 + i * 256) :: (classSubs c).map (fun k => c * 4096 + i * 256 + k)
/-- The units of one class in UID order. The class group of the chain port also holds the chain port (R603). -/
def classUnits (c : Nat) : List Nat :=
  match classMax c with
  | some m => (List.range (m + 1)).flatMap (instUnits c) ++ (if c = 7 then [chainU] else [])
  | none => if c = 9 then [ropeU, 0x9010, 0x9011, 0x9012, 0x9013] else if c = 0 then [] else [c * 4096]
/-- Every unit of the device. -/
def allUnits : List Nat := (List.range 14).flatMap classUnits
/-- The units a UID names: itself, or the members of the group (R17). -/
def members (u : Nat) : List Nat :=
  if u = 0 then allUnits
  else if uInst u = 15 then classUnits (uClass u)
  else if u = 0x9000 then classUnits 9
  else if uSub u = 0 ∧ classSubs (uClass u) ≠ [] then instUnits (uClass u) (uInst u) else [u]
/-- Power domain of a unit (R526). -/
def domainOf (u : Nat) : Nat :=
  let c := uClass u
  if c = 1 then 1 + uInst u else if c = 8 then (if u = encU then 0 else 1 + uInst u)
  else if c = 2 then (if u = refU then 14 else 9 + uInst u) else if c = 3 then 11 else if c = 4 then 12
  else if c = 5 then (if uInst u < 4 then 14 else 15) else if c = 0xA then 14 else if c = 0xB then 17
  else if c = 6 then 18 else if c = 7 ∨ c = 0xD then 19 else if c = 9 then 20 else if c = 0xC then 21 else 0
/-- The unit's domain is on (R524). -/
def State.powered (s : State) (u : Nat) : Bool := domainOf u == 0 || tbit (s.reg devU Pd.PD_STAT) (domainOf u)
/-- The units a freeze halts (R543): every unit but memory, security and the sequencer, which answer nothing meanwhile. -/
def haltsOnFreeze (u : Nat) : Bool := uClass u != 0xA && uClass u != 0xB
/-- What is held about a unit. -/
def State.unit (s : State) (u : Nat) : UnitSt := ((s.units.find? (fun p => p.1 == u)).map (·.2)).getD {}
/-- A unit that works while its own record says IDLE (R20): the parts of a started port, a channel being calibrated, a line clock whose port runs a job,
clusters and lanes that compare, lit strings and the chain port. -/
def State.busy (s : State) (u : Nat) : Bool :=
  let i := uInst u
  let k := uSub u
  let lane := fun (m : Nat) => s.act (0x2000 + i * 256) Clus.EN m == 1 && (s.ebs.getD (s.act (0x2000 + i * 256) Clus.PORT m) {}).on
  if uClass u = 1 then
    if 0x10 ≤ k then (s.ports.getD i {}).started
    else if k = 0 then false
    else match (s.ports.getD i {}).relief with | some r => r.meas + 1 == k | none => false
  else if uClass u = 8 then u != encU && (s.ports.getD i {}).jobOn && !(s.lcs.getD i {}).aborted
  else if uClass u = 2 then u != refU && (if k = 0 then (List.range 8).any lane else k < 9 && lane (k - 1))
  else if u = chainU then s.chain.on && !s.chain.stopped
  else if uClass u = 7 then k != 0 && ((s.lamps.getD i {}).strs.getD (k - 1) {}).lit
  else false
/-- STATE of a unit as reported (R20): OFF when absent, fused off or unpowered. -/
def State.stOf (s : State) (u : Nat) : UState :=
  if fusedOff s.part u || !s.powered u then .off
  else if s.frozen && (s.unit u).st != .fenced && (s.unit u).st != .off && haltsOnFreeze u then .frozen
  else if (s.unit u).st == .idle && s.busy u then .running
  else (s.unit u).st
/-- The unit is stopping for an abort that has not completed (R104). -/
def State.aborting (s : State) (u : Nat) : Bool := s.aborts.any (fun a => a.waiting.any (fun w => w.1 == u))
/-- Put a unit's record, keeping the list in UID order. -/
def putUnit : List (Nat × UnitSt) → Nat → UnitSt → List (Nat × UnitSt)
  | [], u, x => [(u, x)]
  | p :: l, u, x => if p.1 < u then p :: putUnit l u x else if p.1 = u then (u, x) :: l else (u, x) :: p :: l
def State.modUnit (s : State) (u : Nat) (f : UnitSt → UnitSt) : State := { s with units := putUnit s.units u (f (s.unit u)) }
/-- Set STATE and REASON. A unit that is stopping stays so until its abort completes, or it is fenced. -/
def State.setSt (s : State) (u : Nat) (st : UState) (reason : Nat := 0) : State :=
  if s.aborting u && st != .fenced && st != .off then s else
  s.modUnit u (fun x => { x with st := st, reason := reason })
/-- Code of a STATE (R20). -/
def UState.code : UState → Nat
  | .off => 0 | .idle => 1 | .running => 2 | .waiting => 3 | .degraded => 4 | .stopping => 5 | .frozen => 6 | .fenced => 7
/-- The members of a group as R17 and R603 name them, one level down: class groups and classes without instances, instances, sub-units. An instance with
sub-units has a state of its own beside theirs, and stands first (log entry 26). -/
def groupMembers (u : Nat) : List Nat :=
  let c := uClass u
  if u = 0 then (List.range 14).filterMap (fun c => if c = 0 then none else some (if (classMax c).isSome then c * 4096 + 0xF00 else c * 4096))
  else if uInst u = 15 then match classMax c with
    | some m => (List.range (m + 1)).map (fun i => c * 4096 + i * 256) ++ (if c = 7 then [chainU] else [])
    | none => []
  else if u = 0x9000 then classUnits 9
  else if uSub u = 0 ∧ classSubs c ≠ [] then instUnits c (uInst u) else []
/-- STATE of a unit or group: the most severe among its members that are not OFF (R21). -/
def State.groupCode (s : State) (u : Nat) : Nat := ((members u).map (fun v => (s.stOf v).code)).foldl max 0
/-- The unit works: started and neither stopped nor fenced. -/
def State.working (s : State) (u : Nat) : Bool :=
  match s.stOf u with | .running => true | .waiting => true | .degraded => true | _ => false
def State.fenced (s : State) (u : Nat) : Bool := s.stOf u == .fenced

/-! ### Per-instance state -/

def State.port (s : State) (p : Nat) : PortSt := s.ports.getD p {}
def State.modPort (s : State) (p : Nat) (f : PortSt → PortSt) : State := { s with ports := upd s.ports p f }
def State.lc (s : State) (p : Nat) : LcSt := s.lcs.getD p {}
def State.modLc (s : State) (p : Nat) (f : LcSt → LcSt) : State := { s with lcs := upd s.lcs p f }
def State.enc (s : State) (p : Nat) : EncSt := s.encs.getD p {}
def State.modEnc (s : State) (p : Nat) (f : EncSt → EncSt) : State := { s with encs := upd s.encs p f }
def State.eb (s : State) (p : Nat) : EbSt := s.ebs.getD p {}
def State.modEb (s : State) (p : Nat) (f : EbSt → EbSt) : State := { s with ebs := upd s.ebs p f }
def State.ring (s : State) (p : Nat) : RingSt := s.rings.getD p {}
def State.modRing (s : State) (p : Nat) (f : RingSt → RingSt) : State := { s with rings := upd s.rings p f }
def State.dma (s : State) (k : Nat) : DmaSt := s.dmas.getD k {}
def State.modDma (s : State) (k : Nat) (f : DmaSt → DmaSt) : State := { s with dmas := upd s.dmas k f }
def State.axis (s : State) (a : Nat) : AxisSt := s.axes.getD a {}
def State.modAxis (s : State) (a : Nat) (f : AxisSt → AxisSt) : State := { s with axes := upd s.axes a f }
def State.belay (s : State) (a : Nat) : BelaySt := s.belays.getD a {}
def State.modBelay (s : State) (a : Nat) (f : BelaySt → BelaySt) : State := { s with belays := upd s.belays a f }
def State.lamp (s : State) (g : Nat) : LampSt := s.lamps.getD g {}
def State.modLamp (s : State) (g : Nat) (f : LampSt → LampSt) : State := { s with lamps := upd s.lamps g f }
def State.str (s : State) (g k : Nat) : StrSt := (s.lamp g).strs.getD (k - 1) {}
def State.modStr (s : State) (g k : Nat) (f : StrSt → StrSt) : State := s.modLamp g (fun l => { l with strs := upd l.strs (k - 1) f })
def State.hare (s : State) (e : Nat) : HareSt := s.hares.getD e {}
def State.modHare (s : State) (e : Nat) (f : HareSt → HareSt) : State := { s with hares := upd s.hares e f }
def State.modChain (s : State) (f : ChainSt → ChainSt) : State := { s with chain := f s.chain }
def State.modTrig (s : State) (f : TrigSt → TrigSt) : State := { s with trig := f s.trig }
def State.cond (s : State) (c : Nat) : CondSt := s.trig.conds.getD c {}
def State.modCond (s : State) (c : Nat) (f : CondSt → CondSt) : State :=
  s.modTrig (fun t => { t with conds := upd t.conds c f })

/-! ### Events (R94 to R102) -/

/-- One more event for a full or absent ring (R97, R98). -/
def State.evtLost (s : State) : State := s.bump bar0 Evt.EVT_LOST
/-- The event ring has room (R97) and the writer may write: enabled, and not in D3hot (R67). -/
def State.evtRoom (s : State) : Bool :=
  s.reg bar0 Evt.ENABLE == 1 && !s.d3hot && (s.reg bar0 Evt.EVT_WR + 1) % 4096 != s.reg bar0 Evt.EVT_RD
/-- Write one entry at EVT_WR and step it (R94 to R96). -/
def State.evtWrite (s : State) (e : Event) : State :=
  let wr := s.reg bar0 Evt.EVT_WR
  let ph := s.reg bar0 Evt.WR_PHASE
  let base := s.reg bar0 Evt.BASE_HI * 2 ^ 32 + s.reg bar0 Evt.BASE_LO * 4096
  let w0 := e.source + ph * 2 ^ 15 + e.uid % 65536 * 2 ^ 16
  let s := { s with host := Mem.write s.host (base + 16 * wr) (leBytes 4 w0 ++ leBytes 4 e.detail ++ leBytes 8 e.time) }
  let s := s.set bar0 Evt.EVT_WR ((wr + 1) % 4096)
  if wr + 1 = 4096 then s.set bar0 Evt.WR_PHASE (1 - ph) else s
/-- Enter an event in the MRAM event log, newest first (R98, R489): the 4 MiB log holds 262,144 entries of 16 bytes. -/
def State.logEvent (s : State) (e : Event) : State := { s with evt := { s.evt with log := (e :: s.evt.log).take 262144 } }
/-- A vector's MSI-X message leaves, and its hold-off begins (R100). -/
def State.msixGo (s : State) (v : Nat) : State :=
  let a := s.reg msixU Msix.ADDR_HI v * 2 ^ 32 + s.reg msixU Msix.ADDR_LO v
  let h := s.reg bar0 Evt.HOLDOFF
  { s with
    host := Mem.write s.host a (leBytes 4 (s.reg msixU Msix.DATA v)),
    evt := { s.evt with sent := v :: s.evt.sent, hold := (if h = 0 then [] else [(v, s.now + h * 1600, false)]) ++ s.evt.hold.filter (fun x => x.1 != v) } }
/-- A vector has a message to send (R61, R100): none while MSI-X is not enabled; its pending bit while the vector or the function is masked; at the end of the
hold-off while one runs; at once otherwise. -/
def State.msixSend (s : State) (v : Nat) : State :=
  if !s.cfg.msixEnable then s
  else if s.cfg.msixMask || s.reg msixU Msix.MASK v == 1 then s.set pbaU Msix.PBA 1 v
  else match s.evt.hold.find? (fun h => h.1 == v && s.now < h.2.1) with
    | some _ => { s with evt := { s.evt with hold := s.evt.hold.map (fun h => if h.1 = v then (h.1, h.2.1, true) else h) } }
    | none => s.msixGo v
/-- Interrupt of a source (R67, R99, R100). -/
def State.irq (s : State) (src : Nat) : State :=
  if s.reg bar0 Map.IRQ_EN src = 0 || s.d3hot then s else s.msixSend (s.reg bar0 Map.VECTOR src)
/-- The EV_EVENT_LOST entry that comes before further entries once events were counted (R97, R98, R67). -/
def State.evtLostEntry (s : State) : State :=
  if s.reg bar0 Evt.EVT_LOST != 0 && s.evtRoom then
    let e : Event := { source := 0x43, uid := 0, detail := s.reg bar0 Evt.EVT_LOST, time := s.rope }
    (((s.logEvent e).evtWrite e).set bar0 Evt.EVT_LOST 0).irq 0x43
  else s
/-- Raise an event: into the MRAM log (R98), into the ring where RING_EN is 1, counted where it cannot be written, and signalled. An event with both bits
of its source 0 is not recorded, neither in the ring nor in the log (R100, which names the case, over the general words of R98: DEDUCED, log entry 69). -/
def State.raise (s : State) (src uid detail : Nat) : State :=
  let e : Event := { source := src, uid := uid, detail := detail % 2 ^ 32, time := s.rope }
  let ringEn := s.reg bar0 Map.RING_EN src == 1
  if !ringEn && s.reg bar0 Map.IRQ_EN src == 0 then s else
  let s := s.logEvent e
  let s := if !ringEn then s
    else if s.reg bar0 Evt.EVT_LOST == 0 && s.evtRoom then s.evtWrite e
    else s.evtLost
  s.irq src

/-! ### Commits (R42 to R50) -/

/-- The port that is a unit's boundary source (R40), none where it has none. -/
def State.sourcePort (s : State) (u : Nat) : Option Nat :=
  match uClass u with
  | 1 => if uInst u < 8 then some (uInst u) else none
  | 8 => if uInst u < 8 then some (uInst u) else none
  | 2 => if u = refU ∨ uSub u = 0 then none else
    let c := clU (uInst u)
    let i := if uSub u = 9 then s.reg u Lane.PHYS else uSub u
    if i = 0 ∨ s.act c Clus.EN (i - 1) = 0 then none else some (s.act c Clus.PORT (i - 1))
  | 4 => if s.act u Dma.SRC_KIND = 1 then some (s.act u Dma.SRC_PORT) else none
  | 6 =>
    match (List.range 8).filter (fun p => s.act (portU p) Port.MODE == 1 && s.act (lcU p) Lc.AXIS_SEL == uInst u
        && tbit (s.reg devU Job.JOB_PORTS) p) with
    | [p] => some p
    | _ => none
  | 7 => if u = chainU then none
    else if s.act (lampU (uInst u)) Lamp.BOUND = 1 then some (s.act (lampU (uInst u)) Lamp.PORT) else none
  | _ => none
/-- The pages of UID u in a map. -/
def RegMap.ofUid (m : RegMap) (u : Nat) : RegMap := m.filter (fun p => keyUid p.1 == u)
/-- Replace the page of UID u. -/
def RegMap.replace (m : RegMap) (u : Nat) (snap : RegMap) : RegMap := RegMap.join snap (m.filter (fun p => keyUid p.1 != u))
/-- The kind as ACT_KIND names it (R18). -/
def Change.actKind : Change → Nat
  | .line => 1 | .rep => 2 | .job => 3 | _ => 0
/-- Rank of an On change value, JOB rarest (R43). -/
def Change.rank : Change → Nat
  | .now => 0 | .line => 1 | .rep => 2 | .job => 3 | .reset => 4
/-- Bring a run of commits of one unit into force together (R46, R50): the last one's snapshot is the active copy. -/
def State.commitForce (s : State) (u : Nat) (cs : List Commit) (kind line rep time : Nat) : State :=
  match cs.getLast? with
  | none => s
  | some c =>
    let s := { s with active := RegMap.replace s.active u c.snap, commits := s.commits.filter (fun d => !cs.contains d) }
    let s := s.modUnit u (fun x => { x with activeSeq := c.seq, actLine := line, actKind := kind, actRepeat := rep, actTime := time })
    cs.foldl (fun s d => if d.notify then s.raise 0x46 u d.seq else s) s
/-- The longest prefix of a unit's pending commits met by a boundary of rank r that the transfer window lets in (R46, R47, R49). -/
def metPrefix (cs : List Commit) (r tick : Nat) : List Commit :=
  cs.takeWhile (fun c => c.kind.rank ≤ r && c.at_ + 8 < tick)
/-- Long work holds a unit while it runs on the unit, one of its sub-units, a group that holds it, its boundary source or a sub-unit of that port (R49). -/
def State.workHolds (s : State) (u : Nat) : Bool :=
  s.works.any (fun w => w.uid != 0 && (w.uid == u || (uSub u == 0 && uSub w.uid != 0 && w.uid == u + uSub w.uid) || (members w.uid).contains u ||
    (match s.sourcePort u with | some p => uClass w.uid == 1 && (uInst w.uid == p || uInst w.uid == 15) | none => false)))
/-- A unit has been aborted and does not run again yet (R24): a port that runs no job, a cluster or lane that compares nothing, an engine that is not armed, a channel that is
not active, an axis that stands, a line clock, lamp group or chain port that waits to be restarted. -/
def State.atRest (s : State) (u : Nat) : Bool :=
  let i := uInst u
  match uClass u with
  | 1 => !(s.ports.getD i {}).jobOn
  | 2 => s.ebStopped.contains u
  | 3 => !s.trig.armed
  | 4 => (s.dmas.getD (i * 16 + uSub u - 1) {}).st == 0
  | 6 => (s.axes.getD i {}).gen == 0
  | 7 => if u = chainU then s.chain.stopped else (s.lamps.getD i {}).aborted
  | 8 => (s.lcs.getD i {}).aborted
  | _ => false
/-- A boundary of kind rank r at a port's line, whose sample point is the fire of that line (R41, R46): every unit whose boundary source is the port. A unit whose
source runs no job and JOB commits of units without a source are handled at the job boundary. -/
def State.boundary (s : State) (us : List Nat) (r kind line rep tick : Nat) : State :=
  us.foldl (fun s u =>
    if s.fenced u then s else
    let cs := metPrefix ((s.commits.filter (fun c => c.uid == u)).takeWhile (fun c => !(c.kept && s.atRest u))) r tick
    s.commitForce u cs kind line rep (s.ropeAt tick % 2 ^ 32)) s
/-- Units with pending commits, each once. -/
def State.commitUids (s : State) : List Nat := (s.commits.map (·.uid)).eraseDups
/-- R49: the boundary source of a unit runs no job, or the unit has none and the kind is LINE or REPEAT. An axis that no running port binds waits for nothing (R352, R386). -/
def State.noBoundary (s : State) (u : Nat) (k : Change) : Bool :=
  match s.sourcePort u with
  | some p => !(s.port p).jobOn
  | none => k.rank ≤ 2 || (uClass u == 6 && !(List.range 8).any (fun p => s.act (portU p) Port.MODE == 1 && s.act (lcU p) Lc.AXIS_SEL == uInst u && (s.port p).jobOn))
/-- R49: a commit comes into force on acceptance where the unit has no boundary to wait for; not while long work runs, when staged, or on a fenced unit.
One that an abort has left pending waits for its boundary (R24). -/
def State.forcesAtOnce (s : State) (u : Nat) (c : Commit) : Bool :=
  !c.staged && !c.kept && !s.fenced u && !s.workHolds u && s.noBoundary u c.kind
/-- MODE under which a port runs its job: while it holds for its ring to empty, that of the commits which come into force when its hold ends (R54). -/
def State.portMode (s : State) (p : Nat) : Nat :=
  let cs := (s.commits.filter (fun c => c.uid == portU p)).takeWhile (fun c => c.staged || c.at_ + 8 < s.job.lastS)
  match (s.port p).hold, cs.getLast? with
  | true, some c => setVal s.part c.snap (portU p) 0 Port.MODE 0
  | _, _ => s.act (portU p) Port.MODE
/-- At the acceptance of a commit: the prefix of the unit's pending commits that R49 lets in comes into force; a later commit waits behind the others (R46). -/
def State.forceReady (s : State) (u : Nat) : State :=
  let cs := (s.commits.filter (fun c => c.uid == u)).takeWhile (s.forcesAtOnce u)
  s.commitForce u cs 0 0 0 (s.rope % 2 ^ 32)
/-- At the end of long work: the commits that it held come into force (R49). -/
def State.forceHeld (s : State) (u : Nat) : State :=
  let cs := (s.commits.filter (fun c => c.uid == u)).takeWhile (fun c => c.held && !c.staged && !c.kept && !s.fenced u && !s.workHolds u)
  s.commitForce u cs 0 0 0 (s.rope % 2 ^ 32)
/-- The sets as they will be active when everything pending has come into force, with `extra` snapshots on top (R110). -/
def State.prospect (s : State) (extra : List (Nat × RegMap)) : RegMap :=
  let m := s.commits.foldl (fun m c => RegMap.replace m c.uid c.snap) s.active
  extra.foldl (fun m x => RegMap.replace m x.1 x.2) m

/-! ### Trigger signals (R276) -/

/-- An event signal reaches the trigger engine and waits for its slot. -/
def State.signal (s : State) (e : SigEv) : State := s.modTrig (fun t => { t with events := t.events ++ [e] })

/-! ### Fences (R26 to R29) -/

/-- Fence one unit: stop, keep its state, report (R26). A unit fenced already keeps its reason. -/
def State.fenceUnit (s : State) (u reason : Nat) : State :=
  if s.fenced u then s else (s.setSt u .fenced reason).raise 0x45 u reason

end Sys2Proof.Machine
end

