-- ==== Sys2Proof/Machine/Crypto.lean ====
section
/-! DEFINITION. SHA-512 and the verification of ECDSA on P-521, as FIPS 180-4 and FIPS 186-5 define them; the security chapter names
them (R496 to R498) and does not restate them. Log entry 40. -/
namespace Sys2Proof.Machine

/-! ### SHA-512 -/

def shaK1 : List Nat := [0x428A2F98D728AE22, 0x7137449123EF65CD, 0xB5C0FBCFEC4D3B2F, 0xE9B5DBA58189DBBC,
   0x3956C25BF348B538, 0x59F111F1B605D019, 0x923F82A4AF194F9B, 0xAB1C5ED5DA6D8118,
   0xD807AA98A3030242, 0x12835B0145706FBE, 0x243185BE4EE4B28C, 0x550C7DC3D5FFB4E2,
   0x72BE5D74F27B896F, 0x80DEB1FE3B1696B1, 0x9BDC06A725C71235, 0xC19BF174CF692694,
   0xE49B69C19EF14AD2, 0xEFBE4786384F25E3, 0x0FC19DC68B8CD5B5, 0x240CA1CC77AC9C65,
   0x2DE92C6F592B0275, 0x4A7484AA6EA6E483, 0x5CB0A9DCBD41FBD4, 0x76F988DA831153B5,
   0x983E5152EE66DFAB, 0xA831C66D2DB43210, 0xB00327C898FB213F, 0xBF597FC7BEEF0EE4,
   0xC6E00BF33DA88FC2, 0xD5A79147930AA725, 0x06CA6351E003826F, 0x142929670A0E6E70,
   0x27B70A8546D22FFC, 0x2E1B21385C26C926, 0x4D2C6DFC5AC42AED, 0x53380D139D95B3DF,
   0x650A73548BAF63DE, 0x766A0ABB3C77B2A8, 0x81C2C92E47EDAEE6, 0x92722C851482353B]
def shaK2 : List Nat := [0xA2BFE8A14CF10364, 0xA81A664BBC423001, 0xC24B8B70D0F89791, 0xC76C51A30654BE30,
   0xD192E819D6EF5218, 0xD69906245565A910, 0xF40E35855771202A, 0x106AA07032BBD1B8,
   0x19A4C116B8D2D0C8, 0x1E376C085141AB53, 0x2748774CDF8EEB99, 0x34B0BCB5E19B48A8,
   0x391C0CB3C5C95A63, 0x4ED8AA4AE3418ACB, 0x5B9CCA4F7763E373, 0x682E6FF3D6B2B8A3,
   0x748F82EE5DEFB2FC, 0x78A5636F43172F60, 0x84C87814A1F0AB72, 0x8CC702081A6439EC,
   0x90BEFFFA23631E28, 0xA4506CEBDE82BDE9, 0xBEF9A3F7B2C67915, 0xC67178F2E372532B,
   0xCA273ECEEA26619C, 0xD186B8C721C0C207, 0xEADA7DD6CDE0EB1E, 0xF57D4F7FEE6ED178,
   0x06F067AA72176FBA, 0x0A637DC5A2C898A6, 0x113F9804BEF90DAE, 0x1B710B35131C471B,
   0x28DB77F523047D84, 0x32CAAB7B40C72493, 0x3C9EBE0A15C9BEBC, 0x431D67C49C100D4C,
   0x4CC5D4BECB3E42B6, 0x597F299CFC657E2A, 0x5FCB6FAB3AD6FAEC, 0x6C44198C4A475817]
/-- The 80 round constants. -/
def shaK : List Nat := shaK1 ++ shaK2
def shaInit : List Nat := [0x6A09E667F3BCC908, 0xBB67AE8584CAA73B, 0x3C6EF372FE94F82B, 0xA54FF53A5F1D36F1,
   0x510E527FADE682D1, 0x9B05688C2B3E6C1F, 0x1F83D9ABFB41BD6B, 0x5BE0CD19137E2179]
def w64 : Nat := 2 ^ 64
/-- Rotate right within 64 bits. -/
def ror (x k : Nat) : Nat := x / 2 ^ k + x % 2 ^ k * 2 ^ (64 - k)
def bigS0 (x : Nat) : Nat := ror x 28 ^^^ ror x 34 ^^^ ror x 39
def bigS1 (x : Nat) : Nat := ror x 14 ^^^ ror x 18 ^^^ ror x 41
def smallS0 (x : Nat) : Nat := ror x 1 ^^^ ror x 8 ^^^ x / 2 ^ 7
def smallS1 (x : Nat) : Nat := ror x 19 ^^^ ror x 61 ^^^ x / 2 ^ 6
/-- Extend the schedule, newest word first. -/
def shaExtend : Nat → List Nat → List Nat
  | 0, ws => ws
  | k + 1, ws => shaExtend k ((smallS1 (nth ws 1) + nth ws 6 + smallS0 (nth ws 14) + nth ws 15) % w64 :: ws)
/-- One round. -/
def shaRound (v : List Nat) (kw : Nat × Nat) : List Nat :=
  match v with
  | [a, b, c, d, e, f, g, h] =>
    let ch := (e &&& f) ^^^ ((w64 - 1 - e) &&& g)
    let maj := (a &&& b) ^^^ (a &&& c) ^^^ (b &&& c)
    let t1 := h + bigS1 e + ch + kw.1 + kw.2
    [(t1 + bigS0 a + maj) % w64, a, b, c, (d + t1) % w64, e, f, g]
  | _ => v
/-- A number from big-endian bytes, and back. -/
def ofBe (bs : List Nat) : Nat := bs.foldl (fun a b => a * 256 + b % 256) 0
def toBe (k n : Nat) : List Nat := (leBytes k n).reverse
/-- Compress one block of 128 bytes. -/
def shaBlock (hs block : List Nat) : List Nat :=
  let w := ((List.range 16).map (fun i => ofBe ((block.drop (8 * i)).take 8))).reverse
  let sched := (shaExtend 64 w).reverse
  (((shaK.zip sched).foldl shaRound hs).zip hs).map (fun x => (x.1 + x.2) % w64)
/-- Compress k blocks. -/
def shaBlocks : Nat → List Nat → List Nat → List Nat
  | 0, hs, _ => hs
  | k + 1, hs, m => shaBlocks k (shaBlock hs (m.take 128)) (m.drop 128)
/-- SHA-512 of a byte string, 64 bytes. -/
def sha512 (m : List Nat) : List Nat :=
  let z := (240 - (m.length + 1) % 128) % 128
  let padded := m ++ [0x80] ++ List.replicate z 0 ++ toBe 16 (8 * m.length)
  (shaBlocks (padded.length / 128) shaInit padded).flatMap (toBe 8)

/-! ### ECDSA on P-521 -/

def ecP : Nat := 2 ^ 521 - 1
def ecB : Nat := 0x51953EB9618E1C9A1F929A21A0B68540EEA2DA725B99B315F3B8B489918EF109E156193951EC7E937B1652C0BD3BB1BF073573DF883D2C34F1EF451FD46B503F00
def ecN : Nat := 0x1FFFFFFFFFFFFFFFFFFFFFFFFFFFFFFFFFFFFFFFFFFFFFFFFFFFFFFFFFFFFFFFFFA51868783BF2F966B7FCC0148F709A5D03BB5C9B8899C47AEBB6FB71E91386409
def ecG : Nat × Nat := (0xC6858E06B70404E9CD9E3ECB662395B4429C648139053FB521F828AF606B4D3DBAA14B5E77EFE75928FE1DC127A2FFA8DE3348B3C1856A429BF97E7E31C2E5BD66,
  0x11839296A789A3BC0045C8A5FB42C7D1BD998F54449579B446817AFBD17273E662C97EE72995EF42640C550B9013FAD0761353C7086A272C24088BE94769FD16650)
/-- Power modulo m, over the low `k` bits of the exponent. -/
def powMod (m : Nat) : Nat → Nat → Nat → Nat
  | 0, _, _ => 1 % m
  | k + 1, b, e => let r := powMod m k (b * b % m) (e / 2); if e % 2 = 1 then b * r % m else r
/-- Inverse modulo a prime. -/
def invMod (m x : Nat) : Nat := powMod m 522 (x % m) (m - 2)
/-- Difference modulo m. -/
def subMod (m a b : Nat) : Nat := (a % m + (m - b % m)) % m
/-- Point addition; the point at infinity is none. -/
def ecAdd : Option (Nat × Nat) → Option (Nat × Nat) → Option (Nat × Nat)
  | none, q => q
  | p, none => p
  | some p, some q =>
    if p.1 = q.1 ∧ (p.2 + q.2) % ecP = 0 then none
    else
      let l := if p.1 = q.1 then subMod ecP (3 * p.1 * p.1) 3 * invMod ecP (2 * p.2) % ecP
        else subMod ecP q.2 p.2 * invMod ecP (subMod ecP q.1 p.1) % ecP
      let x := subMod ecP (subMod ecP (l * l) p.1) q.1
      some (x, subMod ecP (l * subMod ecP p.1 x) p.2)
/-- Multiple of a point, over `f` bits of the factor. -/
def ecMul : Nat → Nat → Option (Nat × Nat) → Option (Nat × Nat)
  | 0, _, _ => none
  | f + 1, k, q => let r := ecMul f (k / 2) (ecAdd q q); if k % 2 = 1 then ecAdd q r else r
/-- The point of an uncompressed SEC1 key of 133 bytes, none when it is malformed or off the curve. -/
def ecPoint (key : List Nat) : Option (Nat × Nat) :=
  let x := ofBe ((key.drop 1).take 66)
  let y := ofBe ((key.drop 67).take 66)
  if key.length = 133 ∧ nth key 0 = 4 ∧ x < ecP ∧ y < ecP ∧ y * y % ecP = (subMod ecP (x * x * x) (3 * x) + ecB) % ecP then some (x, y) else none
/-- A signature of 132 bytes over a SHA-512 digest verifies under a key. -/
def ecdsaOk (key digest sig : List Nat) : Bool :=
  match ecPoint key with
  | none => false
  | some q =>
    let r := ofBe (sig.take 66)
    let s := ofBe ((sig.drop 66).take 66)
    let z := ofBe digest
    if sig.length != 132 || r == 0 || s == 0 || decide (ecN ≤ r) || decide (ecN ≤ s) then false
    else
      let w := invMod ecN s
      match ecAdd (ecMul 522 (z * w % ecN) (some ecG)) (ecMul 522 (r * w % ecN) (some q)) with
      | none => false
      | some x => x.1 % ecN == r

end Sys2Proof.Machine
end

