-- ==== Sys2Proof/Machine/Flags.lean ====
section
/-! DEFINITION. The codes of the spec under their names: status codes (R103 and the chapters' tables), event sources (R101, R102), fence
reasons (R31 and the chapters' tables), line flags (R317), and the operations on a line's flag word. -/
namespace Sys2Proof.Machine

/-! Status codes: those common to all units (R103) and those of the chapters (R169, R236, R274, R308, R346, R385, R405, R428, R453, R475, R552 and
the tables beside them). -/
namespace St
def OK : Nat := 0x0000
def BAD_OPCODE : Nat := 0x0001
def BAD_LENGTH : Nat := 0x0002
def BAD_PARAM : Nat := 0x0003
def BAD_FLAGS : Nat := 0x0004
def WRONG_QUEUE : Nat := 0x0005
def NO_UNIT : Nat := 0x0006
def UNSUPPORTED : Nat := 0x0007
def BUSY : Nat := 0x0008
def FENCED : Nat := 0x0009
def FROZEN : Nat := 0x000A
def ABORTED : Nat := 0x000B
def COMMIT_FULL : Nat := 0x000C
def LOCKED : Nat := 0x000D
def SIGNATURE : Nat := 0x000E
def ROLLBACK : Nat := 0x000F
def NOT_STAGED : Nat := 0x0010
def NO_RECIPE : Nat := 0x0011
def LEVEL_UNSUPPORTED : Nat := 0x0012
def BUFFER_TOO_SMALL : Nat := 0x0013
def ALIGN : Nat := 0x0014
def POSITION_CHANGED : Nat := 0x0015
def HOME_CHATTER : Nat := 0x0016
def HOME_WRONG_LIMIT : Nat := 0x0017
def NOT_LEADER : Nat := 0x0018
def CAL_DISAGREE : Nat := 0x0019
def LINK_DEGRADED : Nat := 0x001A
def RATE_LIMIT : Nat := 0x0040
def PG_PROGRAM : Nat := 0x0041
def PG_CYCLE : Nat := 0x0042
def EXP_FIT : Nat := 0x0043
def LAG_FIT : Nat := 0x0044
def TAP_MAP : Nat := 0x0048
def CDS_TIMING : Nat := 0x0049
def NO_SPARE : Nat := 0x004A
def SHADING_SET : Nat := 0x0050
def CAPTURE_LINES : Nat := 0x0051
def SHADING_RANGE : Nat := 0x0052
def EB_MAP : Nat := 0x0060
def EB_BUDGET : Nat := 0x0061
def REF_IMAGE : Nat := 0x0062
def EB_REG : Nat := 0x0063
def TRIG_LOOP : Nat := 0x0068
def TRIG_COND : Nat := 0x0069
def DMA_BIND : Nat := 0x0070
def DMA_CHAIN : Nat := 0x0071
def AXIS_QUEUE_FULL : Nat := 0x0078
def AXIS_LIMIT : Nat := 0x0079
def AXIS_SOFT_LIMIT : Nat := 0x007A
def AXIS_OWNED : Nat := 0x007B
def AXIS_NO_REMAIN : Nat := 0x007C
def HOME_NOT_FOUND : Nat := 0x007D
def AXIS_UNIDENTIFIED : Nat := 0x007E
def AXIS_LINKED : Nat := 0x007F
def SCAN_RATE : Nat := 0x0080
def SCAN_CONFIG : Nat := 0x0081
def LAMP_CONFIG : Nat := 0x0088
def LAMP_DIAG_FIT : Nat := 0x0089
def LAMP_FAULT : Nat := 0x008A
def CHAIN_RATE : Nat := 0x008B
def RECIPE_FORMAT : Nat := 0x0090
def RECIPE_DIGEST : Nat := 0x0091
def STAGED : Nat := 0x0092
def LINK_BUDGET : Nat := 0x0093
def ROPE_NOT_JOINED : Nat := 0x0098
def MEM_BUDGET : Nat := 0x00A0
def MEM_UNCORRECTABLE : Nat := 0x00A1
def FW_IMAGE : Nat := 0x00A8
def CHALLENGE : Nat := 0x00A9
def BUNDLE : Nat := 0x00AA
def POWER_OFF : Nat := 0x00B0
def POWER_DEP : Nat := 0x00B1
end St

/-! Event sources: those of R101 and R102 and those of the chapters (R136, R168, R198, R235, R273, R307, R345, R384, R404, R427, R452, R551 and
the tables beside them). -/
namespace Ev
def REPLY_READY : Nat := 0x40
def WORK_DONE : Nat := 0x41
def CMD_OVERFLOW : Nat := 0x42
def EVENT_LOST : Nat := 0x43
def SEQ_WEDGED : Nat := 0x44
def UNIT_FENCED : Nat := 0x45
def COMMIT_ACTIVE : Nat := 0x46
def TIMEBASE_UNLOCK : Nat := 0x47
def PACE_LOW : Nat := 0x48
def APERTURE_DENIED : Nat := 0x49
def LINK_CHANGE : Nat := 0x4A
def EXP_CLAMPED : Nat := 0x50
def AFE_SPARE_IN : Nat := 0x58
def AFE_SPARE_LOST : Nat := 0x59
def AFE_STALE : Nat := 0x5A
def LANE_FAULT : Nat := 0x5B
def REF_TRACE : Nat := 0x5C
def LC_OVERSPEED : Nat := 0x60
def ENC_FAULT : Nat := 0x61
def WEB_STATE : Nat := 0x62
def REPEAT_MISS : Nat := 0x63
def CLAMP_RANGE : Nat := 0x68
def WHITE_RANGE : Nat := 0x69
def TEMP_FAULT : Nat := 0x6A
def SHADING_ECC : Nat := 0x6B
def EB_SPARE_IN : Nat := 0x70
def REG_LOST : Nat := 0x71
def REG_STRETCH : Nat := 0x72
def BLOB_OVERFLOW : Nat := 0x73
def EB_STOP : Nat := 0x74
def REF_STAGE_LOST : Nat := 0x75
def REF_ECC : Nat := 0x76
def REPEAT_VERDICT : Nat := 0x77
def TRIG_COND : Nat := 0x80
def TRIG_MISSED : Nat := 0x81
def TRIG_NO_JOB : Nat := 0x82
def EVID_REFUSED : Nat := 0x83
def OUT_OVERFLOW : Nat := 0x84
def TRIG_FROZE : Nat := 0x85
def ARM_CHANGE : Nat := 0x86
def QUEUE_PTR : Nat := 0xA0
def MOVER_ALIGN : Nat := 0xA1
def RING_STOP : Nat := 0xA2
def RING_RESUME : Nat := 0xA3
def AXIS_MOVE_DONE : Nat := 0xB0
def AXIS_FAULT : Nat := 0xB1
def AXIS_VLIMIT : Nat := 0xB2
def AXIS_CHATTER : Nat := 0xB3
def AXIS_REF_LOST : Nat := 0xB4
def SW_SLOW : Nat := 0xB8
def BELAY : Nat := 0xB9
def BELAY_SEAM : Nat := 0xBA
def BELAY_PARK_MAX : Nat := 0xBB
def BELAY_DRIFT : Nat := 0xBC
def SCAN_LOST : Nat := 0xBD
def LAMP_FAULT : Nat := 0xC0
def LAMP_SPARE_IN : Nat := 0xC1
def LAMP_WEAR : Nat := 0xC2
def LAMP_UNVERIFIED : Nat := 0xC3
def CHAIN_FAULT : Nat := 0xC4
def CHAIN_LATE : Nat := 0xC5
def JOB_BOUNDARY : Nat := 0xD0
def JOB_NOT_STARTED : Nat := 0xD1
def STAGE_LOST : Nat := 0xD2
def JOB_ROPE_LATE : Nat := 0xD3
def ROPE_LINK : Nat := 0xE0
def ROPE_ALIGN : Nat := 0xE1
def ROPE_STEP : Nat := 0xE2
def ROPE_MARK : Nat := 0xE3
def ROPE_MSG_DROPPED : Nat := 0xE4
def MEM_UE : Nat := 0xE8
def MEM_RETIRE : Nat := 0xE9
def MEM_RESERVE : Nat := 0xEA
def MEM_TRAIN : Nat := 0xEB
def MRAM_ROW : Nat := 0xEC
def MRAM_ERROR : Nat := 0xED
def SPARE_LOW : Nat := 0xEE
def BOOT_FALLBACK : Nat := 0xF0
def FW_STAGED : Nat := 0xF1
def KEY_CHANGE : Nat := 0xF2
def AUDIT_LOW : Nat := 0xF3
def AUDIT_WRAP : Nat := 0xF4
def DEBUG_UNLOCK : Nat := 0xF5
def BUNDLE_IMPORT : Nat := 0xF6
def FREEZE : Nat := 0xF8
def THAW : Nat := 0xF9
def POWER_CHANGE : Nat := 0xFA
end Ev

/-! Fence reasons: those common to all units (R31), and those of a class (R169, R236, R275, R347, R429). -/
namespace Fr
def QUEUE_PTR : Nat := 1
def SELF_TEST : Nat := 2
def ABORT_LATE : Nat := 3
def MEMBER_FENCED : Nat := 4
def FROZE : Nat := 5
def ROPE_LOST : Nat := 6
def TIME_BASE_UNLOCK : Nat := 7
def EXTERNAL_FAULT : Nat := 8
def CONFIG : Nat := 9
def PG_OVERRUN : Nat := 0x40
def AFE_SUSPECT : Nat := 0x41
def LANE_LOST : Nat := 0x42
def SHADING_ECC : Nat := 0x43
def ENC_FAULT : Nat := 0x40
def LANE_CHECK : Nat := 0x40
def LANE_RETIRED : Nat := 0x41
def DESC_READ : Nat := 0x40
def BAD_DESC : Nat := 0x41
end Fr

/-! Bits of the line flag word (R317). -/
namespace Ln
def EXPOSURE_CLAMPED : Nat := 0
def VELOCITY_SETTLING : Nat := 1
def OVERSPEED : Nat := 2
def ENCODER_FAULT : Nat := 3
def PLANE_FILL : Nat := 4
def LANE_FAULT : Nat := 5
def AFE_STALE : Nat := 6
def BLACK_SETTLING : Nat := 7
def WHITE_SETTLING : Nat := 8
def REGISTRATION_NOMINAL : Nat := 9
def REGISTRATION_HELD : Nat := 10
def UNINSPECTED : Nat := 11
def LAMP_UNVERIFIED : Nat := 12
def LAMP_INVALID : Nat := 13
def PACE_CRITICAL : Nat := 14
def ROPE_LOST : Nat := 15
end Ln

/-- Flag b of a flag word. -/
def hasFlag (w b : Nat) : Bool := w / 2 ^ b % 2 == 1
/-- Set flag b when c holds. -/
def orFlag (w b : Nat) (c : Bool) : Nat := if c && !hasFlag w b then w + 2 ^ b else w
/-- A flag word carries some flag of a list. -/
def anyFlag (w : Nat) (bs : List Nat) : Bool := bs.any (hasFlag w)
/-- The flags that lift a figure of R234. -/
def liftFlags : List Nat := [0, 7, 8, 6, 5, 4, 13, 12, 14]

end Sys2Proof.Machine
end

