-- ==== Sys2Proof/Machine/Audit.lean ====
section
/-! DEFINITION. The audit log (R514 to R516). -/
namespace Sys2Proof.Machine
open R

def lo32 (n : Nat) : Nat := n % 2 ^ 32
def hi32 (n : Nat) : Nat := n / 2 ^ 32 % 2 ^ 32
/-- Bytes 0x00 to 0x3F of an entry. -/
def auditBody (seq kind uid time : Nat) (detail : List Nat) : List Nat :=
  leBytes 4 seq ++ leBytes 2 kind ++ leBytes 2 uid ++ leBytes 8 time ++ (detail ++ List.replicate 48 0).take 48
/-- The 128 bytes of an entry. -/
def Audit.bytes (a : Audit) : List Nat := auditBody a.seq a.kind a.uid a.time a.detail ++ a.chain
/-- CHAIN of the last entry. -/
def State.auditChain (s : State) : List Nat := (s.sec.audit.getLast?.map (·.chain)).getD (List.replicate 64 0)
/-- Keep the audit fields of the security page in step. -/
def State.auditRegs (s : State) : State :=
  s.set secU Sec.AUDIT_UNEXPORTED (s.sec.audit.filter (fun e => !e.out)).length
/-- Append an entry; a full ring overwrites its oldest (R516). EV_AUDIT_WRAP marks the first overwrite of an unexported entry since an exported one was overwritten, or since the ring
last had room (DESIGN CHOICE, log entry 83). Numbers stand in DETAIL as 4 bytes each, digests as far as they fit (log entry 41). -/
def State.audit (s : State) (kind uid : Nat) (detail : List Nat) : State :=
  let seq := s.reg secU Sec.AUDIT_SEQ
  let d := (detail ++ List.replicate 48 0).take 48
  let e : Audit := { seq := seq, kind := kind, uid := uid, time := s.rope, detail := d, chain := sha512 (s.auditChain ++ auditBody seq kind uid s.rope d) }
  let full := 65536 ≤ s.sec.audit.length
  let old := (s.sec.audit.head?.map (·.seq)).getD 0
  let lost : Bool := full && (s.sec.audit.head?.map (fun e => !e.out)).getD false
  let first := lost && !s.sec.wrapped
  let gone := if full then (s.sec.audit.head?.map (·.chain)).getD [] else s.sec.gone
  let s := { s with sec := { s.sec with gone := gone, audit := (if full then s.sec.audit.drop 1 else s.sec.audit) ++ [e], wrapped := lost } }
  let s := s.set secU Sec.AUDIT_SEQ (seq + 1)
  let s := if full then s.bump secU Sec.AUDIT_OVERWRITTEN else s
  let s := if first then s.raise Ev.AUDIT_WRAP secU old else s
  let s := s.auditRegs
  if 58983 ≤ s.reg secU Sec.AUDIT_UNEXPORTED && !s.sec.low then
    { s with sec := { s.sec with low := true } }.raise Ev.AUDIT_LOW secU (s.reg secU Sec.AUDIT_UNEXPORTED)
  else s
/-- Entries up to the first whose SEQ does not continue the sequence or whose CHAIN does not verify against its predecessor (R514). The oldest held has no predecessor to verify against,
but for entry 0. -/
def auditRun : Option Audit → List Audit → List Audit
  | _, [] => []
  | prev, e :: l =>
    let body := auditBody e.seq e.kind e.uid e.time e.detail
    let ok : Bool := match prev with
      | some p => e.seq == p.seq + 1 && e.chain == sha512 (p.chain ++ body)
      | none => e.seq != 0 || e.chain == sha512 (List.replicate 64 0 ++ body)
    if ok then e :: auditRun (some e) l else []
/-- Start-up finds the next free entry: an entry that breaks the sequence, and what stands after it, is absent and will be overwritten (R514). -/
def State.auditStart (s : State) : State :=
  let l := auditRun none s.sec.audit
  if l.length = s.sec.audit.length then s else
  let next := match l.getLast? with | some e => e.seq + 1 | none => (s.sec.audit.head?.map (·.seq)).getD 0
  ({ s with sec := { s.sec with audit := l } }.set secU Sec.AUDIT_SEQ next).auditRegs
/-- A torn write or a bad row has damaged the audit entry of a SEQ (R514, log entry 81). -/
def State.auditTorn (s : State) (seq : Nat) : State :=
  { s with sec := { s.sec with audit := s.sec.audit.map (fun e => if e.seq = seq then { e with chain := List.replicate 64 0 } else e) } }

/-- The value that the ROM takes from the three copies of the anti-rollback counter (R501). -/
def counterVote (l : List (Option Nat)) : Option Nat :=
  match l.filterMap id with
  | [] => none
  | vs => some (match vs.find? (fun v => decide (2 ≤ (vs.filter (· == v)).length)) with | some v => v | none => vs.foldl max 0)
/-- The ROM reads the counter. No readable copy leaves the value as it stood (log entry 83). -/
def State.counterRead (s : State) : State :=
  match counterVote s.sec.counters with | some v => s.set secU Sec.COUNTER v | none => s
/-- The counter is written, in every copy. -/
def State.counterPut (s : State) (v : Nat) : State := { s with sec := { s.sec with counters := [some v, some v, some v] } }.set secU Sec.COUNTER v
/-- A copy of the counter changes in its row, or can no longer be read (log entry 81). -/
def State.counterUpset (s : State) (copy : Nat) (v : Option Nat) : State := { s with sec := { s.sec with counters := upd s.sec.counters copy (fun _ => v) } }

end Sys2Proof.Machine
end

