-- ==== Sys2Proof/Machine/Operands.lean ====
section
/-! DEFINITION. The register pages as the host reads and writes them (R9, R10, R69 to R71, R603), the memory map (R478, R484), and
the words of commands as fields. -/
namespace Sys2Proof.Machine
open R

/-! ### Pages -/

/-- The register tables of a unit's page, none for a UID without a page. The tables in `Ctx` belong to the port
context that CTX_SEL names (R257). -/
def pageOf (u : Nat) : List Field :=
  let c := uClass u
  let k := uSub u
  if u = devU then tabJob ++ tabPd ++ tabTh ++ tabRes
  else if u = encU then tabEnc
  else if u = refU then tabRefSt
  else if u = chainU then tabChain ++ tabRes
  else if uInst u = 15 then []
  else if c = 1 then
    (if k = 0 then tabPort ++ tabTap ++ tabRing else if k ≤ 9 then tabAfe else if k = 0x10 then tabLaneRx
     else if k = 0x20 then tabPipe else []) ++ tabRes
  else if c = 2 then (if k = 0 then tabClus else tabLane) ++ tabRes
  else if c = 3 then tabTrig ++ tabCond ++ tabRes
  else if c = 4 then if k = 0 then [] else tabDma ++ tabRes
  else if c = 5 then tabMover ++ tabRes
  else if c = 6 then tabAxis ++ tabBelay ++ tabRes
  else if c = 7 then (if k = 0 then tabLamp else tabStr) ++ tabRes
  else if c = 8 then tabLc ++ tabRes
  else if u = ropeU then tabRope ++ tabRes
  else if c = 0xA then tabMem ++ tabRes
  else if c = 0xB then tabSec ++ tabRes
  else if c = 0xC then tabCalRef ++ tabRes
  else if c = 0xD then tabHare ++ tabRes
  else []
/-- The tables of BAR0 by region (R68). -/
def bar0Tables : List Field := tabId ++ tabCmd ++ tabPace ++ tabEvt ++ tabMap ++ tabTim ++ tabDb

/-- The instances of a field that lie in the word at a byte offset. -/
def fieldIdx (f : Field) (off : Nat) : List Nat :=
  if f.stride = 0 then (if f.bit / 32 = off / 4 then [0] else [])
  else
    let w := off / 4 * 32
    let i0 := if f.bit ≤ w then cdiv (w - f.bit) f.stride else 0
    (List.range 32).filterMap (fun k => if i0 + k < f.count && (f.bit + f.stride * (i0 + k)) / 32 == off / 4 then some (i0 + k) else none)
/-- The field instances of a word. -/
def wordFields (tab : List Field) (off : Nat) : List (Field × Nat) := tab.flatMap (fun f => (fieldIdx f off).map (fun i => (f, i)))
/-- A field's lowest bit within its word. -/
def fieldLo (f : Field) (i : Nat) : Nat := (f.bit + f.stride * i) % 32
/-- The part of a word that a field holds. -/
def fieldOf (f : Field) (i w : Nat) : Nat := w / 2 ^ fieldLo f i % 2 ^ f.width

/-- The page shown for UID u, with the context of a cluster page. -/
def State.pageFields (s : State) (u off : Nat) : List (Field × Nat) × Nat :=
  if uClass u = 2 ∧ uSub u = 0 ∧ uInst u < 2 ∧ 0x400 ≤ off ∧ off < 0x800 then (wordFields tabCtx off, s.reg u Clus.CTX_SEL)
  else (wordFields (pageOf u) off, 0)

/-- A word of a page as a window shows it (R9): RO, RW, W1C, W1S and RC fields from the live registers, SH fields from the
shadow; WO fields read 0. -/
def State.pageWord (s : State) (u off : Nat) : Nat :=
  let (fs, ctx) := s.pageFields u off
  fs.foldl (fun w x => w + (match x.1.acc with
    | .wo => 0
    | .sh => s.sh u ctx x.1 x.2
    | _ => s.regC u ctx x.1 x.2) * 2 ^ fieldLo x.1 x.2) 0
/-- Reading clears the RC fields of a word (R9). -/
def State.rcClear (s : State) (u ctx : Nat) (fs : List (Field × Nat)) : State :=
  fs.foldl (fun s x => if x.1.acc = .rc then s.setC u ctx x.1 x.2 0 else s) s

/-- Join the open set of a unit with a field's On change (R42, R43). -/
def State.join (s : State) (u : Nat) (c : Change) : State :=
  match s.openSets.find? (fun p => p.1 == u) with
  | none => { s with openSets := (u, c) :: s.openSets }
  | some p => if p.2.rank < c.rank then { s with openSets := s.openSets.map (fun q => if q.1 = u then (u, c) else q) } else s
/-- Write one field of a page by its access code; SHUTTER takes no write on the NV8140 (R113). A shadow field that is written joins the open set (R42). -/
def State.writeField (s : State) (u ctx : Nat) (f : Field) (i v : Nat) : State :=
  match f.acc with
  | .rw => s.setC u ctx f i v
  | .sh =>
    if s.part.part == 0x8140 && f.name == "SHUTTER" then s
    else { s with shadow := putVal s.part s.shadow u ctx f i v }.join u f.chg
  | .w1c => if v % 2 ^ f.width = 0 then s else s.setC u ctx f i (s.regC u ctx f i &&& (2 ^ f.width - 1 - v % 2 ^ f.width))
  | .w1s => if v % 2 ^ f.width = 0 then s else s.setC u ctx f i (s.regC u ctx f i ||| v % 2 ^ f.width)
  | _ => s
/-- A write of this value to a field leaves the shadow as it stands: it has the value already, or takes no write. -/
def State.fieldStands (s : State) (u ctx : Nat) (x : Field × Nat) (w : Nat) : Bool :=
  x.1.acc == .sh && (s.sh u ctx x.1 x.2 == fieldOf x.1 x.2 w || (s.part.part == 0x8140 && x.1.name == "SHUTTER"))
/-- Write fields of a page with a word. Registers take whole words (R69), and the example of R135 commits BANK with kind LINE though OUT_EN, of kind JOB, shares its word: the SH fields whose
value changes join the open set, and a word that changes none of them is a write of them all (R42, R43; DEDUCED, log entry 15). -/
def State.writeFields (s : State) (u ctx : Nat) (fs : List (Field × Nat)) (w : Nat) : State :=
  let moved := fs.any (fun x => x.1.acc == .sh && !s.fieldStands u ctx x w)
  (fs.filter (fun x => !(moved && s.fieldStands u ctx x w))).foldl (fun (s : State) x => s.writeField u ctx x.1 x.2 (fieldOf x.1 x.2 w)) s
/-- Write a word of a page. -/
def State.writeWord (s : State) (u off w : Nat) : State :=
  let x := s.pageFields u off
  s.writeFields u x.2 x.1 w
/-- Mask of the bits of a word that lie in listed fields. -/
def fieldMask (fs : List (Field × Nat)) : Nat := fs.foldl (fun m x => m + (2 ^ x.1.width - 1) * 2 ^ fieldLo x.1 x.2) 0

/-! ### The result group (R71) -/

/-- Put a result of a command into the result group of a page. The live words wait in `results` until RES_TAG is read. -/
def State.putResult (s : State) (u tag : Nat) (ws : List Nat) : State :=
  let s := { s with results := (u, ws.take 16) :: s.results.filter (fun r => r.1 != u) }
  let s := if s.reg u Res.VALID = 1 then s.set u Res.OVERWRITTEN 1 else s
  (s.set u Res.TAG tag).set u Res.VALID 1

/-! ### Memory map (R478, R484), in MiB -/

def State.capMiB (s : State) : Nat := s.part.dramBytes / 2 ^ 20
def State.eccOn (s : State) : Bool := s.reg memU Mem.ECC_ACTIVE == 1
/-- Fitted memory in bytes: F, or F × 31/32 with inline ECC. -/
def State.fitted (s : State) : Nat := if s.eccOn then s.part.dramBytes / 32 * 31 else s.part.dramBytes
def State.slotMiB (s : State) : Nat := s.reg refU RefSt.SLOT_MIB
def State.refBase (s : State) (slot : Nat) : Nat := 832 + slot * s.slotMiB
def State.reserveMiB (s : State) : Nat := s.capMiB / 100 + 1
def State.reserveBase (s : State) : Nat := s.fitted / 2 ^ 20 - s.reserveMiB
def State.ringLo (s : State) : Nat := 832 + 2 * s.slotMiB + 1024
def State.ringHi (s : State) : Nat := s.reserveBase
def shadingBase : Nat := 0x04000000
/-- A byte address that the default map marks as owned by the device (R73). -/
def State.deviceOwned (s : State) (a : Nat) : Bool :=
  let m := a / 2 ^ 20
  let ra := s.refBase (s.reg refU RefSt.ACTIVE)
  let pb := s.act trigU Trig.POOL_BASE * 64
  m < 64 || (ra ≤ m && m < ra + s.slotMiB) || (pb ≤ m && m < pb + s.act trigU Trig.POOL_SIZE * 64) || (832 + 2 * s.slotMiB ≤ m)
/-- The address is inside the fitted memory (R554). -/
def State.inDram (s : State) (a len : Nat) : Bool := a + len ≤ s.fitted

/-- A RESET field as it is in force (R11): the value brought into force at the last reset. -/
def State.inForce (s : State) (u : Nat) (f : Field) : Nat := setVal s.part s.active u 0 f 0
/-- HOT_RATE in force (R585). -/
def State.hotRate (s : State) : Bool := s.inForce devU Th.HOT_RATE == 1
/-- Limit of the rate in force, in sixteenths of a degree (R585). -/
def State.tjLimit (s : State) : Int := if s.part.grade = 2 ∧ s.hotRate then 2000 else 1680
/-- WARN and ABOVE_RATE at a temperature, as TJ_WARN and the rate in force give them (R584). -/
def State.tjWarn (s : State) (tj : Int) : State :=
  (s.set devU Th.WARN (b2n (decide (sgn 16 (s.reg devU Th.TJ_WARN) ≤ tj)))).set devU Th.ABOVE_RATE (b2n (decide (s.tjLimit < tj)))
/-- WARN and ABOVE_RATE follow a change of TJ_WARN or of the rate. -/
def State.tjFlags (s : State) : State := s.tjWarn (sgn 16 (s.reg devU Th.TJ))
/-- A tap of a port that no good channel serves (R153): its channel is retired and the spare does not hold it. -/
def State.tapNoChannel (s : State) (p k : Nat) : Bool :=
  s.reg (afeU p (k + 1)) Afe.SUSPECT == 1 && s.reg (portU p) Port.SPARE_TAP != k

end Sys2Proof.Machine
end

