-- ==== Sys2Proof/Machine/Checks.lean ====
section
/-! DEFINITION. The checks that a COMMIT, UNIT_WRITE, RECIPE_LOAD or JOB_STAGE makes on a set as it would be active: ports, pipelines,
line clocks, rings, clusters, the trigger engine and DMA channels (R110, R123, R124, R139, R140, R166, R176, R215, R238, R239,
R257, R284, R305, R309, R326, R342 to R344). A check answers none, or the refusal's status and result words. -/
namespace Sys2Proof.Machine
open R

/-- A refusal: status and result words. -/
abbrev Refuse := Option (Nat × List Nat)
/-- Refuse when a condition fails. -/
def need (ok : Bool) (st : Nat) (ws : List Nat) : Refuse := if ok then none else some (st, ws)
/-- The first refusal of a list of checks. -/
def firstOf : List Refuse → Refuse
  | [] => none
  | some r :: _ => some r
  | none :: l => firstOf l

/-- A field of a set. -/
def vw (s : State) (m : RegMap) (u : Nat) (f : Field) (i : Nat := 0) : Nat := setVal s.part m u 0 f i
def vwC (s : State) (m : RegMap) (u c : Nat) (f : Field) (i : Nat := 0) : Nat := setVal s.part m u c f i

/-! ### Derived sizes of a port's set -/

def planesOf (s : State) (m : RegMap) (p : Nat) : Nat := vw s m (portU p) Port.PLANES + 1
def widthOf (s : State) (m : RegMap) (p : Nat) : Nat := vw s m (portU p) Port.LINE_UNITS * 64
def samplesOf (s : State) (m : RegMap) (p : Nat) : Nat := widthOf s m p * planesOf s m p
/-- LAG_p (R112). -/
def lagOf (s : State) (m : RegMap) (p k : Nat) : Nat := vw s m (portU p) Port.PLANE_LAG / 256 ^ k % 256
def maxLag (s : State) (m : RegMap) (p : Nat) : Nat := ((List.range (planesOf s m p)).map (lagOf s m p)).foldl max 0
/-- Row bytes of R318. -/
def rowBytes (w outBits : Nat) : Nat := if outBits = 0 then 2 * w else if outBits = 1 then 3 * w / 2 else w
/-- LINE_STRIDE (R318). -/
def strideOf (s : State) (m : RegMap) (p : Nat) : Nat :=
  cdiv (planesOf s m p * rowBytes (widthOf s m p) (vw s m (pipeU p) Pipe.OUT_BITS)) 64 * 64
/-- Samples a tap delivers (R138). -/
def tapLen (s : State) (m : RegMap) (p k : Nat) : Nat :=
  vw s m (portU p) Tap.SKIP k + vw s m (portU p) Tap.OB k + vw s m (portU p) Tap.COUNT k
def tapEn (s : State) (m : RegMap) (p k : Nat) : Bool := vw s m (portU p) Tap.EN k == 1
def tapsOn (s : State) (m : RegMap) (p : Nat) : List Nat := (List.range 16).filter (tapEn s m p)
/-- Word width W of the lane receiver. -/
def laneBits (s : State) (m : RegMap) (p : Nat) : Nat := 10 + 2 * vw s m (rxU p) LaneRx.WORD
/-- The period the capture path allows (R166). -/
def capPeriod (s : State) (m : RegMap) (p : Nat) : Nat :=
  if vw s m (portU p) Port.CAPTURE = 0 then 0 else
  let n := ((tapsOn s m p).map (tapLen s m p)).foldl max 0
  let v := if vw s m (rxU p) LaneRx.FRAMING = 0 then 8 else 0
  cdiv ((n + v) * laneBits s m p * 1600) (vw s m (rxU p) LaneRx.LANE_MBPS)
/-- Ports of the part (R1). -/
def State.portsOn (s : State) : List Nat := if s.part.part = 0x8140 then [0, 1, 2, 3] else [0, 1, 2, 3, 4, 5, 6, 7]
/-- Device rate limit in tenths of a sample per tick (R109, R585). -/
def State.rateTenths (s : State) : Nat :=
  if s.part.grade = 2 ∧ s.hotRate then (if s.eccOn then 48 else 60) else if s.eccOn then 64 else 80
/-- Sum of samples / LINE_PERIOD_MIN over ports, as numerator and denominator. -/
def rateSum (s : State) (m : RegMap) : List Nat → Nat × Nat
  | [] => (0, 1)
  | p :: ps =>
    let (n, d) := rateSum s m ps
    let l := vw s m (portU p) Port.LINE_PERIOD_MIN
    if l = 0 then (n, d) else (n * l + samplesOf s m p * d, d * l)
/-- Smallest LINE_PERIOD_MIN of port p that would pass R110. -/
def minPeriod (s : State) (m : RegMap) (p : Nat) : Nat :=
  let (n, d) := rateSum s m (s.portsOn.filter (· != p))
  let room := s.rateTenths * d - 10 * n
  let bySum := if room = 0 then 0xFFFFFFFF else cdiv (samplesOf s m p * 10 * d) room
  max (max 4000 (samplesOf s m p)) (max (capPeriod s m p) bySum)
/-- R110 for port p, and the device sum. -/
def rateCheck (s : State) (m : RegMap) (p : Nat) : Refuse :=
  let l := vw s m (portU p) Port.LINE_PERIOD_MIN
  let (n, d) := rateSum s m s.portsOn
  need (4000 ≤ l && samplesOf s m p ≤ l && capPeriod s m p ≤ l && 10 * n ≤ s.rateTenths * d) St.RATE_LIMIT [minPeriod s m p]

/-! ### Pattern programs (R122, R124, R140) -/

def PgStep.waits (x : PgStep) : Bool := 5 ≤ x.ctrl && x.ctrl ≤ 7
/-- Index of the END (ctrl `e`) after index k, none when another BEGIN (ctrl `b`) comes first. -/
def matchEnd (prog : List PgStep) (b e k : Nat) : Option Nat :=
  match ((prog.zipIdx.drop (k + 1)).find? (fun x => x.1.ctrl == b || x.1.ctrl == e)) with
  | some x => if x.1.ctrl = e then some x.2 else none
  | none => none
/-- First and last index of each loop of a kind. -/
def loops (prog : List PgStep) (b e : Nat) : List (Nat × Nat) :=
  (indices prog (fun x => x.ctrl == b)).filterMap (fun k => (matchEnd prog b e k).map (fun j => (k, j)))
/-- First step that fails the check of R122, none when the program passes. Of two loops that cross, both BEGINs fail, so the earlier one is named; R122 does not say which step of
them it is (DESIGN CHOICE, log entry 73). -/
def progFail (prog : List PgStep) (reserved : List Bool) : Option Nat :=
  let as := loops prog 1 2
  let bs := loops prog 3 4
  let inLoop := fun k => (as ++ bs).any (fun r => r.1 ≤ k && k ≤ r.2)
  let crosses := fun k => as.any (fun a => bs.any (fun b => (k = a.1 || k = b.1) &&
    ((a.1 < b.1 && b.1 < a.2 && a.2 < b.2) || (b.1 < a.1 && a.1 < b.2 && b.2 < a.2))))
  let bad := fun (x : PgStep × Nat) =>
    let c := x.1.ctrl
    (x.2 = 0 && c != 5) || (x.2 + 1 = prog.length && c != 8 && c != 9) || 9 < c || reserved.getD x.2 false ||
    ((c ≤ 4 || c = 8) && x.1.dur = 0) ||
    (c = 1 && !as.any (fun r => r.1 == x.2)) || (c = 3 && !bs.any (fun r => r.1 == x.2)) ||
    (c = 2 && !as.any (fun r => r.2 == x.2)) || (c = 4 && !bs.any (fun r => r.2 == x.2)) ||
    crosses x.2 || (x.1.waits && inLoop x.2)
  (prog.zipIdx.find? bad).map (·.2)
/-- Times a step runs in one pass: the product of the counts of the loops that hold it. A loop that the pass leaves at step q, before its END, runs once. -/
def stepCount (prog : List PgStep) (a b q k : Nat) : Nat :=
  (if (loops prog 1 2).any (fun r => r.1 ≤ k && k ≤ r.2 && r.2 < q) then a else 1) *
  (if (loops prog 3 4).any (fun r => r.1 ≤ k && k ≤ r.2 && r.2 < q) then b else 1)
/-- Where the pass from the WAIT_LINE step w ends: the next WAIT_LINE, RESTART or HALT. -/
def walkEnd (prog : List PgStep) (w : Nat) : Nat :=
  (((prog.zipIdx.drop (w + 1)).find? (fun x => x.1.ctrl == 5 || x.1.ctrl == 8 || x.1.ctrl == 9)).map (·.2)).getD prog.length
/-- The walk of R124 from the WAIT_LINE step w: ticks from the consumed fire to the next WAIT_LINE or HALT. A RESTART leads to step 0, which is a WAIT_LINE. -/
def walkTicks (prog : List PgStep) (a b delay e w : Nat) : Nat :=
  let q := walkEnd prog w
  let body := (prog.zipIdx.drop (w + 1)).takeWhile (fun x => x.2 < q || (x.2 == q && x.1.ctrl == 8))
  body.foldl (fun t x =>
    if x.1.ctrl = 6 then max t delay + x.1.dur
    else if x.1.ctrl = 7 then max t e + x.1.dur
    else t + x.1.dur * stepCount prog a b q x.2) ((prog.getD w ⟨0, 0, 0, 0, false, false⟩).dur)
/-- check(P, E) of R124: none, or the ticks of the first failing walk. -/
def cycleCheck (prog : List PgStep) (a b delay p e : Nat) : Option Nat :=
  ((indices prog (fun x => x.ctrl == 5)).map (walkTicks prog a b delay e)).find? (fun t => p < t)
/-- The steps executed after the WAIT_LINE step w up to the next wait for a line or HALT and with it, each with its tick from the fire (R140): a wait pulses CDS on its arrival,
which is still in the cycle before (R115). -/
def walkSteps (prog : List PgStep) (a b delay e : Nat) : Nat → Nat → Nat → Nat → Nat → List (Nat × PgStep)
  | 0, _, _, _, _ => []
  | k + 1, i, t, ca, cb =>
    match prog[i]? with
    | none => []
    | some x =>
      if x.ctrl = 5 ∨ x.ctrl = 9 then [(t, { x with dur := i })]
      else
        let t' := (if x.ctrl = 6 then max t delay else if x.ctrl = 7 then max t e else t) + x.dur
        let back (c : Nat) (begin_ : Nat) : Nat := if 1 < c then ((prog.take i).zipIdx.reverse.find? (fun y => y.1.ctrl == begin_)).elim (i + 1) (·.2) else i + 1
        let next := if x.ctrl = 2 then back ca 1 else if x.ctrl = 4 then back cb 3 else if x.ctrl = 8 then 0 else i + 1
        let ca' := if x.ctrl = 2 then (if 1 < ca then ca - 1 else a) else ca
        let cb' := if x.ctrl = 4 then (if 1 < cb then cb - 1 else b) else cb
        (t, { x with dur := i }) :: walkSteps prog a b delay e k next t' ca' cb'
/-- The CDS checks of one cycle (R140): index of the first failing step, or of the WAIT_LINE step where a pulse is missing. Steps carry their
index in `dur`; the shortest and longest tap take `lo` and `hi` pulses. Where a cycle has several CDS_RST, check 1 measures from the latest before the CDS_SIG, whose level the
CDS holds, and a step that pulses both counts as its own CDS_RST, 0 ticks before, and fails; R140 does not say from which (DESIGN CHOICE, log entry 73). -/
def cdsFail (w lo hi : Nat) (allOff : Bool) (steps : List (Nat × PgStep)) : Option Nat :=
  let rec go : List (Nat × PgStep) → Option Nat → Option Nat → Nat → Option Nat
    | [], _, _, n => if n = hi then none else some w
    | (t, x) :: l, rst, sig, n =>
      let early := (x.cdsRst || x.cdsSig) && t < 320
      let rst' := if x.cdsRst then some t else rst
      if early then some x.dur
      else if !x.cdsSig then go l rst' sig n
      else
        let okRst := allOff || (match rst' with | some r => 4 ≤ t - r && t - r ≤ 320 | none => false)
        let okGap := match sig with | some g => 13 ≤ t - g && t - g ≤ 320 | none => true
        if okRst && okGap && n < lo then go l rst' (some t) (n + 1) else some x.dur
  go steps none none 0

/-- Bank of a port. -/
def PortSt.prog (x : PortSt) (b : Nat) : List PgStep := if b = 0 then x.bank0 else x.bank1

/-- R123 and R139, R140, R166: a port's set (port page and lane receiver page). -/
def portChecks (s : State) (m : RegMap) (p : Nat) : Refuse :=
  let u := portU p
  let v := fun f => vw s m u f
  let lpm := v Port.LINE_PERIOD_MIN
  let prog := (s.port p).prog (v Port.BANK)
  let sh := v Port.SHUTTER == 1
  let ca := v Port.COUNT_A
  let cb := v Port.COUNT_B
  let dl := v Port.EXP_DELAY
  let ex := v Port.EXP_TIME
  let gap := v Port.EXP_GAP_MIN
  let par := fun (ok : Bool) off => need ok St.BAD_PARAM [off]
  let lags := ((List.range (planesOf s m p)).map (lagOf s m p)).foldl (· + ·) 0
  let e1 := min (dl + ex) (lpm - gap)
  let p2 := dl + ex + gap
  let cyc := if !sh then cycleCheck prog ca cb 0 lpm 0
    else match cycleCheck prog ca cb dl lpm e1 with
      | some t => some t
      | none => if lpm < p2 then cycleCheck prog ca cb dl p2 (dl + ex) else none
  let taps := tapsOn s m p
  let cap := v Port.CAPTURE == 1
  let w := widthOf s m p
  let tv := fun f k => vw s m u f k
  let lastPix := fun k => Int.ofNat (tv Tap.FIRST k) + (if tv Tap.DESCEND k = 1 then -1 else 1) * Int.ofNat ((tv Tap.COUNT k - 1) * tv Tap.STRIDE k)
  let tapBad := fun k =>
    (tapEn s m p k && (tv Tap.STRIDE k = 0 || tv Tap.COUNT k = 0 || planesOf s m p ≤ tv Tap.PLANE k ||
      w ≤ tv Tap.FIRST k || lastPix k < 0 || Int.ofNat w ≤ lastPix k)) ||
    (!cap && 8 ≤ k && tapEn s m p k) ||
    (cap && tbit (vw s m (rxU p) LaneRx.LANE_EN) k != tapEn s m p k)
  let pixOf := fun k => (List.range (tv Tap.COUNT k)).map (fun i =>
    if tv Tap.DESCEND k = 1 then tv Tap.FIRST k - i * tv Tap.STRIDE k else tv Tap.FIRST k + i * tv Tap.STRIDE k)
  let gaps := (List.range (planesOf s m p)).findSome? (fun pl =>
    let covered := (taps.filter (fun k => tv Tap.PLANE k == pl)).flatMap pixOf
    ((List.range w).find? (fun x => covered.count x != 1)).map (fun x => pl * 65536 + x))
  let lens := taps.map (tapLen s m p)
  let waits := indices prog (fun x => x.ctrl == 5)
  let allOff := taps.all (fun k => tv Tap.CDS_OFF k == 1)
  let fuel := ((List.range prog.length).map (stepCount prog ca cb prog.length)).foldl (· + ·) 2
  let cds := fun e => waits.findSome? (fun wl =>
    cdsFail wl (lens.foldl min (lens.headD 0)) (lens.foldl max 0) allOff
      (walkSteps prog ca cb dl e fuel (wl + 1) (prog.getD wl ⟨0, 0, 0, 0, false, false⟩).dur ca cb))
  firstOf [
    par (1 ≤ v Port.LINE_UNITS && v Port.LINE_UNITS ≤ 256) 0x000,
    par (1 ≤ ca && 1 ≤ cb) 0x018,
    par (160 ≤ ex && ex ≤ 16000000) 0x020,
    par (!cap || vw s m (rxU p) LaneRx.LATENCY_MAX ≤ lpm) 0x008,
    par (!cap || (400 ≤ vw s m (rxU p) LaneRx.LANE_MBPS && vw s m (rxU p) LaneRx.LANE_MBPS ≤ 1600)) 0x00C,
    (List.range 16).findSome? (fun k => firstOf [par (tv Tap.STRIDE k ≤ 16) (0x100 + 16 * k),
      par (tv Tap.COUNT k ≤ 16384) (0x104 + 16 * k), par (tv Tap.GAIN_CODE k ≤ 240) (0x108 + 16 * k)]),
    rateCheck s m p,
    need (prog != []) St.PG_PROGRAM [0x1000],
    (if sh then none else (prog.zipIdx.find? (fun x => x.1.ctrl == 6 || x.1.ctrl == 7)).map (fun x => (St.PG_PROGRAM, [x.2]))),
    need (!sh || dl + 160 + gap ≤ lpm) St.EXP_FIT [dl + 160 + gap],
    need (lags * w * 2 ≤ 2 ^ 20) St.LAG_FIT [2 ^ 20 / (w * 2)],
    cyc.map (fun t => (St.PG_CYCLE, [min t 0xFFFFFFFF])),
    ((List.range 16).find? tapBad).map (fun k => (St.TAP_MAP, [0x40000 + k])),
    gaps.map (fun x => (St.TAP_MAP, [x])),
    (if cap || cyc.isSome then none else (cds e1).map (fun k => (St.CDS_TIMING, [k]))),
    (if cap || cyc.isSome || !sh || p2 ≤ lpm then none else (cds (dl + ex)).map (fun k => (St.CDS_TIMING, [k]))),
    (taps.find? (fun k => !cap && s.tapNoChannel p k)).map (fun k => (St.NO_SPARE, [k]))]

/-- R215. -/
def pipeChecks (s : State) (m : RegMap) (p : Nat) : Refuse :=
  let v := fun f => vw s m (pipeU p) f
  let par := fun (ok : Bool) off => need ok St.BAD_PARAM [off]
  let lead := (List.range 8).any (fun g => vw s m (lampU g) Lamp.BOUND == 1 && vw s m (lampU g) Lamp.PORT == p && vw s m (lampU g) Lamp.LEAD == 1)
  firstOf [
    par (8 ≤ v Pipe.WT_SHIFT && v Pipe.WT_SHIFT ≤ 16 && v Pipe.TEMP_SRC != 3 && v Pipe.NORM_SRC != 3 && v Pipe.WT_SRC != 3 && v Pipe.OUT_BITS != 3) 0x000,
    par (v Pipe.WT_SRC == 0 || (1 ≤ v Pipe.WT_COUNT && v Pipe.WT_FIRST + v Pipe.WT_COUNT ≤ widthOf s m p)) 0x008,
    par (v Pipe.WT_SRC != 2 || 1 ≤ v Pipe.WT_ROW_COUNT) 0x010,
    par (v Pipe.NORM_SRC != 1 || lead) 0x000,
    par (vw s m (portU p) Port.SHUTTER == 1 || v Pipe.NORM_SRC != 0 ||
      vw s m (portU p) Port.NOMINAL_PERIOD < 16 * vw s m (portU p) Port.LINE_PERIOD_MIN) 0x000]

/-- PITCH of a line-clock set, Q16.32. -/
def pitchOf (s : State) (m : RegMap) (p : Nat) : Nat := vw s m (lcU p) Lc.PITCH_HI * 2 ^ 32 + vw s m (lcU p) Lc.PITCH_LO
/-- R176. -/
def lcChecks (s : State) (m : RegMap) (p : Nat) : Refuse :=
  let v := fun f => vw s m (lcU p) f
  let par := fun (ok : Bool) off => need ok St.BAD_PARAM [off]
  firstOf [
    par (v Lc.EST_SPAN ≤ 8) 0x000,
    par (0x1000000 ≤ pitchOf s m p) (if v Lc.PITCH_HI = 0 then 0x004 else 0x008),
    par (pitchOf s m p < 0x800000000000) 0x008,
    par (v Lc.EXTRAP_MAX != 0) 0x00C,
    par (65536 ≤ v Lc.STOP_TICKS) 0x010,
    par (v Lc.REPEAT_SRC != 3) 0x014,
    par (64 * 256 ≤ v Lc.REPEAT_LINES) 0x018,
    par (v Lc.MARK_WINDOW != 0 && v Lc.MARK_WINDOW * 4 * 256 ≤ v Lc.REPEAT_LINES) 0x020]

/-! ### Rings and pool (R309, R323, R342 to R344) -/

/-- LB(n) of R323. -/
def lbOf (stride block n : Nat) : Nat := n * stride + cdiv n block * (64 + 64 * cdiv (2 * block) 64)
/-- The EVID_PRE demands on a port (R323): conditions with A_EVID homed on it, and its port context. -/
def keepLines (s : State) (m : RegMap) (p : Nat) : Nat :=
  let cs := (List.range 32).filter (fun c => vw s m trigU Cond.EN c == 1 && vw s m trigU Cond.A_EVID c == 1 && vw s m trigU Cond.HOME_PORT c == p)
  let fromConds := (cs.map (fun c => vw s m trigU Cond.EVID_PRE c)).foldl max 0
  let fromEb := ([0, 1].map (fun k => if (List.range 16).any (fun c => vwC s m (clU k) p Ctx.ACTION c == 1)
    then vwC s m (clU k) p Ctx.EVID_PRE else 0)).foldl max 0
  max fromConds fromEb
/-- The channel bound to a port's ring. -/
def ringChan (s : State) (m : RegMap) (p : Nat) : Option Nat :=
  (List.range 64).find? (fun k => vw s m (dmaU k) Dma.SRC_KIND == 1 && vw s m (dmaU k) Dma.SRC_PORT == p)
/-- C of R323. -/
def chunkOf (s : State) (m : RegMap) (p : Nat) : Nat :=
  match ringChan s m p with
  | some k => vw s m (dmaU k) Dma.CHUNK * 65536
  | none => 2 ^ 20
/-- NEED of R342. -/
def ringNeed (s : State) (m : RegMap) (p keep stride chunk : Nat) : Nat :=
  lbOf stride (vw s m (portU p) Ring.BLOCK_LINES) (keep + 1024) + 2 * chunk
/-- Largest value up to a bound that meets a test that holds on an initial part, by bisection. -/
def largest (f : Nat → Bool) : Nat → Nat → Nat → Nat
  | 0, lo, _ => lo
  | k + 1, lo, hi =>
    if hi ≤ lo then lo else
    let mid := (lo + hi + 1) / 2
    if f mid then largest f k mid hi else largest f k lo (mid - 1)
/-- R342, R343: the ring fits the port's demands. -/
def ringFits (s : State) (m : RegMap) (p : Nat) : Refuse :=
  let size := vw s m (portU p) Ring.RING_SIZE * 2 ^ 20
  let keep := keepLines s m p
  let st := strideOf s m p
  let c := chunkOf s m p
  let strideFor := fun lu => cdiv (planesOf s m p * rowBytes (lu * 64) (vw s m (pipeU p) Pipe.OUT_BITS)) 64 * 64
  if ringNeed s m p keep st c ≤ size then none
  else if ringNeed s m p 0 st c ≤ size then
    some (St.BUFFER_TOO_SMALL, [largest (fun n => ringNeed s m p n st c ≤ size) 16 0 keep, 1])
  else if ringNeed s m p 0 st 65536 ≤ size then
    some (St.BUFFER_TOO_SMALL, [largest (fun n => ringNeed s m p 0 st (n * 65536) ≤ size) 10 1 255, 2])
  else
    some (St.BUFFER_TOO_SMALL, [if ringNeed s m p 0 (strideFor 1) c ≤ size then largest (fun n => ringNeed s m p 0 (strideFor n) c ≤ size) 10 1 256 else 0, 3])
/-- Bytes of a window of n lines (R344). -/
def windowBytes (stride n : Nat) : Nat := 64 * cdiv (2 * n) 64 + n * stride
/-- R344: the largest window fits the pool. -/
def poolFits (s : State) (m : RegMap) : Refuse :=
  let size := vw s m trigU Trig.POOL_SIZE * 64 * 2 ^ 20
  let condW := (List.range 32).filterMap (fun c =>
    if vw s m trigU Cond.EN c = 1 ∧ vw s m trigU Cond.A_EVID c = 1 then
      some (strideOf s m (vw s m trigU Cond.HOME_PORT c), vw s m trigU Cond.EVID_PRE c + 1 + vw s m trigU Cond.EVID_POST c) else none)
  let ebW := [0, 1].flatMap (fun k => s.portsOn.filterMap (fun p =>
    if (List.range 8).any (fun i => vw s m (clU k) Clus.EN i == 1 && vw s m (clU k) Clus.PORT i == p) &&
      (List.range 16).any (fun c => vwC s m (clU k) p Ctx.ACTION c == 1)
    then some (strideOf s m p, vwC s m (clU k) p Ctx.EVID_PRE + vwC s m (clU k) p Ctx.BLOB_MAX_LINES + vwC s m (clU k) p Ctx.EVID_POST) else none))
  let all := condW ++ ebW
  let most := (all.map (fun x => windowBytes x.1 x.2)).foldl max 0
  match all.find? (fun x => size < most && windowBytes x.1 x.2 == most) with
  | none => none
  | some x => some (St.BUFFER_TOO_SMALL, [largest (fun n => windowBytes x.1 n ≤ size) 20 0 x.2, 4])
/-- Two MiB ranges overlap. -/
def overlap (a la b lb : Nat) : Bool := a < b + lb && b < a + la
/-- R309. -/
def ringChecks (s : State) (m : RegMap) (p : Nat) : Refuse :=
  let v := fun f => vw s m (portU p) f
  let b := v Ring.RING_BASE
  let z := v Ring.RING_SIZE
  let par := fun (ok : Bool) off => need ok St.BAD_PARAM [off]
  let poolHit := fun (n : RegMap) => overlap b z (vw s n trigU Trig.POOL_BASE * 64) (vw s n trigU Trig.POOL_SIZE * 64)
  let ringHit := fun (n : RegMap) q => q != p && overlap b z (vw s n (portU q) Ring.RING_BASE) (vw s n (portU q) Ring.RING_SIZE)
  firstOf [
    par (16 ≤ z && s.ringLo ≤ b && b + z ≤ s.ringHi) 0x060,
    par (!(s.portsOn.any (fun q => ringHit m q || ringHit s.active q)) && !poolHit m && !poolHit s.active) 0x060,
    par (1 ≤ v Ring.BLOCK_LINES && v Ring.BLOCK_LINES ≤ 64 && v Ring.HIGH_MARK != 0 && v Ring.RESUME_MARK < v Ring.HIGH_MARK) 0x064,
    par (1600 ≤ v Ring.BLOCK_IDLE) 0x068,
    ringFits s m p]

/-! ### Eyebright (R238, R239, R257) -/

/-- Enabled lanes of a cluster bound to a port. -/
def lanesOf (s : State) (m : RegMap) (k p : Nat) : List Nat :=
  (List.range 8).filter (fun i => vw s m (clU k) Clus.EN i == 1 && vw s m (clU k) Clus.PORT i == p)
/-- Cluster that serves a port, none when the port is not inspected (R237). -/
def clusterOf (s : State) (m : RegMap) (p : Nat) : Option Nat := [0, 1].find? (fun k => lanesOf s m k p != [])
/-- Units without which a port is not compared: the clusters and lanes bound to it, and the spare that serves one of them (R237, R241). -/
def State.laneUnits (s : State) (p : Nat) : List Nat :=
  [0, 1].flatMap (fun k => let ls := lanesOf s s.active k p
    (if ls = [] then [] else [clU k]) ++ ls.map (fun i => clU k + i + 1) ++ (if ls.any (fun i => s.reg (clU k + 9) Lane.PHYS == i + 1) then [clU k + 9] else []))
/-- One of them is fenced (R242), or has stopped and not been started again (R272). -/
def State.lanesFenced (s : State) (p : Nat) : Bool := (s.laneUnits p).any s.fenced
def State.lanesHeld (s : State) (p : Nat) : Bool := (s.laneUnits p).any (fun u => s.fenced u || s.ebStopped.contains u)
/-- R257: ranges of one port context. -/
def ctxChecks (s : State) (m : RegMap) (k p : Nat) : Refuse :=
  let v := fun f i => vwC s m (clU k) p f i
  let reg := fun (ok : Bool) off => need ok St.EB_REG [off]
  let sg := fun (n : Nat) => sgn 16 n
  firstOf ([
    reg (v Ctx.TR_MODE 0 ≤ 2 && v Ctx.LAT_SHIFT 0 ≤ 8 && v Ctx.LAT_HOLD 0 != 0) 0x400,
    reg (-16777 ≤ sg (v Ctx.SHEAR_FIXED 0) && sg (v Ctx.SHEAR_FIXED 0) ≤ 16777) 0x404,
    reg (64 ≤ v Ctx.BLOB_MAX_LINES 0) 0x40C,
    reg (2 ≤ v Ctx.WIN_COUNT 0 && v Ctx.WIN_COUNT 0 ≤ 16384) 0x410,
    reg (2 ≤ v Ctx.WIN_COUNT 1 && v Ctx.WIN_COUNT 1 ≤ 16384) 0x418,
    reg (v Ctx.EVID_PRE 0 ≤ 16384 && v Ctx.EVID_POST 0 ≤ 16384) 0x420] ++
    (List.range 15).flatMap (fun c => (List.range 4).map (fun q =>
      let lo := sg (v Ctx.LO (4 * c + q))
      let hi := sg (v Ctx.HI (4 * c + q))
      reg (lo ≤ hi || lo == -32768 || hi == 32767) (0x500 + 16 * c + 4 * q))) ++
    (List.range 16).map (fun c => reg (v Ctx.MIN_AREA c != 0 && v Ctx.ACTION c != 3) (0x600 + 4 * c)))
/-- The largest COL_UNITS of a lane within the budget of R239. -/
def laneBudget (s : State) (m : RegMap) (k i : Nat) : Nat :=
  let p := vw s m (clU k) Clus.PORT i
  35 * vw s m (portU p) Port.LINE_PERIOD_MIN / (64 * planesOf s m p * 64)
/-- R239 for lanes of a cluster. -/
def budgetCheck (s : State) (m : RegMap) (k : Nat) (lanes : List Nat) : Refuse :=
  (lanes.find? (fun i => laneBudget s m k i < vw s m (clU k) Clus.COL_UNITS i)).map (fun i => (St.EB_BUDGET, [laneBudget s m k i]))
/-- What a set of a port changes for the clusters that serve it and for the evidence pool (R239, R344). -/
def servedChecks (s : State) (m : RegMap) (p : Nat) : Refuse :=
  firstOf [budgetCheck s m 0 (lanesOf s m 0 p), budgetCheck s m 1 (lanesOf s m 1 p), poolFits s m]
/-- R238 and R239 for a cluster. -/
def clusterChecks (s : State) (m : RegMap) (k : Nat) : Refuse :=
  let v := fun f i => vw s m (clU k) f i
  let lanes := (List.range 8).filter (fun i => v Clus.EN i == 1)
  let map := fun chk i => (St.EB_MAP, [chk * 2 ^ 24 + i])
  let badStrip := fun i => v Clus.COL_UNITS i = 0 || 256 < v Clus.COL_UNITS i ||
    vw s m (portU (v Clus.PORT i)) Port.LINE_UNITS < v Clus.COL_FIRST i + v Clus.COL_UNITS i
  let ports := (List.range 8).filter (fun p => lanesOf s m k p != [])
  let badCover := fun p => (List.range (vw s m (portU p) Port.LINE_UNITS)).any (fun x =>
    ((lanesOf s m k p).filter (fun i => v Clus.COL_FIRST i ≤ x && x < v Clus.COL_FIRST i + v Clus.COL_UNITS i)).length != 1)
  let other := 1 - k
  firstOf [
    (lanes.find? badStrip).map (map 1),
    (lanes.find? (fun i => s.reg (clU k + i + 1) Lane.RETIRED == 1)).map (map 2),
    (ports.find? badCover).map (map 3),
    (lanes.find? (fun i => lanesOf s m other (v Clus.PORT i) != [] || lanesOf s s.active other (v Clus.PORT i) != [])).map (map 4),
    budgetCheck s m k lanes,
    (List.range 8).findSome? (ctxChecks s m k),
    poolFits s m]

/-! ### Trigger engine (R284, R305) -/

def condMask (s : State) (m : RegMap) (c : Nat) : Nat := vw s m trigU Cond.MASK_HI c * 2 ^ 32 + vw s m trigU Cond.MASK_LO c
def condValue (s : State) (m : RegMap) (c : Nat) : Nat := vw s m trigU Cond.VALUE_HI c * 2 ^ 32 + vw s m trigU Cond.VALUE_LO c
def trigChecks (s : State) (m : RegMap) : Refuse :=
  let v := fun f c => vw s m trigU f c
  let bad := fun (ok : Bool) off => need ok St.TRIG_COND [off]
  let pb := v Trig.POOL_BASE 0 * 64
  let pz := v Trig.POOL_SIZE 0 * 64
  let ringHit := fun (n : RegMap) q => overlap pb pz (vw s n (portU q) Ring.RING_BASE) (vw s n (portU q) Ring.RING_SIZE)
  let conds := (List.range 32).flatMap (fun c =>
    let o := 0x400 + 64 * c
    let en := v Cond.EN c == 1
    let hp := v Cond.HOME_PORT c
    [need (!(v Cond.A_FIRE_ROPE c == 1 && tbit (condMask s m c) 57 && tbit (condValue s m c) 57)) St.TRIG_LOOP [c],
     bad (!en || condMask s m c != 0) (o + 0x08),
     bad (!(List.range 8).any (fun p => p != hp && (tbit (condMask s m c) (32 + p) || tbit (condMask s m c) (40 + p)))) (o + 0x0C),
     bad (s.portsOn.contains hp && v Cond.HOLD_MODE c != 3 && (v Cond.HOLD_MODE c == 0 || v Cond.HOLD c != 0)) (o + 0x10),
     bad (v Cond.EVID_PRE c ≤ 16384 && v Cond.EVID_POST c ≤ 16384) (o + 0x18),
     bad (!en || (v Cond.CROP_COUNT c != 0 && v Cond.CROP_FIRST c + v Cond.CROP_COUNT c ≤ widthOf s m hp)) (o + 0x1C),
     bad (v Cond.A_OUT c == 0 || tbit (s.reg trigU Trig.GPIO_OUT_EN) (v Cond.OUT_GPIO c)) (o + 0x20),
     bad (16 ≤ v Cond.OUT_WIDTH c) (o + 0x24)])
  let dets := (List.range 8).map (fun p => bad (v Trig.EN p == 0 ||
    (v Trig.X_COUNT p != 0 && v Trig.X_FIRST p + v Trig.X_COUNT p ≤ widthOf s m p)) (0x100 + 16 * p))
  firstOf ([
    bad (1600 ≤ v Trig.PLACE_WAIT 0) 0x008,
    bad (1 ≤ v Trig.POOL_SIZE 0 && pb + pz ≤ s.fitted / 2 ^ 20 && !(s.portsOn.any (fun q => ringHit m q || ringHit s.active q))) 0x010] ++
    dets ++ conds ++ [poolFits s m])

/-- R326: bindings of the DMA channels. -/
def dmaChecks (s : State) (m : RegMap) (k : Nat) : Refuse :=
  let v := fun f j => vw s m (dmaU j) f
  let kind := v Dma.SRC_KIND k
  firstOf [
    need (kind != 3 && v Dma.IRQ_EVERY k != 0 && v Dma.CHUNK k != 0) St.BAD_PARAM [0x000],
    need (1600 ≤ v Dma.FLUSH_TICKS k) St.BAD_PARAM [0x004],
    ((List.range 64).find? (fun j => j != k && kind != 0 && v Dma.SRC_KIND j == kind &&
      (kind == 2 || v Dma.SRC_PORT j == v Dma.SRC_PORT k))).map (fun j => (St.DMA_BIND, [dmaU j]))]

end Sys2Proof.Machine
end

