-- ==== Sys2Proof/Machine/Ecc.lean ====
section
/-! DEFINITION. Memory errors and poisoned units as readers and writers meet them (R479, R481). -/
namespace Sys2Proof.Machine
open R

/-! ### Errors and poisoned units (R479) -/

/-- A unit of 64 bytes that cannot be corrected stands at some address of a range. -/
def State.badUnit (s : State) (a len : Nat) : Option Nat :=
  if !s.eccOn then none else s.memS.poison.find? (fun u => decide (a < (u + 1) * 64) && decide (u * 64 < a + len))
/-- Pages of the retired-page reserve, and those used (R482). -/
def State.reservePages (s : State) : Nat := s.reg memU R.Mem.RESERVE_TOTAL
def State.reserveUsed (s : State) : Nat := s.reg memU R.Mem.RESERVE_USED
/-- A page has been retired. -/
def State.pageRetired (s : State) (page : Nat) : Bool := s.memS.retired.any (fun r => r.1 == page)
/-- A page joins the pages that wait for their retirement copy (R481). -/
def State.retireQueue (s : State) (page : Nat) : State :=
  if s.pageRetired page || s.memS.copies.contains page || decide (s.reservePages ≤ s.reserveUsed + s.memS.copies.length) then s
  else { s with memS := { s.memS with copies := s.memS.copies ++ [page] } }
/-- An uncorrectable error is found at an address (R479, R481). -/
def State.memUE (s : State) (a : Nat) : State :=
  if !s.eccOn then s else
  let s := (s.bump memU R.Mem.UE_COUNT).set memU R.Mem.UE_ADDR_LO (a / 64 * 64)
  let s := s.set memU R.Mem.UE_ADDR_HI (a / 2 ^ 32)
  let s := s.raise Ev.MEM_UE memU (a / 64 * 8)
  let p := s.memS.poison
  let s := { s with memS := { s.memS with poison := if p.contains (a / 64) then p else (a / 64) :: p } }
  s.retireQueue (a / 4096)
/-- A corrected error is found at an address: the unit is written back, and the second one in a page retires it (R479, R481). -/
def State.memCE (s : State) (a : Nat) : State :=
  if !s.eccOn then s else
  let s := s.bump memU R.Mem.CE_COUNT
  let pg := a / 4096
  if s.memS.once.contains pg then s.retireQueue pg
  else { s with memS := { s.memS with once := pg :: s.memS.once } }
/-- Bytes written to memory; a unit written whole holds a good code again. -/
def State.dramWrite (s : State) (a : Nat) (bs : List Nat) : State :=
  let whole := fun (u : Nat) => decide (a ≤ u * 64) && decide ((u + 1) * 64 ≤ a + bs.length)
  { s with dram := Machine.Mem.write s.dram a bs, memS := { s.memS with poison := s.memS.poison.filter (fun u => !whole u) } }
/-- Units of a copied range take the code of their source (R479). -/
def State.poisonCopy (s : State) (src dst len : Nat) : State :=
  let hit := s.memS.poison.filter (fun u => decide (src ≤ u * 64) && decide (u * 64 < src + len))
  let new := hit.map (fun u => u - src / 64 + dst / 64)
  { s with memS := { s.memS with poison := new ++ s.memS.poison.filter (fun u => !new.contains u) } }
/-- A reader meets the poisoned units of a range (R479). -/
def State.meetPoison (s : State) (a len : Nat) : State :=
  if !s.eccOn then s else
  (s.memS.poison.filter (fun u => decide (a < (u + 1) * 64) && decide (u * 64 < a + len))).foldl (fun (s : State) u => s.memUE (u * 64)) s
/-- The first uncorrectable error that a command's read of a range meets: one that stands there, or one found now at `env` (R479). -/
def State.readError (s : State) (a len : Nat) (env : Option Nat) : Option Nat :=
  if !s.eccOn then none else
  match env with
  | some e => if a ≤ e ∧ e < a + len then some (e / 64 * 64) else (s.badUnit a len).map (· * 64)
  | none => (s.badUnit a len).map (· * 64)

end Sys2Proof.Machine
end

