-- ==== Sys2Proof/Machine/Ring.lean ====
section
/-! DEFINITION. The stream ring of a port: records, line blocks, the commit offset, held records, GAP, FENCE and job records (R309 to
R320, R323), and the evidence windows that copy lines out of it (R296 to R301). -/
namespace Sys2Proof.Machine
open R

/-- Ring size in units of 64 B, and the byte address of an absolute unit offset (R309, R310). -/
def State.ringUnits (s : State) (p : Nat) : Nat := s.act (portU p) Ring.RING_SIZE * 16384
def State.ringAddr (s : State) (p byteOff : Nat) : Nat :=
  s.act (portU p) Ring.RING_BASE * 2 ^ 20 + byteOff % (s.ringUnits p * 64)
/-- Write bytes at an absolute byte offset of the ring, continuing at its start (R310). -/
def State.ringWrite (s : State) (p : Nat) : Nat → List Nat → State
  | _, [] => s
  | o, b :: bs => State.ringWrite { s with dram := Mem.put s.dram (s.ringAddr p o) (byte b) } p (o + 1) bs
/-- Read n bytes of the ring. -/
def State.ringRead (s : State) (p o n : Nat) : List Nat := (List.range n).map (fun k => (Mem.get s.dram (s.ringAddr p (o + k))).toNat)
/-- KEEP in units of 64 B (R323). -/
def State.keepUnits (s : State) (p : Nat) : Nat :=
  lbOf (strideOf s s.active p) (s.act (portU p) Ring.BLOCK_LINES) (keepLines s s.active p) / 64
/-- U of R323 in units of 64 B. -/
def State.ringU (s : State) (p : Nat) : Nat := (s.ring p).wr - (s.ring p).rd
/-- H and M of R323 in bytes. -/
def State.ringH (s : State) (p : Nat) : Nat :=
  let avail := s.ringUnits p * 64 - s.keepUnits p * 64
  min (max (s.act (portU p) Ring.HIGH_MARK * avail / 256) (2 * chunkOf s s.active p))
    (avail - lbOf (strideOf s s.active p) (s.act (portU p) Ring.BLOCK_LINES) 1024)
def State.ringM (s : State) (p : Nat) : Nat :=
  s.act (portU p) Ring.RESUME_MARK * (s.ringUnits p * 64 - s.keepUnits p * 64) / 256
/-- Room for n more units: the write offset never enters the retained tail (R323). -/
def State.ringRoom (s : State) (p n : Nat) : Bool := s.ringU p + n + s.keepUnits p ≤ s.ringUnits p
/-- Keep the ring registers of the port page in step. -/
def State.ringRegs (s : State) (p : Nat) : State :=
  let u := portU p
  let n := max 1 (s.ringUnits p)
  (((s.set u Ring.UNREAD (s.ringU p)).set u Ring.WRITE_OFF ((s.ring p).wr % n)).set u Ring.COMMIT_OFF ((s.ring p).cm % n)).set u
    Ring.READ_OFF ((s.ring p).rd % n)

/-- Advance the commit offset over whole records (R311). -/
def cmAdvance : Nat → List RingRec → Nat
  | cm, [] => cm
  | cm, r :: rs => if r.off = cm then (if r.done then cmAdvance (cm + r.size) rs else cm) else cmAdvance cm rs
/-- The commit offset moves on; a record is committed when it passes it (R311, R332). -/
def State.ringCommit (s : State) (p : Nat) : State :=
  (s.modRing p (fun r =>
    let cm := cmAdvance r.cm (r.recs.filter (fun x => r.cm ≤ x.off))
    { r with cm := cm, recs := r.recs.map (fun x => if r.cm ≤ x.off ∧ x.off < cm then { x with at_ := s.now } else x) })).ringRegs p
/-- Reserve space at the write offset and clear the length word (R311). -/
def State.ringReserve (s : State) (p size typ first last : Nat) : State :=
  let off := (s.ring p).wr
  let base := s.act (portU p) Ring.RING_BASE * 16384
  let n := max 1 (s.ringUnits p)
  let laps := fun (u : Nat) => decide (base ≤ u) && decide (u < base + n) && decide ((u - base + n - off % n) % n < size)
  let s := { s with memS := { s.memS with poison := s.memS.poison.filter (fun u => !laps u) } }
  let s := s.ringWrite p (off * 64) [0, 0, 0, 0]
  s.modRing p (fun r => { r with wr := off + size, recs := r.recs ++ [{ off := off, size := size, typ := typ, first := first, last := last, done := false, at_ := 0 }] })
/-- Mark the record at an offset complete. -/
def State.ringDone (s : State) (p off : Nat) : State :=
  (s.modRing p (fun r => { r with recs := r.recs.map (fun x => if x.off = off then { x with done := true } else x) })).ringCommit p
/-- Length word of R310. -/
def lengthWord (typ p size : Nat) : Nat := typ + p * 16 + size * 256
/-- Write one 64-byte record now: body first, length word last. -/
def State.recWrite (s : State) (p typ first last : Nat) (body : List Nat) : State :=
  let off := (s.ring p).wr
  let s := s.ringReserve p 1 typ first last
  let s := s.ringWrite p (off * 64 + 4) ((wordBytes body ++ List.replicate 60 0).take 60)
  let s := s.ringWrite p (off * 64) (leBytes 4 (lengthWord typ p 1))
  let s := if typ = 2 ∨ typ = 3 ∨ typ = 4 then s.modRing p (fun r => { r with lastGiven := first }) else s
  s.ringDone p off
/-- Count a record for JOB_END (R320). -/
def countRec (r : RingSt) (typ lines : Nat) : RingSt :=
  if typ = 2 then { r with cairns := r.cairns + 1 } else if typ = 3 then { r with defects := r.defects + 1 }
  else if typ = 4 then { r with refs := r.refs + 1 } else if typ = 5 then { r with gaps := r.gaps + 1, lost := r.lost + lines } else r
/-- Produce a record. It is held while the block of the line it waits for is not reserved, or while there is no room (R312). -/
def State.produce (s : State) (p typ : Nat) (wait : Option Nat) (first last : Nat) (body : List Nat) : State :=
  let r := s.ring p
  let s := s.modRing p (fun r => countRec r typ (nth body 5))
  if !s.ringRoom p 1 || (match wait with | some l => r.inFlight.contains l | none => false) then
    s.modRing p (fun r => { r with held := r.held ++ [{ typ := typ, line := wait, first := first, last := last, words := body }] })
  else s.recWrite p typ first last body
/-- Write the held records that no longer wait, oldest first. -/
def State.flushHeld (s : State) (p : Nat) : State :=
  (s.ring p).held.foldl (fun s h =>
    let waits := match h.line with | some l => (s.ring p).inFlight.contains l | none => false
    if waits || !s.ringRoom p 1 then s
    else (s.modRing p (fun r => { r with held := r.held.erase h })).recWrite p h.typ h.first h.last h.words) s

/-! ### GAP, FENCE, job records (R319, R320) -/

/-- The repeat number of a line of a port. -/
def State.repOf (s : State) (p line : Nat) : Nat :=
  match (s.lc p).repHist.find? (fun h => h.1 ≤ line) with
  | some h => h.2
  | none => (s.lc p).repNo

/-- A GAP record; its lines are counted where the cause counts (R319, LOST_LINES). -/
def State.gap (s : State) (p cause queue first last lines rep winFirst winLast time timeEnd : Nat) : State :=
  let seq := (s.ring p).gapSeq
  let body := [cause + queue * 16, lo32 first, hi32 first, lo32 last, hi32 last, lo32 lines, lo32 rep, winFirst + winLast * 2 ^ 16,
    lo32 time, hi32 time, lo32 timeEnd, hi32 timeEnd, 0, lo32 seq]
  let s := s.modRing p (fun r => { r with gapSeq := seq + 1 })
  let s := if cause = 1 ∨ cause = 4 ∨ cause = 5 then s.bump (portU p) Ring.LOST_LINES lines else s
  let s := s.produce p 5 (if first = 0 then none else some (first - 1)) first last body
  s.signal { sig := 61, port := p, t := s.rope, line := first, frac := 0, pix := none, cls := 0, node := 0 }
/-- The two pointer copies of a queue disagree (R321). -/
def State.skewed (s : State) (code i : Nat) : Bool := s.skews.contains (code, i)
/-- An update of the queue finds it: EV_QUEUE_PTR of its unit (R321, R345). -/
def State.ptrFound (s : State) (code i u : Nat) : State := ({ s with skews := s.skews.erase (code, i) } : State).raise Ev.QUEUE_PTR u code
/-- The record queues from Eyebright and the trigger engine to a port are emptied (R321, code 3). -/
def State.recsLost (s : State) (p : Nat) : State :=
  let s := (s.ptrFound 3 p (portU p)).modRing p (fun r => { r with held := r.held.filter (fun h => h.typ != 2 && h.typ != 3 && h.typ != 4) })
  let a := (s.ring p).lastGiven
  s.gap p 6 3 a ((s.lc p).nextLine - 1) 0 (s.repOf p a) 0 0 s.rope 0
/-- Produce a record. One of Eyebright or of the trigger engine passes their record queue: where its pointers disagree it is lost with the queue's content; it has been counted
(log entry 75). -/
def State.emit (s : State) (p typ : Nat) (wait : Option Nat) (first last : Nat) (body : List Nat) : State :=
  if s.skewed 3 p && (typ == 2 || typ == 3 || typ == 4) then (s.modRing p (fun r => countRec r typ 0)).recsLost p
  else s.produce p typ wait first last body
/-- A FENCE record naming a unit (R320). -/
def State.fenceRec (s : State) (p uid reason : Nat) (self : Bool) : State :=
  let r := s.ring p
  let last := r.lastLine.getD 0
  let body := [reason + b2n self * 256 + uid * 2 ^ 16, lo32 last, hi32 last, r.lastRep, lo32 s.rope, hi32 s.rope]
  (if self then s.modRing p (fun r => { r with jobOpen := false }) else s).emit p 6 none last last body
/-- JOB_START: the ring starts empty (R309, R320). -/
def State.jobStartRec (s : State) (p slot jobId repNow skipped time level : Nat) (rejoin : Bool) (digest : List Nat) : State :=
  let m := s.active
  let s := s.modRing p (fun _ => { jobOpen := true })
  let img := match clusterOf s m p with | some k => vwC s m (clU k) p Ctx.IMAGE | none => 0
  let body := [slot + b2n rejoin * 2 ^ 10 + vw s m (portU p) Port.MODE * 2 ^ 11 + level * 2 ^ 16, jobId, repNow, skipped, lo32 time, hi32 time,
    strideOf s m p + vw s m (portU p) Port.LINE_UNITS * 2 ^ 18 + vw s m (pipeU p) Pipe.OUT_BITS * 2 ^ 27 + vw s m (portU p) Port.PLANES * 2 ^ 29,
    (s.unit (portU p)).activeSeq, ofLe (digest.take 4), ofLe ((digest.drop 4).take 4), ofLe ((digest.drop 8).take 4), ofLe ((digest.drop 12).take 4),
    (s.port p).actRegs.slot + img * 256]
  let s := (s.recWrite p 7 0 0 body).ringRegs p
  s.signal { sig := 60, port := p, t := s.rope, line := 0, frac := 0, pix := none, cls := 0, node := 0 }
/-- JOB_END, the last record of a job (R320). -/
def State.jobEndRec (s : State) (p time : Nat) : State :=
  let r := s.ring p
  let n := (s.lc p).nextLine
  let body := [lo32 n, hi32 n, if n = 0 then 0 else (s.lc p).repNo + 1, r.lost, r.gaps, r.defects, r.cairns, r.refs, r.fails, r.incompletes, lo32 time, hi32 time,
    lo32 (r.wr + 1), hi32 (r.wr + 1)]
  (s.modRing p (fun r => { r with jobOpen := false })).emit p 8 none n n body

/-! ### Line blocks (R313 to R318) -/

/-- Packed bytes of one row (R318): 16-bit, 12-bit pairs, or the table's 8-bit values. -/
def pack12 : List Nat → List Nat
  | a :: b :: l => a % 256 :: (a / 256 + 16 * (b % 16)) :: b / 16 :: pack12 l
  | [a] => [a % 256, a / 256, 0]
  | [] => []
def packRow (outBits : Nat) (lut : Nat → Nat) (row : List Nat) : List Nat :=
  if outBits = 0 then row.flatMap (leBytes 2) else if outBits = 1 then pack12 (row.map (· / 16)) else row.map (fun v => lut (v / 16))
/-- A table entry of a port's active output tables (R223). -/
def lutOf (l : List (Nat × Nat)) (plane i : Nat) : Nat := ((l.find? (fun e => e.1 == plane * 4096 + i)).map (·.2)).getD (i / 16)
/-- Units of a block (R313). -/
def blockUnits (rsv stride : Nat) : Nat := 1 + cdiv (2 * rsv) 64 + rsv * stride / 64
/-- Byte offset of line slot i in a block. -/
def slotOff (b : Block) (i : Nat) : Nat := b.off * 64 + 64 + 64 * cdiv (2 * b.rsv) 64 + i * b.stride

/-- Copy a committed line into a window that wants it (R297, R299). -/
def windowTake (w : Window) (l : BLine) (rows : List Nat) (rowLen : Nat) : Window :=
  if l.line < w.first ∨ w.lastWant < l.line then w else
  let cut := (List.range (w.planes + 1)).flatMap (fun q => (rows.drop (q * rowLen + rowBytes w.cropFirst w.outBits)).take (rowBytes w.cropCount w.outBits))
  { w with lines := w.lines ++ [(l.line, l.flags, (cut ++ List.replicate w.stride 0).take w.stride)] }
/-- The windows of a port take the lines of a block that has been committed. `only`: by their place in the order of opening. -/
def State.windowFeed (s : State) (p : Nat) (b : Block) (only : Nat → Bool) : State :=
  let m := s.active
  let rowLen := rowBytes (widthOf s m p) (vw s m (pipeU p) Pipe.OUT_BITS)
  s.modTrig (fun t => { t with windows := t.windows.map (fun w =>
    if w.port = p ∧ only w.seq then
      b.lines.zipIdx.foldl (fun w x => windowTake w x.1 (s.ringRead p (slotOff b x.2) b.stride) rowLen) w
    else w) })

/-! ### Evidence windows close (R298 to R301, R333) -/

/-- Size of the pool in bytes. -/
def State.poolBytes (s : State) : Nat := s.act trigU Trig.POOL_SIZE * 2 ^ 26
/-- Intervals of the pool's ring that are held: the whole of what an open window has reserved, and the bytes of a closed one that are not yet read (R298, R333). -/
def State.poolHeld (s : State) : List (Nat × Nat) :=
  let t := s.trig
  (t.windows.map (fun w => (w.off, w.rsv)) ++ t.closed.map (fun c => (c.off + c.taken, c.size - c.taken))).filter (fun x => x.2 != 0)
/-- Bytes held. -/
def State.poolUsed (s : State) : Nat := (s.poolHeld.map (·.2)).foldl (· + ·) 0
/-- Does an interval of n bytes at offset c of a ring of `size` bytes keep clear of what is held? -/
def poolClear (size n c : Nat) (held : List (Nat × Nat)) : Bool :=
  decide (n ≤ size) && held.all (fun h => let d := (h.1 % size + size - c) % size
    decide (n ≤ d) && decide (d + h.2 ≤ size))
/-- Where a window of n bytes lies: behind the last one reserved where it is clear there, else at the first held interval with room behind it (log entry 77). -/
def State.poolPlace (s : State) (n : Nat) : Option Nat :=
  let size := s.poolBytes
  ((s.trig.poolWr :: s.poolHeld.map (fun h => h.1 + h.2)).map (· % size)).find? (fun c => poolClear size n c s.poolHeld)
/-- Keep POOL_USED and OPEN_WINDOWS in step (R303). -/
def State.poolRegs (s : State) : State :=
  (s.set trigU Trig.POOL_USED (cdiv s.poolUsed 1024)).set trigU Trig.OPEN_WINDOWS s.trig.windows.length
/-- The 15 words of an EVIDENCE_REF (R301). -/
def refWords (w : Window) (poolUnits size crc time seq : Nat) : List Nat :=
  let n := w.lines.length
  let first := (w.lines.head?.map (·.1)).getD w.first
  let pre := (w.lines.filter (fun l => l.1 < w.lt)).length
  let post := (w.lines.filter (fun l => w.le < l.1)).length
  let refused := tbit w.flags 6 || tbit w.flags 7
  if refused then
    [w.num + w.port * 2 ^ 12 + b2n w.defect * 2 ^ 15 + w.flags * 2 ^ 16, w.srcSeq, 0, 0, 0, 0, 0, 0, 0, 0, 0, 0, lo32 time, hi32 time, seq]
  else
    [w.num + w.port * 2 ^ 12 + b2n w.defect * 2 ^ 15 + w.flags * 2 ^ 16, w.srcSeq, lo32 first, hi32 first + w.preReq * 2 ^ 16, pre + post * 2 ^ 16,
     n + w.postReq * 2 ^ 16, w.cropFirst + w.cropCount * 2 ^ 16, w.reqFirst + w.reqCount * 2 ^ 16, poolUnits, size / 64,
     w.stride + w.outBits * 2 ^ 24 + w.planes * 2 ^ 26, crc, lo32 time, hi32 time, seq]
/-- Write bytes into the pool ring. -/
def State.poolWrite (s : State) : Nat → List Nat → State
  | _, [] => s
  | o, b :: bs =>
    let base := s.act trigU Trig.POOL_BASE * 2 ^ 26
    State.poolWrite { s with dram := Mem.put s.dram (base + o % s.poolBytes) (byte b) } (o + 1) bs
/-- Read bytes of the pool ring. -/
def State.poolRead (s : State) (o n : Nat) : List Nat :=
  let base := s.act trigU Trig.POOL_BASE * 2 ^ 26
  (List.range n).map (fun k => (Mem.get s.dram (base + (o + k) % s.poolBytes)).toNat)
/-- Close a window (R300): data into the pool, EVIDENCE_REF into the home port's ring. -/
def State.windowClose (s : State) (w : Window) : State :=
  let data := if w.lines = [] then [] else padTo 64 (w.lines.flatMap (fun l => leBytes 2 l.2.1)) ++ w.lines.flatMap (fun l => l.2.2)
  let s := s.poolWrite w.off data
  let seq := (s.ring w.port).refs
  let units := w.off % s.poolBytes / 64
  let words := refWords w units data.length (if data = [] then 0 else crc32c data) s.rope seq
  let s := s.modTrig (fun t => { t with
    windows := t.windows.filter (fun x => x.seq != w.seq),
    closed := if data = [] then t.closed else t.closed ++ [{ num := w.num, seq := w.seq, port := w.port, off := w.off, size := data.length, taken := 0, closedAt := s.now }] })
  let first := (w.lines.head?.map (·.1)).getD w.first
  (s.emit w.port 4 (some first) first first words).poolRegs
/-- Lines of a port that have been captured and stand in no committed block yet. -/
def State.linesPending (s : State) (p : Nat) : List Nat := (s.ring p).blocks.flatMap (fun b => b.lines.map (·.line)) ++ (s.ring p).inFlight
/-- A window is complete: its last line has been copied, or its range has been cut and no line of what is left is still to be copied (R300, R311). -/
def State.windowFull (s : State) (w : Window) : Bool :=
  w.lines.any (fun l => l.1 == w.lastWant) || (w.cut && !(s.linesPending w.port).any (fun l => decide (w.first ≤ l) && decide (l ≤ w.lastWant)))
/-- Close the windows of a port that are complete. -/
def State.windowsDone (s : State) (p : Nat) : State :=
  s.trig.windows.foldl (fun s w => if w.port == p && s.windowFull w then s.windowClose w else s) s
/-- Cut a window before a line: the lines captured before it stay (R300). The first case that meets a window gives its flag. -/
def Window.cutAt (w : Window) (line flag : Nat) : Window :=
  { w with cut := true, lastWant := min w.lastWant (line - 1), flags := if w.cut then w.flags else w.flags ||| flag }
/-- The windows of a port meet a line that will not be captured (R300). -/
def State.windowsCut (s : State) (p line flag : Nat) : State :=
  (s.modTrig (fun t => { t with windows := t.windows.map (fun w => if w.port = p ∧ line ≤ w.lastWant then w.cutAt line flag else w) })).windowsDone p
/-- Every open window of a port ends with what has been captured (R300). A line that the port captures later belongs to none of them. -/
def State.windowsEnd (s : State) (p flag : Nat) : State :=
  (s.modTrig (fun t => { t with windows := t.windows.map (fun w => if w.port = p then w.cutAt (s.lc p).nextLine flag else w) })).windowsDone p
/-- Discard the windows of a port without a record (R300, fence with QUEUE_PTR). -/
def State.windowsDrop (s : State) (p : Nat) : State :=
  (s.modTrig (fun t => { t with windows := t.windows.filter (fun w => w.port != p) })).poolRegs

/-- Write a closing block whose flags are all final: header, flag table, length word; give back empty slots (R313 to R316). -/
def State.blockWrite (s : State) (p : Nat) (b : Block) : State :=
  let m := s.active
  let r := s.ring p
  let n := b.lines.length
  let lastRec : Bool := match r.recs.getLast? with | some x => x.off == b.off | none => false
  let rsv := if lastRec then n else b.rsv
  let b := { b with closing := true }
  let flags := b.lines.map (·.flags)
  let size := blockUnits rsv b.stride
  let slotBytes := if lastRec ∧ rsv < b.rsv then s.ringRead p (slotOff b 0) (n * b.stride) else []
  let b' := { b with rsv := rsv }
  let t := s.ropeAt b.tick
  let hdr := [lo32 b.first, hi32 b.first + n * 2 ^ 16 + b2n b.repStart * 2 ^ 23 + b2n (b.repStart && tbit b.repFlags 0) * 2 ^ 24 +
    b2n (b.repStart && tbit b.repFlags 1) * 2 ^ 25 + vw s m (pipeU p) Pipe.OUT_BITS * 2 ^ 26 + vw s m (portU p) Port.PLANES * 2 ^ 28,
    b.repNo, b.stride + vw s m (portU p) Port.LINE_UNITS * 2 ^ 18, lo32 t, hi32 t,
    flags.foldl (fun a f => a ||| f) 0 + flags.foldl (fun a f => a &&& f) 0xFFFF * 2 ^ 16, rsv]
  let s := s.ringWrite p (b.off * 64 + 4) ((wordBytes hdr ++ List.replicate 60 0).take 60)
  let s := s.ringWrite p (b.off * 64 + 64) (padTo 64 (flags.flatMap (leBytes 2) ++ List.replicate (2 * (rsv - n)) 0))
  let s := if slotBytes = [] then s else s.ringWrite p (slotOff b' 0) slotBytes
  let s := if lastRec then s else s.ringWrite p (slotOff b' n) (List.replicate ((rsv - n) * b.stride) 0)
  let s := s.ringWrite p (b.off * 64) (leBytes 4 (lengthWord 1 p size))
  let s := s.modRing p (fun r => { r with
    wr := if lastRec then b.off + size else r.wr,
    recs := r.recs.map (fun x => if x.off = b.off then { x with size := size, last := b.first + n - 1 } else x),
    blocks := r.blocks.filter (fun c => c.off != b.off),
    hist := (r.hist ++ [b']).filter (fun c => r.wr < c.off + s.ringUnits p) })
  let s := s.ringDone p b.off
  (s.windowFeed p b' (fun _ => true)).windowsDone p
/-- Close the blocks that may close, in order (R316). -/
def State.closeBlocks (s : State) (p : Nat) : State :=
  (s.ring p).blocks.foldl (fun s b =>
    if b.closing && b.lines.all (fun l => l.ebDone && l.lampDone) && (s.ring p).blocks.head?.map (·.off) == some b.off
    then s.blockWrite p b else s) s
/-- Mark the open block as closing. -/
def State.endBlock (s : State) (p : Nat) : State :=
  (s.modRing p (fun r => { r with blocks := r.blocks.map (fun b => { b with closing := true }) })).closeBlocks p
/-- Change the flags of a line that still stands in a block (R316). -/
def State.lineFlags (s : State) (p line : Nat) (f : BLine → BLine) : State :=
  s.modRing p (fun r => { r with blocks := r.blocks.map (fun b => { b with lines := b.lines.map (fun l => if l.line = line then f l else l) }) })
/-- The open block holds a slot for a line: it is the next one, and begins no repeat (R313, R314). -/
def State.slotHeld (s : State) (p : Nat) (fi : Fire) : Bool :=
  match (s.ring p).blocks.getLast? with
  | some b => !b.closing && b.lines.length < b.rsv && fi.line == b.first + b.lines.length && fi.repNo == b.repNo && fi.line != fi.repFirst
  | none => false
/-- Put a corrected line into the ring (R312 to R314). `eb`, `lamp`: its flags still wait for Eyebright or the lamps. -/
def State.ringLine (s : State) (p : Nat) (fi : Fire) (rows : List Nat) (eb lamp : Bool) : State :=
  let m := fi.set
  let stride := strideOf s m p
  let want := vw s m (portU p) Ring.BLOCK_LINES
  let s := if s.slotHeld p fi then s else
    let s := (s.endBlock p).flushHeld p
    let off := (s.ring p).wr
    let s := s.ringReserve p (blockUnits want stride) 1 fi.line fi.line
    s.modRing p (fun r => { r with blocks := r.blocks ++ [{ off := off, first := fi.line, repNo := fi.repNo, repStart := fi.line == fi.repFirst, repFlags := fi.repFlags, tick := fi.tick, rsv := want, stride := stride, lines := [], lastAt := s.now, closing := false }] })
  match (s.ring p).blocks.getLast? with
  | none => s
  | some b =>
    let s := s.ringWrite p (slotOff b b.lines.length) ((rows ++ List.replicate stride 0).take stride)
    let line : BLine := { line := fi.line, flags := fi.flags, ebDone := !eb, lampDone := !lamp, tick := fi.tick }
    let s := s.modRing p (fun r => { r with
      blocks := r.blocks.map (fun c => if c.off = b.off then { c with lines := c.lines ++ [line], lastAt := s.now, closing := c.lines.length + 1 == c.rsv } else c),
      lastLine := some fi.line, lastRep := fi.repNo, inFlight := r.inFlight.filter (· != fi.line) })
    ((s.closeBlocks p).flushHeld p).ringRegs p

/-! ### Evidence windows open (R296 to R298) -/

/-- The first line of the unbroken run of lines of `kept` that ends before `l`, no earlier than `lo`. -/
def lineFrom (kept : List Nat) : Nat → Nat → Nat
  | 0, _ => 0
  | l + 1, lo => if lo ≤ l ∧ kept.contains l then lineFrom kept l lo else l + 1
/-- The first of the n lines from `l` on that is missing from `kept`. -/
def lineHole (kept : List Nat) (l n : Nat) : Option Nat := ((List.range n).map (l + ·)).find? (fun x => !kept.contains x)
/-- Open a window (R296 to R298). It never takes a line across one that is missing: before Lt it begins after the last one missing, with SHORT_PRE, and from Lt on it is cut at the
first one missing (R297, R300). Answers the window number and whether it was accepted. -/
def State.windowOpen (s : State) (p : Nat) (defect : Bool) (srcSeq lt le pre post reqFirst reqLast : Nat) : State × Nat × Bool :=
  let m := s.active
  let cf := reqFirst / 128 * 128
  let cl := cdiv (reqLast + 1) 128 * 128
  let ob := vw s m (pipeU p) Pipe.OUT_BITS
  let planes := vw s m (portU p) Port.PLANES
  let stride := cdiv ((planes + 1) * rowBytes (cl - cf) ob) 64 * 64
  let n := pre + (le - lt + 1) + post
  let rsv := windowBytes stride n
  let num := s.trig.nextWin % 4096
  let kept := ((s.ring p).hist.filter (fun b => (s.ring p).wr ≤ b.off + s.ringUnits p)).flatMap (fun b => b.lines.map (·.line)) ++ s.linesPending p
  let start := if kept.contains lt then lt else ((kept.filter (lt ≤ ·)).min?).getD lt
  let gone : Bool := decide (lt < (s.lc p).nextLine) && !kept.contains lt && kept.any (· < lt)
  let first := lineFrom kept (if gone then lt else start) (lt - pre)
  let short := lt < pre || decide (lt - pre < first)
  let hole := if gone then some lt else lineHole kept start ((s.lc p).nextLine - start)
  let crop := if cf < reqFirst ∨ reqLast + 1 < cl then 2 else 0
  let w : Window := { num := num, seq := s.trig.nextWin, cut := false, port := p, defect := defect, srcSeq := srcSeq, lt := lt, le := le, preReq := pre, postReq := post, first := first, lastWant := le + post, cropFirst := cf, cropCount := cl - cf, reqFirst := reqFirst, reqCount := reqLast + 1 - reqFirst, flags := b2n short + crop, off := (s.poolPlace rsv).getD 0, rsv := rsv, stride := stride, outBits := ob, planes := planes, lines := [] }
  let noPool := (s.poolPlace rsv).isNone
  let noSlot := 4096 ≤ s.trig.windows.length
  if noSlot ∨ noPool then
    let s := if noSlot then s.bump trigU Trig.NO_SLOT else s.bump trigU Trig.NO_POOL
    let w := { w with flags := if noSlot then 0x80 else 0x40 }
    let seq := (s.ring p).refs
    let s := s.emit p 4 (some lt) lt lt (refWords w 0 0 0 s.rope seq)
    let s := if s.trig.refusedRun then s else s.raise Ev.EVID_REFUSED trigU (b2n (!noSlot) + b2n noSlot * 2 + p * 4)
    (s.modTrig (fun t => { t with refusedRun := true, nextWin := t.nextWin + 1 }), num, false)
  else
    let s := s.modTrig (fun t => { t with refusedRun := false, nextWin := t.nextWin + 1, poolWr := (w.off + rsv) % s.poolBytes, windows := t.windows ++ [match hole with | some l => w.cutAt l 8 | none => w] })
    let s := (s.ring p).hist.foldl (fun s b => s.windowFeed p b (· == w.seq)) s
    ((s.windowsDone p).poolRegs, num, true)

end Sys2Proof.Machine
end

