-- ==== Sys2Proof/Machine/Eyebright.lean ====
section
/-! DEFINITION. Eyebright: registration across and along the web, comparison, blobs, defect records, actions and verdicts (R247 to R272). -/
namespace Sys2Proof.Machine
open R

/-! ### Reference image (R245) -/

/-- The fields of an image header that comparison uses. -/
structure Image where
  w : Nat
  planes : Nat
  h : Nat
  len256 : Nat
  posA : Nat
  posB : Nat
  img : Nat
  cls : Nat
  crc : Nat
  deriving DecidableEq, Repr
/-- Image i of a slot at a byte address. -/
def imageAt (m : Mem) (base i : Nat) : Image :=
  let a := base + 0x100 + 64 * i
  { w := Mem.rd32 m a % 512 * 64, planes := Mem.rd32 m a / 512 % 4 + 1, h := Mem.rd32 m (a + 4) % 2 ^ 24, len256 := Mem.rd32 m (a + 8),
    posA := Mem.rd32 m (a + 12) % 2 ^ 22, posB := Mem.rd32 m (a + 16) % 2 ^ 22, img := Mem.rd32 m (a + 20) * 64,
    cls := Mem.rd32 m (a + 24) * 64, crc := Mem.rd32 m (a + 28) }
/-- Byte address of a reference slot (R484). -/
def State.slotAddr (s : State) (slot : Nat) : Nat := s.refBase slot * 2 ^ 20
def State.activeSlot (s : State) : Nat := s.slotAddr (s.reg refU RefSt.ACTIVE)
/-- REF[v][p][u] and CLS[v][u] (R245). -/
def refSample (m : Mem) (base : Nat) (im : Image) (v p u : Nat) : Nat :=
  ofLe (Mem.read m (base + im.img + 2 * ((v * im.planes + p) * im.w + u)) 2)
def refClass (m : Mem) (base : Nat) (im : Image) (v u : Nat) : Nat :=
  let b := (Mem.get m (base + im.cls + (v * im.w + u) / 2)).toNat
  if u % 2 = 0 then b % 16 else b / 16

/-! ### Registration (R247 to R252) -/

/-- The crossing of R247 along a row: pos in 1/256 pixel. -/
def crossing (row : List Nat) (first count level : Nat) (fall : Bool) : Option Nat :=
  ((List.range (count - 1)).find? (fun k =>
    let a := nth row (first + k)
    let b := nth row (first + k + 1)
    first + k + 1 < row.length && (if fall then level ≤ a && b < level else a < level && level ≤ b))).map (fun k =>
      let a := nth row (first + k)
      let b := nth row (first + k + 1)
      let e := (Int.ofNat level - Int.ofNat a).natAbs
      let g := (Int.ofNat b - Int.ofNat a).natAbs
      (first + k) * 256 + (e * 256 + g / 2) / g)
/-- One line's update of a tracker (R248, R250): none when the measurement is missing. -/
def Tracker.step (t : Tracker) (shift : Nat) (d : Option Int) : Tracker :=
  match d with
  | none => { t with missed := t.missed + 1 }
  | some d =>
    let h : Int := if shift = 0 then 0 else 2 ^ (shift - 1)
    let acc := if t.has then t.acc - sar (t.acc + h) shift + d else d * 2 ^ shift
    { acc := acc, f := sar (acc + h) shift, has := true, missed := 0 }
/-- SHEAR of R249. -/
def shearOf (fixed fa fb posA posB : Int) (mode : Nat) : Int :=
  if mode = 2 then clamp (-16777) 16777 (fdiv ((fb - fa) * 2 ^ 24 + fdiv (posB - posA) 2) (posB - posA)) else fixed
/-- D(x) of R249. -/
def dispAt (shift shear : Int) (xc x : Nat) : Int := shift + sar (shear * (Int.ofNat x - Int.ofNat xc) + 2 ^ 15) 16
/-- MEAS is valid (R251). -/
def measOk (len meas : Nat) : Bool := meas != 0 && 49 * len ≤ 50 * meas && 50 * meas ≤ 51 * len
/-- v of R251. -/
def refLine (l lf : Nat) (resid trim : Int) (len meas : Nat) : Int :=
  let w := (Int.ofNat l - Int.ofNat lf) * 256 + resid + trim
  if measOk len meas then fdiv (w * Int.ofNat len + Int.ofNat (meas / 2)) (Int.ofNat meas) else w

/-! ### Comparison of one line (R254, R255) -/

/-- One pixel: class, mask of planes that violate, sum of |diff| over them, their peak and its plane, samples outside the reference. -/
structure Px where
  cls : Nat
  mask : Nat
  sum : Nat
  peak : Int
  plane : Nat
  outside : Nat
  deriving DecidableEq, Repr
/-- The limits of a class and plane hold a difference (R255). -/
def violates (lo hi diff : Int) : Bool := (lo != -32768 && diff < lo) || (hi != 32767 && hi < diff)
/-- The larger peak, the earlier one on a tie (R259). -/
def peakOf (a b : Int × Nat) : Int × Nat := if a.1.natAbs < b.1.natAbs then b else a
/-- Pixel x of a line: the registered reference of R254 against each plane. -/
def comparePx (mem : Mem) (base : Nat) (im : Image) (lim : Nat → Nat → Int × Int) (planes : List (List Nat)) (d v : Int) (x : Nat) : Px :=
  let u := Int.ofNat (x * 256) - d
  let n := planes.length
  if u < 0 ∨ Int.ofNat (im.w * 256 - 256) < u ∨ v < 0 ∨ Int.ofNat (im.h * 256 - 256) < v then ⟨15, 0, 0, 0, 0, n⟩
  else
    let u := u.toNat
    let v := v.toNat
    let i := u / 256
    let fu := u % 256
    let i1 := min (i + 1) (im.w - 1)
    let j := v / 256
    let fv := v % 256
    let j1 := min (j + 1) (im.h - 1)
    let c := refClass mem base im (min ((v + 128) / 256) (im.h - 1)) (min ((u + 128) / 256) (im.w - 1))
    let diff := fun q =>
      let top := refSample mem base im j q i * (256 - fu) + refSample mem base im j q i1 * fu
      let bot := refSample mem base im j1 q i * (256 - fu) + refSample mem base im j1 q i1 * fu
      let r := (top * (256 - fv) + bot * fv + 2 ^ 15) / 2 ^ 16
      Int.ofNat (nth (planes.getD q []) x) - Int.ofNat r
    let bad := if c = 15 then [] else (List.range n).filter (fun q => let l := lim c q; violates l.1 l.2 (diff q))
    let pk := (bad.map (fun q => (diff q, q))).foldl peakOf (0, bad.headD 0)
    ⟨c, bad.foldl (fun a q => a + 2 ^ q) 0, bad.foldl (fun a q => a + (diff q).natAbs) 0, pk.1, pk.2, 0⟩
/-- The runs of a line (R258), ascending. -/
def runsOf : Nat → List Px → List Run
  | _, [] => []
  | x, q :: l =>
    let rest := runsOf (x + 1) l
    if q.mask = 0 then rest else
    let one : Run := ⟨q.cls, x, x, q.mask, q.sum, 1, q.peak, q.plane, x⟩
    match rest with
    | r :: rs =>
      if r.a = x + 1 ∧ r.cls = q.cls then
        let pk := if q.peak.natAbs < r.peak.natAbs then (r.peak, r.peakPlane, r.peakX) else (q.peak, q.plane, x)
        ⟨q.cls, x, r.b, q.mask ||| r.planes, q.sum + r.sumAbs, r.area + 1, pk.1, pk.2.1, pk.2.2⟩ :: rs
      else one :: rest
    | [] => [one]

/-! ### Blobs (R259 to R263) -/

/-- Two runs on neighbouring lines touch (R258). -/
def touches (a b : Nat) (r : Nat × Nat) : Bool := a ≤ r.2 + 1 && r.1 ≤ b + 1
/-- What a line gives to the blobs that take its runs. -/
structure LineCtx where
  line : Nat
  repNo : Nat
  repFirst : Nat
  shift : Int
  shear : Int
  settling : Bool
  nominal : Bool
  lifted : Bool
  deriving DecidableEq, Repr
/-- Join a run to a blob. -/
def Blob.add (b : Blob) (r : Run) (c : LineCtx) : Blob :=
  let better := b.peak.natAbs < r.peak.natAbs
  { b with
    area := b.area + r.area, planes := b.planes ||| r.planes, xMin := min b.xMin r.a, xMax := max b.xMax r.b, lastLine := c.line,
    sumAbs := sat32 (b.sumAbs + r.sumAbs), peak := if better then r.peak else b.peak, peakPlane := if better then r.peakPlane else b.peakPlane,
    peakX := if better then r.peakX else b.peakX, peakLine := if better then c.line else b.peakLine,
    nominal := b.nominal || c.nominal, lifted := b.lifted || c.lifted, reps := if b.reps.contains c.repNo then b.reps else b.reps ++ [c.repNo],
    cur := b.cur ++ [(r.a, r.b)] }
/-- A blob opened by a run. -/
def Blob.open (id : Nat) (ovf split : Bool) (r : Run) (c : LineCtx) : Blob :=
  { id := id, cls := r.cls, overflow := ovf, area := r.area, planes := r.planes, xMin := r.a, xMax := r.b, firstLine := c.line, firstX := r.a,
    lastLine := c.line, sumAbs := sat32 r.sumAbs, peak := r.peak, peakPlane := r.peakPlane, peakX := r.peakX, peakLine := c.line, repNo := c.repNo,
    lineInRep := c.line - c.repFirst, shift := c.shift, shear := c.shear, settling := c.settling, nominal := c.nominal, lifted := c.lifted,
    splitStart := split, stopped := false, reps := [c.repNo], runs := [], cur := [(r.a, r.b)] }
/-- Merge b into a, the survivor (R259, R261). -/
def Blob.merge (a b : Blob) : Blob :=
  let key := fun (x : Blob) => (x.peakLine, x.peakX, x.peakPlane)
  let better := a.peak.natAbs < b.peak.natAbs || (a.peak.natAbs == b.peak.natAbs &&
    ((key b).1 < (key a).1 || ((key b).1 == (key a).1 && ((key b).2.1 < (key a).2.1 || ((key b).2.1 == (key a).2.1 && (key b).2.2 < (key a).2.2)))))
  { a with
    area := a.area + b.area, planes := a.planes ||| b.planes, xMin := min a.xMin b.xMin, xMax := max a.xMax b.xMax,
    lastLine := max a.lastLine b.lastLine, sumAbs := sat32 (a.sumAbs + b.sumAbs),
    peak := if better then b.peak else a.peak, peakPlane := if better then b.peakPlane else a.peakPlane,
    peakX := if better then b.peakX else a.peakX, peakLine := if better then b.peakLine else a.peakLine,
    nominal := a.nominal || b.nominal, lifted := a.lifted || b.lifted, splitStart := a.splitStart || b.splitStart, stopped := a.stopped || b.stopped,
    reps := a.reps ++ b.reps.filter (fun r => !a.reps.contains r), runs := a.runs ++ b.runs, cur := a.cur ++ b.cur }
/-- The blob that survives a merge: earliest first line, then lowest first pixel (R259). -/
def survivor : List Blob → Option Blob
  | [] => none
  | b :: l => match survivor l with
    | none => some b
    | some c => if b.firstLine < c.firstLine ∨ (b.firstLine = c.firstLine ∧ b.firstX < c.firstX) then some b else some c
/-- Place one run (R259, R262). Answers the machine and whether the run overflowed. -/
def EbSt.place (e : EbSt) (c : LineCtx) (r : Run) : EbSt × Bool :=
  let hit := e.blobs.filter (fun b => b.cls == r.cls && b.runs.any (touches r.a r.b))
  let ord := hit.filter (fun b => !b.overflow)
  match survivor ord with
  | some k =>
    let merged := ((ord.filter (fun b => b.id != k.id)).foldl Blob.merge k).add r c
    ({ e with blobs := merged :: e.blobs.filter (fun b => !(ord.map (·.id)).contains b.id) }, false)
  | none =>
    let full := 4096 ≤ (e.blobs.filter (fun b => !b.overflow)).length
    match hit.find? (·.overflow) with
    | some o => ({ e with blobs := e.blobs.map (fun b => if b.id = o.id then b.add r c else b) }, false)
    | none =>
      let split := e.split.any (fun q => q.1 == r.cls && touches r.a r.b q.2)
      if full then
        match e.blobs.find? (fun b => b.overflow && b.cls == r.cls) with
        | some o => ({ e with blobs := e.blobs.map (fun b => if b.id = o.id then b.add r c else b) }, true)
        | none => ({ e with blobs := Blob.open e.nextId true split r c :: e.blobs, nextId := e.nextId + 1 }, true)
      else
        ({ e with blobs := Blob.open e.nextId false split r c :: e.blobs, nextId := e.nextId + 1 }, false)
/-- Lowest pixel of a blob on its last line (R260). -/
def Blob.lowPix (b : Blob) : Nat := ((if b.cur = [] then b.runs else b.cur).map (·.1)).min?.getD b.xMin
/-- Closing order of R260. -/
def closeSort (l : List Blob) : List Blob :=
  l.mergeSort (fun a b => a.lowPix < b.lowPix || (a.lowPix == b.lowPix && a.lastLine ≤ b.lastLine))

/-! ### Closing and records (R263 to R271) -/

/-- The words of a DEFECT record (R264). `flags`: bit 0 TRUNCATED, bit 1 SPLIT_END. -/
def defectWords (b : Blob) (p action flags : Nat) (evid : Bool) (seq : Nat) : List Nat :=
  [b.cls + b.planes * 16 + action * 2 ^ 8 + b2n b.settling * 2 ^ 10 + b2n b.nominal * 2 ^ 11 + b2n (tbit flags 0) * 2 ^ 12 +
    b2n (tbit flags 1) * 2 ^ 13 + b2n b.splitStart * 2 ^ 14 + b2n b.overflow * 2 ^ 15 + b2n evid * 2 ^ 16 + b2n b.lifted * 2 ^ 17 + p * 2 ^ 18,
   sat32 b.area, lo32 b.firstLine, hi32 b.firstLine % 2 ^ 16 + b.xMin * 2 ^ 16, lo32 b.lastLine, hi32 b.lastLine % 2 ^ 16 + b.xMax * 2 ^ 16,
   b.repNo, b.lineInRep, low 17 b.peak + b.peakPlane * 2 ^ 17, b.peakX, b.peakLine - b.firstLine, b.sumAbs, low 24 b.shift, low 16 b.shear, seq]
/-- Close one blob: discard, suppress or record it (R263 to R267). -/
def State.blobClose (s : State) (p k : Nat) (flags : Nat) (b : Blob) : State :=
  let c := clU k
  let v := fun f i => s.actC c p f i
  let s := s.modEb p (fun e => { e with blobs := e.blobs.filter (fun x => x.id != b.id) })
  if !b.overflow && flags == 0 && b.area < v Ctx.MIN_AREA b.cls then s.bumpC c p Ctx.SMALL 0 1
  else if b.settling && v Ctx.SETTLE_SUPPRESS 0 == 1 then
    (s.bumpC c p Ctx.SUPPRESSED 0 1).modEb p (fun e => { e with reps := e.reps.map (fun r => if b.reps.contains r.no then { r with fail := true } else r) })
  else
    let action := v Ctx.ACTION b.cls
    let seq := s.regC c p Ctx.DEFECT_SEQ 0
    let evid := action == 1
    let s := s.emit p 3 (some b.firstLine) b.firstLine b.lastLine (defectWords b p action flags evid seq)
    let s := (s.setC c p Ctx.DEFECT_SEQ 0 (seq + 1)).bumpC c p Ctx.DEFECTS 0 1
    let s := s.modEb p (fun e => { e with reps := e.reps.map (fun r => if b.reps.contains r.no then { r with fail := true } else r) })
    let s := s.signal { sig := 32 + p, port := p, t := s.rope, line := b.firstLine, frac := 0, pix := some (b.xMin * 256), cls := b.cls, node := 0 }
    if evid ∧ !s.fenced trigU then
      let mg := v Ctx.EVID_MARGIN 0
      (s.windowOpen p true seq b.firstLine b.lastLine (v Ctx.EVID_PRE 0) (v Ctx.EVID_POST 0) (b.xMin - mg)
        (min (b.xMax + mg) (widthOf s s.active p - 1))).1
    else s
/-- Give verdicts to the repeats whose blobs have all closed (R271). -/
def State.verdicts (s : State) (p k : Nat) : State :=
  let done := (s.eb p).reps.filter (fun r => r.ended && !(s.eb p).blobs.any (fun b => b.reps.contains r.no))
  done.foldl (fun s r =>
    let v := if r.fail then 2 else if r.incomplete then 3 else 1
    let s := s.modEb p (fun e => { e with reps := e.reps.filter (fun x => x.no != r.no) })
    let s := (s.setC (clU k) p Ctx.VERDICT 0 v).setC (clU k) p Ctx.VERDICT_REPEAT 0 r.no
    let s := s.modRing p (fun g => if v = 2 then { g with fails := g.fails + 1 } else if v = 3 then { g with incompletes := g.incompletes + 1 } else g)
    let s := s.raise Ev.REPEAT_VERDICT (clU k) (v * 2 ^ 30 + p * 2 ^ 27 + r.no % 2 ^ 27)
    if v = 2 then s.signal { sig := 62, port := p, t := s.rope, line := r.first, frac := 0, pix := none, cls := 0, node := 0 } else s) s
/-- Keep OPEN_BLOBS in step. -/
def State.ebRegs (s : State) (p k : Nat) : State :=
  s.setC (clU k) p Ctx.OPEN_BLOBS 0 ((s.eb p).blobs.filter (fun b => !b.overflow)).length
/-- Close every open blob of a port with TRUNCATED (R261). -/
def State.blobsTruncate (s : State) (p k : Nat) : State :=
  let s := (closeSort (s.eb p).blobs).foldl (fun s b => s.blobClose p k 1 b) s
  ((s.modEb p (fun e => { e with split := [] })).verdicts p k).ebRegs p k
/-- Discard every open blob without a record; their repeats are INCOMPLETE (R271, R272 with QUEUE_PTR). -/
def State.blobsDrop (s : State) (p k : Nat) : State :=
  let held := (s.eb p).blobs.flatMap (·.reps)
  ((s.modEb p (fun e => { e with blobs := [], split := [], reps := e.reps.map (fun r => if held.contains r.no then { r with incomplete := true } else r) })).verdicts p k).ebRegs p k
/-- Every line of a port before line g has left the pipeline and Eyebright. -/
def State.ebPast (s : State) (p g : Nat) : Bool :=
  (s.eb p).queue.all (fun c => Nat.ble g c.fire.line) && (s.ring p).inFlight.all (fun l => Nat.ble g l)
/-- Eyebright learns that line g will not be compared: open blobs close with TRUNCATED, now or, where lines before g are still to be compared, after the last of
them (R261). -/
def State.ebGapAt (s : State) (p g : Nat) : State :=
  match clusterOf s s.active p with
  | some k => if s.ebPast p g then s.blobsTruncate p k else s.modEb p (fun e => { e with gaps := g :: e.gaps })
  | none => s
/-- Comparison of a port stops (R242, R268, R272). -/
def State.ebStop (s : State) (p : Nat) : State :=
  let off := fun (s : State) => s.modEb p (fun e => { e with on := false, resumeAtRepeat := false, resumeLine := none })
  match clusterOf s s.active p with
  | some k => (off (s.blobsTruncate p k)).setC (clU k) p Ctx.INSPECTING 0 0
  | none => off s
/-- R268: a STOP blob has reached MIN_AREA. No further line is fired; in web mode the line clock only numbers them until a repeat boundary after the release (R269). -/
def State.ebHold (s : State) (p k cls line : Nat) : State :=
  if s.regC (clU k) p Ctx.HELD_STOP 0 = 1 then s else
  let n := (s.lc p).nextLine
  let s := s.setC (clU k) p Ctx.HELD_STOP 0 1
  let s := s.modEb p (fun e => { e with gaps := n :: e.gaps, stopPend := some (cls, line, n) })
  let s := if s.act (portU p) Port.MODE = 0 then s.modLc p (fun c => { c with held := true }) else s
  let s := s.setSt (portU p) .waiting
  s.signal { sig := 58, port := p, t := s.rope, line := line, frac := 0, pix := none, cls := cls, node := 0 }
/-- The lines fired before a STOP are through: the blobs still open close, and EV_EB_STOP is raised (R268). -/
def State.stopEnds (s : State) (p : Nat) : State :=
  match (s.eb p).stopPend, clusterOf s s.active p with
  | some (cls, line, n), some k =>
    if !s.ebPast p n then s else
    let s := if (s.eb p).blobs = [] then s else s.blobsTruncate p k
    (s.modEb p (fun e => { e with stopPend := none })).raise Ev.EB_STOP (clU k) (p + cls * 16 + line % 2 ^ 24 * 2 ^ 8)
  | _, _ => s

/-! ### One line (R247 to R268) -/

/-- Is port p held by STOP. -/
def State.heldStop (s : State) (p : Nat) : Bool := [0, 1].any (fun k => s.regC (clU k) p Ctx.HELD_STOP 0 == 1)
/-- The repeat record of a line, opened at its first line; the repeat before it has ended (R271). -/
def EbSt.repLine (e : EbSt) (no first : Nat) (incomplete : Bool) : EbSt :=
  let incomplete := incomplete || e.lostRep.any (fun q => q.1 == no)
  let reps := e.reps.map (fun r => if r.no = no then { r with incomplete := r.incomplete || incomplete } else { r with ended := true })
  { e with reps := if reps.any (fun r => r.no == no) then reps else reps ++ [{ no := no, first := first, fail := false, incomplete := incomplete, ended := false }] }
/-- A port leaves its job, or is fenced: the lines that wait are not compared, and their repeats are INCOMPLETE, as is the one in which
its scan was lost (R402); every repeat has ended (R271). -/
def EbSt.leaves (e : EbSt) : EbSt :=
  let e := e.queue.foldl (fun e c => e.repLine c.fire.repNo c.fire.repFirst true) e
  let e := match e.lostRep with | some q => e.repLine q.1 q.2 true | none => e
  { e with lostRep := none, queue := [], gaps := [], stopPend := none, reps := e.reps.map (fun r => { r with ended := true }) }
/-- The same on a port, with the verdicts that this decides once its blobs have closed, or have been dropped without a record (`drop`, R272). -/
def State.ebLeaves (s : State) (p : Nat) (drop : Bool) : State :=
  let s := s.modEb p EbSt.leaves
  match clusterOf s s.active p with
  | some k => (if drop then s.blobsDrop p k else s.blobsTruncate p k).setC (clU k) p Ctx.INSPECTING 0 0
  | none => s
/-- Byte ranges of the reference that a line at coordinate v reads: two rows of each plane, and a row of the class map (R254). -/
def refRanges (base : Nat) (im : Image) (v : Int) : List (Nat × Nat) :=
  if v < 0 ∨ Int.ofNat (im.h * 256 - 256) < v then [] else
  let j := v.toNat / 256
  let c := min ((v.toNat + 128) / 256) (im.h - 1)
  [j, min (j + 1) (im.h - 1)].flatMap (fun r => (List.range im.planes).map (fun q => (base + im.img + 2 * ((r * im.planes + q) * im.w), 2 * im.w))) ++
    [(base + im.cls + c * im.w / 2, (im.w + 1) / 2)]
/-- Comparison that waited for a repeat boundary is on from the first line of that repeat (R242). -/
def State.ebResume (s : State) (p n : Nat) : State :=
  if (match (s.eb p).resumeLine with | some l => decide (l ≤ n) | none => false) then s.modEb p (fun e => { e with on := true, resumeLine := none }) else s
/-- Compare the oldest line waiting for a port (LINE_COMPARED). `ecc`: a reference fetch met an uncorrectable error (R256). -/
def State.compareLine (s : State) (p k : Nat) (cl : CLine) (ecc : Bool) : State :=
  let c := clU k
  let fi := cl.fire
  let m := fi.set
  let s := s.ebResume p fi.line
  let v := fun f i => vwC s m c p f i
  let e := s.eb p
  let base := s.activeSlot
  let im := imageAt s.dram base (v Ctx.IMAGE 0)
  let mode := v Ctx.TR_MODE 0
  let ls := v Ctx.LAT_SHIFT 0
  let sharp := !anyFlag fi.flags [Ln.PLANE_FILL, Ln.LANE_FAULT]
  let meas := fun t pos =>
    if !sharp then none else
    match crossing (cl.planes.getD (v Ctx.PLANE t) []) (v Ctx.WIN_FIRST t) (v Ctx.WIN_COUNT t) (v Ctx.LEVEL t) (v Ctx.FALL t == 1) with
    | none => none
    | some x => let d := Int.ofNat x - Int.ofNat pos; if 131072 < d.natAbs then none else some d
  let dA := meas 0 im.posA
  let dB := meas 1 im.posB
  -- flags of R250 and R252, from the state before this line
  let noHist := (mode != 0 && !e.ta.has) || (mode == 2 && !e.tb.has)
  let hold := v Ctx.LAT_HOLD 0
  let heldReg := (mode != 0 && hold < e.ta.missed) || (mode == 2 && hold < e.tb.missed)
  let okMeas := e.imageOk && measOk im.len256 fi.meas
  let stretch := e.imageOk && fi.meas != 0 && !okMeas
  let nominal := noHist || !okMeas || (tbit fi.repFlags 0 && fi.phased)
  let vline := refLine fi.line fi.repFirst fi.resid (sgn 24 (v Ctx.V_TRIM 0)) im.len256 fi.meas
  let looks := e.on && e.imageOk && fi.phased
  let bad := if looks then (refRanges base im vline).findSome? (fun r => s.readError r.1 r.2 none) else none
  let ecc := ecc || bad.isSome
  let s := match bad with | some a => s.memUE a | none => s
  let inspect := looks && !ecc
  let flags := orFlag (orFlag (orFlag fi.flags Ln.REGISTRATION_NOMINAL nominal) Ln.REGISTRATION_HELD heldReg) Ln.UNINSPECTED (!inspect)
  let shift := if mode = 0 ∨ noHist then 0 else e.ta.f
  let fixed := sgn 16 (v Ctx.SHEAR_FIXED 0)
  let shear := if noHist then fixed else shearOf fixed e.ta.f e.tb.f im.posA im.posB mode
  let xc := if mode = 0 then 0 else im.posA / 256
  -- counters and events of the trackers
  let s := if mode != 0 && dA == none then s.bumpC c p Ctx.MISS_A 0 1 else s
  let s := if mode == 2 && dB == none then s.bumpC c p Ctx.MISS_B 0 1 else s
  let s := if heldReg && !e.heldRun then s.raise Ev.REG_LOST c (p + fi.line % 2 ^ 24 * 2 ^ 8) else s
  let s := if stretch && e.stretchRep != some fi.repNo then s.raise Ev.REG_STRETCH c (p + fi.repNo % 2 ^ 24 * 2 ^ 8) else s
  let s := if ecc then (s.bump refU RefSt.REF_ECC).raise Ev.REF_ECC c (p + fi.line % 2 ^ 24 * 2 ^ 8) else s
  let newSettle := inspect && e.settleRep != some fi.repNo && 0 < e.settleLeft
  let settling := inspect && (newSettle || e.settleRep == some fi.repNo)
  let lifted := anyFlag flags liftFlags
  let incomplete := settling || anyFlag flags [Ln.UNINSPECTED, Ln.REGISTRATION_NOMINAL, Ln.REGISTRATION_HELD] || lifted
  let s := s.modEb p (fun e => { (e.repLine fi.repNo fi.repFirst incomplete) with
    ta := if mode = 0 then e.ta else e.ta.step ls dA, tb := if mode = 2 then e.tb.step ls dB else e.tb,
    heldRun := heldReg, stretchRep := if stretch then some fi.repNo else e.stretchRep,
    settleRep := if newSettle then some fi.repNo else e.settleRep, settleLeft := if newSettle then e.settleLeft - 1 else e.settleLeft })
  let s := (((s.setC c p Ctx.SHIFT_NOW 0 (low 24 shift)).setC c p Ctx.SHEAR_NOW 0 (low 16 shear)).setC c p Ctx.MEAS_NOW 0 (if okMeas then fi.meas else 0)).setC c p Ctx.INSPECTING 0 (b2n inspect)
  let s := s.lineFlags p fi.line (fun l => { l with flags := l.flags ||| flags, ebDone := true })
  if !inspect then
    let s := s.blobsTruncate p k
    ((((s.modEb p (fun e => { e with lastLine := none, ovfRun := false, gaps := e.gaps.filter (fun g => decide (fi.line + 1 < g)) })).verdicts p k).stopEnds p).closeBlocks p).flushHeld p
  else
    let s := if (s.eb p).lastLine.isSome && (s.eb p).lastLine != some (fi.line - 1) then s.blobsTruncate p k else s
    let lim := fun cls q => (sgn 16 (v Ctx.LO (4 * cls + q)), sgn 16 (v Ctx.HI (4 * cls + q)))
    let px := if !sharp then [] else (List.range (widthOf s m p)).map (fun x => comparePx s.dram base im lim cl.planes (dispAt shift shear xc x) vline x)
    let outside := (px.map (·.outside)).foldl (· + ·) 0
    let s := if outside = 0 then s else s.bumpC c p Ctx.OUTSIDE 0 outside
    let s := (lanesOf s m k p).foldl (fun s i => s.bump (c + i + 1) Lane.SAMPLES (vw s m c Clus.COL_UNITS i * 64 * planesOf s m p)) s
    let ctx : LineCtx := ⟨fi.line, fi.repNo, fi.repFirst, shift, shear, settling, anyFlag flags [Ln.REGISTRATION_NOMINAL, Ln.REGISTRATION_HELD], lifted⟩
    let runs := runsOf 0 px
    let (e, ovr) := runs.foldl (fun (acc : EbSt × List Run) r => let x := acc.1.place ctx r; (x.1, if x.2 then acc.2 ++ [r] else acc.2)) (s.eb p, [])
    let s := if ovr != [] && !e.ovfRun then s.raise Ev.BLOB_OVERFLOW c (p + (ovr.headD ⟨0, 0, 0, 0, 0, 0, 0, 0, 0⟩).cls * 16) else s
    let s := if ovr = [] then s else s.bumpC c p Ctx.OVERFLOW_RUNS 0 ovr.length
    let s := s.modEb p (fun _ => { e with ovfRun := ovr != [], lastLine := some fi.line })
    -- STOP (R268); a suppressed blob acts on nothing (R265)
    let stops := e.blobs.filter (fun b => !b.stopped && !(b.settling && v Ctx.SETTLE_SUPPRESS 0 == 1) && v Ctx.ACTION b.cls == 2 && v Ctx.MIN_AREA b.cls ≤ b.area)
    let s := stops.foldl (fun s b => s.ebHold p k b.cls fi.line) s
    let s := s.modEb p (fun e => { e with blobs := e.blobs.map (fun b => if (stops.map (·.id)).contains b.id then { b with stopped := true } else b) })
    -- closing (R260, R261)
    let isLong := fun (b : Blob) => b.cur != [] && v Ctx.BLOB_MAX_LINES 0 ≤ b.lastLine - b.firstLine + 1
    let cut := (s.eb p).gaps.contains (fi.line + 1)
    let closing := closeSort ((s.eb p).blobs.filter (fun b => cut || b.cur = [] || isLong b))
    let splitRuns := if cut then [] else (closing.filter isLong).flatMap (fun b => b.cur.map (fun r => (b.cls, r.1, r.2)))
    let s := closing.foldl (fun s b => s.blobClose p k (if isLong b then 2 else if b.cur = [] then 0 else 1) b) s
    let s := s.modEb p (fun e => { e with
      split := splitRuns, blobs := e.blobs.map (fun b => { b with runs := b.cur, cur := [] }), gaps := e.gaps.filter (fun g => decide (fi.line + 1 < g)) })
    ((((s.verdicts p k).ebRegs p k).stopEnds p).closeBlocks p).flushHeld p

end Sys2Proof.Machine
end

