-- ==== Sys2Proof/Machine/Reply.lean ====
section
/-! DEFINITION. Replies (R88 to R93) and the end of long work (R49, R84, R557). -/
namespace Sys2Proof.Machine
open R

/-- The words of a reply (R88). A command without a result writes 0 in word 3 (R557). -/
def replyWords (urgent : Bool) (status tag seq : Nat) (results : List Nat) : List Nat :=
  let rs := if results = [] then [0] else results.map (· % 2 ^ 32)
  [2 + rs.length + b2n urgent * 2 ^ 16, status * 2 ^ 16 + tag % 2 ^ 16, seq % 2 ^ 32] ++ rs
/-- Keep the level of the reply FIFO in step. -/
def State.replyRegs (s : State) : State := s.set bar0 Cmd.REPLY_LEVEL s.reply.words.length
/-- The pointers of the reply FIFO disagree as it is written or read (R321, code 7): the replies in it are dropped and counted, one that is partly read included. -/
def State.replyLost (s : State) : State :=
  if !s.skewed 7 0 then s else
  let ws := s.reply.words
  let n := (ws.filter (·.2)).length + (match ws with | (_, false) :: _ => 1 | _ => 0)
  let s := ({ s with reply := { s.reply with words := [] } } : State).bump bar0 Cmd.LOST n
  (s.ptrFound 7 0 devU).replyRegs
/-- Make a reply visible (R90): its words appear together, and EV_REPLY_READY is raised (R102). -/
def State.replyShow (s : State) (ws : List Nat) : State :=
  let s := s.replyLost
  let s := { s with reply := { s.reply with words := s.reply.words ++ ws.zipIdx.map (fun (x : Nat × Nat) => (x.1, x.2 == 0)) } }
  s.replyRegs.raise Ev.REPLY_READY devU s.reply.words.length
/-- Room for a NORMAL reply: 64 of the 2,048 words stay free (R91). -/
def State.replyRoom (s : State) (n : Nat) : Bool := s.reply.words.length + n + 64 ≤ 2048
/-- The watch of NORMAL_DONE starts anew (R108). -/
def State.watchDone (s : State) : State := { s with sys := { s.sys with done := s.reg bar0 Cmd.NORMAL_DONE, doneAt := s.now } }
/-- A NORMAL reply is written and counted. -/
def State.replyWrite (s : State) (ws : List Nat) : State :=
  ((s.replyShow ws).set bar0 Cmd.NORMAL_DONE (s.reg bar0 Cmd.NORMAL_DONE + 1)).watchDone
/-- An ABORT or RESET_UNIT that came through NORMAL has still to be answered (R83, R90). -/
def State.normalPends (s : State) : Bool := s.aborts.any (fun a => !a.urgent && !a.noReply && !a.rope)
/-- A NORMAL reply: written when there is room and nothing of NORMAL is to be answered before it, held otherwise (R90, R91). -/
def State.replyNormal (s : State) (ws : List Nat) : State :=
  if s.reply.held == [] && !s.normalPends && s.replyRoom ws.length then s.replyWrite ws
  else { s with reply := { s.reply with held := s.reply.held ++ [ws] } }
/-- An URGENT reply: dropped, counted and signalled when the whole FIFO has no room (R91). -/
def State.replyUrgent (s : State) (ws : List Nat) : State :=
  if s.reply.words.length + ws.length ≤ 2048 then s.replyShow ws
  else (s.bump bar0 Cmd.LOST).raise Ev.CMD_OVERFLOW devU 4
/-- Answer a packet: NO_REPLY suppresses a reply whose status is ST_OK (R76). -/
def State.answer (s : State) (k : Pkt) (status : Nat) (results : List Nat) : State :=
  if tbit k.flags 1 && status == St.OK then s
  else
    let ws := replyWords k.urgent status k.tag k.seq results
    if k.urgent then s.replyUrgent ws else s.replyNormal ws
/-- Held NORMAL replies are written in their order as far as there is room, and once nothing of NORMAL is to be answered before them (R90, R91). -/
def State.replyRelease (s : State) : State :=
  if s.normalPends then s else
  s.reply.held.foldl (fun (s : State) ws =>
    if s.reply.held.head? == some ws && s.replyRoom ws.length then ({ s with reply := { s.reply with held := s.reply.held.tail } } : State).replyWrite ws else s) s

/-- Answer an ABORT or RESET_UNIT that has completed. One of NORMAL comes before every NORMAL reply held, since the packets after it have not started (R83, R90). -/
def State.answerAbort (s : State) (k : Pkt) (status : Nat) (results : List Nat) : State :=
  if k.urgent then s.answer k status results
  else if tbit k.flags 1 && status == St.OK then s.replyRelease
  else ({ s with reply := { s.reply with held := replyWords false status k.tag k.seq results :: s.reply.held } } : State).replyRelease

/-! ### Long work (R84) -/

/-- Start long work. -/
def State.workStart (s : State) (k : Pkt) (uid : Nat) (data : List Nat) : State :=
  { s with works := s.works ++ [{ uid := uid, op := k.op, tag := k.tag, params := k.params, flags := k.flags, data := data }] }
/-- The work of an opcode on a unit. -/
def State.workOf (s : State) (op uid : Nat) : Option Work := s.works.find? (fun w => w.op == op && w.uid == uid)
/-- Raise EV_WORK_DONE and let the commits held back by the work come into force (R49, R84). -/
def State.workDone (s : State) (w : Work) (status : Nat) : State :=
  let s := { s with works := s.works.erase w }
  let s := s.raise Ev.WORK_DONE w.uid (status * 2 ^ 16 + w.tag)
  s.commitUids.foldl State.forceHeld s
/-- End work: the audit entry of a completed calibration or capture (R515), the result group of its page, then EV_WORK_DONE. -/
def State.workEnd (s : State) (w : Work) (status : Nat) (data : List Nat) : State :=
  let s := if status = St.OK ∧ (w.op = 0x50 ∨ w.op = 0x45 ∨ w.op = 0x23)
    then s.audit 8 w.uid (leBytes 4 w.op ++ (data.take 10).flatMap (leBytes 4)) else s
  (s.putResult w.uid w.tag data).workDone w status
/-- Change the data of running work. -/
def State.modWork (s : State) (op uid : Nat) (f : Work → Work) : State :=
  { s with works := s.works.map (fun w => if w.op == op && w.uid == uid then f w else w) }

/-! ### The staged job is withdrawn or lost (R439, R442) -/

/-- JOB_STATE (R449). -/
def State.jobState (s : State) : Nat := s.reg devU Job.JOB_STATE
/-- Withdraw the staged commit from every pending queue, and set each shadow of the scope to its unit's active copy. -/
def State.stageWithdraw (s : State) : State :=
  let sh := s.job.scope.foldl (fun m u => RegMap.replace m u (RegMap.ofUid s.active u)) s.shadow
  let s := { s with
    commits := s.commits.filter (fun c => !c.staged), shadow := sh,
    openSets := s.openSets.filter (fun o => !s.job.scope.contains o.1), job := { s.job with scope := [] } }
  if s.jobState = 4 then s else s.set devU Job.JOB_STATE 0
/-- The JOB_START whose job boundary is still to come; at its boundary the work goes on to step 2, and waits for line 0. -/
def State.pendingStart (s : State) : Option Work := s.works.find? (fun w => w.op == 0x64 && w.step != 2)
/-- The command whose staging is in progress: JOB_STAGE, or JOB_START with LOAD_NOW until its start waits (R438, R444). -/
def State.stagingWork (s : State) : Option Work := s.works.find? (fun w => w.op == 0x62 || (w.op == 0x64 && decide (w.step < 2) && tbit w.flags 8))
/-- A pending JOB_START ends with a status (R442, R448). -/
def State.startEnds (s : State) (status : Nat) : State :=
  let s := { s with job := { s.job with startTick := none, startRope := none, at_ := if s.jobState = 4 then s.job.at_ else none } }
  let s := s.set devU Job.DUE_REPEAT 0xFFFFFFFF
  match s.pendingStart with
  | some w => s.workEnd w status []
  | none => s
/-- The staged job is lost (R442): cause 1 reference, 2 shading, 3 retired unit `uid`. A start that came down the Rope is reported up it (R451). -/
def State.stageLost (s : State) (cause uid : Nat) : State :=
  if s.jobState != 2 && s.jobState != 3 then s else
  let pend := s.jobState == 3
  let s := s.raise Ev.STAGE_LOST devU (cause + (if cause = 3 then uid * 2 ^ 16 else 0))
  let s := s.stageWithdraw
  let s := if pend && s.job.remote then { s with job := { s.job with owed := some s.job.startId, remote := false } } else s
  if pend then (s.raise Ev.JOB_NOT_STARTED devU (if cause = 3 then 4 else cause)).startEnds St.NOT_STAGED else s

end Sys2Proof.Machine
end

