-- ==== Sys2Proof/Machine/Frontend.lean ====
section
/-! DEFINITION. The analogue front ends: correction of a code (R141), calibration of a channel (R149 to R151), reliefs, hand-overs and
retirement (R145, R152 to R158), and the state that a running port reports (R20, R183, R242). -/
namespace Sys2Proof.Machine
open R

/-! ### State of a port (R20) -/

/-- Causes that make a running port DEGRADED, by number: 1 AFE_STALE, 2 lane fenced, 3 lamp, 4 pace, 5 Rope lost. -/
def State.degrade (s : State) (p cause : Nat) (on : Bool) : State :=
  s.modPort p (fun x => { x with degraded := (x.degraded.filter (· != cause)) ++ (if on then [cause] else []) })
/-- STATE of a port that has been started (R20, R183, R199, R268). -/
def State.portRefresh (s : State) (p : Nat) : State :=
  let x := s.port p
  if !x.started || s.fenced (portU p) || (s.unit (portU p)).st == .stopping then s else
  let table := s.act (portU p) Port.MODE == 1
  let waits := x.jobOn && (x.hold || x.rejoin || s.fenced (lcU p) || (s.lc p).aborted || (table && x.scanWait) || (!table && s.reg (lcU p) Lc.EST_STATE == 0) || s.heldStop p)
  s.setSt (portU p) (if waits then .waiting else if x.degraded = [] then .running else .degraded)

/-! ### One channel (R141, R149) -/

/-- UID of channel index c: 0 to 7, and 8 for the spare. -/
def chanU (p c : Nat) : Nat := afeU p (c + 1)
/-- The channel that serves tap k. -/
def State.serving (s : State) (p k : Nat) : Nat := if s.reg (chanU p 8) Afe.TAP = k then 8 else k
/-- The raw sample of a code (R141). -/
def rawSample (invert : Bool) (ofs : Int) (gain c : Nat) : Nat :=
  let c := if invert then 65535 - c else c
  let d := Int.ofNat (c * 256) - ofs
  (clamp 0 65535 (sar (d * Int.ofNat gain + 2 ^ 29) 30)).toNat
/-- The two DAC codes of a calibration for gain code g (R149). -/
def dacCodes (useUv g : Nat) : Nat × Nat :=
  let d := (16 + g) * useUv
  let h := d / 2
  ((1000000 * 2 ^ 19 + h) / d, (14000000 * 2 ^ 19 + h) / d)
/-- The coefficients of one calibration: OFS, GAIN and span; span 0 stands for a span not above 0 (R149). -/
def calResult (mLo mHi : Nat) : Int × Int × Nat :=
  if mHi ≤ mLo then (0, 0, 0) else
  let span := mHi - mLo
  let gain := (13631488 * 2 ^ 22 + span / 2) / span
  if gain = 0 then (0, 0, 0) else (Int.ofNat mLo - Int.ofNat ((2 ^ 42 + gain / 2) / gain), Int.ofNat gain, span)
/-- One result lies in range (R150). -/
def calOk (r : Int × Int × Nat) : Bool := 0 < r.2.2 && 2 ^ 21 ≤ r.2.1 && r.2.1 < 2 ^ 23 && r.1.natAbs < 2 ^ 23
/-- The coefficients of an attempt, none when it is discarded (R150). -/
def attempt (r1 r2 : Int × Int × Nat) : Option (Int × Nat) :=
  if calOk r1 && calOk r2 && (r1.1 - r2.1).natAbs ≤ 64 && (r1.2.1 - r2.2.1).natAbs * 50000 ≤ r1.2.1.toNat
  then some (sar (r1.1 + r2.1 + 1) 1, (sar (r1.2.1 + r2.2.1 + 1) 1).toNat) else none

/-! ### Ages and staleness (R155) -/

/-- Gain code and tick of the last accepted calibration of a channel at its active gain. -/
def State.calOf (s : State) (p c : Nat) : Option (Nat × Nat) := ((s.port p).calAge.find? (fun a => a.1 == c)).map (·.2)
/-- Record it with the tick of its acceptance. -/
def State.setCal (s : State) (p c gain at_ : Nat) : State :=
  s.modPort p (fun x => { x with calAge := x.calAge.filter (fun a => a.1 != c) ++ [(c, gain, at_)] })
/-- Ticks in a millisecond. -/
def msTicks : Nat := 1600000
/-- ROT_PERIOD in milliseconds; a value outside the range of its table acts as the nearer end of it (DESIGN CHOICE, log entry 73). -/
def State.rotMs (s : State) (p : Nat) : Nat := min 600000 (max 1000 (s.reg (portU p) Port.ROT_PERIOD))
/-- The same in ticks (R155, R156). -/
def State.rotTicks (s : State) (p : Nat) : Nat := s.rotMs p * msTicks
/-- The channel of tap k makes lines AFE_STALE (R155). -/
def State.tapStale (s : State) (m : RegMap) (p k : Nat) : Bool :=
  match s.calOf p (s.serving p k) with
  | none => true
  | some a => a.1 != vw s m (portU p) Tap.GAIN_CODE k || 4 * s.rotTicks p < s.now - a.2
/-- Some enabled tap is stale. -/
def State.portStale (s : State) (m : RegMap) (p : Nat) : Bool :=
  vw s m (portU p) Port.CAPTURE == 0 && (tapsOn s m p).any (s.tapStale m p)
/-- Gain code and tick of the last calibration of a channel that was accepted, that of a relief which has not handed the tap back yet among them (R143). -/
def State.calLast (s : State) (p c : Nat) : Option (Nat × Nat) :=
  match (s.port p).relief with
  | some r => if r.chan == c && !r.inPlace && r.result.isSome && r.gain == s.act (portU p) Tap.GAIN_CODE r.tap then some (r.gain, r.okAt) else s.calOf p c
  | none => s.calOf p c
/-- CAL_AGE of a channel: whole milliseconds since its last accepted calibration at the gain of the tap it serves, all ones where there is none (R143). -/
def State.calAgeMs (s : State) (p c : Nat) : Nat :=
  let tap := s.reg (chanU p c) Afe.TAP
  match s.calLast p c with
  | none => 0xFFFFFFFF
  | some a => if tap < 8 && a.1 != s.act (portU p) Tap.GAIN_CODE tap then 0xFFFFFFFF else sat32 ((s.now - a.2) / msTicks)
/-- STALE of a channel: it serves an enabled tap that makes lines AFE_STALE (R143, R155). -/
def State.chanStale (s : State) (p c : Nat) : Bool :=
  s.act (portU p) Port.CAPTURE == 0 && (tapsOn s s.active p).any (fun k => s.serving p k == c && s.tapStale s.active p k)

/-! ### Long calibrations (R159) -/

/-- Count an outcome of channel c for a running AFE_CALIBRATE of its channel or port: kind 0 accepted, 1 retired, 2 discarded, 3 not done for want of a spare.
Data of the work: per port four numbers, channels to do, accepted, retired, attempts discarded. -/
def State.calTally (s : State) (p c kind : Nat) : State :=
  { s with works := s.works.map (fun w =>
      if w.op = 0x21 ∧ tbit (nth w.data (4 * p)) c then
        { w with data :=
          let d := if kind = 2 then upd w.data (4 * p + 3) (· + 1)
            else if kind = 3 then upd w.data (4 * p) (fun v => setBit v c false)
            else upd (upd w.data (4 * p) (fun v => setBit v c false)) (4 * p + 1 + kind) (fun v => setBit v c true)
          d }
      else w) }
/-- A channel of port p has been retired in the course of an AFE_CALIBRATE of the port (R159): it is shown whether or not it was one of those to do. -/
def State.calRetired (s : State) (p c : Nat) : State :=
  { s with works := s.works.map (fun w =>
      if w.op = 0x21 ∧ tbit w.step p then
        { w with data := upd (upd w.data (4 * p) (fun v => setBit v c false)) (4 * p + 2) (fun v => setBit v c true) }
      else w) }
/-- End the AFE_CALIBRATE works that have nothing left to do, and with a status of their own those that port p still had work for (R557, R565). -/
def State.calFinish (s : State) (stop : Option Nat) (p : Nat) : State :=
  s.works.foldl (fun s w =>
    let left := (List.range 8).any (fun q => nth w.data (4 * q) != 0)
    let mine := nth w.data (4 * p) != 0
    if w.op != 0x21 || (left && !(stop.isSome && mine)) then s else
    let st := if stop.isSome && mine then stop.getD 0
      else if (List.range 8).any (fun q => nth w.data (4 * q + 2) != 0) then St.CAL_DISAGREE else St.OK
    let pages := (List.range 8).filter (fun q => tbit w.step q)
    let s := pages.foldl (fun s q => s.putResult (portU q) w.tag [nth w.data (4 * q + 1), nth w.data (4 * q + 2), nth w.data (4 * q + 3)]) s
    s.workDone w st) s

/-! ### Retirement (R153, R154) -/

/-- The port has a spare that rotation can use. -/
def State.spareFree (s : State) (p : Nat) : Bool := s.reg (portU p) Port.SPARE_GONE == 0
/-- The staged job, if any, loses a channel that its set enables (R442). -/
def State.stageLosesTap (s : State) (p k : Nat) : State :=
  if s.commits.any (fun c => c.staged && c.uid == portU p && tapEn s c.snap p k && vw s c.snap (portU p) Port.CAPTURE == 0)
  then s.stageLost 3 (chanU p k) else s
/-- Fence a unit that only a retired channel could serve, once. Its full effect on a port is State.fencePort (Port.lean). -/
def State.spareLost (s : State) (p detail : Nat) : State :=
  (s.set (portU p) Port.SPARE_GONE 1).raise Ev.AFE_SPARE_LOST (portU p) detail
/-- Retire channel c (R153, R154). Answers whether the port has lost an enabled tap. -/
def State.chanRetire (s : State) (p c : Nat) : State × Bool :=
  let u := chanU p c
  let s := ((s.set u Afe.SUSPECT 1).setSt u .off 0x41).audit 7 u (leBytes 4 (chanU p 8))
  if c = 8 then
    let held := s.reg (portU p) Port.SPARE_TAP
    let s := s.set u Afe.TAP 0xF
    if s.reg (portU p) Port.SPARE_GONE = 1 then ((s.spareLost p 3).stageLosesTap p held, held < 8 && tapEn s s.active p held && s.act (portU p) Port.CAPTURE == 0)
    else (s.spareLost p 1, false)
  else if s.spareFree p && s.reg (chanU p 8) Afe.SUSPECT == 0 then
    let s := ((s.set (portU p) Port.SPARE_TAP c).set (chanU p 8) Afe.TAP c).set u Afe.TAP 0xF
    let s := s.raise Ev.AFE_SPARE_IN u c
    ((s.spareLost p 2).stageLosesTap p c, false)
  else
    ((s.set u Afe.TAP 0xF).stageLosesTap p c, tapEn s s.active p c && s.act (portU p) Port.CAPTURE == 0)

/-! ### The reference DAC (R149, R151) -/

/-- CDS_RST-to-CDS_SIG spacing and period of the first two CDS_SIG pulses of a program, 5 and 16 ticks where it gives none (R149). The pulses are found with both loop counters at 2, and a
program with one CDS_SIG takes Tp 16: R149 says neither (DESIGN CHOICE, log entry 73). -/
def calTiming (prog : List PgStep) : Nat × Nat :=
  let steps := walkSteps prog 2 2 0 0 (4 * prog.length + 2) 1 ((prog.headD ⟨0, 0, 0, 0, false, false⟩).dur) 2 2
  let sigs := (steps.filter (fun x => x.2.cdsSig)).map (·.1)
  match sigs with
  | [] => (5, 16)
  | a :: l =>
    let rst := ((steps.filter (fun x => x.2.cdsRst && x.1 ≤ a)).map (·.1)).getLast?
    (match rst with | some r => a - r | none => 5, match l with | b :: _ => b - a | [] => 16)
/-- CAL_SPACING and CAL_TP of a port, from the active bank's program. -/
def State.calTime (s : State) (p : Nat) : Nat × Nat := calTiming ((s.port p).prog (s.act (portU p) Port.BANK))
/-- Ticks of one calibration point of a port: 1,600 and 320 conversions. -/
def State.pointTicks (s : State) (p : Nat) : Nat := 1600 + 320 * (s.calTime p).2
/-- The relief of a port that measures and still needs a point. -/
def State.dacWants (s : State) (p : Nat) : Option Relief :=
  match (s.port p).relief with
  | some r => if (r.phase == 1 || r.phase == 3) && r.points < 2 && r.wait.isNone then some r else none
  | none => none
/-- The port that the DAC serves from tick t on, and from when: the lowest-numbered of those that have asked by then (R151; that a port which has just been served may come first
again is DESIGN CHOICE, log entry 73), else the first to ask after. -/
def State.dacNext (s : State) (t : Nat) : Option (Nat × Nat) :=
  (List.range 8).foldl (fun (b : Option (Nat × Nat)) p => match s.dacWants p with
    | none => b
    | some r => let at_ := max t r.reqAt
      match b with
      | none => some (p, at_)
      | some x => if at_ < x.2 then some (p, at_) else b) none
/-- The DAC turns to a point, or to none: the band-gap value in use as the point begins gives its code (R148). -/
def State.dacTo (s : State) (x : Option (Nat × Nat)) : State := { s with sys := { s.sys with dac := x, dacUv := s.reg calU CalRef.REF_USE_UV } }
/-- Points that have ended by now, and the next ones. -/
def State.dacSteps : Nat → State → State
  | 0, s => s
  | k + 1, s =>
    match s.sys.dac with
    | none => match s.dacNext 0 with
      | none => s
      | some x => State.dacSteps k (s.dacTo (some x))
    | some (p, t) =>
      match s.dacWants p with
      | none => State.dacSteps k (s.dacTo (s.dacNext s.now))
      | some r =>
        let e := max t r.reqAt + s.pointTicks p
        if s.now < e then s else
        let s := s.modPort p (fun x => { x with relief := some { r with points := r.points + 1 } })
        State.dacSteps k (s.dacTo (s.dacNext e))
def State.dacRun (s : State) : State := State.dacSteps 24 s
/-- DAC_PORT and DAC_CODE: the point driven now, the low one first. -/
def State.dacShow (s : State) : State :=
  match s.sys.dac with
  | none => (s.set calU CalRef.DAC_PORT 0xF).set calU CalRef.DAC_CODE 0
  | some (p, _) => match s.dacWants p with
    | none => (s.set calU CalRef.DAC_PORT 0xF).set calU CalRef.DAC_CODE 0
    | some r =>
      let c := dacCodes s.sys.dacUv (r.gains.headD 0)
      (s.set calU CalRef.DAC_PORT p).set calU CalRef.DAC_CODE (if r.points = 0 then c.1 else c.2)

/-! ### Reliefs (R152, R156 to R158) -/

/-- Show the present relief in the port page. -/
def State.reliefRegs (s : State) (p : Nat) : State :=
  match (s.port p).relief with
  | none => (s.set (portU p) Port.RELIEVED 0xF).set (portU p) Port.PHASE 0
  | some r => (s.set (portU p) Port.RELIEVED (if r.inPlace then 0xF else r.tap)).set (portU p) Port.PHASE (if r.inPlace then 0 else r.phase)
/-- The channel whose tap k is, outside a relief: the spare where it holds it for good. -/
def State.owner (s : State) (p k : Nat) : Nat := if s.reg (portU p) Port.SPARE_TAP = k then 8 else k
/-- The relief of a tap: through the spare, which the switch matrix joins to the tap beside its own channel (R144), or in place when the port runs no job (R152, R157). -/
def State.mkRelief (s : State) (p k : Nat) (gains : List Nat) : Relief :=
  let c := s.owner p k
  let inPlace := !(s.port p).jobOn
  { tap := k, chan := c, meas := if inPlace then c else 8, phase := if inPlace then 3 else 1, gains := gains, inPlace := inPlace, gain := gains.headD 0 }
/-- A queued relief can run: it serves no tap, or the port runs no job, or the spare is free to take the tap (R154). -/
def State.reliefCan (s : State) (p : Nat) (r : Relief) : Bool := r.alone || !(s.port p).jobOn || (s.spareFree p && s.owner p r.tap != 8)
/-- Start the next queued relief when none runs and no capture holds it off (R157, R158). One for which there is no spare is dropped (R154). -/
def State.reliefNext (s : State) (p : Nat) : State :=
  let x := s.port p
  if x.relief.isSome || x.capture.isSome || x.queueCal == [] then s else
  let can := fun (r : Relief) => s.reliefCan p r && s.reg (chanU p (if r.alone then r.chan else s.owner p r.tap)) Afe.SUSPECT == 0
  let gone := x.queueCal.takeWhile (fun r => !can r)
  let s1 := (gone.foldl (fun (s : State) r => s.calTally p r.chan 3) s).modPort p (fun x => { x with queueCal := [] })
  match x.queueCal.dropWhile (fun r => !can r) with
  | [] => s1.calFinish none p
  | r :: l =>
    let r := if r.alone then r else { s.mkRelief p r.tap r.gains with staged := r.staged }
    (s1.modPort p (fun x => { x with relief := some { r with reqAt := s.now }, queueCal := l, lastRelief := s.now })).reliefRegs p
/-- The present relief is over. -/
def State.reliefEnd (s : State) (p : Nat) : State :=
  match (s.port p).relief with
  | none => s
  | some r =>
    let s := [r.chan, 8].foldl (fun s c => s.set (chanU p c) Afe.FAILS 0) s
    ((s.modPort p (fun x => { x with relief := none, lastTap := r.tap })).reliefRegs p).reliefNext p
/-- Put coefficients into force, accepted at a tick for a gain. -/
def State.calForce (s : State) (p c gain at_ : Nat) (r : Int × Nat) : State :=
  let u := chanU p c
  ((s.set u Afe.CAL_OFS (low 24 r.1)).set u Afe.CAL_GAIN r.2).setCal p c gain at_
/-- Keep accepted coefficients for the staged gain (R158). -/
def State.calStage (s : State) (p c gain at_ : Nat) (r : Int × Nat) : State :=
  let u := chanU p c
  (((s.set u Afe.STG_OFS (low 24 r.1)).set u Afe.STG_GAIN r.2).set u Afe.STG_VALID 1).modPort p
    (fun x => { x with stgAge := x.stgAge.filter (fun a => a.1 != c) ++ [(c, gain, at_)] })
/-- The staged coefficients of a channel for gain code g come into force, where it has them (R158). -/
def State.stgForce (s : State) (p c g : Nat) : State :=
  let u := chanU p c
  match (s.port p).stgAge.find? (fun a => a.1 == c) with
  | some a => if s.reg u Afe.STG_VALID = 1 ∧ a.2.1 = g then
      (s.calForce p c g a.2.2 (sgn 24 (s.reg u Afe.STG_OFS), s.reg u Afe.STG_GAIN)).set u Afe.STG_VALID 0 else s
  | none => s
/-- An attempt has been accepted at a tick. -/
def State.attemptOk (s : State) (p : Nat) (r : Relief) (res : Int × Nat) (at_ : Nat) : State :=
  let g := r.gains.headD 0
  let put := fun (s : State) (r : Relief) => (s.modPort p (fun x => { x with relief := some r })).reliefRegs p
  let s := s.bump (chanU p r.meas) Afe.CAL_COUNT
  if r.meas = 8 ∧ !r.inPlace then
    -- the spare, step 1 of R152
    put (s.calForce p 8 g at_ res) { r with phase := 2, first := none, wait := none, fails := 0, connectedAt := s.now }
  else
    let staged := r.result.isSome
    let s := if staged then s.calStage p r.meas g at_ res
      else if r.inPlace then s.calForce p r.meas g at_ res else s
    let r := { r with
      result := if staged then r.result else some res, okAt := if staged then r.okAt else at_, first := none, wait := none, points := 0, reqAt := s.now, fails := 0, gains := r.gains.drop 1 }
    if r.gains != [] then put s r
    else
      let s := s.calTally p r.chan 0
      if r.inPlace then ((s.reliefEnd p).calFinish none p) else put s { r with phase := 4, connectedAt := s.now }
/-- An attempt has been discarded: repeat it, or retire the channel after three (R150, R152 to R154). Answers whether the port has
lost an enabled tap. -/
def State.attemptBad (s : State) (p : Nat) (r : Relief) : State × Bool :=
  let u := chanU p r.meas
  let s := (s.bump u Afe.DISCARDS).calTally p r.chan 2
  if r.fails < 2 then
    (((s.set u Afe.FAILS (r.fails + 1)).modPort p (fun x => { x with relief := some { r with fails := r.fails + 1, first := none, wait := none, points := 0, reqAt := s.now } })).reliefRegs p, false)
  else
    let (s, lost) := s.chanRetire p r.meas
    let s := s.calRetired p r.meas
    let s := if r.meas = r.chan then s else s.calTally p r.chan 3
    ((s.reliefEnd p).calFinish none p, lost)
/-- The two results of an attempt are compared (R150). -/
def State.attemptJudge (s : State) (p : Nat) (r : Relief) (a b : Int × Int × Nat) (at_ : Nat) : State × Bool :=
  match attempt a b with
  | some ok => (s.attemptOk p r ok at_, false)
  | none => s.attemptBad p r
/-- The sums of one two-point calibration of the channel under measurement. While a capture runs on the port no coefficient changes: the second calibration of an attempt waits (R157). -/
def State.calSums (s : State) (p mLo mHi : Nat) : State × Bool :=
  match (s.port p).relief with
  | none => (s, false)
  | some r =>
    if r.phase != 1 && r.phase != 3 then (s, false) else
    let res := calResult mLo mHi
    match r.first with
    | none => (s.modPort p (fun x => { x with relief := some { r with first := some res, points := 0, reqAt := s.now } }), false)
    | some r1 =>
      if (s.port p).capture.isSome then (s.modPort p (fun x => { x with relief := some { r with wait := some res, okAt := s.now } }), false)
      else s.attemptJudge p r r1 res s.now
/-- CALIBRATION_DONE: both points have been measured, each 1,600 + 320 Tp ticks on the DAC (R149, R151). -/
def State.calibrationDone (s : State) (p mLo mHi : Nat) : State × Bool :=
  let s := s.dacRun
  match (s.port p).relief with
  | none => (s, false)
  | some r => if r.points < 2 || r.wait.isSome then (s, false) else s.calSums p mLo mHi
/-- The capture of a port has ended (R157): an attempt made meanwhile is judged, and what waited goes on. -/
def State.reliefResume (s : State) (p : Nat) : State × Bool :=
  match (s.port p).relief with
  | none => (s.reliefNext p, false)
  | some r => match r.first, r.wait with
    | some a, some b => s.attemptJudge p r a b r.okAt
    | _, _ => (s, false)
/-- Hand-overs that fall at a cycle start (R145, R152): to the spare in phase 2, back with the new coefficients in phase 4. `m`: the set that governs the cycle; coefficients
measured for another gain than the tap then has give way to those staged for it (R158). -/
def State.reliefCycle (s : State) (m : RegMap) (p tick : Nat) : State :=
  match (s.port p).relief with
  | none => s
  | some r =>
    if r.inPlace || (s.port p).capture.isSome || tick < r.connectedAt + 1600 then s
    else if r.phase = 2 then
      let s := (s.set (chanU p 8) Afe.TAP r.tap).set (chanU p r.chan) Afe.TAP 0xF
      (s.modPort p (fun x => { x with relief := some { r with phase := 3, meas := r.chan, first := none, fails := 0, points := 0, reqAt := s.now } })).reliefRegs p
    else if r.phase = 4 then
      let s := (s.set (chanU p 8) Afe.TAP 0xF).set (chanU p r.chan) Afe.TAP r.tap
      let g := vw s m (portU p) Tap.GAIN_CODE r.tap
      let s := match r.result with
        | some res => if r.gain = g ∨ ((s.calOf p r.chan).map (fun (a : Nat × Nat) => a.1)) ≠ some g then s.calForce p r.chan r.gain r.okAt res else s
        | none => s
      ((if r.gain = g then s else s.stgForce p r.chan g).reliefEnd p).calFinish none p
    else s
/-- A relief in progress ends (R157, abort or thaw): a running attempt is discarded, which counts in DISCARDS and not towards FAILS (R150), and a tap on the spare returns. -/
def State.reliefAbort (s : State) (p : Nat) : State :=
  match (s.port p).relief with
  | none => s
  | some r =>
    let s := if r.phase == 1 || r.phase == 3 then s.bump (chanU p r.meas) Afe.DISCARDS else s
    let s := if !r.inPlace && 3 ≤ r.phase then (s.set (chanU p 8) Afe.TAP 0xF).set (chanU p r.chan) Afe.TAP r.tap else s
    let s := [r.chan, 8].foldl (fun s c => s.set (chanU p c) Afe.FAILS 0) s
    (s.modPort p (fun x => { x with relief := none })).reliefRegs p
/-- Reliefs end with what a port was doing: by an abort, or with the fence of THAW and every other (R157). -/
def State.reliefStop (s : State) (p status : Nat) : State :=
  ((s.reliefAbort p).modPort p (fun x => { x with queueCal := [] })).calFinish (some status) p
/-- A job starts on a port where a channel is calibrated in place: the attempt ends without counting towards FAILS, and the channel is relieved instead (R157; the spec does not say, log entry 73). -/
def State.reliefJob (s : State) (p : Nat) : State :=
  match (s.port p).relief with
  | some r => if r.inPlace && !r.alone then
      ((s.reliefAbort p).modPort p (fun x => { x with queueCal := { s.mkRelief p r.tap r.gains with staged := r.staged } :: x.queueCal })).reliefNext p else s
  | none => s
/-- The enabled taps that a rotation relieves: those served by a good channel other than the spare (R156). -/
def State.rotTaps (s : State) (p : Nat) : List Nat :=
  (tapsOn s s.active p).filter (fun k => k < 8 && s.serving p k != 8 && s.reg (chanU p k) Afe.SUSPECT == 0)
/-- The tap whose relief comes next (R156): stale ones first, then ascending after the last. -/
def State.rotPick (s : State) (p : Nat) : Option Nat :=
  let ks := s.rotTaps p
  match ks.find? (s.tapStale s.active p) with
  | some k => some k
  | none => match ks.find? (fun k => (s.port p).lastTap % 15 < k || ((s.port p).lastTap = 15)) with
    | some k => some k
    | none => ks.head?
/-- Queue the out-of-turn reliefs of the taps whose gain a set would change (R158). -/
def State.reliefStaged (s : State) (p : Nat) (m : RegMap) : State :=
  if vw s m (portU p) Port.CAPTURE = 1 then s else
  let ks := (tapsOn s m p).filter (fun k => k < 8 && vw s m (portU p) Tap.GAIN_CODE k != s.act (portU p) Tap.GAIN_CODE k)
  let s := ks.foldl (fun s k =>
    let gains := [s.act (portU p) Tap.GAIN_CODE k, vw s m (portU p) Tap.GAIN_CODE k]
    let s := s.set (chanU p (s.owner p k)) Afe.STG_VALID 0
    s.modPort p (fun x => { x with queueCal := x.queueCal ++ [{ s.mkRelief p k gains with staged := true }] })) s
  s.reliefNext p
/-- Staged coefficients come into force with the new gain, on the channel that serves the tap and on the one being relieved of it (R158). -/
def State.gainChange (s : State) (p : Nat) (old new : RegMap) : State :=
  (tapsOn s new p).foldl (fun s k =>
    let g := vw s new (portU p) Tap.GAIN_CODE k
    if g = vw s old (portU p) Tap.GAIN_CODE k then s
    else ([s.serving p k, s.owner p k].eraseDups).foldl (fun (s : State) c => s.stgForce p c g) s) s

end Sys2Proof.Machine
end

