-- ==== Sys2Proof/Machine/LineClock.lean ====
section
/-! DEFINITION. Line clocks: the estimator and its prediction (R177, R178), the accumulator (R179, R181, R187), table mode (R195, R196),
the placement of an instant on the line grid (R188), and repeat boundaries (R189 to R194). -/
namespace Sys2Proof.Machine
open R

/-- The span of the accumulator: 2^16 counts in Q16.32 (R179). -/
def span48 : Nat := 2 ^ 48
/-- A 48-bit difference read as signed. -/
def sgn48 (i : Int) : Int := sgn 48 (low 48 i)
/-- The port fires in web mode. -/
def State.webMode (s : State) (p : Nat) : Bool := s.portMode p == 0
/-- The line clock of a port may fire (R187, R199, R224): its port runs a job and it is neither aborted nor fenced. -/
def State.lcFires (s : State) (p : Nat) : Bool :=
  (s.port p).jobOn && (s.port p).capture.isNone && !(s.lc p).aborted && !s.fenced (lcU p) && s.job.at_.isNone
/-- Line clocks that follow encoder input i (R172). -/
def State.followers (s : State) (i : Nat) : List Nat :=
  s.portsOn.filter (fun p => s.webMode p && s.act (lcU p) Lc.ENC_SEL == i)

/-! ### Estimator (R177, R178) -/

/-- S of R175. -/
def State.estSpan (s : State) (p : Nat) : Nat := 2 ^ s.act (lcU p) Lc.EST_SPAN
/-- Tick of the j-th held edge, newest first. -/
def edgeT (es : List (Int × Nat)) (j : Nat) : Nat := (es.getD j (0, 0)).2
/-- The prediction of R177 from the newest held edge for position x: span, d1, d2, a, signed distance and F_pred. -/
structure Pred where
  sp : Nat
  d1 : Nat
  d2 : Nat
  a : Nat
  x : Int
  f : Nat
  accel : Bool
  deriving DecidableEq, Repr
/-- F_pred for accumulator X from held edges (none below two edges, R178). -/
def predict (spanS : Nat) (comp : Bool) (es : List (Int × Nat)) (x : Nat) : Option Pred :=
  match es with
  | (pe, te) :: _ =>
    if es.length < 2 then none else
    let m := es.length
    let k := Nat.log2 (m - 1)
    let k := if 2 ^ k ≤ spanS then k else Nat.log2 spanS
    let sp := 2 ^ k
    let d1 := (te - edgeT es sp) % 2 ^ 32
    let acc := comp && 2 * sp + 1 ≤ m
    let d2 := if acc then (edgeT es sp - edgeT es (2 * sp)) % 2 ^ 32 else d1
    let a := min (max (3 * Int.ofNat d1 - Int.ofNat d2) (Int.ofNat d1)) (4 * Int.ofNat d1)
    let dx := sgn48 (Int.ofNat x - pe * 2 ^ 32)
    let off := if dx ≤ 0 then 0 else
      let n := a * Int.ofNat sp * dx * 2 ^ 32 + (Int.ofNat d1 - Int.ofNat d2) * dx * dx
      (max (sar (n + 2 ^ (2 * k + 64)) (2 * k + 65)) 0).toNat
    some ⟨sp, d1, d2, a.toNat, dx, te + off, acc⟩
  | [] => none
/-- The predictions that stand, with the tick from which each stands: the two before the newest edge, then the newest (R178). -/
def State.standing (s : State) (p x : Nat) : List (Nat × Nat) :=
  let es := (s.lc p).edges
  let spanS := s.estSpan p
  let comp := s.act (lcU p) Lc.ACCEL_COMP == 1
  let far := Int.ofNat (s.act (lcU p) Lc.EXTRAP_MAX) * 2 ^ 24
  let one := fun (es : List (Int × Nat)) => match predict spanS comp es x, es with
    | some q, e :: _ => if q.x ≤ far then [(e.2 + 48, q.f)] else []
    | _, _ => []
  let newest := match es with | e :: _ => e.2 + 48 | [] => 0
  (one (es.drop 2) ++ one (es.drop 1)).filter (fun q => q.1 < newest) ++ one es
/-- The first tick at which one of the standing predictions is met, given `meet stand f` for each, and that prediction; an older prediction counts only
before the newer one stands. -/
def firstMet (meet : Nat → Nat → Nat) : List (Nat × Nat) → Option (Nat × Nat × Nat)
  | [] => none
  | [q] => some (meet q.1 q.2, q)
  | q :: r :: l => if meet q.1 q.2 < r.1 then some (meet q.1 q.2, q) else firstMet meet (r :: l)
/-- The tick at which the commanded position crosses X in the last update, where it does (R196). -/
def LcSt.crossing (c : LcSt) : Option Nat :=
  c.axis.bind (fun q =>
    let x := sgn 64 (low 64 (Int.ofNat (c.x * 2 ^ 16) - q.2.1))
    if q.2.2 - q.2.1 < x then none
    else some (if x ≤ 0 then q.1 else q.1 + (-(fdiv (-(16 * x)) (q.2.2 - q.2.1))).toNat))
/-- Tick of the next fire, and whether LINE_PERIOD_MIN holds it back from the prediction that stands there (R111, R180). In table mode there is no estimator: the line left after a skip (R181) fires
at the update tick after which it is passed, or at the floor, because t_e + 48 has no counterpart there (DESIGN CHOICE, log entry 86). -/
def State.lcDue (s : State) (p : Nat) : Option (Nat × Bool) :=
  let c := s.lc p
  let lpm := s.act (portU p) Port.LINE_PERIOD_MIN
  let floor := match c.lastFire with | some f => f + lpm | none => 0
  if s.webMode p then
    let meet := fun stand f => max (max stand f) c.notBefore
    (firstMet (fun stand f => max (meet stand f) floor) (s.standing p c.x)).map (fun q => (q.1, meet q.2.1 q.2.2 < floor))
  else if c.belayHold then none
  else c.crossing.map (fun t => (max t floor, t < floor))
/-- The predicted fire of the next line that the exposure timer uses, met at each tick (R182, R125): the first tick at which it is at or
after the prediction less `gap`. While the line clock does not fire (aborted, fenced, or its job at an end) no prediction limits an exposure, which the spec leaves open (DESIGN CHOICE, log entry 86). -/
def State.predictedEnd (s : State) (p gap : Nat) : Option Nat :=
  if !s.webMode p || !s.lcFires p then none else
  let c := s.lc p
  let floor := match c.lastFire with | some f => f + s.act (portU p) Port.LINE_PERIOD_MIN | none => 0
  (firstMet (fun stand f => max stand (max f floor - gap)) (s.standing p c.x)).map (·.1)

/-! ### The accumulator (R179, R181, R187) -/

/-- Show X and the line number. -/
def State.lcRegs (s : State) (p : Nat) : State :=
  let c := s.lc p
  let u := lcU p
  ((s.set u Lc.PHASE_LO (c.x % 2 ^ 32)).set u Lc.PHASE_HI (c.x / 2 ^ 32)).set u Lc.SETTLE_LEFT c.settle
/-- n more line positions of a port pass for the A_OUT pulses that an ended job left (R187, R294). -/
def State.pulsePass (s : State) (p n : Nat) : State :=
  s.modTrig (fun t => { t with pulses := t.pulses.map (fun q => match q.left with
    | some k => if q.port != p then q else if k ≤ n then { q with left := none, startAt := some (s.now + 32) } else { q with left := some (k - n) }
    | none => q) })
/-- PITCH by which X moves on: at a boundary that starts a job, the new job's (R187). -/
def State.lcPitch (s : State) (p : Nat) : Nat :=
  if s.job.startTick.isSome && (s.job.at_.isSome || s.jobState == 4) then
    match s.commits.find? (fun c => c.staged && c.uid == lcU p) with
    | some c => pitchOf s (RegMap.replace s.active c.uid c.snap) p
    | none => pitchOf s s.active p
  else pitchOf s s.active p
/-- X moves on by n lines. -/
def State.lcAdvance (s : State) (p n : Nat) : State :=
  ((s.modLc p (fun c => { c with x := (c.x + n * s.lcPitch p) % span48 })).pulsePass p n).lcRegs p
/-- n positions pass while the line clock does not fire: SETTLE_LEFT runs down with them (R184, R187, log entry 18). -/
def State.lcSilent (s : State) (p n : Nat) : State :=
  (s.modLc p (fun d => { d with ghost := d.ghost + n, settle := d.settle - n })).lcAdvance p n
/-- The line clock fires, and has fired no line of its job yet: what passes has no number (R187). -/
def State.beforeLine0 (s : State) (p : Nat) : Bool :=
  let c := s.lc p
  let x := s.port p
  c.fires == [] && !c.held && !x.hold && !x.rejoin
/-- Position `pos` (Q.32) has been reached: pass X without lines while the line clock does not fire (R187), or skip lines (R181); the line
after them fires no earlier than the prediction from this edge, of tick `te`, stands. -/
def State.lcPass (s : State) (p : Nat) (pos : Int) (te : Nat) : State :=
  let c := s.lc p
  let pitch := s.lcPitch p
  let ahead := sgn48 (pos - Int.ofNat c.x)
  if pitch = 0 ∨ ahead < 0 then s else
  if !s.lcFires p then s.lcSilent p (ahead.toNat / pitch + 1)
  else
    let n := ahead.toNat / pitch
    if n = 0 then s else
    let first := s.beforeLine0 p
    let s := (s.lcAdvance p n).modLc p (fun d => { d with notBefore := te + 48 })
    if first then s else
    let s := if c.held then s else s.bump (lcU p) Lc.SKIPPED_LINES n
    let s := if c.skipFrom.isSome then s else (s.ebGapAt p c.nextLine).windowsCut p c.nextLine 8
    s.modLc p (fun d => { d with nextLine := d.nextLine + n, skipFrom := match d.skipFrom with | some k => some k | none => some (c.nextLine, te, c.repNo) })
/-- A line clock that has just been set to fire leaves out every position whose prediction lies in the past: line 0 is the first position
crossed from now on (R187, R449). -/
def State.lcLeavePast (s : State) (p : Nat) : Nat → State
  | 0 => s
  | n + 1 => match ((s.standing p (s.lc p).x).filter (fun q => q.1 ≤ s.now)).getLast? with
    | some q => if q.2 < s.now then (s.lcSilent p 1).lcLeavePast p n else s
    | none => s
/-- The same, for as many positions as lie within EXTRAP_MAX. -/
def State.lcReady (s : State) (p : Nat) : State :=
  if s.webMode p then s.lcLeavePast p (s.act (lcU p) Lc.EXTRAP_MAX * 2 ^ 24 / max 1 (s.lcPitch p) + 2) else s
/-- The estimator loses its history (R172, R185, R186). -/
def State.estClear (s : State) (p st : Nat) : State :=
  let s := s.modLc p (fun c => { c with edges := [] })
  ((s.set (lcU p) Lc.EST_STATE st).set (lcU p) Lc.ACCEL_ACTIVE 0).portRefresh p
/-- A counted edge in forward travel, of tick `te` (R177, R183, R184). -/
def State.lcForward (s : State) (p : Nat) (pos : Int) (te : Nat) : State :=
  let s := s.modLc p (fun c => { c with edges := ((pos, te) :: c.edges).take 516, faultEdges := c.faultEdges - 1 })
  let u := lcU p
  let est := s.reg u Lc.EST_STATE
  let c := s.lc p
  let s := match predict (s.estSpan p) (s.act u Lc.ACCEL_COMP == 1) c.edges c.x with
    | none => if est = 2 ∨ est = 3 then s.set u Lc.EST_STATE 0 else s
    | some q =>
      let s := (s.set u Lc.ACCEL_ACTIVE (b2n q.accel)).set u Lc.TICKS_PER_COUNT (q.a * 256 / (2 * s.estSpan p))
      if est = 1 then s
      else ((s.modLc p (fun c => { c with settle := 16 })).set u Lc.EST_STATE 1).lcRegs p
  (s.lcPass p (pos * 2 ^ 32) te).portRefresh p
/-- A counted edge in reverse travel (R186). -/
def State.lcReverse (s : State) (p : Nat) : State :=
  let s := s.modLc p (fun c => { c with faultEdges := c.faultEdges - 1 })
  if s.reg (lcU p) Lc.EST_STATE = 3 then s
  else (s.estClear p 3).raise Ev.WEB_STATE (lcU p) 3
/-- A counting fault on the input that the line clock follows (R172). -/
def State.lcFault (s : State) (p : Nat) : State :=
  let n := 2 * s.estSpan p
  (s.estClear p 0).modLc p (fun c => { c with faultEdges := n })

/-! ### Placing an instant (R188) -/

/-- pos256 of an instant between a fire and the next (R188). -/
def placeAt (f l f' l' t : Nat) : Nat := 256 * l + (if f' ≤ f then 0 else (t - f) * 256 * (l' - l) / (f' - f))
/-- Place an instant on a list of fires, newest first, none when it lies before all of them or at or after the newest. -/
def placeIn : List (Nat × Nat) → Nat → Option Nat
  | b :: a :: l, t => if a.1 ≤ t ∧ t < b.1 then some (placeAt a.1 a.2 b.1 b.2 t) else placeIn (a :: l) t
  | _, _ => none

/-! ### Repeats (R189 to R194) -/

/-- ⌈n × REPEAT_LINES / 256⌉. -/
def repLine (rl n : Nat) : Nat := cdiv (n * rl) 256
/-- What the line clock decides for the line about to be fired: the repeat's number, the reference of its residue (none: residue 0), and
its flags, bit 0 MARK_MISSING, bit 1 REPEAT_LATE. -/
structure RepDecision where
  no : Nat
  ref : Option Int
  flags : Nat
  missed : Option Int
  deriving DecidableEq, Repr
/-- Does a repeat begin at line n (R189 to R193)? -/
def LcSt.decide (c : LcSt) (src rl window offset n : Nat) : Option RepDecision :=
  if src = 0 then
    let k := c.repBase + n * 256 / rl
    if c.repNo < k then some ⟨k, none, 0, none⟩ else none
  else match c.next with
  | some b => if b.line ≤ n then some ⟨c.repNo + 1, some b.ref, b2n b.late * 2, none⟩ else none
  | none =>
    if !c.accepted then
      if repLine rl (c.repNo - c.repBase + 2) ≤ n then some ⟨c.repNo + 1, none, 1, none⟩ else none
    else if src = 1 then
      match c.mPrev with
      | none => none
      | some m =>
        let e := m + Int.ofNat rl
        if (cdiv ((e + Int.ofNat (256 * window + offset)).toNat) 256) ≤ n then some ⟨c.repNo + 1, some (e + Int.ofNat offset), 1, some e⟩ else none
    else none
/-- A line numbered n or above has been fired in the job (R193). -/
def LcSt.firedFrom (c : LcSt) (n : Nat) : Bool := match c.fires with | q :: _ => Nat.ble n q.2 | [] => false
/-- Fields of the repeat finder of a port. -/
def State.repSrc (s : State) (p : Nat) : Nat := s.act (lcU p) Lc.REPEAT_SRC
def State.repDecide (s : State) (p n : Nat) : Option RepDecision :=
  (s.lc p).decide (s.repSrc p) (s.act (lcU p) Lc.REPEAT_LINES) (s.act (lcU p) Lc.MARK_WINDOW) (s.act (lcU p) Lc.REPEAT_OFFSET) n
/-- The repeat begins at line n, the first of the repeat as fired (R189, R193, R194). Its phase is known only from an accepted mark or input on (R253). -/
def State.repBegin (s : State) (p n : Nat) (d : RepDecision) : State :=
  let u := lcU p
  let s := s.modLc p (fun c => { c with
    repNo := d.no, repFirst := n, repFlags := d.flags, next := none, repHist := (n, d.no) :: c.repHist,
    resid := match d.ref with | some r => Int.ofNat (256 * n) - r | none => 0,
    meas := if s.repSrc p = 0 then s.act u Lc.REPEAT_LINES else c.meas,
    repMeas := if s.repSrc p = 0 then s.act u Lc.REPEAT_LINES else c.meas,
    phased := s.repSrc p == 0 || c.accepted,
    mPrev := match d.missed with | some e => some e | none => c.mPrev })
  let s := s.set u Lc.REPEAT_NUM d.no
  let s := s.set u Lc.REPEAT_MEAS (s.lc p).meas
  if d.flags = 0 then s else
  let s := if tbit d.flags 0 then s.bump u Lc.MARK_MISSED else s.bump u Lc.REPEAT_LATE
  s.raise Ev.REPEAT_MISS u ((if tbit d.flags 0 then 1 else 2) * 2 ^ 30 + d.no % 2 ^ 30)
/-- The trigger engine reports a mark at position m, in 1/256 line (R191). A mark accepted before the boundary of the one before has fallen takes that one's place, as R192 says of INPUT
(DESIGN CHOICE, log entry 86). -/
def State.lcMark (s : State) (p : Nat) (m : Nat) : State :=
  let c := s.lc p
  let u := lcU p
  if s.repSrc p != 1 then s else
  let rl := s.act u Lc.REPEAT_LINES
  let offset := s.act u Lc.REPEAT_OFFSET
  let mi := Int.ofNat m
  let ok := !c.accepted || (match c.mPrev with
    | some pv => (mi - (pv + Int.ofNat rl)).natAbs ≤ 256 * s.act u Lc.MARK_WINDOW
    | none => true)
  if !ok then s else
  let lb := cdiv (m + offset) 256
  let s := s.modLc p (fun c => { c with
    meas := if c.accepted then (match c.mPrev with | some pv => (mi - pv).toNat | none => c.meas) else c.meas,
    mPrev := some mi, accepted := true, next := some { line := lb, ref := Int.ofNat (m + offset), late := c.firedFrom lb } })
  s.set u Lc.REPEAT_MEAS (s.lc p).meas
/-- An edge of INPUT_GPIO at tick `te` for the repeat source INPUT (R192). -/
def State.lcInput (s : State) (p te : Nat) : State :=
  let c := s.lc p
  if s.repSrc p != 2 || !(s.port p).jobOn then s
  else if c.inputT.isSome || c.next.isSome then s.bump (lcU p) Lc.REPEAT_LATE
  else s.modLc p (fun c => { c with inputT := some te })
/-- Line n is about to fire at tick f: an input edge at least 64 ticks before sets L_b and is placed (R192). -/
def State.lcInputPlace (s : State) (p f n : Nat) : State :=
  let c := s.lc p
  match c.inputT with
  | none => s
  | some t =>
    if f < t + 64 then s else
    let offset := s.act (lcU p) Lc.REPEAT_OFFSET
    let grid := (f, n) :: c.fires
    let pos := (placeIn grid t).getD 0
    let first := (c.fires.reverse.find? (fun q => t + 64 ≤ q.1)).elim n (·.2)
    let lb := first + offset / 256
    let s := s.modLc p (fun c => { c with
      inputT := none, accepted := true, inputPrev := some (Int.ofNat pos),
      meas := match c.inputPrev with | some q => (Int.ofNat pos - q).toNat | none => c.meas,
      next := some { line := lb, ref := Int.ofNat (pos + offset), late := c.firedFrom lb } })
    s.set (lcU p) Lc.REPEAT_MEAS (s.lc p).meas

end Sys2Proof.Machine
end

