-- ==== Sys2Proof/Machine/Port.lean ====
section
/-! DEFINITION. A port in time: readout cycles and the pattern generator (R114 to R120, R132, R135, R138, R145), digital lanes (R162 to
R167), exposure (R125 to R130), and a port that stops or is fenced (R29, R119, R300, R320). -/
namespace Sys2Proof.Machine
open R

/-! ### A port stops (R29, R119) -/

/-- What pin PGk of port p drives (R118, R119 and the port page): none when OUT_EN leaves it at high impedance, the exposure's level on EXP_PIN
while the timer owns it (R118; with SHUTTER 0 EXP_EN is ignored, R130), PG_IDLE while the generator is not executing, its output otherwise. -/
def State.pgPin (s : State) (p k : Nat) : Option Bool :=
  let u := portU p
  let x := s.port p
  if !s.powered u || !tbit (s.act u Port.OUT_EN) k then none
  else if s.act u Port.SHUTTER = 1 ∧ s.act u Port.EXP_EN = 1 ∧ s.act u Port.EXP_PIN = k then some (x.expLevel != (s.act u Port.EXP_POL == 1))
  else some (tbit (if x.started then x.outs else s.act u Port.PG_IDLE) k)
/-- Keep the generator fields of the port page in step. -/
def State.pgRegs (s : State) (p : Nat) : State :=
  let x := s.port p
  let u := portU p
  (((s.set u Port.STEP x.step).set u Port.BANK_ACTIVE x.bank).set u Port.EXECUTING (b2n x.started)).set u Port.FIRE_PENDING (b2n x.pend.isSome)
/-- The generator stops executing and drives PG_IDLE; an exposure in progress ends; what was in flight is dropped (R119). The run of clamped lines ends too: the first line of the
next job raises EV_EXP_CLAMPED when it is clamped, though no unclamped line of that job comes before it (R126 does not say: DESIGN CHOICE, log entry 73). -/
def State.portHalt (s : State) (p : Nat) : State :=
  let idle := s.act (portU p) Port.PG_IDLE
  (s.modPort p (fun x => { x with
    started := false, hold := false, outs := idle, step := 0, atWait := false, consumed := none, pend := none, fires := [], cycle := none, lineWait := none,
    ready := [], delay := [], openLine := none, expLevel := false, lastTe := none, clampedRun := false, capFire := none, staleRun := false,
    laneRun := 0, laneFaulted := false, lineSeen := false, closeAt := none, degraded := [] })).pgRegs p
/-- The port of a bound group, and the groups bound to a port. -/
def State.lampPort (s : State) (g : Nat) : Option Nat := if s.act (lampU g) Lamp.BOUND = 1 then some (s.act (lampU g) Lamp.PORT) else none
def State.lampsOf (s : State) (p : Nat) : List Nat := (List.range 8).filter (fun g => s.lampPort g == some p)
/-- Lines that a group has lit and not verified are counted, each once, and the first of a run is told (R415, R420; log entry 35). -/
def State.unverCount (s : State) (g : Nat) (ls : List Nat) (fault : Bool) : State :=
  match ls.min?, ls.max? with
  | some first, some last =>
    let old := (s.lamp g).unver
    let new := ls.filter (fun l => !old.contains l)
    let s := (s.modLamp g (fun l => { l with unver := (old ++ new).filter (fun n => Nat.ble last (n + 1023)) })).bump (lampU g) Lamp.UNVERIFIED_LINES new.length
    if fault || (new != [] && !(0 < first && old.contains (first - 1))) then s.raise Ev.LAMP_UNVERIFIED (lampU g) first else s
  | _, _ => s
/-- The lines of a port that Eyebright or the lamps have not decided get their flags (R316, R320). -/
def State.settleFlags (s : State) (p : Nat) : State :=
  let s := (s.lampsOf p).foldl (fun (s : State) g =>
    (s.unverCount g ((s.lamp g).strs.flatMap (·.pend)).eraseDups false).modLamp g (fun l => { l with strs := l.strs.map (fun x => { x with pend := [] }) })) s
  s.modRing p (fun r => { r with inFlight := [], blocks := r.blocks.map (fun b => { b with
    closing := true,
    lines := b.lines.map (fun l => { l with
      flags := orFlag (orFlag l.flags Ln.UNINSPECTED (!l.ebDone)) Ln.LAMP_UNVERIFIED (!l.lampDone), ebDone := true, lampDone := true }) }) })
/-- The GAP record of a stopped capture, written before a FENCE record with TIME_END 0 or in the drain (R319). -/
def State.gapStopped (s : State) (p next timeEnd : Nat) : State :=
  match (s.ring p).stopFrom with
  | none => s
  | some (line, t, rep) =>
    let s := s.modRing p (fun r => { r with stopFrom := none, stopped := false })
    let s := s.set (portU p) Ring.CAPTURE_STOPPED 0
    s.gap p 1 0 line (next - 1) (next - line) rep 0 0 (s.ropeAt t) timeEnd
/-- The result words of a capture (R233), with `rep` pixels of REPLACE written; the detail of a status other than ST_OK follows them in RES_DATA11, a word that R233 leaves
free (DESIGN CHOICE, log entry 74). -/
def Capture.words (c : Capture) (rep : Nat) (detail : List Nat) : List Nat :=
  let four := fun (l : List Nat) => (List.range 4).map (nth l)
  [c.attempt + c.totalRestarts % 65536 * 65536] ++ four c.msq ++ four c.out ++ [rep, low 16 c.tRes] ++ detail
/-- Fence a port (R26, R29, R272, R300, R319, R320). -/
def State.fencePort (s : State) (p reason : Nat) : State :=
  if s.fenced (portU p) then s else
  let qp := reason == Fr.QUEUE_PTR
  let s := ((s.ebLeaves p qp).settleFlags p).closeBlocks p
  let s := if qp then s.windowsDrop p else s.windowsEnd p 0x10
  let s := (s.gapStopped p (s.lc p).nextLine 0).flushHeld p
  let s := s.fenceRec p (portU p) reason true
  let kept := s.port p
  let s := (s.portHalt p).reliefStop p St.FENCED
  -- the place in the program and a fire not consumed stay for read-out (R26)
  let s := (s.modPort p (fun x => { x with step := kept.step, pend := kept.pend })).pgRegs p
  let s := (s.modPort p (fun x => { x with capture := none, jobOn := false, rejoin := false })).modEb p (fun e => { e with on := false })
  let s := s.fenceUnit (portU p) reason
  match s.workOf 0x23 (pipeU p) with
  | some w => s.workEnd w St.FENCED (match kept.capture with | some c => c.words 0 [] | none => [])
  | none => s
/-- Fence a unit that serves running ports: each of them writes a FENCE record naming it (R320). -/
def State.fenceServing (s : State) (u reason : Nat) (ps : List Nat) : State :=
  if s.fenced u then s else
  let s := s.fenceUnit u reason
  ps.foldl (fun s p => if (s.port p).jobOn && !s.fenced (portU p) then (s.fenceRec p u reason false).portRefresh p else s) s

/-! ### Readout cycles (R132, R138, R165) -/

/-- A readout joins the plane-delay store and waits for correction; one without a line is discarded (R132). -/
def State.readoutDone (s : State) (p : Nat) (r : Readout) : State :=
  s.modPort p (fun x => { x with cycle := none, ready := if r.line.isSome then x.ready ++ [r] else x.ready })
/-- The lanes of a line fail: their samples become raw 0 (R167). `fs`: (lane, fault) pairs; faults 1 LOCK to 5 EXTRA. -/
def State.laneFaults (s : State) (p : Nat) (fs : List (Nat × Nat)) : State :=
  let u := rxU p
  let s := fs.foldl (fun s f =>
    (s.set u LaneRx.LAST_FAULT f.2 f.1).set u LaneRx.FAULT_STICKY (setBit (s.reg u LaneRx.FAULT_STICKY) f.1 true)) s
  s
/-- A word as the receiver takes it: its low W bits, in the order that LSB_FIRST gives them (R161). -/
def laneWord (s : State) (m : RegMap) (p w : Nat) : Nat :=
  let n := laneBits s m p
  let v := w % 2 ^ n
  if vw s m (rxU p) LaneRx.LSB_FIRST = 1 then (List.range n).foldl (fun (a : Nat) i => a + v / 2 ^ i % 2 * 2 ^ (n - 1 - i)) 0 else v
/-- A synchronising sequence (R163). -/
def syncSeq (s : State) (m : RegMap) (p code : Nat) : List Nat := let n := laneBits s m p
  [2 ^ n - 1, 0, 0, code % 2 ^ n]
/-- What a lane has received in a line: its data words, and whether it began and ended with their synchronising sequences; with LV framing the words sampled while LV was high,
which stand for both (R163). -/
def laneData (s : State) (m : RegMap) (p : Nat) (ws : List Nat) : List Nat × Bool × Bool :=
  let ws := ws.map (laneWord s m p)
  if vw s m (rxU p) LaneRx.FRAMING = 1 then (ws, ws != [], ws != [])
  else
    let sol : Bool := ws.take 4 == syncSeq s m p (vw s m (rxU p) LaneRx.SYNC_SOL)
    let rest := ws.drop 4
    let eol : Bool := 4 ≤ rest.length && rest.drop (rest.length - 4) == syncSeq s m p (vw s m (rxU p) LaneRx.SYNC_EOL)
    (if !sol then [] else if eol then rest.take (rest.length - 4) else rest, sol, sol && eol)
/-- A lane has met or missed a synchronising sequence (R164): four missed in succession lose its lock. -/
def State.laneSync (s : State) (p j : Nat) (met : Bool) : State :=
  let n := if met then 0 else nth (s.port p).missed j + 1
  let k := if met then nth (s.port p).met j + 1 else 0
  let s := s.modPort p (fun x => { x with missed := upd x.missed j (fun _ => n), met := upd x.met j (fun _ => k) })
  if n < 4 then s else s.set (rxU p) LaneRx.LOCKED (setBit (s.reg (rxU p) LaneRx.LOCKED) j false)
/-- The clock that lane j is sampled with is more than 1 % away from LANE_MBPS (R164): LCLK0 for lanes 0 to 7 or, with CLK_SHARED, for all; LCLK1 for lanes 8 to 15. `clk0`, `clk1`: the
measured bit rates in kb/s. -/
def laneRate (s : State) (m : RegMap) (p j clk0 clk1 : Nat) : Bool :=
  let want := vw s m (rxU p) LaneRx.LANE_MBPS * 1000
  let got := if j < 8 || vw s m (rxU p) LaneRx.CLK_SHARED == 1 then clk0 else clk1
  want < (Int.ofNat got - Int.ofNat want).natAbs * 100
/-- A line of the present cycle is complete with the faults found (R167). -/
def State.laneDone (s : State) (p : Nat) (r : Readout) (taps : List (List Nat)) (bad : List (Nat × Nat)) : State :=
  let s := s.laneFaults p bad
  let numbered := r.line.isSome
  let s := if bad = [] || !numbered then s else
    let s := s.bump (rxU p) LaneRx.FAULT_LINES
    if (s.port p).laneFaulted then s
    else s.raise Ev.LANE_FAULT (portU p) (bad.foldl (fun a f => a + 2 ^ f.1) 0 + (bad.headD (0, 0)).2 * 2 ^ 16)
  let n := r.line.getD 0
  let s := if !numbered then s else s.modPort p (fun x => { x with
    laneFaulted := bad != [], laneRun := if bad = [] then 0 else if x.capture.isNone && n < 16 then x.laneRun else x.laneRun + 1 })
  let s := s.readoutDone p { r with taps := taps, faults := bad.map (·.1) }
  if 64 ≤ (s.port p).laneRun then s.fencePort p Fr.LANE_LOST else s
/-- No line has come within LATENCY_MAX: every enabled lane is late, and has missed its sequences (R164, R165, R167). -/
def State.laneLate (s : State) (p : Nat) : State :=
  match (s.port p).cycle with
  | none => s
  | some r =>
    let m := (s.port p).pgSet
    let lanes := tapsOn s m p
    let locked := s.reg (rxU p) LaneRx.LOCKED
    let bad := lanes.map (fun j => (j, if tbit locked j then 3 else 1))
    let s := lanes.foldl (fun (s : State) j => (s.laneSync p j false).laneSync p j false) s
    s.laneDone p r ((List.range 16).map (fun j => List.replicate (tapLen s m p j) 0)) bad
/-- An act on the readout cycle before the present one, whose line has not come (R165). -/
def State.laneOld (s : State) (p : Nat) (f : State → State) : State :=
  match (s.port p).lineWait with
  | none => s
  | some (r, m) =>
    let x := s.port p
    let t := f (s.modPort p (fun y => { y with cycle := some r, pgSet := m, lineWait := none }))
    if (t.port p).started then t.modPort p (fun y => { y with cycle := x.cycle, pgSet := x.pgSet, lineSeen := x.lineSeen }) else t
/-- A cycle starts while the line of the cycle before it has not come: its words may still end when its SOL has arrived within LATENCY_MAX, so it goes on waiting (R165). One that waited
already is late. -/
def State.laneWaits (s : State) (p : Nat) : State :=
  let s := s.laneOld p (fun s => s.laneLate p)
  s.modPort p (fun x => { x with lineWait := x.cycle.map (fun r => (r, x.pgSet)), cycle := none })
/-- A lane line (R162 to R165): the words of each lane as they were received, the tick at which its SOL or LV rise arrived on the lowest enabled lane, and the measured clocks. It belongs
to the present cycle when that arrival is in its span; a second line in one cycle is EXTRA. Where several faults meet in a lane, the first of LOCK, RATE, LATE and COUNT is
recorded; a lane without a line of its own is LATE, and one whose line does not end with its SYNC_EOL has a COUNT fault (DESIGN CHOICE, log entry 73). -/
def State.laneTake (s : State) (p : Nat) (words : List (List Nat)) (sol clk0 clk1 : Nat) : State :=
  let m := (s.port p).pgSet
  let lanes := tapsOn s m p
  let w := laneBits s m p
  match (s.port p).cycle with
  | none =>
    if (s.port p).lineSeen then s.laneFaults p ((lanes.filter (fun j => words.getD j [] != [])).map (fun j => (j, 5))) else s
  | some r =>
    if sol < r.start then s
    else if r.start + vw s m (rxU p) LaneRx.LATENCY_MAX < sol then s.laneLate p
    else
      let got := (List.range 16).map (fun j => laneData s m p (words.getD j []))
      let data := fun j => (got.getD j ([], false, false)).1
      let locked := s.reg (rxU p) LaneRx.LOCKED
      let fault := fun j =>
        if !tbit locked j then 1
        else if laneRate s m p j clk0 clk1 then 4
        else if !(got.getD j ([], false, false)).2.1 then 3
        else if (got.getD j ([], false, false)).2.2 && (data j).length == tapLen s m p j then 0 else 2
      let bad := (lanes.map (fun j => (j, fault j))).filter (fun f => f.2 != 0)
      let taps := (List.range 16).map (fun j =>
        if bad.any (fun f => f.1 == j) then List.replicate (tapLen s m p j) 0
        else (data j).map (fun v => v * 2 ^ (16 - w)))
      let s := lanes.foldl (fun (s : State) j =>
        let g := got.getD j ([], false, false)
        let s := (s.laneSync p j g.2.1).laneSync p j g.2.2
        s.modPort p (fun x => { x with drift := upd x.drift j (fun n => n + (words.getD j []).length) })) s
      (s.modPort p (fun x => { x with lineSeen := true })).laneDone p r taps bad
/-- A lane line: it belongs to the cycle before the present one where its SOL arrived in that one's span and no line of it has come; else that one is late (R165). -/
def State.laneLine (s : State) (p : Nat) (words : List (List Nat)) (sol clk0 clk1 : Nat) : State :=
  match (s.port p).lineWait with
  | none => s.laneTake p words sol clk0 clk1
  | some (r, m) =>
    if sol < r.start then s
    else if sol ≤ r.start + vw s m (rxU p) LaneRx.LATENCY_MAX then s.laneOld p (fun s => s.laneTake p words sol clk0 clk1)
    else (s.laneOld p (fun s => s.laneLate p)).laneTake p words sol clk0 clk1

/-! ### Pattern generator (R114 to R120, R135) -/

/-- A numbered or closing fire of the port. -/
def State.fireOf (s : State) (p line : Nat) : Option Fire := (s.port p).fires.find? (fun f => f.line == line)
/-- Outputs after a step (R114, R118). -/
def pgOuts (outs : Nat) (x : PgStep) (own : Option Nat) : Nat :=
  (List.range 16).foldl (fun o k => if tbit x.outMask k && own != some k then setBit o k (tbit x.outVal k) else o) outs
/-- CDS_SIG: one code of every serving channel enters the cycle (R138, R141). -/
def State.cdsSample (s : State) (p : Nat) (codes : List Nat) : State :=
  let m := (s.port p).pgSet
  if vw s m (portU p) Port.CAPTURE = 1 then s else
  match (s.port p).cycle with
  | none => s
  | some r =>
    let taps := tapsOn s m p
    let one := fun k =>
      let c := s.serving p k
      rawSample (vw s m (portU p) Tap.INVERT k == 1) (sgn 24 (s.reg (chanU p c) Afe.CAL_OFS)) (s.reg (chanU p c) Afe.CAL_GAIN) (nth codes c % 65536)
    let r := { r with taps := taps.foldl (fun l k => upd l k (fun q => q ++ [one k])) r.taps }
    if taps.all (fun k => tapLen s m p k ≤ (r.taps.getD k []).length) then s.readoutDone p r
    else s.modPort p (fun x => { x with cycle := some r })
/-- A step begins at a tick: outputs and CDS pulses (R115). -/
def State.pgBegin (s : State) (p i tick : Nat) (codes : List Nat) : State :=
  let x := s.port p
  let st := (x.prog x.bank).getD i ⟨0, 0, 0, 9, false, false⟩
  let m := x.pgSet
  let own := if vw s m (portU p) Port.EXP_EN = 1 ∧ vw s m (portU p) Port.SHUTTER = 1 then some (vw s m (portU p) Port.EXP_PIN) else none
  let s := s.modPort p (fun x => { x with step := i, arrive := tick, outs := pgOuts x.outs st own, atWait := st.ctrl == 5 })
  if st.cdsSig then s.cdsSample p codes else s
/-- Load both loop counters from the governing set (R117, R135). -/
def State.pgLoad (s : State) (p : Nat) (m : RegMap) : State :=
  let a := vw s m (portU p) Port.COUNT_A
  let b := vw s m (portU p) Port.COUNT_B
  s.modPort p (fun x => { x with cntA := a, cntB := b, loadA := a, loadB := b })
/-- A WAIT_LINE consumes the fire of a line at a tick: a cycle starts (R116, R132, R135, R145). -/
def State.pgConsume (s : State) (p line fireTick tick : Nat) (codes : List Nat) : State :=
  let x := s.port p
  let old := x.pgSet
  let s := match x.cycle with
    | none => s
    | some r => if vw s old (portU p) Port.CAPTURE = 1 then s.laneWaits p else s.readoutDone p r
  let f := (s.fireOf p line).getD {}
  let prev := ((s.port p).fires.filter (fun g => g.line < line)).getLast?
  let lag := vw s f.set (portU p) Port.READOUT_LAG == 1
  let read := if lag then (if f.seam then none else prev.map (·.line)) else if f.closing then none else some line
  let set := if lag then (match prev with | some g => g.set | none => f.set) else f.set
  let s := s.gainChange p old set
  let s := s.reliefCycle set p tick
  let s := s.modPort p (fun x => { x with
    atWait := false, consumed := some line, consumedTick := fireTick, pend := none, pgSet := set, lineSeen := false,
    cycle := some { line := read, start := tick, taps := List.replicate 16 [], faults := [], stale := s.portStale set p } })
  let bank := vw s set (portU p) Port.BANK
  let x := s.port p
  if bank != x.bank then
    let s := (s.modPort p (fun x => { x with bank := bank })).pgLoad p set
    let s := s.pgBegin p 0 tick codes
    s.modPort p (fun x => { x with atWait := false })
  else if vw s set (portU p) Port.COUNT_A != x.loadA || vw s set (portU p) Port.COUNT_B != x.loadB then s.pgLoad p set
  else s
/-- The generator begins step 0 of the selected bank (R117, R119). -/
def State.pgStart (s : State) (p : Nat) : State :=
  let m := s.active
  let s := s.modPort p (fun x => { x with
    started := true, bank := vw s m (portU p) Port.BANK, pgSet := m, outs := vw s m (portU p) Port.PG_IDLE, pend := none, consumed := none,
    cycle := none, lineWait := none, fires := [], ready := [], delay := [], openLine := none, lastTe := none })
  ((s.pgLoad p m).pgBegin p 0 s.now []).pgRegs p
/-- The set that governs the cycle which a fire starts (R135): that of the line it reads out. -/
def State.cycleSet (s : State) (p line : Nat) : RegMap :=
  let f := (s.fireOf p line).getD {}
  let prev := ((s.port p).fires.filter (fun g => g.line < line)).getLast?
  if vw s f.set (portU p) Port.READOUT_LAG = 1 then (match prev with | some g => g.set | none => f.set) else f.set
/-- The converter codes of a step that a fire begins: the row gives none, so they are free values (log entry 11). -/
def State.freeCodes (s : State) (f : State → List Nat → State) : State :=
  f { s with draw := s.draw + 9 } ((List.range 9).map (fun k => Config.freeNat (s.draw + k)))
/-- A fire reaches the generator (R116, R120). -/
def State.pgFire (s : State) (p line tick : Nat) : State :=
  let x := s.port p
  if !x.started then s
  else if x.atWait then (s.freeCodes (fun s codes => s.pgConsume p line tick tick codes)).pgRegs p
  else if x.pend.isSome then s.fencePort p Fr.PG_OVERRUN
  else (s.modPort p (fun x => { x with pend := some (line, tick) })).pgRegs p
/-- Tick at which the next step begins, none while the generator waits or has halted (R115). A closing fire begins no exposure, so a step that
waits for one goes on at once (DEDUCED, log entry 12). -/
def State.pgDue (s : State) (p : Nat) : Option Nat :=
  let x := s.port p
  if !x.started then none else
  match (x.prog x.bank)[x.step]? with
  | none => none
  | some st =>
    let f := x.consumed.bind (s.fireOf p)
    if st.ctrl = 5 then (if x.atWait then none else some (max x.arrive x.consumedTick + st.dur))
    else if st.ctrl = 6 then f.bind (fun f => if f.closing then some (x.arrive + st.dur) else if f.te.isSome || x.openLine == some f.line then some (max x.arrive f.ts + st.dur) else none)
    else if st.ctrl = 7 then f.bind (fun f => if f.closing then some (x.arrive + st.dur) else f.te.map (fun t => max x.arrive t + st.dur))
    else if st.ctrl = 9 then none
    else some (x.arrive + st.dur)
/-- The step after the present one, with the counters (R115, R117). -/
def PortSt.pgNext (x : PortSt) : PortSt × Nat :=
  let prog := x.prog x.bank
  let c := (prog.getD x.step ⟨0, 0, 0, 9, false, false⟩).ctrl
  let back := fun b => (((prog.take x.step).zipIdx.reverse.find? (fun y => y.1.ctrl == b)).map (·.2)).getD x.step
  if c = 8 then (x, 0)
  else if c = 2 then (if 1 < x.cntA then ({ x with cntA := x.cntA - 1 }, back 1) else ({ x with cntA := x.loadA }, x.step + 1))
  else if c = 4 then (if 1 < x.cntB then ({ x with cntB := x.cntB - 1 }, back 3) else ({ x with cntB := x.loadB }, x.step + 1))
  else (x, x.step + 1)
/-- The next step begins (PG_STEP): `codes` are the converter codes of the nine channels, used where the step pulses CDS_SIG. -/
def State.pgStep (s : State) (p : Nat) (codes : List Nat) : State :=
  match s.pgDue p with
  | none => s
  | some t =>
    if s.now < t then s else
    let (x, i) := (s.port p).pgNext
    let s := s.modPort p (fun _ => x)
    let wait : Bool := ((x.prog x.bank).getD i ⟨0, 0, 0, 9, false, false⟩).ctrl == 5
    let s := match wait, x.pend with
      | true, some (line, f) =>
        -- step 0 of a new bank runs in place of this step (R135)
        if vw s (s.cycleSet p line) (portU p) Port.BANK = x.bank then (s.pgBegin p i t codes).pgConsume p line f t codes
        else (s.modPort p (fun x => { x with step := i, arrive := t })).pgConsume p line f t codes
      | _, _ => s.pgBegin p i t codes
    s.pgRegs p

/-! ### Exposure (R125 to R130) -/

/-- Change the record of a fire. -/
def State.modFire (s : State) (p line : Nat) (f : Fire → Fire) : State :=
  s.modPort p (fun x => { x with fires := x.fires.map (fun g => if g.line = line then f g else g) })
/-- The exposure of a line ends at te; `empty`: it never opened (R125, R126). -/
def State.expClose (s : State) (p : Nat) (f : Fire) (te : Nat) (empty : Bool) : State :=
  let u := portU p
  let actual := if empty then 1 else te - f.ts
  let clamped := f.moved || actual < vw s f.set u Port.EXP_TIME
  let s := s.modFire p f.line (fun g => { g with te := some te, actual := actual, flags := orFlag g.flags Ln.EXPOSURE_CLAMPED clamped })
  let s := (s.modPort p (fun x => { x with openLine := none, expLevel := false, lastTe := some te, clampedRun := clamped })).set u Port.LAST_EXP actual
  if clamped then s.bump u Port.CLAMPED_LINES else s
/-- The first clamped line after an unclamped line raises EV_EXP_CLAMPED (R126). -/
def State.expEnd (s : State) (p : Nat) (f : Fire) (te : Nat) (empty : Bool) : State :=
  let before := (s.port p).clampedRun
  let s := s.expClose p f te empty
  if (s.port p).clampedRun && !before then s.raise Ev.EXP_CLAMPED (portU p) f.line else s
/-- The next line whose exposure has not begun, with its start (R125, R127). -/
def State.expNext (s : State) (p : Nat) : Option (Fire × Nat × Bool) :=
  let x := s.port p
  if x.openLine.isSome then none else
  (x.fires.find? (fun f => !f.closing && f.te.isNone && vw s f.set (portU p) Port.SHUTTER == 1)).map (fun f =>
    let plain := f.tick + vw s f.set (portU p) Port.EXP_DELAY
    match x.lastTe with
    | some te =>
      let held := te + vw s f.set (portU p) Port.EXP_GAP_MIN
      if plain < held then (f, held, true) else (f, plain, false)
    | none => (f, plain, false))
/-- The fire after a line's, as far as known. -/
def State.nextFire (s : State) (p line : Nat) : Option Nat := (((s.port p).fires.find? (fun f => line < f.line)).map (·.tick))
/-- The exposure of the next line begins (EXPOSURE_START), or is found empty. -/
def State.exposureStart (s : State) (p : Nat) : State :=
  match s.expNext p with
  | none => s
  | some (f, ts, moved) =>
    if s.now < ts then s else
    let s := s.modFire p f.line (fun g => { g with ts := ts, moved := moved })
    let f := { f with ts := ts, moved := moved }
    let bound := match s.nextFire p f.line with
      | some t => some t
      | none => s.predictedEnd p (vw s f.set (portU p) Port.EXP_GAP_MIN)
    match bound with
    | some t => if t ≤ ts then s.expEnd p f t true
      else s.modPort p (fun x => { x with openLine := some f.line, expLevel := true })
    | none => s.modPort p (fun x => { x with openLine := some f.line, expLevel := true })
/-- The open exposure ends (EXPOSURE_END): by its length, by the prediction, or by the next fire. -/
def State.exposureEnd (s : State) (p : Nat) : State :=
  match (s.port p).openLine.bind (s.fireOf p) with
  | none => s
  | some f =>
    let full := f.ts + vw s f.set (portU p) Port.EXP_TIME
    let te := match s.nextFire p f.line with
      | some t => min full t
      | none => match s.predictedEnd p (vw s f.set (portU p) Port.EXP_GAP_MIN) with
        | some t => min full t
        | none => full
    if s.now < te then s else s.expEnd p f te (te ≤ f.ts)
/-- A fire at tick t ends the measured period of the line before it, and its exposure (R125 item 3, R130). -/
def State.fireEnds (s : State) (p t : Nat) : State :=
  let u := portU p
  match ((s.port p).fires.filter (fun f => !f.closing)).getLast? with
  | none => s
  | some f =>
    let s := s.set u Port.LAST_PERIOD (t - f.tick)
    if vw s f.set u Port.SHUTTER = 0 then
      let s := s.modFire p f.line (fun g => { g with ts := f.tick, te := some t, actual := t - f.tick })
      (s.set u Port.LAST_EXP (t - f.tick)).modPort p (fun x => { x with clampedRun := false, lastTe := some t })
    else if (s.port p).openLine = some f.line then
      let te := min t (f.ts + vw s f.set u Port.EXP_TIME)
      s.expEnd p f te false
    else match s.expNext p with
      | some (g, ts, moved) =>
        if g.line = f.line ∧ t ≤ ts then
          (s.modFire p f.line (fun g => { g with ts := ts, moved := moved })).expEnd p { f with ts := ts, moved := moved } t true
        else s
      | none => s
/-- A fire enters the port: it is recorded, ends what it ends, and reaches the generator (R116, R125, R130). After a closing fire of a Belay there is
nothing left for it to end (R394). -/
def State.portFire (s : State) (p : Nat) (f : Fire) : State :=
  let seam := (s.port p).fires.any (·.closing)
  let s := if seam then s else s.fireEnds p f.tick
  let s := s.modPort p (fun x => { x with fires := x.fires.filter (fun g => !g.closing) ++ [{ f with seam := seam }] })
  s.pgFire p f.line f.tick

end Sys2Proof.Machine
end

