-- ==== Sys2Proof/Machine/Profile.lean ====
section
/-! DEFINITION. The arithmetic of an axis: conversion of host values (R349), the profile generator (R354, R355; its form is the model's, log entry
20; exact, with no timing of its own, R350), the joint speed (R356), and the phase voltages of a bridge (R369, R372). -/
namespace Sys2Proof.Machine

/-! ### Conversions (R348, R349) -/

/-- One microstep in the units of a position (2^-48) and of the generator's distances (2^-64). -/
def ustep : Int := 2 ^ 48
/-- V of R349 for a speed in microsteps/s, and with the generator's 16 more fraction bits. -/
def convV (v : Nat) : Nat := (v * 2 ^ 48 + 50000000) / 10 ^ 8
def convV64 (v : Nat) : Nat := convV v * 2 ^ 16
/-- A and J of R349. -/
def convA (a : Nat) : Nat := (a * 2 ^ 64 + 5 * 10 ^ 15) / 10 ^ 16
def convJ (j : Nat) : Nat := (j * 2 ^ 96 + 5 * 10 ^ 23) / 10 ^ 24
/-- VEL of R349 for a signed V. -/
def velOf (v : Int) : Int := sar (v * 10 ^ 8 + 2 ^ 47) 48
/-- Integer square root, by bits from 2^(n-1) down. -/
def isqrtGo (x : Nat) : Nat → Nat → Nat
  | 0, r => r
  | k + 1, r => let t := r + 2 ^ k; isqrtGo x k (if t * t ≤ x then t else r)
def isqrt (x : Nat) : Nat := isqrtGo x 128 0

/-! ### The generator -/

/-- Distance in 2^-64 that a trapezoidal brake from v to ve travels when it begins at the next update. -/
def brakeDist (v ve dec : Nat) : Nat :=
  if v ≤ ve ∨ dec = 0 then 0 else
  let n := cdiv (v - ve) dec
  (n - 1) * v - dec * ((n - 1) * n / 2) + ve
/-- The same for a jerk-limited brake, from speed v and acceleration a (2^-96). -/
def brakeDistJ (v : Nat) (a : Int) (ve dec jerk : Nat) : Nat :=
  let up := a.toNat
  let va := v + up * up / (2 * jerk) / 2 ^ 32
  let d0 := v * up / jerk + up * up * up / (3 * jerk * jerk) / 2 ^ 32
  if va ≤ ve then d0 else
  let dv := (va - ve) * 2 ^ 32
  let d := dec * 2 ^ 32
  let t32 := if d * d ≤ dv * jerk then (dv * jerk + d * d) * 2 ^ 32 / (d * jerk) else 2 * isqrt (dv * 2 ^ 64 / jerk)
  d0 + (va + ve) * t32 / 2 ^ 33
/-- One acceleration update towards a speed, with or without jerk. -/
def Prof.faster (p : Prof) (vmax acc jerk : Nat) : Prof :=
  if jerk = 0 then { p with v := min (p.v + acc) vmax, a := 0 } else
  let a := p.a.toNat
  let a' := if 2 * jerk * (vmax - p.v) * 2 ^ 32 ≤ a * a then max (a - jerk) jerk else min (a + jerk) (acc * 2 ^ 32)
  let v' := min vmax (p.v + max (a' / 2 ^ 32) (b2n (a' ≤ a)))
  { p with v := v', a := if v' = vmax then 0 else Int.ofNat a' }
/-- One deceleration update towards a speed. -/
def Prof.slower (p : Prof) (u dec jerk : Nat) : Prof :=
  if jerk = 0 then { p with v := max (p.v - dec) u, a := 0 }
  else if 0 < p.a then
    let a := p.a.toNat - jerk
    { p with v := p.v + a / 2 ^ 32, a := Int.ofNat a }
  else
    let b := (-p.a).toNat
    let b' := if 2 * jerk * (p.v - u) * 2 ^ 32 ≤ b * b then max (b - jerk) jerk else min (b + jerk) (dec * 2 ^ 32)
    let v' := max u (p.v - max (b' / 2 ^ 32) (b2n (b' ≤ b)))
    { p with v := v', a := if v' = u then 0 else -Int.ofNat b' }
/-- The updates that a jerk-limited brake still takes and the distance they travel, where it ends within so many. -/
def Prof.coast (dec jerk : Nat) : Nat → Prof → Option (Nat × Nat)
  | 0, p => if p.v ≤ p.ve ∧ p.a ≤ 0 then some (0, 0) else none
  | n + 1, p =>
    if p.v ≤ p.ve ∧ p.a ≤ 0 then some (0, 0) else
    let q := p.slower p.ve dec jerk
    (Prof.coast dec jerk n q).map (fun r => (r.1 + 1, r.2 + q.v))
/-- The same for any brake within its last 1,024 updates (R355). The speed left, and the time that the jerk alone would take for it, are cheap bounds of that. -/
def Prof.last (p : Prof) (dec jerk : Nat) : Option (Nat × Nat) :=
  if jerk = 0 then
    let n := cdiv (p.v - p.ve) dec
    if n ≤ 1024 then some (n, brakeDist p.v p.ve dec) else none
  else if 0 < p.a ∨ 1024 < min (p.v - p.ve) (isqrt (2 * (p.v - p.ve) * 2 ^ 32 / jerk)) then none
  else Prof.coast dec jerk 1024 p
/-- Distance of a brake to `ve` that begins now, from the present speed and acceleration. -/
def Prof.dist (p : Prof) (ve dec jerk : Nat) : Nat := if jerk = 0 then brakeDist p.v ve dec else brakeDistJ p.v p.a ve dec jerk
/-- The update of a move that does not brake yet (R354). One that brakes without jerk keeps its speed meanwhile. Any other goes towards the cruise speed, as far as it can still be braked in the distance left; where it cannot, the present speed is the peak. With jerk, an acceleration still held dies away first. -/
def Prof.onward (p : Prof) (vmax acc dec jerk ve left64 : Nat) : Prof :=
  let q := if p.v ≤ vmax then p.faster vmax acc jerk else p.slower vmax dec jerk
  if p.hard then (if p.v ≤ vmax then { p with a := 0 } else p.slower vmax dec 0)
  else if q.v + q.dist ve dec jerk ≤ left64 || p.v < 2 ^ 16 then q
  else if 0 < p.a then p.slower p.v dec jerk else { p with a := 0 }
/-- One update of a move with `left` (2^-48, above 0) still to go: the generator, the distance of this update in 2^-48, and whether the
target is reached, then at the end speed. The brake begins at the first update that finds the distance left no greater than the braking distance from the present speed and acceleration
(R354). What the plan leaves over, or lacks, is taken up over the last 1,024 updates as a constant correction (R355). A move that goes on
from another, and that its jerk would carry past the target by a microstep or more, brakes without jerk, where a trapezoidal move would (R358). -/
def Prof.step (p : Prof) (vmax acc dec jerk ve left : Nat) : Prof × Nat × Bool :=
  let left64 := left * 2 ^ 16
  let p := if p.braking || p.hard || p.dist ve dec jerk < left64 + 2 ^ 64 then p else { p with hard := true }
  let jerk := if p.hard then 0 else jerk
  if !p.braking && p.dist ve dec jerk < left64 then
    let q := { p.onward vmax acc dec jerk ve left64 with corr := none }
    (q, min left (q.v / 2 ^ 16), left ≤ q.v / 2 ^ 16)
  else
    let p := if p.braking then p else { p with braking := true, ve := min ve p.v }
    let corr := match p.corr with
      | some c => some c
      | none => (p.last dec jerk).map (fun r => fdiv (Int.ofNat left64 - Int.ofNat r.2) (Int.ofNat (max r.1 1)))
    let q : Prof := { p.slower p.ve dec jerk with corr := corr }
    let d := if q.v ≤ q.ve ∧ q.a ≤ 0 then left else (Int.ofNat q.v + corr.getD 0).toNat / 2 ^ 16
    (if left ≤ d then { q with v := p.ve, corr := none } else q, min left d, left ≤ d)
/-- The highest of n-bit speeds above `v`, in microsteps/s, from which a move brakes to rest within a distance in microsteps. -/
def speedIn (dec jerk dist : Nat) : Nat → Nat → Nat
  | 0, v => v
  | n + 1, v =>
    let w := v + 2 ^ n
    let p : Prof := { v := convV64 w }
    speedIn dec jerk dist n (if p.dist 0 (convA dec) (convJ jerk) ≤ dist * 2 ^ 64 then w else v)
/-- Joint speed of a move with the next one (R356), in 2^-64: 0 for a reversal, a linked move, or nothing queued. -/
def jointSpeed (m : AxMove) (dir : Int) (next : Option AxMove) : Nat :=
  match next with
  | none => 0
  | some n =>
    if m.link != 0 || n.link != 0 || (n.target - m.target) * dir ≤ 0 then 0
    else convV64 (min (min m.speed n.speed) (speedIn n.decel n.jerk ((n.target - m.target) * dir).toNat 24 0))

/-! ### Bridge duties (R369, R371, R372) -/

/-- The angle e × 2π / 1024 in 2^-64 radian. -/
def angle (e : Nat) : Int := Int.ofNat e * 115904311329233965478 / 1024
/-- sin and cos of an angle of at most an eighth turn, in 2^-64, by their series. -/
def sinEighth (e : Nat) : Int :=
  let x := angle e
  let x2 := x * x / 2 ^ 64
  let f := fun (acc : Int) (k : Int) => 2 ^ 64 - acc * x2 / 2 ^ 64 / (k * (k + 1))
  x * ([18, 16, 14, 12, 10, 8, 6, 4, 2].foldl f (2 ^ 64)) / 2 ^ 64
def cosEighth (e : Nat) : Int :=
  let x := angle e
  let x2 := x * x / 2 ^ 64
  [17, 15, 13, 11, 9, 7, 5, 3, 1].foldl (fun (acc : Int) (k : Int) => 2 ^ 64 - acc * x2 / 2 ^ 64 / (k * (k + 1))) (2 ^ 64)
/-- Q1.15 of a 2^-64 value. -/
def q15 (x : Int) : Int := sar (x + 2 ^ 48) 49
/-- SIN over a quarter turn, e from 0 to 256. -/
def sinQuarter (e : Nat) : Int := if e ≤ 128 then q15 (sinEighth e) else q15 (cosEighth (256 - e))
def sinTab (e : Nat) : Int :=
  let e := e % 1024
  if e ≤ 256 then sinQuarter e else if e ≤ 512 then sinQuarter (512 - e)
  else if e ≤ 768 then -sinQuarter (e - 512) else -sinQuarter (1024 - e)
def cosTab (e : Nat) : Int := sinTab (e + 256)

/-- The two duties before scaling (R369). `vm` in mV. DIR_INV changes the sign of phase B against that of phase A, which turns the motor the other way (R351; DEDUCED, log entry 79). -/
def dutiesOf (pos vel ofs : Int) (inv : Bool) (r l ke i vm : Int) (halved : Bool) : Int × Int :=
  let e := low 10 (pos + ofs)
  let c := cosTab e
  let s := sinTab e
  let wE := sar (vel * 6433982 + 2 ^ 19) 20
  let ur := r * i
  let uw := fdiv (wE * (l * i + 1000 * ke) + 500000) 1000000
  let uw := if halved then fdiv uw 2 else uw
  let uA := sar (ur * c - uw * s + 2 ^ 14) 15
  let uB := sar (ur * s + uw * c + 2 ^ 14) 15
  let uB := if inv then -uB else uB
  let v := vm * 1000
  (fdiv (uA * 4095 + fdiv v 2) v, fdiv (uB * 4095 + fdiv v 2) v)
/-- Scale saturated duties (R372): the larger becomes 4,095. -/
def dutiesScaled (d : Int × Int) : (Int × Int) × Bool :=
  let m := max d.1.natAbs d.2.natAbs
  if m ≤ 4095 then (d, false)
  else
    let f := fun (x : Int) => (if x < 0 then -1 else 1) * Int.ofNat (x.natAbs * 4095 / m)
    ((f d.1, f d.2), true)

end Sys2Proof.Machine
end

