-- ==== Sys2Proof/Machine/Axis.lean ====
section
/-! DEFINITION. One axis (R348 to R382): its page, moves and stops, coordinated moves, faults and disturbances, inputs, homing, identification and
the bridge. What the scan does with it is in Belay.lean. -/
namespace Sys2Proof.Machine
open R

/-! ### The page (R351) -/

/-- POS: whole microsteps, 40 bits signed. -/
def AxisSt.whole (x : AxisSt) : Int := sgn 40 (low 40 (sar x.pos 48))
/-- V of R349, signed, with the correction of R355. -/
def AxisSt.v48 (x : AxisSt) : Int := x.dir * Int.ofNat ((Int.ofNat x.prof.v + x.prof.corr.getD 0).toNat / 2 ^ 16)
/-- MOTION. A member of a coordinated move that stops has no present move any longer. -/
def AxisSt.motion (x : AxisSt) : Nat :=
  if x.home.isSome then 4 else if x.ident.isSome then 5
  else if x.gen = 2 then (if x.after = 1 then 1 else 2) else if x.gen = 4 then 3 else if x.gen = 0 then 0 else if x.gen = 5 && x.move.isNone then 2 else 1
/-- Field pair LO, HI of a 40-bit position. -/
def pos40 (lo hi : Nat) : Int := sgn 40 (hi % 256 * 2 ^ 32 + lo)
/-- Keep the motion fields of the page and STATE in step. -/
def State.axisRegs (s : State) (a : Nat) : State :=
  let x := s.axis a
  let u := axU a
  let p := low 40 x.whole
  let m := x.motion
  let s := (((s.set u Axis.POS_LO (lo32 p)).set u Axis.POS_HI (p / 2 ^ 32)).set u Axis.VEL (low 32 (velOf x.v48))).set u Axis.MOTION m
  let s := (s.set u Axis.KEPT (b2n x.kept.isSome)).set u Axis.QUEUE_LEVEL x.queue.length
  let r := match x.kept with | some k => low 40 (k.target - x.whole) | none => 0
  let s := (s.set u Axis.REMAIN_LO (lo32 r)).set u Axis.REMAIN_HI (r / 2 ^ 32)
  if s.fenced u then s
  else
    let parked := s.reg u Belay.BELAY_STATE == 4
    let degr := s.act u Axis.MODE == 1 && s.reg u Axis.UNIDENTIFIED == 1
    s.setSt u (if m = 2 then .stopping else if m = 3 ∨ parked then .waiting else if m = 0 then .idle else if degr then .degraded else .running)

/-! ### Checks (R352, R374, R387, R388) -/

/-- Table-mode ports whose set names the axis. -/
def scanUsers (s : State) (m : RegMap) (a : Nat) : List Nat :=
  s.portsOn.filter (fun p => vw s m (portU p) Port.MODE == 1 && vw s m (lcU p) Lc.AXIS_SEL == a)
/-- R352 and R374 for one axis, then R387, whose last item and R388 look at the ports that follow it. -/
def axisChecks (s : State) (m : RegMap) (a : Nat) : Refuse :=
  let v := fun f => vw s m (axU a) f
  let par := fun (ok : Bool) off => need ok St.BAD_PARAM [off]
  let mode := v Axis.MODE
  let soft := fun lo hi => pos40 (v lo) (v hi)
  let busy := [Axis.MODE, Axis.DIR_INV, Axis.VMOT_SEL, Axis.PWM_KHZ, Axis.DEAD_TICKS, Axis.ELEC_OFS].any (fun f => v f != s.act (axU a) f)
  let scan := fun (ok : Bool) off => need ok St.SCAN_CONFIG [off]
  let users := scanUsers s m a
  let spd := v Belay.SCAN_SPEED
  let mn := v Belay.SW_MIN_SPEED
  let amax := v Axis.AMAX
  let pacing : List Refuse := [
    scan (spd != 0 && spd ≤ v Axis.VMAX) 0x100,
    scan (mn != 0 && mn ≤ spd) 0x104,
    scan (v Belay.SW_ACCEL != 0 && v Belay.SW_ACCEL ≤ amax) 0x108,
    scan (v Belay.BELAY_DECEL != 0 && v Belay.BELAY_DECEL ≤ amax) 0x118,
    scan (v Belay.BELAY_ACCEL != 0 && v Belay.BELAY_ACCEL ≤ amax) 0x11C,
    scan (v Belay.BELAY_BACK_SPEED != 0 && v Belay.BELAY_BACK_SPEED ≤ v Axis.VMAX) 0x120,
    scan (1024 ≤ v Belay.BELAY_SETTLE) 0x124,
    scan (v Belay.DRIFT_REF != 3 && (v Belay.DRIFT_REF == 0 || tbit (v Axis.IN_EN) (v Belay.DRIFT_REF + 1))) 0x10C,
    scan (v Belay.PASS_RETURN == 0 || users.all (fun p => vw s m (lcU p) Lc.REPEAT_SRC == 0 && vw s m (lcU p) Lc.REPEAT_LINES % 256 == 0)) 0x10C] ++
    users.flatMap (fun p =>
      let pitch := pitchOf s m p
      let lpm := vw s m (portU p) Port.LINE_PERIOD_MIN
      let nom := vw s m (portU p) Port.NOMINAL_PERIOD
      [need (spd * lpm * 2 ^ 32 ≤ pitch * 1600000000) St.SCAN_RATE [sat32 (pitch * 1600000000 / (max 1 lpm * 2 ^ 32))],
       need (vw s m (portU p) Port.SHUTTER == 1 || pitch * 1600000000 ≤ mn * 2 * nom * 2 ^ 32) St.SCAN_RATE
         [sat32 (cdiv (pitch * 1600000000) (2 * max 1 nom * 2 ^ 32))]])
  firstOf ([
    par (mode != 3) 0x000,
    par (20 ≤ v Axis.PWM_KHZ && v Axis.PWM_KHZ ≤ 100) 0x004,
    par (v Axis.I_HOLD ≤ v Axis.I_RUN) 0x008,
    par (v Axis.VMAX != 0 && (mode != 1 || v Axis.VMAX ≤ 16000000) && (mode != 2 || v Axis.VMAX ≤ 4000000)) 0x01C,
    par (amax != 0) 0x020,
    par (amax ≤ v Axis.AQUICK) 0x024,
    par (v Axis.SOFT_EN == 0 || soft Axis.SOFT_MIN_LO Axis.SOFT_MIN_HI < soft Axis.SOFT_MAX_LO Axis.SOFT_MAX_HI) 0x028,
    par (1 ≤ v Axis.DEBOUNCE && v Axis.DEBOUNCE ≤ 1000) 0x038,
    par (mode != 2 || (16 ≤ v Axis.STEP_WIDTH && 16 ≤ v Axis.DIR_SETUP && 2 * v Axis.STEP_WIDTH * v Axis.VMAX ≤ 1600000000)) 0x03C,
    (if busy && s.reg (axU a) Axis.MOTION != 0 then some (St.BUSY, [(s.stOf (axU a)).code]) else none),
    (if v Axis.STALL_EN = 1 ∧ s.reg (axU a) Axis.ID_VALID = 0 then some (St.AXIS_UNIDENTIFIED, [0]) else none)] ++ pacing)

/-! ### Positions, limits, disturbances -/

/-- End of the previous queued move (RELATIVE). -/
def AxisSt.endOf (x : AxisSt) : Int :=
  match x.queue.getLast? with
  | some m => m.target
  | none => match x.kept with
    | some m => m.target
    | none => match x.move with | some m => m.target | none => x.whole
/-- Soft limits of a set, and of the set in force. -/
def softIn (s : State) (m : RegMap) (a : Nat) (t : Int) : Bool :=
  let v := fun f => vw s m (axU a) f
  v Axis.SOFT_EN == 0 || (pos40 (v Axis.SOFT_MIN_LO) (v Axis.SOFT_MIN_HI) ≤ t && t ≤ pos40 (v Axis.SOFT_MAX_LO) (v Axis.SOFT_MAX_HI))
def State.softOk (s : State) (a : Nat) (t : Int) : Bool := softIn s s.active a t
/-- The limit input in a direction, when it is in use and active. -/
def State.limitAt (s : State) (a : Nat) (dir : Int) : Option Nat :=
  let k := if 0 < dir then 0 else 1
  if dir = 0 ∨ !tbit (s.reg (axU a) Axis.INPUTS) k then none else some k
/-- The level of AXn_EN: active while the outputs are enabled, in the sense that EN_LOW gives it (R351, R364, R373). -/
def State.axisEnPin (s : State) (a : Nat) : Bool := let x := s.axis a
  (x.enabled && !x.off) != (s.act (axU a) Axis.EN_LOW == 1)
/-- The motor holds: a bridge is enabled, or a drive is. -/
def AxisSt.holds (x : AxisSt) : Bool := x.enabled && !x.off
/-- The position is disturbed (R366). -/
def State.axisDisturb (s : State) (a : Nat) : State :=
  let u := axU a
  let e := (s.reg u Axis.POS_EPOCH + 1) % 65536
  (((s.set u Axis.POS_EPOCH e).set u Axis.REF_UNVERIFIED 1).set u Axis.HOMED 0).raise Ev.AXIS_REF_LOST u e
/-- POS_EPOCH steps without a disturbance. -/
def State.epochStep (s : State) (a : Nat) : State := s.set (axU a) Axis.POS_EPOCH ((s.reg (axU a) Axis.POS_EPOCH + 1) % 65536)
/-- A move of a linked group is the present, the kept or a queued one. -/
def AxisSt.has (x : AxisSt) (link : Nat) : Bool := (x.move.toList ++ x.kept.toList ++ x.queue).any (fun m => m.link == link)
/-- The linked group of an axis. -/
def State.linkOf (s : State) (a : Nat) : Option AxLink :=
  let x := s.axis a
  match x.move.orElse (fun _ => x.kept.orElse (fun _ => if x.gen = 5 then x.queue.head? else none)) with
  | some m => if m.link = 0 then none else s.links.find? (fun l => l.id == m.link)
  | none => none
def State.modLink (s : State) (id : Nat) (f : AxLink → AxLink) : State :=
  { s with links := s.links.map (fun l => if l.id = id then f l else l) }

/-! ### Stops (R361) -/

/-- The generator brakes to rest without jerk. -/
def AxisSt.brake (x : AxisSt) (dec after : Nat) : AxisSt :=
  { x with gen := 2, stopDec := dec, after := after, prof := { v := x.prof.v } }
/-- Keep the present move as the remainder. A motion of a homing sequence, an identification or the scan is no move of the host. -/
def AxisSt.keep (x : AxisSt) (epoch : Nat) : AxisSt :=
  match x.move with
  | some m => if x.owner = 0 then { x with kept := some m, keptEpoch := epoch, move := none, replaced := false } else { x with move := none, replaced := false }
  | none => x
/-- Keep the head of the queue of an axis that has no move and keeps none. -/
def AxisSt.keepHead (x : AxisSt) (epoch : Nat) : AxisSt :=
  match x.queue with
  | n :: q => if x.move.isSome || x.kept.isSome then x else { x with queue := q, kept := some n, keptEpoch := epoch }
  | [] => x
/-- What a stop of a linked group does to a member: it keeps its remainder, or the move that it has not taken up again; one that waits is at rest, and one that runs stops with the path. -/
def AxisSt.linkKeep (x : AxisSt) (link epoch : Nat) : AxisSt :=
  if x.gen = 4 then { x.keep epoch with gen := 0 }
  else if x.gen = 5 ∧ x.move.isSome then x.keep epoch
  else if x.queue.head?.any (fun m => m.link == link) then x.keepHead epoch else x
/-- Every member of a linked group stops together (R360). -/
def State.linkStop (s : State) (l : AxLink) : State :=
  let s := l.members.foldl (fun (s : State) m => (s.modAxis m.1 (fun y => y.linkKeep l.id (s.reg (axU m.1) Axis.POS_EPOCH))).axisRegs m.1) s
  s.modLink l.id (fun l => { l with stopping := true })
/-- Stop a member, or every member of its linked group with the deceleration of the path (R360). `dec` in microsteps/s². -/
def State.axisStop (s : State) (a : Nat) (dec : Nat) : State :=
  let x := s.axis a
  match s.linkOf a with
  | some l => s.linkStop l
  | none =>
    if x.gen = 2 then (s.modAxis a (fun x => { (x.keep (s.reg (axU a) Axis.POS_EPOCH)) with stopDec := max x.stopDec (convA dec), after := if x.after = 1 then 0 else x.after })).axisRegs a
    else if x.gen = 1 ∨ x.gen = 3 then (s.modAxis a (fun x => (x.keep (s.reg (axU a) Axis.POS_EPOCH)).brake (convA dec) 0)).axisRegs a
    else s
/-- Stop at once, where the motor is no longer driven along; the other members of a linked group stop with their path. -/
def State.axisHalt (s : State) (a : Nat) : State :=
  let s := match s.linkOf a with | some l => s.linkStop l | none => s
  (s.modAxis a (fun x => { (x.keep (s.reg (axU a) Axis.POS_EPOCH)) with gen := 0, prof := {}, after := 0 })).axisRegs a
/-- A homing sequence or an identification ends with a status (R376, R380). One that ends early has not set POS. -/
def State.axisWorkEnd (s : State) (a op status : Nat) (data : List Nat) : State :=
  let back := if status = St.OK then 0 else match (s.axis a).home with | some h => h.shift | none => 0
  let s := s.modAxis a (fun x => { x with home := none, ident := none, owner := 0, pos := x.pos - back })
  match s.workOf op (axU a) with
  | some w => (s.workEnd w status data).axisRegs a
  | none => s.axisRegs a
/-- A homing sequence ends early with a quick stop (R380). -/
def State.homeFail (s : State) (a status input : Nat) : State :=
  let s := s.modAxis a (fun x => { (if x.prof.v = 0 then { x with gen := 0, prof := {} } else x.brake (convA (s.act (axU a) Axis.AQUICK)) 0) with move := none })
  s.axisWorkEnd a 0x46 status [input]
/-- A fault of R364. -/
def State.axisFault (s : State) (a code : Nat) : State :=
  let u := axU a
  let s := ((s.set u Axis.FAULT code).raise Ev.AXIS_FAULT u code).modAxis a (fun x => { x with faulted := code })
  -- a stalled bridge holds its last angle at I_HOLD
  let s := if code = 3 then s.modAxis a (fun x => { x with lastMoving := none }) else s
  let work := (s.axis a).home.isSome || (s.axis a).ident.isSome
  let linked := (s.linkOf a).isSome
  let s := if code = 1 ∨ code = 2 ∨ code = 6 then s.axisStop a (s.act u Axis.AQUICK) else s.axisHalt a
  let s := if code = 3 ∨ code = 4 ∨ code = 5 then s.axisDisturb a else s
  let s := if code = 5 then (s.modAxis a (fun x => { x with off := true, kept := if linked then x.kept else none, dutyA := 0, dutyB := 0 })).fenceUnit u Fr.EXTERNAL_FAULT else s
  let s := if work then
      let op := if (s.axis a).home.isSome then 0x46 else 0x45
      if code = 5 then s.axisWorkEnd a op St.FENCED [u] else s.axisWorkEnd a op St.ABORTED [0]
    else s
  s.axisRegs a

/-! ### Starting moves (R353, R356 to R360, R363) -/

/-- Every member has reached its linked move: all start at the update after tick t (R359). -/
def State.linkReady (s : State) (l : AxLink) (t : Nat) : State :=
  if l.startAt.isNone && l.members.all (fun m => (s.axis m.1).gen == 4) then s.modLink l.id (fun l => { l with startAt := some (t + 16), upd := t })
  else s
/-- A member takes up its linked move: its start and signed distance (R360). After a stop the path begins anew, as the move has it (R362). -/
def State.linkEnter (s : State) (a : Nat) (m : AxMove) (t : Nat) : State :=
  let p0 := (s.axis a).whole
  let s := s.modLink m.link (fun l => if !l.stopping then l else
    { l with s := 0, dmax := 0, prof := {}, startAt := none, stopping := false, speed := m.speed, accel := m.accel, decel := m.decel, jerk := m.jerk })
  let s := s.modAxis a (fun x => { x with move := some m, gen := 4, prof := {}, set := RegMap.ofUid s.active (axU a) })
  let s := s.modLink m.link (fun l => { l with members := l.members.map (fun y => if y.1 = a then (a, p0, m.target - p0) else y) })
  match s.links.find? (fun l => l.id == m.link) with
  | some l => s.linkReady l t
  | none => s
/-- Path values with the ratio of R360: no member above its VMAX and AMAX. -/
def State.linkScaled (s : State) (l : AxLink) : AxLink :=
  let dmax := (l.members.map (fun m => m.2.2.natAbs)).foldl max 0
  let lim := fun (f : Field) (v : Nat) (m : Nat × Int × Int) => (s.act (axU m.1) f * dmax, v * m.2.2.natAbs)
  let worse := fun (r q : Nat × Nat) => if q.1 * r.2 < r.1 * q.2 then q else r
  let (n, d) := (l.members.flatMap (fun m => [lim Axis.VMAX l.speed m, lim Axis.AMAX l.accel m, lim Axis.AMAX l.decel m])).foldl
    (fun r q => if q.2 = 0 then r else worse r q) (1, 1)
  let sc := fun v => if d = 0 then v else v * n / d
  { l with dmax := dmax, speed := sc l.speed, accel := sc l.accel, decel := sc l.decel, jerk := sc l.jerk }
/-- A move begins at tick t, with speed `v` carried across a joint. -/
def State.moveBegin (s : State) (a : Nat) (m : AxMove) (v t : Nat) : State :=
  if m.link != 0 then s.linkEnter a m t
  else
    let x := s.axis a
    let d := m.target * ustep - x.pos
    let dir : Int := if d < 0 then -1 else if 0 < d then 1 else x.dir
    let s := s.modAxis a (fun x => { x with move := some m, gen := 1, dir := dir, prof := { v := v }, set := RegMap.ofUid s.active (axU a) })
    match (if d = 0 then none else s.limitAt a dir) with
    | some k => s.axisFault a (k + 1)
    | none => s
/-- A move has reached its target (R355): the event of NOTIFY, then the next move, across a joint when it goes the same way. -/
def State.moveEnd (s : State) (a t : Nat) : State :=
  let x := s.axis a
  let ev := match x.move with | some m => m.notify | none => false
  let tag := match x.move with | some m => m.tag | none => 0
  let s := if ev then s.raise Ev.AXIS_MOVE_DONE (axU a) tag else s
  let s := s.modAxis a (fun x => { x with move := none, gen := 0, replaced := false, prof := { v := x.prof.v } })
  match x.queue with
  | n :: q =>
    if x.prof.v != 0 && x.owner = 0 then (s.modAxis a (fun x => { x with queue := q })).moveBegin a n x.prof.v t
    else s.modAxis a (fun x => { x with prof := {} })
  | [] => s.modAxis a (fun x => { x with prof := {} })
/-- The axis is at rest, keeps nothing and is free to begin the head of its queue (R353). A fenced axis accepts no work (R26). -/
def State.mayStart (s : State) (a : Nat) : Bool :=
  let x := s.axis a
  x.gen == 0 && x.kept.isNone && x.home.isNone && x.ident.isNone && x.owner == 0 && s.reg (axU a) Axis.OWNED == 0 && !s.fenced (axU a)
/-- A stop that comes after a move and before its first update keeps that move: both take effect in the order of their commands (R363). -/
def State.headKept (s : State) (a : Nat) : State :=
  let x := s.axis a
  if x.home.isSome || x.ident.isSome || x.owner != 0 || s.reg (axU a) Axis.OWNED == 1 then s
  else (s.modAxis a (fun x => x.keepHead (s.reg (axU a) Axis.POS_EPOCH))).axisRegs a
/-- A motion of the device's own, at rest or in motion: it goes on towards its target where that lies ahead and can be reached by braking as the new move does; otherwise the axis
brakes first, and the move begins from rest (R357, R358, R376, R381). `dec`: the deceleration of what runs, as the generator takes it. -/
def AxisSt.turnTo (x : AxisSt) (m : AxMove) (dec : Nat) : AxisSt :=
  if x.prof.v = 0 then { x with gen := 1, after := 0, move := some m, dir := if m.target * ustep < x.pos then -1 else 1, prof := {} }
  else if Int.ofNat (brakeDist x.prof.v 0 (convA m.decel)) ≤ (m.target * ustep - x.pos) * x.dir * 2 ^ 16 then
    { x with gen := 1, after := 0, move := some m, prof := { v := x.prof.v } }
  else { x.brake dec 1 with move := some m }
/-- The deceleration with which a motion ends (R358): its own, or that of the stop that runs. -/
def AxisSt.ownDec (x : AxisSt) (other : Nat) : Nat :=
  if x.gen = 2 then x.stopDec else match x.move with | some o => convA o.decel | none => other
/-- An axis leaves a linked group, which stops. -/
def State.linkLeave (s : State) (a : Nat) : State :=
  match s.linkOf a with
  | some l =>
    let s := (s.linkStop l).modLink l.id (fun l => { l with members := l.members.filter (fun (m : Nat × Int × Int) => m.1 != a) })
    { s with links := s.links.filter (fun l => l.members != []) }
  | none => s
def State.queueStart (s : State) (a t : Nat) : State :=
  let x := s.axis a
  match x.queue with
  | n :: q =>
    -- a linked move begins when its path rests
    let free : Bool := n.link == 0 || (match s.links.find? (fun l => l.id == n.link) with | some l => l.members.all (fun m => (s.axis m.1).gen != 5) | none => true)
    if s.mayStart a && free
    then (s.modAxis a (fun x => { x with queue := q })).moveBegin a n 0 t else s
  | [] => s

/-! ### The update (R349, R354 to R360) -/

/-- Carries of R349 between two positions become STEP pulses in STEP_DIR (R375). A move in the negative direction from PHASE 0 borrows in its first update, in which DIR may change:
that pulse waits for DIR_SETUP (DESIGN CHOICE, log entry 87). -/
def AxisSt.stepPins (x : AxisSt) (mode setup : Nat) (inv : Bool) (p0 : Int) (t : Nat) : AxisSt :=
  let n := (sar x.pos 48 - sar p0 48).natAbs
  let x := if x.prof.v = 0 then x else { x with lastMoving := some t }
  if mode != 2 || x.off then x
  else
    let pin := if x.pos != p0 then decide (x.pos < p0) != inv else if x.prof.v = 0 then x.dirPin else decide (x.dir < 0) != inv
    let x := if pin = x.dirPin then x else { x with dirPin := pin, dirAt := some t }
    if n = 0 then x else { x with steps := x.steps + n, stepAt := some (match x.dirAt with | some d => max t (d + setup) | none => t) }
/-- One update of the generator of an axis that is not in a linked move. Answers the axis, and what ended: 0 nothing, 1 a move, 2 a stop. -/
def AxisSt.genStep (x : AxisSt) : AxisSt × Nat :=
  if x.gen = 1 then
    match x.move with
    | none => ({ x with gen := 0 }, 0)
    | some m =>
      let left := ((m.target * ustep - x.pos) * x.dir).toNat
      if left = 0 then ({ x with pos := m.target * ustep, prof := { v := min x.prof.v x.prof.ve } }, 1) else
      let ve := jointSpeed m x.dir (if x.owner = 0 then x.queue.head? else none)
      let (p, d, done) := x.prof.step (convV64 m.speed) (convA m.accel) (convA m.decel) (convJ m.jerk) ve left
      let x := { x with prof := p, pos := if done then m.target * ustep else x.pos + x.dir * Int.ofNat d }
      (x, b2n done)
  else if x.gen = 2 then
    let v := x.prof.v - x.stopDec
    ({ x with prof := { v := v }, pos := x.pos + x.dir * Int.ofNat (v / 2 ^ 16) }, if v = 0 then 2 else 0)
  else if x.gen = 3 then
    let v := if x.prof.v ≤ x.speedT then min x.speedT (x.prof.v + x.speedA) else max x.speedT (x.prof.v - x.speedA)
    ({ x with prof := { v := v }, pos := x.pos + x.dir * Int.ofNat (v / 2 ^ 16) }, 0)
  else (x, 0)
/-- The path of a linked group moves on to update t, once for all members. -/
def State.linkStep (s : State) (l : AxLink) (t : Nat) : State :=
  match l.startAt with
  | none => s
  | some t0 =>
    if t < t0 ∨ t ≤ l.upd then s else
    let l := if l.s = 0 ∧ l.prof.v = 0 ∧ l.dmax = 0 then s.linkScaled l else l
    let left := l.dmax * 2 ^ 48 - l.s
    let (p, d) := if l.stopping then
        let v := l.prof.v - convA l.decel
        ({ v := v }, min left (v / 2 ^ 16))
      else if left = 0 then ({}, 0)
      else
        let r := l.prof.step (convV64 l.speed) (convA l.accel) (convA l.decel) (convJ l.jerk) 0 left
        (r.1, r.2.1)
    s.modLink l.id (fun _ => { l with s := l.s + d, prof := p, upd := t })
/-- The position of a member on the path (R360). -/
def linkPos (l : AxLink) (m : Nat × Int × Int) : Int :=
  let q := l.s * m.2.2.natAbs
  let n := if l.dmax = 0 then 0 else (q + l.dmax * 2 ^ 47) / (l.dmax * 2 ^ 48)
  m.2.1 + (if m.2.2 < 0 then -1 else 1) * Int.ofNat n
/-- A member follows its path at update t. -/
def State.linkMember (s : State) (a t : Nat) : State :=
  match s.linkOf a with
  | none => s.modAxis a (fun x => { x with gen := 0, prof := {} })
  | some l =>
    let s := s.linkStep l t
    match s.links.find? (fun k => k.id == l.id) with
    | none => s
    | some l =>
      match l.startAt, l.members.find? (fun m => m.1 == a) with
      | some t0, some m =>
        if t < t0 then s else
        let p := linkPos l m * ustep
        let pv := if l.dmax = 0 then 0 else l.prof.v * m.2.2.natAbs / l.dmax
        let s := s.modAxis a (fun x => { x with gen := 5, pos := p, dir := if m.2.2 < 0 then -1 else 1, prof := { v := pv } })
        let done := l.s = l.dmax * 2 ^ 48 ∧ l.stopping = false
        if done then
          let s := s.modAxis a (fun x => { x with pos := (m.2.1 + m.2.2) * ustep, prof := {} })
          let s := s.modLink l.id (fun l => { l with members := l.members.filter (fun k => k.1 != a) })
          let s := s.moveEnd a t
          { s with links := s.links.filter (fun l => l.members != []) }
        else if l.stopping && l.prof.v == 0 then
          (s.modAxis a (fun x => { (x.keep (s.reg (axU a) Axis.POS_EPOCH)) with gen := 0, prof := {} }))
        else s
      | _, _ => s
/-- The commanded position passes to the line clocks that follow the axis (R195, R381). -/
def State.axisToClocks (s : State) (a t : Nat) (p0 p1 : Int) : State :=
  (scanUsers s s.active a).foldl (fun s p =>
    let s := s.modLc p (fun c => { c with axis := some (t, p0, p1) })
    if (s.lc p).belayHold then s else s.lcPass p (sar p0 16) t) s
/-- Whether a move that may leave the soft limits does so (fault 6 of R364): a coordinated or replaced one, or a homing sequence that has set the position (R368). The limits are
those of the set under which it started (R352). -/
def State.softFault (s : State) (a : Nat) : Bool :=
  let x := s.axis a
  let home := match x.home with | some h => h.latched | none => false
  ((x.gen == 5 && x.move.isSome) || (x.gen == 2 && x.after == 1 && x.owner == 0) || home) && x.prof.v != 0 &&
  !softIn s x.set a (if x.dir < 0 then sar x.pos 48 else -(sar (-x.pos) 48))

/-! ### Homing (R379, R380) -/

/-- The steps of a sequence. -/
def homeSteps (seq : Nat) (dir : Int) : List HStep :=
  match seq with
  | 1 => [.run dir true 0 false, .stop, .run (-dir) false 1 true, .stop]
  | 2 => [.run dir true 0 false, .stop, .run (-dir) false 1 false, .run (-dir) false 2 true, .stop]
  | 3 => [.run dir true 0 false, .stop, .back, .run dir false 0 true, .stop]
  | 4 => [.run dir false 3 true, .back]
  | 5 => [.run dir false 2 true, .stop]
  | _ => []
/-- The input that a homing sequence treats as its switch. -/
def HomeSt.switch (h : HomeSt) : Nat := if h.src = 0 then 2 else if 0 < h.dir then 0 else 1
def State.inputActive (s : State) (a k : Nat) : Bool := tbit (s.reg (axU a) Axis.INPUTS) k
/-- The homing sequence has run all its steps: it ends at rest (R379). -/
def State.homeDone (s : State) (a : Nat) : State :=
  match (s.axis a).home with
  | none => s
  | some h =>
    let u := axU a
    let s := if h.seq = 6 then s.modAxis a (fun x => { x with pos := h.homePos * ustep }) else s
    let s := (s.set u Axis.HOMED 1).set u Axis.REF_UNVERIFIED 0
    let lp := low 40 h.homePos
    let s := (s.set u Axis.LATCH_LO (lo32 lp)).set u Axis.LATCH_HI (lp / 2 ^ 32)
    let s := s.modAxis a (fun x => { x with latchBy := if h.latchBy = 15 ∨ !([2, 3, 5].contains h.seq) then none else some (h.latchBy, h.latchDir), latchAt := h.homePos, gen := 0, prof := {}, move := none })
    let p := low 40 (s.axis a).whole
    s.axisWorkEnd a 0x46 St.OK [lo32 p, p / 2 ^ 32]
/-- Begin the step at the head of the sequence; one that is met already is passed. -/
def State.homeNext (s : State) (a : Nat) : Nat → State
  | 0 => s
  | k + 1 =>
    match (s.axis a).home with
    | none => s
    | some h =>
      match h.steps with
      | [] => s.homeDone a
      | .run d fast w _ :: rest =>
        if (w = 0 ∧ s.inputActive a h.switch) ∧ fast then
          State.homeNext (s.modAxis a (fun x => { x with home := some { h with steps := rest } })) a k
        else
          let v := convV64 (if fast then h.searchSpeed else h.latchSpeed)
          s.modAxis a (fun x => { x with
            gen := 3, dir := d, speedT := v, speedA := convA h.accel,
            prof := if x.dir = d then x.prof else {}, home := some { h with from_ := x.pos, running := true } })
      | .stop :: rest =>
        if (s.axis a).prof.v = 0 then State.homeNext (s.modAxis a (fun x => { x with gen := 0, home := some { h with steps := rest } })) a k
        else s.modAxis a (fun x => { (x.brake (convA h.accel) 2) with home := some { h with running := false } })
      | .back :: _ =>
        let t := (s.axis a).whole - h.dir * Int.ofNat h.backoff
        s.modAxis a (fun x => { x with
          gen := 1, owner := 1, dir := -h.dir, prof := {}, home := some { h with running := false },
          move := some { target := t, speed := h.latchSpeed, accel := h.accel, decel := h.accel, jerk := 0, tag := 0, notify := false } })
/-- The step at the head has ended. -/
def State.homePop (s : State) (a : Nat) : State :=
  (s.modAxis a (fun x => { x with owner := 0, home := x.home.map (fun h => { h with steps := h.steps.drop 1, running := false }) })).homeNext a 8
/-- The awaited point of a run has been found at a commanded position: latch it where the step says so, and go on (R379). -/
def State.homeFound (s : State) (a w : Nat) (at_ : Int) (input : Nat) : State :=
  match (s.axis a).home with
  | some h =>
    match h.steps with
    | .run d _ w' latch :: _ =>
      if w != w' || !h.running then s else
      let by_ := h.homePos * ustep - at_
      let s := if !latch then s else s.modAxis a (fun x => { x with
        pos := x.pos + by_, home := some { h with latched := true, shift := by_, latchBy := input, latchDir := d } })
      s.homePop a
    | _ => s
  | none => s
/-- SEARCH_MAX has been travelled without the awaited edge (R380). -/
def State.homeLimit (s : State) (a : Nat) : State :=
  match (s.axis a).home with
  | some h => if h.running ∧ h.searchMax * 2 ^ 48 ≤ ((s.axis a).pos - h.from_).natAbs then s.homeFail a St.HOME_NOT_FOUND 0xFF else s
  | none => s

/-! ### Identification (R376) -/

/-- Begin a motion of AXIS_IDENTIFY. -/
def State.identMove (s : State) (a : Nat) (i : IdentSt) (target : Int) : State :=
  let am := s.act (axU a) Axis.AMAX
  s.modAxis a (fun x => { x.turnTo { target := target, speed := i.speed, accel := am, decel := am, jerk := 0, tag := 0, notify := false } (convA am) with
    owner := 2, ident := some i })
/-- The forward run of the back-EMF measurement is long enough: 100 electrical cycles, or all of ID_DIST where that is less (R376; log entry 87). -/
def State.identRan (s : State) (a : Nat) (i : IdentSt) : Bool :=
  i.phase != 2 || (min 102400 i.dist) * 2 ^ 48 ≤ ((s.axis a).pos - i.start * ustep).natAbs
/-- The duties that AXIS_IDENTIFY gives a resting motor (R376): angle 0 at I_RUN and, after 50 ms, at half of it; then a quarter of the supply more on phase A. -/
def identDuties (i : IdentSt) (r run vm t : Nat) : Option (Int × Int) :=
  let at_ := fun (ma : Nat) => fdiv (Int.ofNat (r * ma) * 4095 + fdiv (Int.ofNat vm * 1000) 2) (Int.ofNat vm * 1000)
  if i.phase = 0 then some (at_ (if t < i.since + 80000000 then run else run / 2), 0)
  else if i.phase = 1 then some (at_ (run / 2) + 1024, 0)
  else none
/-- Two results agree within n %: R 2 %, L and KE 5 % (R376). -/
def identAgree (q a b : Nat) : Bool := (max a b - min a b) * 100 ≤ (if q = 0 then 2 else 5) * min a b
/-- A measurement phase has ended with a value (IDENTIFY_PHASE_DONE). The written result lies between the two that agree (log entry 21). -/
def State.identPhase (s : State) (a val : Nat) : State :=
  match (s.axis a).ident with
  | none => s
  | some i =>
    let x := s.axis a
    if i.back then
      -- the return is complete when the axis rests at its start
      if x.gen != 0 then s
      else if i.phase = 3 then
        let u := axU a
        let r := nth i.results 0
        let l := nth i.results 1
        let k := nth i.results 2
        let s := (((s.set u Axis.R_ID r).set u Axis.L_ID l).set u Axis.KE_ID k).set u Axis.ID_VALID 1
        let s := s.set u Axis.UNIDENTIFIED 0
        s.axisWorkEnd a 0x45 St.OK [r, l, k, i.total]
      else s.identMove a { i with back := false } (i.start + Int.ofNat i.dist)
    else if !s.identRan a i then s
    else
      let i := { i with since := s.now }
      let next := match i.first with
        | none => { i with first := some val }
        | some f =>
          if identAgree i.phase f val then
            let lo := min f val
            let pick := lo + Config.freeNat s.draw % (max f val - lo + 1)
            { i with first := none, phase := i.phase + 1, tries := 0, total := i.total + 1, results := i.results ++ [pick] }
          else { i with first := none, tries := i.tries + 1, total := i.total + 1 }
      let s := { s with draw := s.draw + 1 }
      if next.tries = 4 then
        let s := s.modAxis a (fun x => if x.prof.v = 0 then { x with gen := 0, move := none } else { (x.brake (convA (s.act (axU a) Axis.AQUICK)) 0) with move := none })
        s.axisWorkEnd a 0x45 St.CAL_DISAGREE [next.phase, 0, 0, next.total]
      else if i.phase = 2 then s.identMove a { next with back := true } i.start
      else if next.phase = 2 then s.identMove a next (i.start + Int.ofNat i.dist)
      else s.modAxis a (fun x => { x with ident := some next })

/-! ### One update -/

/-- What ended in an update leads on: a move, a stop, a homing step. -/
def State.axisEnded (s : State) (a t what : Nat) : State :=
  let x := s.axis a
  if what = 1 then
    if x.owner = 1 then (s.modAxis a (fun x => { x with move := none, gen := 0, prof := {} })).homePop a
    else if x.owner = 0 then s.moveEnd a t
    else s.modAxis a (fun x => { x with move := none, gen := 0, prof := {}, owner := if x.owner = 2 then 0 else x.owner })
  else if what = 2 then
    let s := s.modAxis a (fun x => { x with gen := 0, prof := {} })
    if x.after = 1 then (match x.move with | some m => s.moveBegin a m 0 t | none => s)
    else if x.after = 2 then s.homePop a
    else s
  else s
/-- The update at tick t (AXIS_UPDATE), but for what the scan sequencer adds. -/
def State.axisUpdate (s : State) (a t : Nat) : State :=
  let s := match (s.axis a).setPos with
    | some p => s.modAxis a (fun x => { x with pos := p * ustep, setPos := none })
    | none => s
  let s := match (s.axis a).home with
    | some h => if h.steps = [] ∧ (s.axis a).gen = 0 then s.homeDone a else s
    | none => s
  let s := s.queueStart a t
  let p0 := (s.axis a).pos
  let g := (s.axis a).gen
  let s := if g = 4 ∨ g = 5 then s.linkMember a t
    else
      let (x, what) := (s.axis a).genStep
      (s.modAxis a (fun _ => x)).axisEnded a t what
  let s := if s.softFault a then s.axisFault a 6 else s
  let s := s.homeLimit a
  let mode := s.act (axU a) Axis.MODE
  let inv := s.act (axU a) Axis.DIR_INV == 1
  let s := s.modAxis a (fun x => { (x.stepPins mode (s.act (axU a) Axis.DIR_SETUP) inv p0 t) with upd := t })
  (s.axisToClocks a t p0 (s.axis a).pos).axisRegs a

/-! ### Bridge (R367 to R374) -/

/-- Motor values in use: identified or from the data sheet (R369). -/
def State.motor (s : State) (a : Nat) : Nat × Nat × Nat :=
  let u := axU a
  if s.reg u Axis.ID_VALID = 1 then (s.reg u Axis.R_ID, s.reg u Axis.L_ID, s.reg u Axis.KE_ID)
  else (s.act u Axis.R_NOM, s.act u Axis.L_NOM, s.act u Axis.KE_NOM)
/-- The current amplitude: I_RUN while moving or within HOLD_DELAY, then I_HOLD; I_HOME in a hard-stop search (R369, R379). -/
def State.motorI (s : State) (a t : Nat) : Nat :=
  let x := s.axis a
  let u := axU a
  let m := if x.motion = 0 then s.active else x.set
  let run := vw s m u Axis.I_RUN
  match x.home.bind (fun h => if h.seq = 4 ∧ h.running then some h.iHome else none) with
  | some i => i
  | none =>
    if x.prof.v != 0 || x.ident.isSome then run
    else match x.lastMoving with
      | some l => if t ≤ l + vw s m u Axis.HOLD_DELAY * 1600000 then run else vw s m u Axis.I_HOLD
      | none => vw s m u Axis.I_HOLD
/-- Ticks of a PWM period (R367). -/
def State.pwmTicks (s : State) (a : Nat) : Nat := 1600000000 / (max 1 (s.act (axU a) Axis.PWM_KHZ) * 1000)
/-- A PWM period begins (PWM_PERIOD). `cycle`: the back-EMF estimate of an electrical cycle that has just ended, in µV (R374). -/
def State.pwmPeriod (s : State) (a t : Nat) (cycle : Option Nat) : State :=
  let x := s.axis a
  let u := axU a
  if s.act u Axis.MODE != 1 || !x.enabled || x.off || t < x.pwmAt then s else
  -- the duties computed in the last period take effect
  let s := (s.set u Axis.DUTY_A (low 16 x.dutyA)).set u Axis.DUTY_B (low 16 x.dutyB)
  let vm := s.reg u Axis.VMOT_MV
  let (r, l, ke) := s.motor a
  let vel := velOf x.v48
  let unid := s.reg u Axis.UNIDENTIFIED == 1
  let fixed := match x.ident with | some i => identDuties i r (s.motorI a t) vm t | none => none
  let (d, sat) := if x.vmotLow ∨ vm = 0 then ((0, 0), false)
    else dutiesScaled (fixed.getD (dutiesOf x.whole vel (Int.ofNat (s.act u Axis.ELEC_OFS)) (s.act u Axis.DIR_INV == 1) (Int.ofNat r) (Int.ofNat l)
      (Int.ofNat ke) (Int.ofNat (s.motorI a t)) (Int.ofNat vm) unid))
  let s := s.set u Axis.VOLTAGE_LIMIT (b2n sat)
  let s := if sat then s.bump u Axis.VLIMIT_UPDATES else s
  let s := if sat && !x.saturated then s.raise Ev.AXIS_VLIMIT u (low 16 vel) else s
  let s := s.modAxis a (fun x => { x with dutyA := d.1, dutyB := d.2, saturated := sat, pwmAt := t + s.pwmTicks a })
  -- stall detection
  let hard := match x.home with | some h => h.running && (match h.steps with | .run _ _ 3 _ :: _ => true | _ => false) | none => false
  let on := (s.act u Axis.STALL_EN == 1 && x.prof.v != 0) || hard
  match cycle with
  | none => s
  | some e =>
    let wE := (sar (vel * 6433982 + 2 ^ 19) 20).natAbs
    let low_ := on && s.reg u Axis.ID_VALID == 1 && 1024 ≤ vel.natAbs && e * 256 * 1000 < s.act u Axis.STALL_FRAC * ke * wE
    let s := s.modAxis a (fun x => { x with stallRun := if low_ then x.stallRun + 1 else 0 })
    if (s.axis a).stallRun < max 1 (s.act u Axis.STALL_CYCLES) then s
    else
      let s := s.modAxis a (fun x => { x with stallRun := 0 })
      if hard then (s.modAxis a (fun x => { x with prof := {} })).homeFound a 3 (s.axis a).pos 15
      else s.axisFault a 3
/-- One reading of the two motor supplies in mV (VMOT_SAMPLE, R370, R364). -/
def State.vmotSample (s : State) (mv0 mv1 : Nat) : State :=
  let push := fun l (v : Nat) => (v :: l).take 4
  let s := { s with vmot := [push (s.vmot.getD 0 []) mv0, push (s.vmot.getD 1 []) mv1] }
  (List.range 8).foldl (fun s a =>
    let u := axU a
    let l := s.vmot.getD (s.act u Axis.VMOT_SEL) []
    let mean := l.foldl (· + ·) 0 / max 1 l.length
    let s := s.set u Axis.VMOT_MV mean
    let low_ := mean < 8000
    let was := (s.axis a).vmotLow
    if s.act u Axis.MODE != 1 then s.modAxis a (fun x => { x with vmotLow := low_ })
    else
      let s := s.modAxis a (fun x => { x with vmotLow := low_ })
      if low_ && !was then (s.modAxis a (fun x => { x with dutyA := 0, dutyB := 0 })).axisFault a 4 else s) s
/-- MODE and the data-sheet values in force are taken up (R366, R373, R377): called after commits of the axis page come into force. -/
def State.axisSync (s : State) (a : Nat) : State :=
  let u := axU a
  let x := s.axis a
  let mode := s.act u Axis.MODE
  let nom := [s.act u Axis.R_NOM, s.act u Axis.L_NOM, s.act u Axis.KE_NOM]
  let s := if nom = x.nom then s else (s.modAxis a (fun x => { x with nom := nom })).set u Axis.ID_VALID 0
  let s := s.set u Axis.UNIDENTIFIED (b2n (s.reg u Axis.ID_VALID == 0 && mode != 2))
  if mode = x.mode then s
  else
    let held := x.holds
    let s := s.modAxis a (fun x => { x with mode := mode, enabled := mode != 0, driven := true, pwmAt := s.now, dutyA := 0, dutyB := 0, lastMoving := none })
    let s := if mode = 1 then s else (s.set u Axis.DUTY_A 0).set u Axis.DUTY_B 0
    (if (mode = 0 ∨ x.mode = 1) ∧ held then s.axisDisturb a else s).axisRegs a

/-! ### Inputs (R378) -/

/-- The position latched by an input. -/
def State.axisLatch (s : State) (a : Nat) (p : Int) : State :=
  let w := low 40 (sar p 48)
  (s.set (axU a) Axis.LATCH_LO (lo32 w)).set (axU a) Axis.LATCH_HI (w / 2 ^ 32)
/-- The input that a homing step waits for. -/
def HomeSt.awaited (h : HomeSt) : Nat :=
  match h.steps with | .run _ _ 2 _ :: _ => 3 | _ => h.switch
/-- A raw transition counts towards chatter (R378): more than four within 8 × DEBOUNCE. -/
def State.axisChatter (s : State) (a k : Nat) : State :=
  let win := 8 * s.act (axU a) Axis.DEBOUNCE * 1600
  let old := (((s.axis a).inputs.getD k {}).edges.filter (fun t => s.now ≤ t + win)) ++ [s.now]
  let many := 4 < old.length
  let s := s.modAxis a (fun x => { x with inputs := upd x.inputs k (fun i => { i with edges := if many then [] else old }) })
  if !many then s else
  let s := s.raise Ev.AXIS_CHATTER (axU a) k
  match (s.axis a).home with
  | some h => if k = h.awaited ∨ k < 2 then s.homeFail a St.HOME_CHATTER k else s
  | none => s
/-- Level of an input as active or not. -/
def State.activeLevel (s : State) (a k : Nat) (level : Bool) : Bool := tbit (s.act (axU a) Axis.IN_EN) k && (level != tbit (s.act (axU a) Axis.IN_LOW) k)
/-- The level of an input on its pin. INDEX is not debounced, and a level held in reset counts as debounced (log entry 16). -/
def State.axisLevel (s : State) (a k : Nat) (level : Bool) : State :=
  if 3 < k then s else
  let pos := (s.axis a).pos
  s.modAxis a (fun x => { x with inputs := upd x.inputs k (fun i => if s.sys.inReset || k == 3 then { i with raw := level, deb := level, pend := none }
    else { i with raw := level, pend := if level = i.deb then none else some (s.now, pos) }) })
/-- A raw transition of an input (AXIS_INPUT_TRANSITION). -/
def State.axisRaw (s : State) (a k : Nat) (level : Bool) : State :=
  if 3 < k ∨ ((s.axis a).inputs.getD k {}).raw = level then s else
  let s := s.axisLevel a k level
  if tbit (s.act (axU a) Axis.IN_EN) k then s.axisChatter a k else s
/-- INPUTS shows the debounced levels, and that of INDEX, as IN_EN and IN_LOW in force take them. -/
def State.axisInputs (s : State) (a : Nat) : State :=
  s.set (axU a) Axis.INPUTS ([0, 1, 2, 3].foldl (fun (n : Nat) k => setBit n k (s.activeLevel a k ((s.axis a).inputs.getD k {}).deb)) 0)
/-- A debounced transition counts (AXIS_INPUT_DEBOUNCED, R364, R378 to R380). Answers the latched position and the new active state, none
when no transition is due. -/
def State.axisDebounced (s : State) (a k : Nat) : State × Option (Int × Bool) :=
  let i := (s.axis a).inputs.getD k {}
  match i.pend with
  | none => (s, none)
  | some (t, p) =>
    if s.now < t + s.act (axU a) Axis.DEBOUNCE * 1600 then (s, none)
    else
      let s := s.modAxis a (fun x => { x with inputs := upd x.inputs k (fun i => { i with deb := i.raw, pend := none }) })
      let on := s.activeLevel a k i.raw
      let u := axU a
      let s := s.set u Axis.INPUTS (setBit (s.reg u Axis.INPUTS) k on)
      let used := tbit (s.act u Axis.IN_EN) k
      let s := if k = 2 ∧ used then s.axisLatch a p else s
      let x := s.axis a
      -- a limit in the direction of travel
      let towards := fun (x : AxisSt) => on && k < 2 && x.prof.v != 0 && (if k = 0 then 0 < x.dir else x.dir < 0)
      let s := match x.home with
        | some h =>
          let dirLim := if 0 < h.dir then 0 else 1
          if k = h.switch ∧ h.seq < 4 then (if used then (s.axisLatch a p).homeFound a (b2n (!on)) p k else s)
          else if on && k == 1 - dirLim && h.running then s.homeFail a St.HOME_WRONG_LIMIT k
          else if on && k == dirLim && h.src == 0 && h.running then s.homeFail a St.HOME_NOT_FOUND k
          else if towards x then s.axisFault a (k + 1) else s
        | none => if towards x then s.axisFault a (k + 1) else s
      (s, some (p, on))
/-- A rising active edge of INDEX (INDEX_EDGE): it counts as a transition where the level has not been told of before. -/
def State.axisIndex (s : State) (a : Nat) : State :=
  if !tbit (s.act (axU a) Axis.IN_EN) 3 then s else
  let pos := (s.axis a).pos
  let s := s.axisRaw a 3 (!tbit (s.act (axU a) Axis.IN_LOW) 3)
  (s.axisLatch a pos).homeFound a 2 pos 3

end Sys2Proof.Machine
end

