-- ==== Sys2Proof/Machine/Belay.lean ====
section
/-! DEFINITION. Speedwell and Belay: the scan of table-mode ports (R386 to R403). A Belay keeps line numbers, blocks, blobs and windows as they
stand (R396); its instants follow from the moves themselves (R395). The scan direction is positive (PITCH is unsigned). -/
namespace Sys2Proof.Machine
open R

/-- BELAY_STATE and its setter. -/
def State.belayState (s : State) (a : Nat) : Nat := s.reg (axU a) Belay.BELAY_STATE
/-- The bound ports of an axis (R386): table-mode ports that run a job and name it. -/
def State.boundPorts (s : State) (a : Nat) : List Nat :=
  s.portsOn.filter (fun p => !s.webMode p && s.act (lcU p) Lc.AXIS_SEL == a && (s.port p).jobOn && (s.port p).capture.isNone)
def State.setBelay (s : State) (a st : Nat) : State :=
  let s := s.set (axU a) Belay.BELAY_STATE st
  let wait := st == 4 || st == 7
  ((s.boundPorts a).foldl (fun s p => (s.modPort p (fun x => { x with scanWait := wait })).portRefresh p) s).axisRegs a
/-- The axis moves under the scan sequencer (R381). -/
def State.owned (s : State) (a : Nat) : Bool := s.reg (axU a) Axis.OWNED == 1
/-- D(v) of R389 in microsteps, v in microsteps/s. -/
def State.runUp (s : State) (a v : Nat) : Int :=
  let acc := s.act (axU a) Belay.BELAY_ACCEL
  Int.ofNat ((v * v + 2 * acc - 1) / max 1 (2 * acc) + s.act (axU a) Belay.BELAY_SETTLE)
/-- SCAN_START. -/
def State.scanStart (s : State) (a : Nat) : Int := pos40 (s.act (axU a) Belay.SCAN_START_LO) (s.act (axU a) Belay.SCAN_START_HI)
/-- The full commanded position of the next line of a port that the axis is near, from its X modulo 2^16 microsteps, in 2^-32 microstep. -/
def State.fullX (s : State) (a p : Nat) : Int :=
  let here := sar (s.axis a).pos 16
  here + sgn48 (Int.ofNat (s.lc p).x - here)

/-! ### Speedwell (R392) -/

/-- FILL. -/
def State.fillOf (s : State) (a : Nat) : Nat :=
  ((s.boundPorts a).map (fun p => min (s.ringU p * 64 * 256 / max 1 (s.ringH p)) 255)).foldl max 0
/-- vt. -/
def State.swTarget (s : State) (a fill : Nat) : Nat :=
  let v := fun f => s.act (axU a) f
  if v Belay.SW_EN = 0 ∨ fill ≤ v Belay.SW_MARK then v Belay.SCAN_SPEED
  else v Belay.SCAN_SPEED - (v Belay.SCAN_SPEED - v Belay.SW_MIN_SPEED) * (fill - v Belay.SW_MARK) / (256 - v Belay.SW_MARK)

/-! ### Motion of the sequencer -/

/-- Accelerate towards a speed in the scan direction. -/
def State.scanRun (s : State) (a v64 acc : Nat) : State :=
  s.modAxis a (fun x => { x with gen := 3, owner := 3, dir := 1, speedT := v64, speedA := convA acc, move := none, prof := if x.dir = 1 then { v := x.prof.v } else {} })
/-- Move to a position at BELAY_BACK_SPEED and BELAY_ACCEL. An axis that still moves brakes first, where it must, as what it does would (R381). -/
def State.scanBack (s : State) (a : Nat) (target : Int) : State :=
  let v := s.act (axU a) Belay.BELAY_BACK_SPEED
  let acc := s.act (axU a) Belay.BELAY_ACCEL
  let m : AxMove := { target := target, speed := v, accel := acc, decel := acc, jerk := 0, tag := 0, notify := false }
  let s := s.modAxis a (fun x => { x.turnTo m (x.ownDec (convA (s.act (axU a) Belay.BELAY_DECEL))) with owner := 3 })
  s.setBelay a 3
/-- Line clocks whose line the axis is near follow it again: X is kept modulo 2^16 microsteps, so one whose line lies farther holds until the axis is within 2^14 (R195, R389). -/
def State.scanNear (s : State) (a : Nat) : State :=
  let b := s.belay a
  if b.far = [] then s else
  let near := b.far.filter (fun p => match b.full.find? (fun f => f.1 == p) with | some f => f.2 * 2 ^ 16 < (s.axis a).pos + 2 ^ 62 | none => true)
  (near.foldl (fun (s : State) p => s.modLc p (fun c => { c with belayHold := false })) s).modBelay a (fun b => { b with far := b.far.filter (fun p => !near.contains p) })
/-- The line clocks of an axis that approaches follow it again (R394 steps 7 and 8). A port that waits to rejoin its job is awaited only where no other is. -/
def State.scanFollow (s : State) (a : Nat) : State :=
  let b := s.belay a
  let ps := (s.boundPorts a).filter (fun p => b.passEnd || !b.passEnded.contains p)
  let go := ps.filter (fun p => !(s.port p).rejoin)
  (s.modBelay a (fun b => { b with await := if go = [] then ps else go, far := ps, phase := 0 })).scanNear a
/-- Begin an approach at v_a (R389). -/
def State.scanApproach (s : State) (a : Nat) : State :=
  let s := s.scanFollow a
  let b := s.belay a
  let s := s.scanRun a b.va64 (s.act (axU a) Belay.BELAY_ACCEL)
  (s.set (axU a) Belay.APPROACH_SPEED b.va).setBelay a (if b.await = [] then 1 else 6)
/-- X_min of a Belay is shown (R386). -/
def State.seamShow (s : State) (a : Nat) : State :=
  let w := low 40 (s.belay a).xmin
  (s.set (axU a) Belay.SEAM_LO (lo32 w)).set (axU a) Belay.SEAM_HI (w / 2 ^ 32)
/-- Every line clock of the axis takes up X at SCAN_START (R390, R391). -/
def State.scanAtStart (s : State) (a : Nat) : State :=
  let start := s.scanStart a
  let ps := s.boundPorts a
  let s := ps.foldl (fun (s : State) p => (s.modLc p (fun c => { c with x := low 48 (start * 2 ^ 32), belayHold := true })).lcRegs p) s
  s.modBelay a (fun b => { b with xmin := start, full := ps.map (fun p => (p, start * 2 ^ 32)), far := [] })
/-- FILL and SW_TARGET of an evaluation. -/
def State.swShow (s : State) (a : Nat) : State :=
  let fill := s.fillOf a
  ((s.set (axU a) Belay.FILL fill).set (axU a) Belay.SW_TARGET (s.swTarget a fill)).modBelay a (fun b => { b with evalAt := s.now })
/-- An approach to SCAN_START at SW_TARGET (R390, R391). -/
def State.scanFromStart (s : State) (a : Nat) : State :=
  let vt := s.reg (axU a) Belay.SW_TARGET
  s.modBelay a (fun b => { b with va := vt, va64 := convV64 vt, xmin := s.scanStart a })

/-! ### A Belay begins (R393, R394 step 1) -/

/-- The line clock of a port holds (R394 step 1): its last line, and whether a closing fire is due (step 2). -/
def State.scanHold (s : State) (a p : Nat) : State :=
  let s := s.modLc p (fun c => { c with belayHold := true })
  let m := s.active
  let n := (s.lc p).nextLine
  let close := n != 0 && !(s.port p).rejoin && !(s.port p).hold && (vw s m (portU p) Port.SHUTTER == 0 || vw s m (portU p) Port.READOUT_LAG == 1)
  s.modBelay a (fun b => { b with ls := b.ls ++ (if n = 0 then [] else [(p, n - 1)]), closing := b.closing ++ (if close then [p] else []) })
/-- A Belay is announced and counted (R393). -/
def State.belayTell (s : State) (a cause p : Nat) : State := (s.bump (axU a) Belay.BELAYS).raise Ev.BELAY (axU a) (cause + p * 16)
/-- A cause of a Belay is held. -/
def State.belayHolds (s : State) (a cause : Nat) : State :=
  s.set (axU a) Belay.CAUSES (setBit (s.reg (axU a) Belay.CAUSES) (cause - 1) true)
/-- The axis rests as a Belay park with causes (cause, port): R391, R394 step 5. -/
def State.belayPark (s : State) (a : Nat) (cs : List (Nat × Nat)) : State :=
  let s := cs.foldl (fun s c => s.belayHolds a c.1) s
  let s := match cs with | c :: _ => s.belayTell a c.1 c.2 | [] => s
  ((s.modBelay a (fun b => { b with running := true, late := 0 })).seamShow a).setBelay a 4
/-- Steps 1 and 2 of R394: the line clocks hold, X_min is taken, and the axis keeps its speed until the exposures of the last lines have ended. A port that has fired nothing since it
was held last keeps what was noted then, and one whose pass has ended stays held. -/
def State.belayStop (s : State) (a : Nat) : State :=
  let b := s.belay a
  let ps := (s.boundPorts a).filter (fun p => !b.passEnded.contains p)
  let fired := ps.filter (fun p => !b.await.contains p)
  let old := fun p => (b.full.find? (fun f => f.1 == p)).map (·.2)
  let full := ps.map (fun p => (p, if b.await.contains p then (old p).getD (s.fullX a p) else s.fullX a p))
  let s := s.modBelay a (fun b => { b with
    phase := 0, passEnd := false, await := [], far := [], full := full, xmin := sar ((full.map (·.2)).min?.getD (sar (s.axis a).pos 16)) 32,
    ls := b.ls.filter (fun l => b.passEnded.contains l.1), closing := b.closing.filter (fun p => b.passEnded.contains p) })
  let s := ps.foldl (fun (s : State) p => if fired.contains p then s.scanHold a p else s.modLc p (fun c => { c with belayHold := true })) s
  ((s.modAxis a (fun x => { x with speedT := x.prof.v })).seamShow a).setBelay a 2
/-- A Belay begins (R393). v_a is |V|; in an approach, the speed of the approach. -/
def State.belayBegin (s : State) (a cause p : Nat) (quick : Bool) : State :=
  let x := s.axis a
  let scans : Bool := s.belayState a == 1
  let s := s.modBelay a (fun b => { b with
    running := true, quick := quick, late := 0, va := if scans then (velOf x.v48).natAbs else b.va, va64 := if scans then x.prof.v else b.va64 })
  (((s.set (axU a) Belay.CAUSES 0).belayHolds a cause).belayTell a cause p).belayStop a
/-- A cause joins the Belay that runs (R393). In an approach, STOP and HOST hold the line clocks again, in the same Belay (log entry 80); QUICK counts also for a stop that decelerates
already (R571). -/
def State.belayJoin (s : State) (a cause : Nat) (quick : Bool) : State :=
  let s := (s.belayHolds a cause).modBelay a (fun b => { b with quick := b.quick || quick })
  if s.belayState a = 6 ∧ cause ≠ 1 then s.belayStop a
  else if quick ∧ s.belayState a = 2 ∧ (s.belay a).phase = 1 then
    s.modAxis a (fun x => if x.gen = 2 then { x with stopDec := max x.stopDec (convA (s.act (axU a) Axis.AQUICK)) } else x)
  else s
/-- A cause arises (R393): 1 FILL, 2 STOP, 3 HOST. One that comes while the axis moves to the start of a scan or a pass is kept until it can be
met: at rest there, or once the scan runs; STOP in the approach there holds at once, because its port fires no more (R268, R398; log entry 80). -/
def State.belayCause (s : State) (a cause p : Nat) (quick : Bool) : State :=
  let st := s.belayState a
  if !s.owned a || (s.belay a).leaving || st == 0 || st == 7 then s
  else if st = 1 then s.belayBegin a cause p quick
  else if (s.belay a).running then s.belayJoin a cause quick
  else if cause = 1 then s
  else if st = 6 ∧ cause = 2 then s.belayBegin a cause p quick
  else if s.belayState a = 4 then s.belayPark a [(cause, p)]
  else s.modBelay a (fun b => { b with late := cause + p * 16 })
/-- A line of a bound port has left the pipeline, or Speedwell evaluates: the cause FILL (R393). -/
def State.belayFill (s : State) (a : Nat) : State :=
  match (s.boundPorts a).find? (fun p => s.ringH p ≤ s.ringU p * 64) with
  | some p => s.belayCause a 1 p false
  | none => s

/-! ### The scan is lost (R402), or left (R403) -/

/-- BELAY_STATE LOST: 1 disturbance, 2 fault, 3 abort, 4 drift. -/
def State.scanLost (s : State) (a cause : Nat) : State :=
  if !s.owned a then s else
  let u := axU a
  let ps := s.boundPorts a
  let s := ps.foldl (fun s p =>
    let s := s.modLc p (fun c => { c with belayHold := true })
    let c := s.lc p
    let s := if !(s.eb p).on then s else s.modEb p (fun e => { e with
      lostRep := some (c.repNo, c.repFirst), reps := e.reps.map (fun r => if r.no = c.repNo then { r with incomplete := true } else r) })
    s.endBlock p) s
  let s := s.raise Ev.SCAN_LOST u (cause + s.reg u Axis.FAULT % 16 * 16)
  let s := s.setBelay a 7
  let s := s.modBelay a (fun b => { evalAt := b.evalAt })
  let s := s.modAxis a (fun x => { x with owner := 0, kept := none, move := none })
  (s.set u Axis.OWNED 0).axisRegs a
/-- Every bound port has fired its first line: the scan goes on (R394 step 8). A cause that came after the park begins the next Belay at once. -/
def State.scanSeam (s : State) (a : Nat) : State :=
  let u := axU a
  let b := s.belay a
  if s.belayState a != 6 || b.await != [] then s else
  let s := s.modBelay a (fun b => { b with running := false, passEnd := false, ls := [], closing := [], late := 0 })
  let s := s.setBelay a 1
  let s := if b.running then s.raise Ev.BELAY_SEAM u (s.reg u Belay.PARK_LAST) else s
  let s := s.set u Belay.CAUSES 0
  if b.late % 16 = 2 ∧ s.heldStop (b.late / 16) then s.belayCause a 2 (b.late / 16) false
  else if b.late % 16 = 3 then s.belayCause a 3 0 false else s
/-- The axis of a scan that has ended rests (R403). -/
def State.scanFree (s : State) (a : Nat) : State :=
  let s := s.modAxis a (fun x => { x with gen := 0, prof := {}, owner := 0, move := none })
  ((s.set (axU a) Axis.OWNED 0).modBelay a (fun _ => {})).setBelay a 0
/-- Ports that run on: when none does, the axis decelerates to rest, and OWNED returns to 0 (R403). -/
def State.scanLeave (s : State) (a : Nat) : State :=
  let u := axU a
  let ps := s.boundPorts a
  if (s.belay a).leaving then s else
  let s := s.modBelay a (fun b => { b with ls := b.ls.filter (fun l => ps.contains l.1), closing := b.closing.filter ps.contains, await := b.await.filter ps.contains, passEnded := b.passEnded.filter ps.contains })
  if ps != [] then s.scanSeam a
  else if s.belayState a = 7 then s.setBelay a 0
  else if !s.owned a then s
  else
    let s := s.set u Belay.CAUSES 0
    if (s.axis a).prof.v = 0 then s.scanFree a
    else ((s.modAxis a (fun x => { x.brake (convA (s.act u Belay.BELAY_DECEL)) 3 with move := none })).modBelay a (fun _ => { leaving := true })).setBelay a 2
/-- A port no longer runs its job. -/
def State.portLeavesScan (s : State) (p : Nat) : State :=
  if s.webMode p then s else
  ((s.modLc p (fun c => { c with belayHold := false })).modPort p (fun x => { x with scanWait := false })).scanLeave (s.act (lcU p) Lc.AXIS_SEL)
/-- A job begins on the bound ports of an axis: X at SCAN_START, and the axis moves to its start position (R390, R54).
Speedwell evaluates at the boundary for the first time. The job starts without an axis that is fenced (R55): its ports wait. -/
def State.scanBegin (s : State) (a : Nat) : State :=
  let u := axU a
  let ps := s.boundPorts a
  if ps = [] then s else
  let s := (s.modBelay a (fun _ => {})).scanAtStart a
  if s.fenced u then s else
  let s := ((s.set u Axis.OWNED 1).set u Belay.CAUSES 0).linkLeave a
  let s := s.modAxis a (fun x => { x with queue := [], kept := none, set := RegMap.ofUid s.active u })
  let s := (s.swShow a).scanFromStart a
  s.scanBack a (s.scanStart a - s.runUp a (s.act u Belay.SCAN_SPEED))
/-- A table-mode port that has been reset rejoins its job: it follows the scan that runs, or its axis begins one, at SCAN_START (R31, R386; log entry 80). A lost scan does not
resume within the job (R402). -/
def State.scanRejoin (s : State) (p : Nat) : State :=
  if s.webMode p then s else
  let a := s.act (lcU p) Lc.AXIS_SEL
  let st := s.belayState a
  if s.owned a && !(s.belay a).leaving then s.modPort p (fun x => { x with scanWait := st == 4 })
  else if st = 7 then (s.modLc p (fun c => { c with belayHold := true })).modPort p (fun x => { x with scanWait := true })
  else s.scanBegin a

/-! ### The sequence (R391, R394, R401) -/

/-- The exposure of a port's last line has ended (R394 step 2). -/
def State.lastLineDone (s : State) (p l : Nat) : Bool := !(s.port p).fires.any (fun f => f.line == l && !f.closing && f.te.isNone)
def State.holdDone (s : State) (a : Nat) : Bool :=
  let b := s.belay a
  b.closing == [] && b.ls.all (fun l => s.lastLineDone l.1 l.2)
/-- The drift check fails or passes with drift d (R401). -/
def State.driftResult (s : State) (a : Nat) (d : Option Int) : State :=
  let u := axU a
  let tol := s.act u Belay.DRIFT_TOL
  let ok := match d with | some x => x.natAbs ≤ tol | none => false
  let v := d.getD 0
  let s := if d.isSome then s.set u Belay.DRIFT_LAST (low 32 v) else s
  let s := s.raise Ev.BELAY_DRIFT u (b2n (!ok) + low 24 v * 256)
  if ok then
    -- the run is the approach; a cause that has joined meanwhile holds it again (R393)
    let s := ((s.scanFollow a).set u Belay.APPROACH_SPEED (s.belay a).va).setBelay a 6
    if 2 ≤ s.reg u Belay.CAUSES then s.belayStop a else s
  else
    let s := s.scanLost a 4
    s.modAxis a (fun x => if x.prof.v = 0 then { x with gen := 0, prof := {} } else x.brake (convA (s.act u Belay.BELAY_DECEL)) 0)
/-- The drift check begins (R401 item 1). -/
def State.driftCheck (s : State) (a : Nat) : State :=
  let u := axU a
  let q := (s.axis a).latchAt
  let b := s.belay a
  let t := q - s.runUp a b.va
  let src := if s.act u Belay.DRIFT_REF = 1 then 2 else 3
  let fit := s.reg u Axis.HOMED == 1 && (match (s.axis a).latchBy with | some (k, d) => k == src && 0 < d | none => false)
  if !fit || b.pb ≤ t then s.driftResult a none
  else
    let s := s.scanBack a t
    (s.modBelay a (fun b => { b with phase := 1 })).setBelay a 5
/-- The park has ended at a Speedwell evaluation (R394 steps 5 to 7). -/
def State.parkEnd (s : State) (a : Nat) : State :=
  let u := axU a
  let ms := (s.now - (s.belay a).parkFrom) / 1600000
  let s := (s.set u Belay.PARK_LAST (sat32 ms)).set u Belay.CAUSES 0
  if (s.belay a).running && s.act u Belay.DRIFT_MS ≤ ms && s.act u Belay.DRIFT_REF != 0 then s.driftCheck a
  else s.scanApproach a
/-- At rest at P_b, or at the start of a scan or a pass: park, or go on (R391, R394 step 5, R54). -/
def State.scanArrived (s : State) (a t : Nat) : State :=
  let b := s.belay a
  let s := s.modAxis a (fun x => { x with move := none, gen := 0, prof := {} })
  let s := s.modBelay a (fun b => { b with pb := (s.axis a).whole, parkFrom := t, parkMax := false })
  if b.running then s.setBelay a 4
  else
    let ps := s.boundPorts a
    let full := if b.passEnd then (ps.find? (fun p => s.ringH p ≤ s.ringU p * 64)).toList.map (fun p => (1, p)) else []
    let stop := (ps.find? s.heldStop).toList.map (fun p => (2, p))
    let host := if b.late % 16 = 3 then [(3, b.late / 16)] else []
    if full ++ stop ++ host != [] then s.belayPark a (full ++ stop ++ host)
    else if ps.any (fun p => (s.port p).hold) then s.setBelay a 4
    else (s.scanFromStart a).scanApproach a
/-- The axis has come to rest after step 3: back to P_b, or to the start of the next pass. -/
def State.scanStopped (s : State) (a : Nat) : State :=
  let b := s.belay a
  if b.passEnd then
    (s.scanAtStart a).scanBack a (s.scanStart a - s.runUp a (s.act (axU a) Belay.SCAN_SPEED))
  else s.scanBack a (b.xmin - s.runUp a b.va)
/-- What the scan sequencer adds to an update at tick t. -/
def State.scanUpdate (s : State) (a t : Nat) : State :=
  let u := axU a
  let b := s.belay a
  let x := s.axis a
  if !s.owned a then s
  else if b.leaving then (if x.prof.v = 0 then s.scanFree a else s)
  else match s.belayState a with
  | 1 =>
    let s := s.scanNear a
    -- a pass ends once its last line is done on every bound port (R391 step 1)
    if b.passEnded != [] && (s.boundPorts a).all b.passEnded.contains && s.holdDone a then
      let s := s.modBelay a (fun b => { b with passEnd := true, passEnded := [], running := false, phase := 1 })
      (s.modAxis a (fun x => x.brake (convA (s.act u Belay.BELAY_DECEL)) 3)).setBelay a 2
    else s
  | 2 =>
    if b.phase = 0 then
      if s.holdDone a then
        let dec := s.act u (if b.quick then Axis.AQUICK else Belay.BELAY_DECEL)
        (s.modBelay a (fun b => { b with phase := 1 })).modAxis a (fun x => x.brake (convA dec) 3)
      else s
    else if x.gen = 0 ∨ x.prof.v = 0 then s.scanStopped a else s
  | 3 => if x.gen = 0 then s.scanArrived a t else s
  | 6 => s.scanNear a
  | 5 =>
    if b.phase = 1 then
      if x.gen = 0 then (s.modBelay a (fun b => { b with phase := 2 })).scanRun a b.va64 (s.act u Belay.BELAY_ACCEL) else s
    else
      let q := x.latchAt
      if q + Int.ofNat (s.act u Belay.DRIFT_TOL) < x.whole then s.driftResult a none else s
  | _ => s
/-- The reference edge has been latched at a commanded position during the drift check (R401 items 2 to 5). -/
def State.driftEdge (s : State) (a input : Nat) (at_ : Int) : State :=
  let u := axU a
  let want := if s.act u Belay.DRIFT_REF = 1 then 2 else 3
  if s.belayState a != 5 || (s.belay a).phase != 2 || input != want then s
  else
    s.driftResult a (some (sgn 40 (low 40 (sar at_ 48)) - (s.axis a).latchAt))
/-- A bound port has fired a numbered line: the seam, or the last line of a pass (R391, R394 step 8). -/
def State.scanFired (s : State) (p line : Nat) : State :=
  if s.webMode p then s else
  let a := s.act (lcU p) Lc.AXIS_SEL
  let u := axU a
  if !s.owned a then s else
  let s := (s.modBelay a (fun b => { b with await := b.await.filter (· != p) })).scanSeam a
  let n := s.act (lcU p) Lc.REPEAT_LINES / 256
  if s.act u Belay.PASS_RETURN = 1 ∧ n != 0 ∧ (line + 1) % n = 0 then
    (s.scanHold a p).modBelay a (fun b => { b with passEnded := b.passEnded ++ [p] })
  else s
/-- The tick at which a held line clock makes its closing fire (R394 step 2), when one is due. -/
def State.closingDue (s : State) (p : Nat) : Option Nat :=
  if s.webMode p then none else
  let c := s.lc p
  if (s.belay (s.act (lcU p) Lc.AXIS_SEL)).closing.contains p && c.belayHold then c.crossing else none
/-- The closing fire has been made. -/
def State.closingMade (s : State) (p : Nat) : State :=
  s.modBelay (s.act (lcU p) Lc.AXIS_SEL) (fun b => { b with closing := b.closing.filter (· != p) })

/-! ### Evaluations (R392, R393, R400) -/

/-- Speedwell's evaluation of an axis that serves ports (R392), and the end of a park whose causes are gone (R400). -/
def State.swEval (s : State) (a : Nat) : State :=
  let u := axU a
  let vt := s.swTarget a (s.fillOf a)
  let full := s.act u Belay.SCAN_SPEED
  let s := s.swShow a
  let st := s.belayState a
  let s := if st != 1 then s.modBelay a (fun b => { b with slow := b.slow && decide (vt < full) }) else
    let s := s.modAxis a (fun x => { x with gen := 3, owner := 3, dir := 1, speedT := convV64 vt, speedA := convA (s.act u Belay.SW_ACCEL) })
    let s := if vt < full && !(s.belay a).slow then s.raise Ev.SW_SLOW u vt else s
    s.modBelay a (fun b => { b with slow := vt < full })
  let s := s.belayFill a
  if s.belayState a != 4 then s
  else
    let c := s.reg u Belay.CAUSES
    let ps := s.boundPorts a
    let fillClear := !tbit c 0 || ps.all (fun p => s.ringU p * 64 ≤ s.ringM p)
    let stopClear := !tbit c 1 || !ps.any s.heldStop
    if fillClear && stopClear && !tbit c 2 && !ps.any (fun p => (s.port p).hold) then
      let s := if (s.belay a).running || (s.belay a).passEnd then s else s.scanFromStart a
      let s := if (s.belay a).passEnd then s.scanFromStart a else s
      s.parkEnd a
    else s
/-- Speedwell evaluates (SPEEDWELL_EVAL), every 16,000 ticks. -/
def State.speedwell (s : State) (a : Nat) : State :=
  if s.boundPorts a = [] || s.now < (s.belay a).evalAt + 16000 then s else s.swEval a
/-- A park has lasted PARK_MAX ms (BELAY_PARK_MAX). -/
def State.parkMax (s : State) (a : Nat) : State :=
  let u := axU a
  let b := s.belay a
  if s.belayState a != 4 || b.parkMax || s.now < b.parkFrom + s.act u Belay.PARK_MAX * 1600000 then s
  else (s.modBelay a (fun b => { b with parkMax := true })).raise Ev.BELAY_PARK_MAX u (sat32 ((s.now - b.parkFrom) / 1600000))

/-! ### Faults and disturbances of an owned axis (R402) -/

/-- The set of an axis that has come into force is taken up; a disturbance loses the scan (R366, R402). -/
def State.axisTakes (s : State) (a : Nat) : State :=
  let r := s.axisSync a
  if r.reg (axU a) Axis.POS_EPOCH = s.reg (axU a) Axis.POS_EPOCH then r else r.scanLost a 1

/-- A fault of R364 has just stopped an owned axis: the scan is lost; a driver fault also writes FENCE records (R402). -/
def State.axisAfter (s : State) (a : Nat) : State :=
  let code := (s.axis a).faulted
  if code = 0 then s else
  let s := s.modAxis a (fun x => { x with faulted := 0 })
  if !s.owned a then s else
  let ps := s.boundPorts a
  let s := s.scanLost a 2
  if code = 5 then ps.foldl (fun s p => if s.fenced (portU p) then s else s.fenceRec p (axU a) Fr.EXTERNAL_FAULT false) s else s

end Sys2Proof.Machine
end

