-- ==== Sys2Proof/Machine/AxisCmd.lean ====
section
/-! DEFINITION. The axis commands 0x40 to 0x46 (R353 to R363, R365, R366, R376, R379, R398, R399, R559, R570, R571) and the abort of an axis. A command
answers the state, its status and its result words. -/
namespace Sys2Proof.Machine
open R

/-- What a command answers: state, status, result words. -/
abbrev Answer := State × Nat × List Nat
/-- Refused: nothing changes. -/
def State.refuse (s : State) (r : Nat × List Nat) : Answer := (s, r.1, r.2)
/-- Carry out when no check refuses. -/
def State.unless (s : State) (r : Refuse) (go : Unit → Answer) : Answer :=
  match r with
  | some x => s.refuse x
  | none => go ()
/-- ST_BAD_PARAM with an index. -/
def badParam (ok : Bool) (i : Nat) : Refuse := need ok St.BAD_PARAM [i]
/-- ST_BUSY with the unit's STATE. -/
def State.busyUnless (s : State) (ok : Bool) (u : Nat) : Refuse := need ok St.BUSY [s.groupCode u]
/-- Parameter i. -/
def Pkt.p (k : Pkt) (i : Nat) : Nat := nth k.params i
/-- Flag bit i of FLAGS. -/
def Pkt.flag (k : Pkt) (i : Nat) : Bool := tbit k.flags i
/-- A 40-bit position in two parameter words. -/
def Pkt.pos (k : Pkt) (i : Nat) : Int := pos40 (k.p i) (k.p (i + 1))

/-- The port that owns an axis, for word 3 of ST_AXIS_OWNED. -/
def State.ownerPort (s : State) (a : Nat) : Nat := (s.boundPorts a).headD 0
/-- Refusals of a move of one axis (R353, R364, R368, R571), after the parameter checks. -/
def State.moveRefuse (s : State) (a : Nat) (m : AxMove) (replace : Bool) : Refuse :=
  let x := s.axis a
  let from_ := if replace then x.whole else x.endOf
  firstOf [
    need (x.queue.length < 32) St.AXIS_QUEUE_FULL [32],
    need (!s.owned a) St.AXIS_OWNED [s.ownerPort a],
    (s.limitAt a (m.target - from_)).map (fun k => (St.AXIS_LIMIT, [k])),
    need (s.softOk a m.target) St.AXIS_SOFT_LIMIT [low 32 m.target]]
/-- AXIS_MOVE (R353, R358, R363). -/
def State.cmdAxisMove (s : State) (a : Nat) (k : Pkt) : Answer :=
  let x := s.axis a
  let v := fun f => s.act (axU a) f
  let replace := k.flag 9
  let base := if !k.flag 8 then 0 else if replace then x.whole else x.endOf
  let m : AxMove := { target := sgn 40 (low 40 (base + k.pos 0)), speed := k.p 2, accel := k.p 3, decel := k.p 4, jerk := k.p 5, tag := k.tag, notify := k.flag 0 }
  s.unless (firstOf [
    badParam (k.p 1 < 256) 1,
    badParam (1 ≤ m.speed && m.speed ≤ v Axis.VMAX) 2,
    badParam (1 ≤ m.accel && m.accel ≤ v Axis.AMAX) 3,
    badParam (1 ≤ m.decel && m.decel ≤ v Axis.AMAX) 4,
    s.moveRefuse a m replace,
    (match s.linkOf a, replace with
     | some l, true => some (St.AXIS_LINKED, [axU ((l.members.map (·.1)).min?.getD a)])
     | _, _ => none)]) (fun _ =>
    if !replace then
      let s := (s.modAxis a (fun x => { x with queue := x.queue ++ [m] })).axisRegs a
      (s, St.OK, [(s.axis a).queue.length])
    else
      let s := s.modAxis a (fun x => { x with queue := [], kept := none, replaced := true })
      let s :=
        if x.prof.v = 0 then s.modAxis a (fun x => { x with gen := 0, move := none, after := 0, queue := [m] })
        else s.modAxis a (fun x => { x.turnTo m (x.ownDec (convA m.decel)) with set := RegMap.ofUid s.active (axU a) })
      let s := s.axisRegs a
      (s, St.OK, [(s.axis a).queue.length]))
/-- The axes that an AXIS_LINEAR names. -/
def Pkt.axes (k : Pkt) : List Nat := (List.range 8).filter (fun a => tbit (k.p 0) a)
/-- The number of the next link. -/
def State.linkId (s : State) : Nat := (s.links.map (·.id)).foldl max 0 + 1
/-- The moves of an AXIS_LINEAR, each with its axis. -/
def State.linearMoves (s : State) (k : Pkt) : List (Nat × AxMove) :=
  k.axes.zipIdx.map (fun x =>
    let base := if k.flag 8 then (s.axis x.1).endOf else 0
    let m : AxMove := {
      target := sgn 40 (low 40 (base + k.pos (5 + 2 * x.2))), speed := k.p 1, accel := k.p 2, decel := k.p 3, jerk := k.p 4, tag := k.tag, notify := k.flag 0, link := s.linkId }
    (x.1, m))
/-- The axis that moves farthest, the lowest of those that tie (R359). -/
def State.linearLongest (s : State) (ms : List (Nat × AxMove)) : Nat :=
  let dist := fun (x : Nat × AxMove) => (x.2.target - (s.axis x.1).endOf).natAbs
  (ms.foldl (fun (b : Option (Nat × AxMove)) x => match b with | some y => if dist y < dist x then some x else b | none => some x) none).elim 0 (·.1)
/-- AXIS_LINEAR (R359). -/
def State.cmdAxisLinear (s : State) (k : Pkt) : Answer :=
  let n := k.axes.length
  if k.params.length != 5 + 2 * n then s.refuse (St.BAD_LENGTH, [5 + 2 * n]) else
  let ms := s.linearMoves k
  let longest := s.linearLongest ms
  let v := fun f => s.act (axU longest) f
  s.unless (firstOf ([
    badParam (k.p 0 < 256 && 2 ≤ n) 0,
    badParam (1 ≤ k.p 1 && k.p 1 ≤ v Axis.VMAX) 1,
    badParam (1 ≤ k.p 2 && k.p 2 ≤ v Axis.AMAX) 2,
    badParam (1 ≤ k.p 3 && k.p 3 ≤ v Axis.AMAX) 3] ++
    ms.zipIdx.map (fun x => badParam (k.p (6 + 2 * x.2) < 256) (6 + 2 * x.2)) ++
    ms.map (fun x => s.moveRefuse x.1 x.2 false))) (fun _ =>
    let l : AxLink := { id := s.linkId, members := ms.map (fun x => (x.1, 0, 0)), dmax := 0, speed := k.p 1, accel := k.p 2, decel := k.p 3, jerk := k.p 4 }
    let s := { s with links := s.links ++ [l] }
    (ms.foldl (fun s x => (s.modAxis x.1 (fun y => { y with queue := y.queue ++ [x.2] })).axisRegs x.1) s, St.OK, [0]))
/-- AXIS_STOP on one axis (R361, R393). -/
def State.cmdAxisStop (s : State) (a : Nat) (quick : Bool) : State :=
  if s.owned a then s.belayCause a 3 (s.ownerPort a) quick
  else
    let s := s.headKept a
    let x := s.axis a
    let dec := if quick then s.act (axU a) Axis.AQUICK else match x.move with | some m => m.decel | none => 0
    if x.gen = 2 then (if quick then s.axisStop a dec else if x.after = 1 then s.axisStop a 0 else s) else s.axisStop a dec
/-- AXIS_RESUME (R362, R399). What is resumed is checked for every member of a coordinated move (R360), and a kept target must lie in the soft limits (R368; log entry 79). -/
def State.cmdAxisResume (s : State) (a : Nat) : Answer :=
  let u := axU a
  if s.owned a then
    if tbit (s.reg u Belay.CAUSES) 2 then (s.set u Belay.CAUSES (setBit (s.reg u Belay.CAUSES) 2 false), St.OK, [0])
    else s.refuse (St.AXIS_NO_REMAIN, [0])
  else
    let x := s.axis a
    match x.kept with
    | none => s.refuse (St.AXIS_NO_REMAIN, [0])
    | some m =>
      let all := match s.linkOf a with | some l => l.members.map (fun (y : Nat × Int × Int) => y.1) | none => [a]
      s.unless (firstOf (all.flatMap (fun b =>
        let y := s.axis b
        match y.kept with
        | some q => [need (!s.fenced (axU b)) St.FENCED [axU b],
            need (y.keptEpoch == s.reg (axU b) Axis.POS_EPOCH) St.POSITION_CHANGED [low 32 y.whole],
            (s.limitAt b (q.target - y.whole)).map (fun k => (St.AXIS_LIMIT, [k])),
            need (s.softOk b q.target) St.AXIS_SOFT_LIMIT [low 32 q.target]]
        | none => []))) (fun _ =>
        -- a member whose move has been discarded meanwhile is none any longer
        let s := if m.link = 0 then s else s.modLink m.link (fun l => { l with members := l.members.filter (fun (y : Nat × Int × Int) => (s.axis y.1).has m.link) })
        (all.foldl (fun (s : State) b => (s.modAxis b (fun (x : AxisSt) => match x.kept with
          | some q => if q.link = m.link then { x with kept := none, queue := q :: x.queue } else x
          | none => x)).axisRegs b) s, St.OK, [0]))
/-- AXIS_SET_POSITION (R365, R366, R571). -/
def State.cmdAxisSetPos (s : State) (a : Nat) (k : Pkt) : Answer :=
  let u := axU a
  s.unless (firstOf [
    s.busyUnless (s.reg u Axis.MOTION == 0) u,
    need (!s.owned a) St.AXIS_OWNED [s.ownerPort a],
    badParam (k.p 1 < 256) 1]) (fun _ =>
    let s := ((s.modAxis a (fun x => { x with setPos := some (k.pos 0), kept := none, queue := [] })).epochStep a).set u Axis.REF_UNVERIFIED 0
    let s := s.axisRegs a
    (s, St.OK, [s.reg u Axis.POS_EPOCH]))
/-- AXIS_IDENTIFY (R376, R377). -/
def State.cmdAxisIdentify (s : State) (a : Nat) (k : Pkt) : Answer :=
  let u := axU a
  let x := s.axis a
  let clear := k.flag 8
  s.unless (firstOf [
    s.busyUnless (s.reg u Axis.MOTION == 0 && x.kept.isNone) u,
    need (s.act u Axis.MODE == 1) St.UNSUPPORTED [s.act u Axis.MODE],
    need (!s.owned a) St.AXIS_OWNED [s.ownerPort a],
    badParam (clear || (10240 ≤ k.p 0 && k.p 0 ≤ 1024000)) 0,
    badParam (clear || 51200 ≤ k.p 1) 1]) (fun _ =>
    if clear then ((s.set u Axis.ID_VALID 0).set u Axis.UNIDENTIFIED 1, St.OK, [0])
    else
      let s := (s.epochStep a).workStart k u []
      let s := s.modAxis a (fun x => { x with ident := some { speed := k.p 0, dist := k.p 1, start := x.whole, since := s.now }, set := RegMap.ofUid s.active u })
      (s.axisRegs a, St.OK, [0]))
/-- The homing that an AXIS_HOME asks for. -/
def Pkt.home (k : Pkt) : HomeSt :=
  let seq := k.p 0 % 8
  let dir : Int := if tbit (k.p 0) 3 then -1 else 1
  { seq := seq, dir := dir, src := b2n (tbit (k.p 0) 4), searchSpeed := k.p 1, latchSpeed := k.p 2, accel := k.p 3, backoff := k.p 4, searchMax := k.p 5,
    homePos := k.pos 6, iHome := k.p 8, steps := homeSteps seq dir }
/-- AXIS_HOME (R379, R380). -/
def State.cmdAxisHome (s : State) (a : Nat) (k : Pkt) : Answer :=
  let u := axU a
  let v := fun f => s.act u f
  let seq := k.p 0 % 8
  let h := k.home
  let en := fun i => tbit (v Axis.IN_EN) i
  s.unless (firstOf [
    s.busyUnless (s.reg u Axis.MOTION == 0) u,
    need (!s.owned a) St.AXIS_OWNED [s.ownerPort a],
    need (seq != 4 || v Axis.MODE != 2) St.UNSUPPORTED [v Axis.MODE],
    need (seq != 4 || s.reg u Axis.ID_VALID == 1) St.AXIS_UNIDENTIFIED [0],
    badParam (1 ≤ seq && seq ≤ 6 && k.p 0 < 32) 0,
    badParam ((3 < seq || en h.switch) && ((seq != 2 && seq != 5) || en 3)) 0,
    badParam (1 ≤ k.p 1 && k.p 1 ≤ v Axis.VMAX) 1,
    badParam (1 ≤ k.p 2 && k.p 2 ≤ v Axis.VMAX && k.p 2 ≤ k.p 1) 2,
    badParam (1 ≤ k.p 3 && k.p 3 ≤ v Axis.AMAX) 3,
    badParam (1 ≤ k.p 5) 5,
    badParam (k.p 7 < 256) 7,
    badParam (if seq = 4 then 1 ≤ k.p 8 && k.p 8 ≤ v Axis.I_RUN else k.p 8 == 0) 8]) (fun _ =>
    let s := (s.epochStep a).workStart k u []
    let s := s.modAxis a (fun x => { x with kept := none, queue := [], home := some h, prof := {}, set := RegMap.ofUid s.active u })
    ((if seq = 6 then s else s.homeNext a 8).axisRegs a, St.OK, [0]))
/-- ABORT of an axis (R361, R402): it stops at AQUICK and discards the remainder and the queue. `seq`: the command sequence number. -/
def State.axisAbort (s : State) (a seq : Nat) : State :=
  let u := axU a
  let s := s.scanLost a 3
  let x := s.axis a
  let s := s.linkLeave a
  let s := s.modAxis a (fun x => { x with queue := [], kept := none, move := none, owner := 0, setPos := none })
  let s := if x.prof.v = 0 then s.modAxis a (fun x => { x with gen := 0, prof := {}, after := 0 }) else s.modAxis a (fun x => x.brake (convA (s.act u Axis.AQUICK)) 0)
  let s := if x.home.isSome then s.axisWorkEnd a 0x46 St.ABORTED [seq] else if x.ident.isSome then s.axisWorkEnd a 0x45 St.ABORTED [seq] else s
  s.axisRegs a

end Sys2Proof.Machine
end

