-- ==== Sys2Proof/Machine/Pipeline.lean ====
section
/-! DEFINITION. The correction pipeline of a port (R200 to R213), the mark detector (R288, R289), and where a corrected line goes
(R60, R312, R319, R324, R325). -/
namespace Sys2Proof.Machine
open R

/-! ### Shading entries (R218, R221) -/

/-- One entry of a shading set. -/
structure Entry where
  offset : Int
  gain : Nat
  dslope : Int
  replace : Bool
  noTrack : Bool
  dark : Bool
  white : Bool
  user : Bool
  rsv : Nat
  deriving DecidableEq, Repr
/-- Decode an entry from its 64-bit value, and encode it. -/
def Entry.of (n : Nat) : Entry :=
  { offset := sgn 20 n, gain := bits n 43 20, dslope := sgn 12 (n / 2 ^ 44), replace := tbit n 56, noTrack := tbit n 57, dark := tbit n 58,
    white := tbit n 59, user := tbit n 60, rsv := bits n 63 61 }
def Entry.word (e : Entry) : Nat :=
  low 20 e.offset + e.gain % 2 ^ 24 * 2 ^ 20 + low 12 e.dslope * 2 ^ 44 + b2n e.replace * 2 ^ 56 + b2n e.noTrack * 2 ^ 57 + b2n e.dark * 2 ^ 58 +
    b2n e.white * 2 ^ 59 + b2n e.user * 2 ^ 60 + e.rsv * 2 ^ 61
/-- SRAM address of segment i of bank b (R221). -/
def segAddr (b i : Nat) : Nat := (b * 8 + i) * 0x80000
/-- The entries of a plane, from byte address a of a memory. -/
def entriesAt (m : Mem) (a w plane : Nat) : List Entry := (List.range w).map (fun x => Entry.of (Mem.rd64 m (a + 8 * (plane * w + x))))

/-! ### Stages 1 and 2 (R138, R202, R203) -/

/-- Pixel of image sample i of tap k. -/
def tapPix (s : State) (m : RegMap) (p k i : Nat) : Nat :=
  let d := i * vw s m (portU p) Tap.STRIDE k
  if vw s m (portU p) Tap.DESCEND k = 1 then vw s m (portU p) Tap.FIRST k - d else vw s m (portU p) Tap.FIRST k + d
/-- The enabled tap that carries a pixel of a plane, and the sample's place in it. -/
def tapOf (s : State) (m : RegMap) (p pl x : Nat) : Option (Nat × Nat) :=
  (tapsOn s m p).findSome? (fun k =>
    if vw s m (portU p) Tap.PLANE k != pl then none
    else ((List.range (vw s m (portU p) Tap.COUNT k)).find? (fun i => tapPix s m p k i == x)).map (fun i => (k, i)))
/-- Image samples of a plane in pixel order (stage 1). -/
def placeRow (s : State) (m : RegMap) (p pl : Nat) (taps : List (List Nat)) : List Nat :=
  (List.range (widthOf s m p)).map (fun x =>
    match tapOf s m p pl x with
    | some (k, i) => nth (taps.getD k []) (vw s m (portU p) Tap.SKIP k + vw s m (portU p) Tap.OB k + i)
    | none => 0)
/-- Optical-black samples of a tap. -/
def obSamples (s : State) (m : RegMap) (p k : Nat) (taps : List (List Nat)) : List Nat :=
  ((taps.getD k []).drop (vw s m (portU p) Tap.SKIP k)).take (vw s m (portU p) Tap.OB k)
/-- m of R203. -/
def obMean (l : List Nat) : Nat := ((l.map (· * 16)).foldl (· + ·) 0 + l.length / 2) / l.length
/-- The nearest neighbours without REPLACE within 8 pixels (R202). -/
def neighbours (es : List Entry) (x : Nat) : Option Nat × Option Nat :=
  let ok := fun y => match es[y]? with | some e => !e.replace | none => false
  (((List.range (min x 8)).map (fun d => x - 1 - d)).find? ok, ((List.range 8).map (fun d => x + 1 + d)).find? ok)
/-- A value taken from the neighbours with the weights of R202. -/
def fillFrom (nb : Option Nat × Option Nat) (x : Nat) (f : Nat → Int) : Int :=
  match nb with
  | (some l, some r) => fdiv (f l * (Int.ofNat r - Int.ofNat x) + f r * (Int.ofNat x - Int.ofNat l) + Int.ofNat ((r - l) / 2)) (Int.ofNat (r - l))
  | (some l, none) => f l
  | (none, some r) => f r
  | (none, none) => f x
/-- Stage 2. -/
def replaceRow (es : List Entry) (row : List Nat) : List Nat :=
  row.zipIdx.map (fun v => if (es.getD v.2 (Entry.of 0)).replace then (fillFrom (neighbours es v.2) v.2 (fun y => Int.ofNat (nth row y))).toNat else v.1)

/-! ### Stages 3 to 7 (R206, R207, R209, R210) -/

/-- Stages 3 and 4. -/
def blackGain (e : Entry) (sample : Nat) (delta dT : Int) : Int :=
  let dark := sar (e.dslope * dT + 128) 8
  let x3 := sat24 (Int.ofNat (sample * 16) - (e.offset + delta + dark))
  sat24 (sar (x3 * Int.ofNat e.gain + 2 ^ 19) 20)
/-- The lead lamp group of a port in a map, and its STROBE_LEN (R207, R410). -/
def leadLamp (s : State) (m : RegMap) (p : Nat) : Option Nat :=
  (List.range 8).find? (fun g => vw s m (lampU g) Lamp.BOUND == 1 && vw s m (lampU g) Lamp.PORT == p && vw s m (lampU g) Lamp.LEAD == 1)
def strobeNominal (s : State) (m : RegMap) (p : Nat) : Nat := (leadLamp s m p).elim 0 (fun g => vw s m (lampU g) Lamp.STROBE_LEN)
/-- K of R207. -/
def normK (nominal actual : Nat) : Nat := min ((nominal * 2 ^ 20 + actual / 2) / actual) (2 ^ 24 - 1)
/-- A factor in Q4.20 applied (stages 5 and 6). -/
def scale20 (v : Int) (k : Nat) : Int := sat24 (sar (v * Int.ofNat k + 2 ^ 19) 20)
/-- Stage 7: o16. -/
def out16 (u : Int) : Nat := (clamp 0 65535 (1024 + sar (u + 8) 4)).toNat

/-! ### Trackers (R203, R204, R208, R211 to R213) -/

/-- Every tracker restarts (R212). -/
def PortSt.trackersRestart (x : PortSt) : PortSt :=
  { x with
    sumB := List.replicate 16 0, nB := List.replicate 16 0, delta := List.replicate 16 0, sumW := List.replicate 4 0, nW := List.replicate 4 0,
    wf := List.replicate 4 0x100000 }
/-- Show the trackers in the pipeline page, under a set: BLACK_LEFT over the taps that count (R204), WHITE_LEFT over the planes in use (R214). -/
def State.pipeRegs (s : State) (m : RegMap) (p : Nat) : State :=
  let x := s.port p
  let u := pipeU p
  let taps := (tapsOn s m p).filter (fun k => vw s m u Pipe.CLAMP_EN == 1 && decide (0 < vw s m (portU p) Tap.OB k))
  let s := s.set u Pipe.BLACK_LEFT ((taps.map (fun k => 64 - nth x.nB k)).foldl max 0)
  let s := s.set u Pipe.WHITE_LEFT (((List.range (planesOf s m p)).map (fun q => 256 - nth x.nW q)).foldl max 0)
  let s := (List.range 16).foldl (fun s k => s.set u Pipe.CLAMP_DELTA (low 24 (nthI x.delta k)) k) s
  (List.range 4).foldl (fun s q => s.set u Pipe.WT_FACTOR (x.wf.getD q 0x100000) q) s
/-- One clamp update of tap k (R203, R213). Answers whether the tap restarted. -/
def PortSt.clampStep (x : PortSt) (k : Nat) (m : Int) : PortSt × Bool :=
  let n := nth x.nB k
  let acc := nthI x.sumB k
  let x := if n < 64 then { x with sumB := upd x.sumB k (fun v => v + m), nB := upd x.nB k (· + 1) }
    else { x with sumB := upd x.sumB k (fun v => v - sar (acc + 32) 6 + m) }
  if nth x.nB k < 64 then ({ x with delta := upd x.delta k (fun _ => 0) }, false)
  else
    let d := sar (nthI x.sumB k + 32) 6 - nthI x.actRegs.obRef k
    if 4096 < d.natAbs then ({ x with sumB := upd x.sumB k (fun _ => 0), nB := upd x.nB k (fun _ => 0), delta := upd x.delta k (fun _ => 0) }, true)
    else ({ x with delta := upd x.delta k (fun _ => d) }, false)
/-- The tap whose delta a tap uses, none when its delta is always 0 (R204). -/
def clampTap (s : State) (m : RegMap) (p k : Nat) : Option Nat :=
  if 0 < vw s m (portU p) Tap.OB k then some k
  else (tapsOn s m p).find? (fun j => 0 < vw s m (portU p) Tap.OB j && vw s m (portU p) Tap.PLANE j == vw s m (portU p) Tap.PLANE k)
/-- One white update of plane q (R208, R213): the last mean, and whether the plane restarted. -/
def PortSt.whiteStep (x : PortSt) (q shift : Nat) (w : Int) : PortSt × Option Int × Bool :=
  let n := nth x.nW q
  let h : Int := 2 ^ (shift - 1)
  let x := if n < 256 then
      let sum := nthI x.sumW q + w
      { x with sumW := upd x.sumW q (fun _ => if n = 255 then sum * 2 ^ (shift - 8) else sum), nW := upd x.nW q (· + 1) }
    else { x with sumW := upd x.sumW q (fun v => v - sar (v + h) shift + w) }
  if nth x.nW q < 256 then (x, none, false)
  else
    let mean := sar (nthI x.sumW q + h) shift
    let r := nthI x.actRegs.wtRef q
    if mean ≤ 0 ∨ mean * 8 < r * 7 ∨ r * 9 < mean * 8 then
      ({ x with sumW := upd x.sumW q (fun _ => 0), nW := upd x.nW q (fun _ => 0), wf := upd x.wf q (fun _ => 0x100000) }, some mean, true)
    else ({ x with wf := upd x.wf q (fun _ => (fdiv (r * 2 ^ 20 + fdiv mean 2) mean).toNat % 2 ^ 24) }, some mean, false)
/-- Patch pixels of a plane (R208). -/
def patchPix (es : List Entry) (first count : Nat) : List Nat :=
  ((List.range count).map (first + ·)).filter (fun x => match es[x]? with | some e => !e.noTrack && !e.replace | none => false)
/-- Rounded mean of integers (R208). -/
def meanInt (l : List Int) : Int := fdiv (l.foldl (· + ·) 0 + Int.ofNat (l.length / 2)) (Int.ofNat l.length)

/-! ### One line (R200) -/

/-- T_L of a line (R205); `t`: the last valid reading before its fire. -/
def State.lineTemp (s : State) (p : Nat) (m : RegMap) (t : Option Int) : Int :=
  let src := vw s m (pipeU p) Pipe.TEMP_SRC
  let tRef := (s.port p).actRegs.tRef
  if src = 0 then tRef else if src = 1 then sgn 16 (vw s m (pipeU p) Pipe.TEMP_HOST) else t.getD tRef
/-- The readout that gives plane q of line l (R134). -/
def planeReadout (store : List Readout) (l lag : Nat) : Option Readout :=
  if l < lag then none else store.find? (fun r => r.line == some (l - lag))
/-- The oldest readout that waits, with its fire, once its exposure is known. -/
def State.lineReady (s : State) (p : Nat) : Option (Readout × Fire) :=
  match (s.port p).ready with
  | r :: _ => (r.line.bind (s.fireOf p)).bind (fun f => if f.te.isSome then some (r, f) else none)
  | [] => none
/-- What stage 1 gives for a line: rows, the readout behind each plane, and the flags PLANE_FILL, LANE_FAULT and AFE_STALE. A plane whose integration L - LAG is not 0 or later, or was
never read out (a line skipped or passed over), is filled with raw 0; R134 says the first, and does not say what the second holds (DESIGN CHOICE, log entry 73). -/
def State.lineStage1 (s : State) (p : Nat) (m : RegMap) (l : Nat) (store : List Readout) : List (List Nat) × List (Option Readout) × Nat :=
  let srcs := (List.range (planesOf s m p)).map (fun q => planeReadout store l (lagOf s m p q))
  let rows := srcs.zipIdx.map (fun x => match x.1 with
    | some r => placeRow s m p x.2 r.taps
    | none => List.replicate (widthOf s m p) 0)
  let fill := srcs.any (fun r => r.isNone)
  let fault := srcs.zipIdx.any (fun x => match x.1 with
    | some r => r.faults.any (fun j => vw s m (portU p) Tap.PLANE j == x.2)
    | none => false)
  let stale := srcs.any (fun r => match r with | some r => r.stale | none => false)
  (rows, srcs, orFlag (orFlag (orFlag 0 Ln.PLANE_FILL fill) Ln.LANE_FAULT fault) Ln.AFE_STALE stale)
/-- Take the oldest readout into the plane-delay store. -/
def State.lineTake (s : State) (p : Nat) (m : RegMap) (r : Readout) (f : Fire) : State :=
  let keep := maxLag s m p + 1
  s.modPort p (fun x => { x with
    ready := x.ready.drop 1, delay := (x.delay ++ [r]).drop ((x.delay.length + 1) - keep),
    fires := x.fires.filter (fun g => f.line < g.line || x.consumed == some g.line) })
/-- The port is DEGRADED while lines carry AFE_STALE (R155). -/
def State.staleRun (s : State) (p : Nat) (l flags : Nat) : State :=
  let now := hasFlag flags Ln.AFE_STALE
  let s := if now && !(s.port p).staleRun then s.raise Ev.AFE_STALE (portU p) l else s
  ((s.modPort p (fun x => { x with staleRun := now })).degrade p 1 now).portRefresh p
/-- z of R208: rows of a line after stages 2 to 5, with the clamp of each tap as it stands. -/
def State.zRows (s : State) (p : Nat) (f : Fire) (delta : List Int) (rows : List (List Nat)) : List (List Int) :=
  let m := f.set
  let v := fun g => vw s m (pipeU p) g
  let x := s.port p
  let ess := (List.range (planesOf s m p)).map (fun q => entriesAt s.sram (segAddr x.seg p) (widthOf s m p) q)
  let del := fun k => if v Pipe.CLAMP_EN = 0 then 0 else match clampTap s m p k with | some j => nthI delta j | none => 0
  let norm := v Pipe.NORM_SRC
  let k := if norm = 0 then normK (if vw s m (portU p) Port.SHUTTER = 1 then vw s m (portU p) Port.EXP_TIME else vw s m (portU p) Port.NOMINAL_PERIOD) (max 1 f.actual)
    else if norm = 1 then normK (f.strobeNom) (max 1 f.strobeLen) else 2 ^ 20
  let rows := if v Pipe.REPLACE_EN = 1 then (rows.zip ess).map (fun r => replaceRow r.2 r.1) else rows
  rows.zipIdx.map (fun r =>
    let es := ess.getD r.2 []
    r.1.zipIdx.map (fun y =>
      let kTap := (tapOf s m p r.2 y.2).elim 0 (·.1)
      scale20 (blackGain (es.getD y.2 (Entry.of 0)) y.1 (del kTap) (s.lineTemp p m f.temp - x.actRegs.tRef)) k))
/-- w of R208 for each plane: the mean of z over its patch pixels. -/
def State.patchMeans (s : State) (p : Nat) (f : Fire) (zs : List (List Int)) : List Int :=
  let m := f.set
  (List.range (planesOf s m p)).map (fun q =>
    let es := entriesAt s.sram (segAddr (s.port p).seg p) (widthOf s m p) q
    meanInt ((patchPix es (vw s m (pipeU p) Pipe.WT_FIRST) (vw s m (pipeU p) Pipe.WT_COUNT)).map (fun i => nthI (zs.getD q []) i)))
/-- Correct one line (R200 to R213). Answers the state, the corrected planes and the final pipeline flags. -/
def State.correct (s : State) (p : Nat) (f : Fire) (rows : List (List Nat)) (srcs : List (Option Readout)) (flags : Nat) : State × List (List Nat) × Nat :=
  let m := f.set
  let u := pipeU p
  let v := fun g => vw s m u g
  let x := s.port p
  let planes := planesOf s m p
  let skipTrk := anyFlag flags [Ln.PLANE_FILL, Ln.LANE_FAULT]
  let clampOn := v Pipe.CLAMP_EN == 1
  -- black clamp
  let obTaps := (tapsOn s m p).filter (fun k => 0 < vw s m (portU p) Tap.OB k)
  let (x, restarted) := if skipTrk || !clampOn then (x, ([] : List Nat)) else obTaps.foldl (fun (a : PortSt × List Nat) k =>
    match srcs.getD (vw s m (portU p) Tap.PLANE k) none with
    | none => a
    | some r => let y := a.1.clampStep k (Int.ofNat (obMean (obSamples s m p k r.taps))); (y.1, if y.2 then a.2 ++ [k] else a.2)) (x, [])
  let blackLeft := (obTaps.map (fun k => 64 - nth x.nB k)).foldl max 0
  let flags := orFlag flags Ln.BLACK_SETTLING (clampOn && 0 < blackLeft)
  -- white flag from the state before this line
  let wtSrc := v Pipe.WT_SRC
  let flags := orFlag flags Ln.WHITE_SETTLING (wtSrc != 0 && (List.range planes).any (fun q => nth x.nW q < 256))
  let tl := s.lineTemp p m f.temp
  let zs := s.zRows p f x.delta rows
  let out := zs.zipIdx.map (fun z =>
    let wf := if wtSrc = 0 ∨ nth x.nW z.2 < 256 then 0x100000 else x.wf.getD z.2 0x100000
    z.1.map (fun y => out16 (scale20 y wf)))
  -- white tracker, for the next line
  let inRow := f.line - f.repFirst
  let patchLine := wtSrc == 1 || (wtSrc == 2 && v Pipe.WT_ROW_FIRST ≤ inRow && inRow < v Pipe.WT_ROW_FIRST + v Pipe.WT_ROW_COUNT)
  let upW := patchLine && !skipTrk && !anyFlag flags [Ln.EXPOSURE_CLAMPED, Ln.LAMP_INVALID]
  let ws := s.patchMeans p f zs
  let (x, means) := if !upW then (x, ([] : List (Nat × Option Int × Bool))) else (List.range planes).foldl (fun (a : PortSt × List (Nat × Option Int × Bool)) q =>
    let y := a.1.whiteStep q (v Pipe.WT_SHIFT) (nthI ws q)
    (y.1, a.2 ++ [(q, y.2.1, y.2.2)])) (x, [])
  let s := s.modPort p (fun _ => x)
  let s := restarted.foldl (fun s j => (s.bump u Pipe.CLAMP_RESTARTS).raise Ev.CLAMP_RANGE u (j + f.line % 2 ^ 24 * 256)) s
  let s := means.foldl (fun s r =>
    let s := match r.2.1 with | some mn => s.set u Pipe.WT_MEAN (low 24 mn) r.1 | none => s
    if r.2.2 then (s.bump u Pipe.WHITE_RESTARTS).raise Ev.WHITE_RANGE u (r.1 + f.line % 2 ^ 24 * 256) else s) s
  ((s.set u Pipe.TEMP_LAST (low 16 tl)).pipeRegs m p, out, flags)

/-! ### Mark detector (R288, R289) -/

/-- One line passes the mark detector of a port. -/
def State.markLine (s : State) (p : Nat) (l flags : Nat) (planes : List (List Nat)) : State :=
  let v := fun g => s.act trigU g p
  let d := s.trig.dets.getD p {}
  let put := fun (s : State) (d : MarkDet) => s.modTrig (fun t => { t with dets := upd t.dets p (fun _ => d) })
  if v Trig.EN = 0 then s
  else if anyFlag flags [Ln.PLANE_FILL, Ln.LANE_FAULT] then put s { d with last := none }
  else
    let row := planes.getD (v Trig.PLANE) []
    let n := v Trig.X_COUNT
    let m := (((row.drop (v Trig.X_FIRST)).take n).foldl (· + ·) 0 + n / 2) / n
    let t := v Trig.LEVEL
    let fall := v Trig.FALL == 1
    let s := s.set trigU Trig.LAST_MEAN m p
    let cross := match d.last with
      | some (pl, pm) => if d.armed && pl + 1 == l && (if fall then t ≤ pm && m < t else pm < t && t ≤ m) then some pm else none
      | none => none
    match cross with
    | some pm =>
      let e := (Int.ofNat pm - Int.ofNat t).natAbs
      let g := (Int.ofNat m - Int.ofNat pm).natAbs
      let pos := 256 * (l - 1) + (e * 256 + g / 2) / g
      let pix := crossing row (v Trig.X_FIRST) n t fall
      let s := s.bump trigU Trig.CROSSINGS 1 p
      let s := put s { armed := false, last := some (l, m) }
      s.signal { sig := 40 + p, port := p, t := s.rope, line := pos / 256, frac := pos % 256, pix := pix, cls := 0, node := v Trig.X_FIRST * 256 }
    | none =>
      let rearm := if fall then t + v Trig.HYST ≤ m else m + v Trig.HYST < t
      put s { armed := d.armed || rearm, last := some (l, m) }

/-! ### Into the ring and to Eyebright (R60, R312, R324, R325) -/

/-- A line that will not enter the ring leaves the count of lines in flight. -/
def State.lineGone (s : State) (p l : Nat) : State :=
  (((s.modRing p (fun r => { r with inFlight := r.inFlight.filter (· != l) })).stopEnds p).flushHeld p).windowsDone p
/-- The pointers of the burst queue disagree as a line enters it (R321, code 1): the line is lost, and the port captures from the next one. -/
def State.burstLost (s : State) (p : Nat) (f : Fire) : State :=
  let s := (s.ptrFound 1 p (portU p)).modRing p (fun r => { r with inFlight := r.inFlight.filter (· != f.line) })
  let s := (s.gap p 5 1 f.line f.line 1 f.repNo 0 0 s.rope 0).ebGapAt p f.line
  (s.windowsCut p f.line 8).lineGone p f.line
/-- Capture stops at line l (R324): the open block closes, blobs and windows meet the gap. -/
def State.captureStop (s : State) (p : Nat) (f : Fire) : State :=
  let s := s.modRing p (fun r => { r with stopped := true, stopFrom := some (f.line, f.tick, f.repNo) })
  let s := s.set (portU p) Ring.CAPTURE_STOPPED 1
  let s := s.raise Ev.RING_STOP (portU p) f.line
  ((s.endBlock p).ebGapAt p f.line).windowsCut p f.line 8
/-- Capture resumes at line l (R324): the HOST_SLOW record comes before its block. -/
def State.captureResume (s : State) (p : Nat) (f : Fire) : State :=
  let from_ := ((s.ring p).stopFrom.map (·.1)).getD f.line
  (s.gapStopped p f.line (s.ropeAt f.tick)).raise Ev.RING_RESUME (portU p) (sat32 (f.line - from_))
/-- A corrected line goes to the ring and to Eyebright, or finds no room (R324, R325): a line for which the open block holds a slot needs none. Capture that has stopped goes on with
the first line of a repeat, in web mode once U is down to M. `lamp`: the lamps still have to verify it. -/
def State.lineEnters (s : State) (p : Nat) (f : Fire) (planes : List (List Nat)) (flags : Nat) (lamp : Bool) : State :=
  let m := f.set
  let f := { f with flags := flags }
  let u := s.ringU p * 64
  let units := blockUnits (vw s m (portU p) Ring.BLOCK_LINES) (strideOf s m p)
  let s := if (s.ring p).stopped then
      if f.line == f.repFirst && (!s.webMode p || u ≤ s.ringM p) && s.ringRoom p (units + 1) then s.captureResume p f else s
    else if (s.webMode p && s.ringH p ≤ u) || (!s.slotHeld p f && !s.ringRoom p units) then s.captureStop p f
    else s
  if (s.ring p).stopped then s.lineGone p f.line
  else if s.skewed 1 p then s.burstLost p f
  else
    let outBits := vw s m (pipeU p) Pipe.OUT_BITS
    let lut := (s.port p).lutActive
    let rows := planes.zipIdx.flatMap (fun r => packRow outBits (lutOf lut r.2) r.1)
    let eb := (clusterOf s s.active p).isSome
    let s := s.ringLine p f rows eb lamp
    if eb then s.modEb p (fun e => { e with queue := e.queue ++ [{ fire := f, planes := planes, ring := true }] }) else s

end Sys2Proof.Machine
end

