-- ==== Sys2Proof/Machine/Capture.lean ====
section
/-! DEFINITION. Shading sets: their checks (R217 to R220), staging into a segment (R221), and SHADING_CAPTURE (R224 to R233). -/
namespace Sys2Proof.Machine
open R

/-! ### A set in the store (R216, R217) -/

/-- Byte address of slot n. -/
def slotBase (n : Nat) : Nat := shadingBase + n * 0x100000
/-- Length of a set: header and entries. -/
def setBytes (w planes : Nat) : Nat := 0x100 + 8 * w * planes
/-- CRC of a set (R217): header bytes 0x00 to 0x7F and all entries. -/
def setCrc (m : Mem) (base w planes : Nat) : Nat := crc32c (Mem.read m base 0x80 ++ Mem.read m (base + 0x100) (8 * w * planes))
/-- Header word at offset o. -/
def hdr (m : Mem) (base o : Nat) : Nat := Mem.rd32 m (base + o)
/-- The header values that staging copies (R221). -/
def setRegsOf (m : Mem) (base slot : Nat) : SetRegs :=
  { slot := slot, tRef := sgn 16 (hdr m base 8), obRef := (List.range 16).map (fun k => sgn 24 (hdr m base (0x40 + 4 * k))),
    wtRef := (List.range 4).map (fun q => sgn 24 (hdr m base (0x20 + 4 * q))), wtFirst := hdr m base 0x30 % 2 ^ 14,
    wtCount := bits (hdr m base 0x30) 30 16, expNominal := hdr m base 0xC % 2 ^ 24 }
/-- Every REPLACE pixel has a neighbour (check 6): the first that has none. -/
def lonely (es : List Entry) : Option Nat :=
  (List.range es.length).find? (fun x => (es.getD x (Entry.of 0)).replace && neighbours es x == (none, none))
/-- An entry with reserved bits, or whose REPLACE breaks R219 (check 5): the first. -/
def oddEntry (es : List Entry) : Option Nat :=
  (List.range es.length).find? (fun x => let e := es.getD x (Entry.of 0); e.rsv != 0 || e.replace != (e.user || e.dark || e.white))
/-- Checks 5 and 6 of R220 on the planes of a set: the detail of the first that fails. -/
def entriesFail (pl : List (List Entry)) : Option Nat :=
  let pix := fun (n : Nat) (bad : List Entry → Option Nat) => pl.zipIdx.findSome? (fun l => (bad l.1).map (fun x => n * 2 ^ 24 + l.2 * 16384 + x))
  (pix 5 oddEntry).orElse (fun _ => pix 6 lonely)
/-- The checks of R220 for a port under a set of registers: the detail of the first that fails. -/
def setCheck (s : State) (m : RegMap) (p slot : Nat) : Option Nat :=
  let base := slotBase slot
  let d := s.dram
  let w := widthOf s m p
  let planes := planesOf s m p
  let v := fun g => vw s m (pipeU p) g
  let es := fun q => entriesAt d (base + 0x100) w q
  let chk := fun (n q x : Nat) => n * 2 ^ 24 + q * 16384 + x
  let h0 := hdr d base 0
  if h0 % 65536 ≠ 1 ∨ bits h0 23 16 ≠ slot then some (chk 1 0 0)
  else if !(tbit h0 24 && tbit h0 25) then some (chk 2 0 0)
  else if hdr d base 4 % 512 ≠ vw s m (portU p) Port.LINE_UNITS ∨ bits (hdr d base 4) 10 9 + 1 ≠ planes then some (chk 3 0 0)
  else if hdr d base 0x80 ≠ setCrc d base w planes then some (chk 4 0 0)
  else match entriesFail ((List.range planes).map es) with
    | some r => some r
    | none =>
      if v Pipe.WT_SRC = 0 then none
      else if hdr d base 0x30 % 2 ^ 14 ≠ v Pipe.WT_FIRST ∨ bits (hdr d base 0x30) 30 16 ≠ v Pipe.WT_COUNT then some (chk 7 0 0)
      else ((List.range planes).find? (fun q => (patchPix (es q) (v Pipe.WT_FIRST) (v Pipe.WT_COUNT)).length < 16)).map (fun q => chk 8 q 0)
/-- Copy a checked set into the staged segment of a port (R221). -/
def State.setStage (s : State) (m : RegMap) (p slot : Nat) : State :=
  let n := 8 * widthOf s m p * planesOf s m p
  let bytes := Mem.read s.dram (slotBase slot + 0x100) n
  let s := { s with sram := Mem.write s.sram (segAddr (1 - (s.port p).seg) p) bytes }
  let regs := setRegsOf s.dram (slotBase slot) slot
  let s := s.modPort p (fun x => { x with stgRegs := regs })
  (s.set (pipeU p) Pipe.STAGED_SET slot).set (pipeU p) Pipe.STAGED_OK 1

/-! ### SHADING_CAPTURE (R224 to R233) -/

/-- P_cap (R224). -/
def capPeriodOf (s : State) (p : Nat) : Nat :=
  let v := fun g => s.act (portU p) g
  if v Port.SHUTTER = 1 then max (v Port.LINE_PERIOD_MIN) (v Port.EXP_DELAY + v Port.EXP_TIME + v Port.EXP_GAP_MIN) else v Port.NOMINAL_PERIOD
/-- D (R225). -/
def capDiscard (s : State) (p : Nat) : Nat := 16 + s.act (portU p) Port.READOUT_LAG + maxLag s s.active p
/-- Rounded division of R226. -/
def rdiv (a n : Nat) : Nat := (a + n / 2) / n
/-- Zero the sums of a capture. -/
def Capture.zero (c : Capture) : Capture := { c with got := 0, sums := [], obSums := List.replicate 16 0, tSum := 0 }
/-- Begin an attempt (R225). -/
def Capture.begin_ (c : Capture) (d : Nat) : Capture := { c.zero with phase := 0, discard := d, restarts := 0, attempt := c.attempt + 1 }
/-- Add lists element by element, the first empty at the start. -/
def addRows (a b : List (List Nat)) : List (List Nat) := if a = [] then b else (a.zip b).map (fun r => (r.1.zip r.2).map (fun x => x.1 + x.2))
/-- The port stops after a capture, with the results of R233, and the commits that waited for its end come into force (R49); reliefs go on from there (R157,
State.reliefWaits). -/
def State.capEnd (s : State) (p status rep : Nat) (detail : List Nat) : State :=
  let data := match (s.port p).capture with | some c => c.words rep detail | none => detail
  let s := (s.modPort p (fun x => { x with capture := none })).portHalt p
  let s := if s.fenced (portU p) then s else s.setSt (portU p) .idle
  let s := match s.workOf 0x23 (pipeU p) with
    | some w => s.workEnd w status data
    | none => s
  s
/-- One capture line, after stage 1 (R225, R226). -/
def State.capLine (s : State) (p : Nat) (c : Capture) (rows : List (List Nat)) (srcs : List (Option Readout)) (flags : Nat) (temp : Option Int) : State :=
  let m := s.active
  let s := s.set (pipeU p) Pipe.TEMP_LAST (low 16 (s.lineTemp p m temp))
  let put := fun (c : Capture) => s.modPort p (fun x => { x with capture := some c })
  if c.phase = 3 then s
  else if c.phase = 0 then put (if c.discard ≤ 1 then { c with discard := 0, phase := 1 } else { c with discard := c.discard - 1 })
  else if anyFlag flags [Ln.LANE_FAULT, Ln.PLANE_FILL, Ln.AFE_STALE] then
    let c := { c.zero with restarts := c.restarts + 1, totalRestarts := c.totalRestarts + 1, lastFlags := flags }
    if 16 ≤ c.restarts then (put c).capEnd p St.CAPTURE_LINES 0 [flags] else put c
  else
    let ob := (List.range 16).map (fun k =>
      if tapEn s m p k && 0 < vw s m (portU p) Tap.OB k then
        match srcs.getD (vw s m (portU p) Tap.PLANE k) none with
        | some r => obMean (obSamples s m p k r.taps)
        | none => 0
      else 0)
    let t := if s.act (pipeU p) Pipe.TEMP_SRC = 0 then 0 else s.lineTemp p m temp
    let c := { c with
      got := c.got + 1, sums := addRows c.sums (rows.map (fun r => r.map (· * 16))),
      obSums := (c.obSums.zip ob).map (fun x => x.1 + x.2), tSum := c.tSum + t }
    if c.got < c.lines then put c
    else
      let avg := c.sums.map (fun r => r.map (fun x => rdiv x c.lines))
      let obA := c.obSums.map (fun x => rdiv x c.lines)
      let tA := fdiv (c.tSum + Int.ofNat (c.lines / 2)) (Int.ofNat c.lines)
      if c.phase = 1 then put { c.zero with phase := 2, first := avg, firstOb := obA, firstT := tA }
      else put { c with phase := 3, sums := avg, obSums := obA, tSum := tA }
/-- A set under construction: header fields and the entries of each plane. -/
structure SetCopy where
  black : Bool
  white : Bool
  slope : Bool
  tRef : Int
  tWhite : Int
  expNom : Nat
  blackLines : Nat
  whiteLines : Nat
  wtRef : List Int
  wtFirst : Nat
  wtCount : Nat
  obRef : List Int
  planes : List (List Entry)
  deriving DecidableEq, Repr
/-- Read a slot as a copy. -/
def readSet (m : Mem) (slot w planes : Nat) : SetCopy :=
  let b := slotBase slot
  let r := setRegsOf m b slot
  let h := hdr m b 0
  { black := tbit h 24, white := tbit h 25, slope := tbit h 26, tRef := r.tRef, tWhite := sgn 16 (hdr m b 8 / 65536), expNom := r.expNominal,
    blackLines := hdr m b 0x14 % 65536, whiteLines := hdr m b 0x14 / 65536, wtRef := r.wtRef, wtFirst := r.wtFirst, wtCount := r.wtCount,
    obRef := r.obRef, planes := (List.range planes).map (entriesAt m (b + 0x100) w) }
/-- Bytes of a copy: header with the TAG kept, then the entries, the CRC included (R217, R232). -/
def SetCopy.bytes (c : SetCopy) (slot units planes tag time : Nat) : List Nat :=
  let h := [1 + slot * 2 ^ 16 + b2n c.black * 2 ^ 24 + b2n c.white * 2 ^ 25 + b2n c.slope * 2 ^ 26, units + (planes - 1) * 2 ^ 9,
    low 16 c.tRef + low 16 c.tWhite * 2 ^ 16, c.expNom, tag, c.blackLines + c.whiteLines * 2 ^ 16, lo32 time, hi32 time] ++
    (List.range 4).map (fun q => low 24 (nthI c.wtRef q)) ++ [c.wtFirst + c.wtCount * 2 ^ 16, 0, 0, 0] ++
    (List.range 16).map (fun k => low 24 (nthI c.obRef k))
  let head := wordBytes h
  let body := (c.planes.flatMap (fun l => l.map Entry.word)).flatMap (leBytes 8)
  head ++ leBytes 4 (crc32c (head ++ body)) ++ List.replicate (0x100 - 0x84) 0 ++ body
/-- Rounded mean over the pixels without USER (R231). -/
def meanNoUser (es : List Entry) (f : Nat → Int) : Option Int :=
  let xs := (List.range es.length).filter (fun x => !(es.getD x (Entry.of 0)).user)
  if xs = [] then none else some (meanInt (xs.map f))
/-- REPLACE by R219, then the fill of R231. -/
def fillSet (es : List Entry) : List Entry :=
  let es := es.map (fun e => { e with replace := e.user || e.dark || e.white })
  es.zipIdx.map (fun e =>
    if e.1.replace then
      let nb := neighbours es e.2
      let g := fun (f : Entry → Int) => fillFrom nb e.2 (fun y => f (es.getD y (Entry.of 0)))
      { e.1 with offset := g (·.offset), gain := (g (fun e => Int.ofNat e.gain)).toNat, dslope := g (·.dslope) }
    else e.1)
/-- The tap that carries a pixel. -/
def tapNo (s : State) (m : RegMap) (p q x : Nat) : Nat := (tapOf s m p q x).elim 0 (·.1)
/-- What a capture makes of its averages: a copy to write, or the status and detail that end it (R228 to R231). -/
def capResult (s : State) (p : Nat) (c : Capture) (a : List (List Nat)) (ob : List Nat) (t : Int) : SetCopy ⊕ (Nat × Nat) :=
  let m := s.active
  let old := readSet s.dram c.slot (widthOf s m p) (planesOf s m p)
  let av := fun q x => Int.ofNat (nth (a.getD q []) x)
  let obk := fun q x => Int.ofNat (nth ob (tapNo s m p q x))
  let refk := fun q x => nthI old.obRef (tapNo s m p q x)
  let hasOb := fun q x => (clampTap s m p (tapNo s m p q x))
  let obv := fun q x => match hasOb q x with | some j => Int.ofNat (nth ob j) | none => obk q x
  let refv := fun q x => match hasOb q x with | some j => nthI old.obRef j | none => refk q x
  if c.kind = 0 then
    match (List.range a.length).findSome? (fun q => ((List.range (a.getD q []).length).find? (fun x => 524287 < av q x)).map (fun x => q * 16384 + x)) with
    | some d => .inr (St.SHADING_RANGE, d)
    | none =>
      let pl := old.planes.zipIdx.map (fun l =>
        let mean := meanNoUser l.1 (av l.2)
        fillSet (l.1.zipIdx.map (fun e => { e.1 with
          offset := av l.2 e.2, dslope := 0,
          dark := match mean with | some b => Int.ofNat c.hot < Int.ofNat (av l.2 e.2 - b).natAbs | none => false })))
      .inl { old with black := true, white := false, slope := false, tRef := t, obRef := ob.map Int.ofNat, blackLines := c.lines, planes := pl }
  else if c.kind = 1 then
    let span := fun q x e => av q x - (e.offset + obv q x - refv q x + sar (e.dslope * (t - old.tRef) + 128) 8)
    let pl := old.planes.zipIdx.map (fun l =>
      let mean := meanNoUser l.1 (fun x => span l.2 x (l.1.getD x (Entry.of 0)))
      fillSet (l.1.zipIdx.map (fun e =>
        let sp := span l.2 e.2 e.1
        let weak := match mean with | some b => sp * 256 < Int.ofNat c.weak * b | none => false
        { e.1 with
          white := sp ≤ 56320 || weak,
          gain := if sp ≤ 56320 then e.1.gain else ((901120 * 2 ^ 20 + sp.toNat / 2) / sp.toNat) })))
    let wt := fun q =>
      let es := pl.getD q []
      let ps := patchPix es (s.act (pipeU p) Pipe.WT_FIRST) (s.act (pipeU p) Pipe.WT_COUNT)
      if ps = [] then 0 else meanInt (ps.map (fun x =>
        let e := es.getD x (Entry.of 0)
        let sp := span q x (((old.planes.getD q []).getD x (Entry.of 0)))
        sar (sp * Int.ofNat e.gain + 2 ^ 19) 20))
    let nominal := if s.act (pipeU p) Pipe.NORM_SRC = 1 then strobeNominal s s.active p
      else if s.act (portU p) Port.SHUTTER = 1 then s.act (portU p) Port.EXP_TIME else s.act (portU p) Port.NOMINAL_PERIOD
    .inl { old with
      white := true, tWhite := t, expNom := nominal, whiteLines := c.lines, wtRef := (List.range 4).map wt,
      wtFirst := s.act (pipeU p) Pipe.WT_FIRST, wtCount := s.act (pipeU p) Pipe.WT_COUNT, planes := pl }
  else
    let d := t - old.tRef
    if d.natAbs < 80 then .inr (St.SHADING_SET, 0)
    else
      let sg : Int := if d < 0 then -1 else 1
      let pl := old.planes.zipIdx.map (fun l => fillSet (l.1.zipIdx.map (fun e =>
        let er := (av l.2 e.2 - obv l.2 e.2) - (e.1.offset - refv l.2 e.2)
        { e.1 with dslope := clamp (-2048) 2047 (fdiv (256 * er * sg + fdiv (d * sg) 2) (d * sg)) })))
      .inl { old with slope := true, planes := pl }
/-- The two captures of an attempt are compared, and what follows (R227 to R230). -/
def State.capJudge (s : State) (p : Nat) (c : Capture) : State :=
  let w := (c.sums.headD []).length
  let ds := (c.first.zip c.sums).map (fun r => (r.1.zip r.2).map (fun x => (Int.ofNat x.1 - Int.ofNat x.2).natAbs))
  let msq := ds.map (fun l => l.foldl (fun a d => a + d * d) 0)
  let outs := ds.map (fun l => (l.filter (fun d => c.tolPix < d)).length)
  let fails := (List.range ds.length).find? (fun q => c.tolRms * c.tolRms * w < nth msq q || c.tolOut < nth outs q)
  let t := sar (c.firstT + c.tSum + 1) 1
  let c := { c with msq := msq.map (fun v => sat32 (v / (max 1 w))), out := outs, tRes := t }
  let s := s.modPort p (fun x => { x with capture := some c })
  match fails with
  | some q =>
    if c.attempt < c.tries then s.modPort p (fun x => { x with capture := some (c.begin_ (capDiscard s p)) })
    else s.capEnd p St.CAL_DISAGREE 0 [q]
  | none =>
    let half := fun (x : Nat × Nat) => (x.1 + x.2 + 1) / 2
    let a := (c.first.zip c.sums).map (fun r => (r.1.zip r.2).map half)
    let ob := (c.firstOb.zip c.obSums).map half
    match capResult s p c a ob t with
    | .inr e => s.capEnd p e.1 0 [e.2]
    | .inl set =>
      match entriesFail set.planes with
      | some d => s.capEnd p St.SHADING_SET 0 [d]
      | none =>
        let b := slotBase c.slot
        let bytes := set.bytes c.slot (s.act (portU p) Port.LINE_UNITS) (planesOf s s.active p) (hdr s.dram b 0x10) s.rope
        let s := { s with dram := Mem.write s.dram b bytes }
        let rep := (set.planes.map (fun l => (l.filter (·.replace)).length)).foldl (· + ·) 0
        s.capEnd p St.OK rep []
/-- CAPTURE_ATTEMPT_END: the second capture of the attempt is complete. -/
def State.capAttempt (s : State) (p : Nat) : State :=
  match (s.port p).capture with
  | none => s
  | some c => if c.phase != 3 then s else s.capJudge p c

end Sys2Proof.Machine
end

