-- ==== Sys2Proof/Machine/Memory.lean ====
section
/-! DEFINITION. The LPDDR5X as readers and writers meet it, memory errors, page retirement, the bandwidth budget and the spare ledger (R72, R73, R476
to R491). -/
namespace Sys2Proof.Machine
open R

/-! ### Retirement (R481, R482) -/

/-- The first waiting copy ends: the table entry is written and its events are raised (R481, R482, R491). -/
def State.retireDone (s : State) : State :=
  match s.memS.copies with
  | [] => s
  | page :: rest =>
    let s := { s with memS := { s.memS with copies := rest } }
    let used := s.reserveUsed
    let total := s.reservePages
    if total ≤ used then s else
    let s := { s with memS := { s.memS with retired := s.memS.retired ++ [(page, s.reserveBase * 256 + used)] } }
    let s := (s.set memU R.Mem.RESERVE_USED (used + 1)).raise Ev.MEM_RETIRE memU page
    let s := if 9 * total ≤ 10 * (used + 1) && !s.memS.lowRaised
      then ({ s with memS := { s.memS with lowRaised := true } }).raise Ev.MEM_RESERVE memU 1 else s
    if used + 1 = total && !s.memS.emptyRaised
    then ({ s with memS := { s.memS with emptyRaised := true } }).raise Ev.MEM_RESERVE memU 2 else s
/-- MEM_RETIRE (R481, R483, R575). The waiting copies end before this one begins. -/
def State.cmdMemRetire (s : State) (a : Nat) (clear : Bool) : State × Nat × List Nat :=
  if clear then ({ s with memS := { s.memS with clear := true } }, St.OK, [s.reserveUsed])
  else if !s.inDram a 1 || decide (s.reserveBase * 2 ^ 20 ≤ a) || s.pageRetired (a / 4096) || s.memS.copies.contains (a / 4096) then (s, St.BAD_PARAM, [0])
  else if s.reservePages ≤ s.reserveUsed + s.memS.copies.length then (s, St.UNSUPPORTED, [s.reservePages])
  else
    let s := { s with memS := { s.memS with copies := s.memS.copies ++ [a / 4096] } }
    let s := s.memS.copies.foldl (fun (s : State) _ => s.retireDone) s
    (s, St.OK, [s.reserveUsed])
/-- A scrub pass ends (R480): corrected and uncorrectable errors that it found. -/
def State.scrubPass (s : State) (ce ue : List Nat) : State :=
  if s.reg memU R.Mem.SCRUB_HOURS = 0 then s else
  let fit := s.fitted
  let s := (ce.filter (· < fit)).foldl State.memCE s
  let s := (ue.filter (· < fit)).foldl State.memUE s
  s.bump memU R.Mem.SCRUB_PASSES

/-! ### Bandwidth (R486) -/

/-- Data rate in MT/s (R476). -/
def State.mts (s : State) : Nat :=
  let r := s.reg memU R.Mem.RATE
  if r = 1 then 6400 else if r = 2 then 7500 else if r = 3 then 8533 else 0
/-- demand in MB/s for the ports given, with the sets of a map. -/
def memDemand (s : State) (m : RegMap) (ps : List Nat) : Nat :=
  let one := fun p =>
    let l := max 1 (vw s m (portU p) Port.LINE_PERIOD_MIN)
    let w := widthOf s m p
    let i := if clusterOf s m p = none then 0 else w * planesOf s m p * 2 + w / 2
    ((2 * strideOf s m p + i) * 1600000000 + l - 1) / l
  cdiv (4000000000 + (ps.map one).foldl (· + ·) 0) 1000000
/-- budget in MB/s. -/
def State.memBudget (s : State) : Nat :=
  let b := 96000 * s.mts / 8533
  if s.eccOn then b * 4 / 5 else b
/-- Ports that run a job. -/
def State.portsRunning (s : State) : List Nat := s.portsOn.filter (fun p => (s.port p).jobOn)
/-- BW_DEMAND and BW_BUDGET show the values of the active sets. -/
def State.bwRegs (s : State) : State :=
  (s.set memU R.Mem.BW_DEMAND (memDemand s s.active s.portsRunning)).set memU R.Mem.BW_BUDGET s.memBudget

/-! ### The spare ledger (R490, R491) -/

/-- Kind of a ledger entry. -/
def poolKind (i : Nat) : Nat := if i < 8 then 1 else if i < 10 then 2 else if i < 18 then 3 else i - 14
/-- UID of the spare. -/
def poolUid (i : Nat) : Nat :=
  if i < 8 then afeU i 9 else if i < 10 then clU (i - 8) + 9 else if i < 18 then strU (i - 10) 5 else if i = 18 then secU else if i = 19 then memU else devU
/-- UID of the pool, which EV_SPARE_LOW names. -/
def poolOwner (i : Nat) : Nat :=
  if i < 8 then portU i else if i < 10 then clU (i - 8) else if i < 18 then lampU (i - 10) else if i = 18 then secU else if i = 19 then memU else devU
/-- The unit that the spare of a pool replaces. -/
def State.poolFor (s : State) (i : Nat) : Option Nat :=
  if i < 8 then (if s.reg (portU i) Port.SPARE_TAP < 8 then some (afeU i (s.reg (portU i) Port.SPARE_TAP + 1)) else none)
  else if i < 10 then (if s.reg (clU (i - 8) + 9) Lane.PHYS = 0 then none else some (clU (i - 8) + s.reg (clU (i - 8) + 9) Lane.PHYS))
  else if i < 18 then (s.lamp (i - 10)).spareFor.map (strU (i - 10))
  else none
/-- TOTAL and USED of a counted pool: the 492 spare rows of the MRAM (R487), the reserve pages, the steps of the core supply (R490). -/
def State.poolCount (s : State) (i : Nat) : Nat × Nat :=
  if i = 18 then (492, s.reg memU R.Mem.MRAM_SPARE_USED)
  else if i = 19 then (s.reservePages, s.reserveUsed)
  else if i = 20 then (s.reg devU Th.VCORE_MAX_MV - s.reg devU Th.VCORE_NOM_MV, s.reg bar0 Pace.VCORE_REQ - s.reg devU Th.VCORE_NOM_MV)
  else (0, 0)
/-- A unit of the pool is lost with no spare to replace it. -/
def State.poolShort (s : State) (i : Nat) : Bool :=
  if i < 8 then (List.range 8).any (fun k => s.reg (afeU i (k + 1)) Afe.SUSPECT == 1 && s.reg (portU i) Port.SPARE_TAP != k)
  else if i < 10 then (List.range 8).any (fun k => s.reg (clU (i - 8) + k + 1) Lane.RETIRED == 1)
  else if i < 18 then [1, 2, 3, 4].any (fun k => s.reg (strU (i - 10) k) Str.FAULT != 0 && (s.lamp (i - 10)).spareFor != some k)
  else (s.poolCount i).1 ≤ (s.poolCount i).2
/-- The spare itself is out of use. -/
def State.poolSpareBad (s : State) (i : Nat) : Bool :=
  if i < 8 then s.reg (afeU i 9) Afe.SUSPECT == 1
  else if i < 10 then s.reg (clU (i - 8) + 9) Lane.RETIRED == 1
  else if i < 18 then s.reg (strU (i - 10) 5) Str.FAULT != 0
  else false
/-- STATE of a pool. -/
def State.poolState (s : State) (i : Nat) : Nat :=
  if i < 8 && fusedOff s.part (portU i) then 4
  else if (i = 19 ∨ i = 20) && (s.poolCount i).1 == 0 then 4
  else if s.poolShort i then 3
  else if s.poolSpareBad i then 2
  else if (s.poolFor i).isSome || decide (0 < (s.poolCount i).2) then 1
  else 0
/-- Spares of a kind that are still free. -/
def State.kindFree (s : State) (kind : Nat) : Nat :=
  ((List.range 21).filter (fun i => poolKind i == kind)).foldl (fun n i =>
    n + (if 18 ≤ i then (s.poolCount i).1 - (s.poolCount i).2 else if s.poolState i = 0 then 1 else 0)) 0
/-- WEAR of a pool. Operating hours are free values; a string with no GOOD measurement yet has no excursion (log entry 11). -/
def State.poolWear (s : State) (i : Nat) : Nat :=
  let c := s.poolCount i
  if i < 10 then Config.freeNat (s.draw + i) % 256
  else if i < 18 then
    let g := i - 10
    let k := ((s.lamp g).spareFor).getD 5
    let v := s.reg (strU g k) Str.VREF_MV
    let x := (s.str g k).goodMv
    if x = 0 then 0 else min 255 (((max v x - min v x) * 256 * 256) / max 1 (v * s.act (strU g k) Str.V_WARN_FRAC))
  else if i = 18 then min 255 (s.reg memU R.Mem.MRAM_MAX_WRITES * 65536 * 256 / 1000000000)
  else min 255 (c.2 * 256 / max 1 c.1)
/-- The four words of a ledger entry. -/
def State.poolWords (s : State) (i : Nat) : List Nat :=
  let c := s.poolCount i
  let d := if i = 19 then 16 else 1
  let ch := ((s.memS.changed.find? (fun x => x.1 == i)).map (·.2.2)).getD 0
  [poolUid i + poolKind i * 2 ^ 16 + s.poolState i * 2 ^ 20 + s.poolWear i * 2 ^ 24, (s.poolFor i).getD 0xFFFF,
   min 0xFFFF (cdiv c.2 d) + min 0xFFFF (c.1 / d) * 2 ^ 16, ch]
def State.cmdLedger (s : State) : State × Nat × List Nat :=
  ({ s with draw := s.draw + 21 }, St.OK, 21 :: (List.range 21).flatMap s.poolWords)
/-- A pool changes its STATE: CHANGED takes the instant, and the last free spare of a kind or an exhausted pool raises EV_SPARE_LOW. `before` is the state before
the command. -/
def State.ledgerStep (s before : State) : State :=
  (List.range 21).foldl (fun (s : State) i =>
    let a := before.poolState i
    let b := s.poolState i
    let f := s.kindFree (poolKind i)
    let f' := before.kindFree (poolKind i)
    let moved := a != b
    let low := (b == 3 && moved) || (f == 1 && f' != 1 && (moved || decide (18 ≤ i)))
    let s := if moved then { s with memS := { s.memS with
        changed := (i, b, s.rope % 2 ^ 32) :: s.memS.changed.filter (fun x => x.1 != i) } } else s
    if low then s.raise Ev.SPARE_LOW memU (poolKind i + poolOwner i * 2 ^ 16) else s) s

end Sys2Proof.Machine
end

