-- ==== Sys2Proof/Machine/Dma.lean ====
section
/-! DEFINITION. Host DMA channels, their chains and transfers, and the internal movers (R326 to R341). -/
namespace Sys2Proof.Machine
open R

/-! ### Channels -/

/-- The port whose ring a channel drains. -/
def State.dmaPort (s : State) (k : Nat) : Option Nat :=
  if s.act (dmaU k) Dma.SRC_KIND = 1 then some (s.act (dmaU k) Dma.SRC_PORT) else none
/-- Keep the doorbell block of a channel in step. -/
def State.dmaRegs (s : State) (k : Nat) : State :=
  let d := s.dma k
  ((s.set bar0 Db.STATE d.st k).set bar0 Db.CUR_LO (lo32 d.cur) k).set bar0 Db.CUR_HI (hi32 d.cur) k
def State.dmaTo (s : State) (k : Nat) (f : DmaSt → DmaSt) : State := (s.modDma k f).dmaRegs k
/-- The channel reads the descriptor at an address (R329). -/
def State.dmaGo (s : State) (k a : Nat) : State :=
  let s := s.dmaTo k (fun d => { d with st := 1, cur := a, seg := [], segOk := false, reading := some (a, false, s.now) })
  if s.fenced (dmaU k) then s else s.setSt (dmaU k) .running
/-- Forget the segment and every read. -/
def DmaSt.clear (d : DmaSt) : DmaSt := { d with seg := [], segOk := false, reading := none, more := 0, inXfer := false, waitBarrier := false, xfer := [], owed := none, bytes := 0, kept := none, barrierIn := false }
/-- Bytes of a segment. -/
def DmaSt.segLen (d : DmaSt) : Nat := (d.seg.map (·.len)).foldl (· + ·) 0

/-! ### Readiness (R331 to R333) -/

/-- Committed records that start in the untransferred part, oldest first. -/
def RingSt.fresh (r : RingSt) : List RingRec := r.recs.filter (fun x => decide (r.rd < x.off + x.size) && decide (x.off + x.size ≤ r.cm))
/-- When the oldest untransferred byte was committed. -/
def RingSt.oldest (r : RingSt) : Option Nat := r.fresh.head?.map (·.at_)
/-- R332: units that a RING transfer takes now, none when it is not ready. -/
def State.ringReady (s : State) (k p : Nat) : Option Nat :=
  let d := s.dma k
  let r := s.ring p
  let n := r.cm - r.rd
  let mark := r.fresh.any (fun x => x.typ == 8 || x.typ == 6)
  let old := match r.oldest with
    | some t => decide (t + s.act (dmaU k) Dma.FLUSH_TICKS ≤ s.now)
    | none => false
  if n = 0 then none
  else if d.segLen ≤ n * 64 || mark || old then
    let je := ((r.fresh.find? (fun x => x.typ == 8)).map (fun x => x.off + x.size - r.rd)).getD n
    some (min (min n je) (d.segLen / 64))
  else none
/-- The window whose bytes are taken next: the oldest opened, when it has closed (R333). -/
def State.poolNext (s : State) : Option Closed :=
  let low := ((s.trig.windows.map (·.seq)) ++ s.trig.closed.map (·.seq)).min?
  s.trig.closed.find? (fun c => some c.seq == low)
/-- Bytes that the channel's next transfer takes, none while it is not ready. -/
def State.dmaReady (s : State) (k : Nat) : Option Nat :=
  let d := s.dma k
  if d.st != 1 || !d.segOk || d.inXfer || d.waitBarrier || s.fenced (dmaU k) || s.d3hot then none
  else if s.act (dmaU k) Dma.SRC_KIND = 1 then (s.ringReady k (s.act (dmaU k) Dma.SRC_PORT)).map (· * 64)
  else if s.act (dmaU k) Dma.SRC_KIND = 2 then s.poolNext.map (fun c => min (c.size - c.taken) d.segLen)
  else none
/-- An engine begins its next transfer: the first ready channel after the one last served (R331). -/
def State.dmaServe (s : State) (e : Nat) : State :=
  let ks := (List.range 16).map (e * 16 + ·)
  if ks.any (fun k => (s.dma k).inXfer || (s.dma k).waitBarrier) then s else
  let from_ := ((ks.find? (fun k => (s.dma k).last)).map (· + 1)).getD (e * 16)
  let order := (List.range 16).map (fun i => e * 16 + (from_ - e * 16 + i) % 16)
  match order.find? (fun k => (s.dmaReady k).isSome) with
  | none => s
  | some k =>
    let n := (s.dmaReady k).getD 0
    let s := ks.foldl (fun (s : State) j => s.modDma j (fun d => { d with last := j == k })) s
    let win := if s.act (dmaU k) Dma.SRC_KIND = 2 then s.poolNext.map (·.seq) else none
    s.dmaTo k (fun d => { d with inXfer := true, bytes := n, xferWin := win })
/-- Every engine begins what it can. -/
def State.dmaPump (s : State) : State := [0, 1, 2, 3].foldl State.dmaServe s

/-! ### A transfer's data (R332 to R334, R338) -/

/-- Ring units are released as they are read and join the retained tail. -/
def State.ringRelease (s : State) (p n : Nat) : State :=
  let s := s.modRing p (fun r => { r with rd := r.rd + n, recs := r.recs.filter (fun x => decide (r.rd + n < x.off + x.size)) })
  (s.flushHeld p).ringRegs p
/-- The writes that put bytes into the buffers of a segment, in order: address and bytes. -/
def scatter : List Desc → List Nat → List (Nat × List Nat)
  | [], _ => []
  | d :: ds, bs => (d.addr, bs.take d.len) :: scatter ds (bs.drop d.len)
/-- Host memory after writes, in order. -/
def hostWrites (m : Mem) (ws : List (Nat × List Nat)) : Mem := ws.foldl (fun (m : Mem) w => Machine.Mem.write m w.1 w.2) m
/-- A channel writes host memory. No request leaves the device in D3hot: the writes are kept for the return to D0 (R67). -/
def State.hostPut (s : State) (k : Nat) (ws : List (Nat × List Nat)) : State :=
  if s.d3hot then s.modDma k (fun d => { d with late := d.late ++ ws }) else { s with host := hostWrites s.host ws }
/-- The data of a transfer: `n` bytes leave the ring or the pool and reach host memory. The word of POS and the flags of the status block are
kept for it. -/
def State.dmaData (s : State) (k n : Nat) : State :=
  let d := s.dma k
  match d.xferWin with
  | some seq =>
    match s.trig.closed.find? (fun c => c.seq == seq) with
    | none => s.dmaTo k (fun d => { d with xfer := [], endFlags := 0 })
    | some c =>
      let base := s.act trigU Trig.POOL_BASE * 2 ^ 26
      let size := s.act trigU Trig.POOL_SIZE * 2 ^ 26
      let bs := s.poolRead (c.off + c.taken) n
      let s := s.meetPoison (base + (c.off + c.taken) % max 1 size) n
      let whole := c.taken + n == c.size
      let left := if whole then s.trig.closed.filter (fun x => x.seq != seq) else s.trig.closed.map (fun x => if x.seq = seq then { x with taken := x.taken + n } else x)
      let s := s.modTrig (fun t => { t with closed := left })
      let s := s.hostPut k (scatter d.seg bs)
      (s.dmaTo k (fun d => { d with xfer := bs, xferOff := c.taken + c.port * 2 ^ 52 + c.num * 2 ^ 40, endFlags := if whole then 32 else 0 })).poolRegs
  | none =>
    let p := s.act (dmaU k) Dma.SRC_PORT
    let r := s.ring p
    let u := n / 64
    let bs := s.ringRead p (r.rd * 64) (u * 64)
    let s := s.meetPoison (s.ringAddr p (r.rd * 64)) (min (u * 64) (s.ringUnits p * 64 - r.rd * 64 % max 1 (s.ringUnits p * 64)))
    let in_ := fun (t : Nat) => r.recs.any (fun x => x.typ == t && decide (r.rd < x.off + x.size) && decide (x.off + x.size ≤ r.rd + u))
    let fen := r.recs.any (fun x => x.typ == 6 && decide (r.rd < x.off + x.size) && decide (x.off < r.rd + u))
    let s := s.hostPut k (scatter d.seg bs)
    let s := s.dmaTo k (fun d => { d with xfer := bs, xferOff := r.rd * 64, endFlags := b2n (in_ 8) * 8 + b2n fen * 16 })
    s.ringRelease p u

/-! ### The end of a transfer (R334 to R337) -/

/-- DETAIL of a completion event (R337). -/
def dmaDetail (seq kind flags : Nat) (parked : Bool) : Nat := seq % 65536 + kind * 2 ^ 16 + b2n (tbit flags 3) * 2 ^ 19 + b2n parked * 2 ^ 20
/-- Write the status block, and keep the counters. -/
def State.dmaStatus (s : State) (k kind : Nat) : State :=
  let d := s.dma k
  let u := dmaU k
  let seq := (s.reg u Dma.XFER_SEQ + 1) % 2 ^ 32
  let nb := d.xfer.length
  let crc := if nb = 0 then 0 else crc32c d.xfer
  let pos := match d.xferWin with
    | some _ => [d.xferOff % 2 ^ 32, d.xferOff / 2 ^ 40 % 4096 + d.xferOff / 2 ^ 52 * 2 ^ 12]
    | none => [lo32 d.xferOff, hi32 d.xferOff]
  let words := [seq, nb, d.segLen - nb, crc, kind + d.endFlags] ++ pos ++ [lo32 ((d.seg.getLast?.map (·.at_)).getD 0)]
  let at_ := s.reg u Dma.STATUS_HI * 2 ^ 32 + s.reg u Dma.STATUS_LO * 32
  let s := s.hostPut k [(at_, wordBytes words)]
  let tot := s.reg u Dma.BYTES_HI * 2 ^ 32 + s.reg u Dma.BYTES_LO + nb
  let s := (((s.set u Dma.XFER_SEQ seq).set u Dma.LAST_CRC crc).set u Dma.BYTES_LO (lo32 tot)).set u Dma.BYTES_HI (hi32 tot)
  s.dmaTo k (fun d => { d with endKind := kind })
/-- R337 asks for a completion event without regard to parking. -/
def State.dmaTells (s : State) (k : Nat) : Bool :=
  let d := s.dma k
  s.reg (dmaU k) Dma.XFER_SEQ % max 1 (s.act (dmaU k) Dma.IRQ_EVERY) == 0 || d.endKind != 0 || tbit d.endFlags 3 || tbit d.endFlags 4
def State.dmaEvent (s : State) (k : Nat) (parked : Bool) : State :=
  let d := s.dma k
  s.raise k (dmaU k) (dmaDetail (s.reg (dmaU k) Dma.XFER_SEQ) d.endKind d.endFlags parked)
/-- Fence a channel without a status block (R339); the port writes its FENCE record (R320). The completion event of a transfer that has ended before, held back until the link word would tell
whether the channel parks, is raised now, since R337 asks for it whatever the link gives. -/
def State.dmaFence (s : State) (k reason : Nat) : State :=
  let ps := (s.dmaPort k).toList
  let s := if (s.dma k).owed = some 1 then s.dmaEvent k false else s
  (s.dmaTo k (fun d => { d.clear with st := 0 })).fenceServing (dmaU k) reason ps
/-- A transfer ends with a KIND: status block, event, and the way on (R329, R334 to R337). -/
def State.dmaEnds (s : State) (k kind : Nat) : State :=
  let d := s.dma k
  let s := s.dmaStatus k kind
  let lastD := d.seg.getLast?
  let s := s.modDma k (fun d => { d with inXfer := false, waitBarrier := false, barrierIn := false, xfer := [], bytes := 0 })
  match lastD with
  | none => s
  | some x =>
    if x.eoc then
      s.dmaTo k (fun d => { d with cur := x.at_, seg := [], segOk := false, reading := some (x.at_, true, s.now), owed := some (b2n (s.dmaTells k)) })
    else (if s.dmaTells k then s.dmaEvent k false else s).dmaGo k x.link
/-- All data of the transfer are delivered. -/
def State.dmaFinish (s : State) (k : Nat) : State := let d := s.dma k
  s.dmaEnds k (if d.xfer.length = d.segLen then 0 else 1)
/-- A transfer in progress ends with ERROR where its queue is reset (R321, R339): how much of it has been written is a free value. A channel that an ABORT is stopping goes on stopping. -/
def State.dmaError (s : State) (k : Nat) : State :=
  let d := s.dma k
  if !d.inXfer then s else
  let s := if d.waitBarrier then s else ({ s with draw := s.draw + 1 } : State).dmaData k (Config.freeNat s.draw % (d.bytes / 64 + 1) * 64)
  if d.st != 3 then s.dmaEnds k 3
  else ((s.dmaStatus k 3).dmaEvent k false).modDma k (fun d => { d with inXfer := false, waitBarrier := false, barrierIn := false, xfer := [], bytes := 0 })
/-- DMA_TRANSFER_END: the last data write has been sent. With BARRIER, a zero-length read follows (R334). A channel that an ABORT is stopping ends its transfer with that. -/
def State.dmaTransferEnd (s : State) (k : Nat) : State :=
  let d := s.dma k
  if !d.inXfer || d.waitBarrier || d.st == 3 || s.d3hot then s else
  let s := s.dmaData k d.bytes
  if d.seg.any (·.barrier) then s.dmaTo k (fun d => { d with waitBarrier := true }) else s.dmaFinish k
/-- BARRIER_READ_DONE. In D3hot the status block waits for the return to D0 (R67). -/
def State.dmaBarrierDone (s : State) (k : Nat) : State :=
  let d := s.dma k
  if !d.waitBarrier || d.st == 3 then s
  else if s.d3hot then s.modDma k (fun d => { d with barrierIn := true }) else s.dmaFinish k

/-! ### Descriptor reads (R328, R329, R339) -/

/-- A link word: reserved bits set, EOC, and the address. -/
def linkOfWords (lo hi : Nat) : Bool × Bool × Nat := (bits lo 4 1 != 0, tbit lo 0, hi * 2 ^ 32 + lo / 32 * 32)
/-- A descriptor read or link-word read completes with its words. In D3hot its words wait for the return to D0, since what follows them may be a request (R67). -/
def State.dmaDescDone (s : State) (k : Nat) (ws : List Nat) : State :=
  let d := s.dma k
  if s.d3hot then (if d.reading.isSome then s.modDma k (fun d => { d with kept := some ws }) else s) else
  match d.reading with
  | none => s
  | some (a, true, _) =>
    let l := linkOfWords (nth ws 0) (nth ws 1)
    if l.1 then s.dmaFence k Fr.BAD_DESC
    else if l.2.1 then
      let tell := d.owed.isSome
      let s := s.dmaTo k (fun d => { d with st := 2, cur := a, reading := if d.more = 0 then none else some (a, true, s.now), more := d.more - 1, owed := none })
      let s := if tell then s.dmaEvent k true else s
      if s.fenced (dmaU k) then s else s.setSt (dmaU k) .waiting
    else (if d.owed = some 1 then s.dmaEvent k false else s).modDma k (fun d => { d with owed := none, more := 0 }) |>.dmaGo k l.2.2
  | some (a, false, _) =>
    let l := linkOfWords (nth ws 4) (nth ws 5)
    let x : Desc := { at_ := a, addr := nth ws 1 * 2 ^ 32 + nth ws 0, len := nth ws 2 % 2 ^ 24, segEnd := tbit (nth ws 3) 0, barrier := tbit (nth ws 3) 1, eoc := l.2.1, link := l.2.2 }
    let seg := d.seg ++ [x]
    let total := (seg.map (·.len)).foldl (· + ·) 0
    let bad := nth ws 2 / 2 ^ 24 != 0 || nth ws 3 / 4 != 0 || l.1 || x.len == 0 || decide (2 ^ 64 < x.addr + x.len) || decide (64 < seg.length) ||
      decide (s.act (dmaU k) Dma.CHUNK * 65536 < total)
    if bad then s.dmaFence k Fr.BAD_DESC
    else if x.segEnd || x.eoc then s.dmaTo k (fun d => { d with seg := seg, segOk := true, reading := none })
    else s.dmaTo k (fun d => { d with seg := seg, cur := x.link, reading := some (x.link, false, s.now) })
/-- A read of the device was not answered in time: Completion Timeout in the AER status (R61, PRESUMED, log entry 70). -/
def State.aerTimeout (s : State) : State := { s with cfg := { s.cfg with aerUncStatus := s.cfg.aerUncStatus ||| 2 ^ 14 } }
/-- DESC_READ_TIMEOUT: the read failed, or 10 ms have passed (R339). In D3hot no read is under way: it is made anew on the return to D0 (R67, log entry 78). -/
def State.dmaDescFail (s : State) (k : Nat) (error : Bool) : State :=
  match (s.dma k).reading with
  | none => s
  | some (_, _, t) => if s.d3hot || (s.dma k).kept.isSome then s else if error then s.dmaFence k Fr.DESC_READ
    else if t + 16000000 ≤ s.now then s.aerTimeout.dmaFence k Fr.DESC_READ else s
/-- The function is back in D0 (R67): a channel makes the writes it has kept, and goes on from what has completed meanwhile; the 10 ms of a read count from here. -/
def State.dmaBack (s : State) (k : Nat) : State :=
  let d := s.dma k
  let s := ({ s with host := hostWrites s.host d.late } : State).modDma k (fun d => { d with late := [], kept := none, reading := d.reading.map (fun r => (r.1, r.2.1, s.now)) })
  let s := if d.barrierIn && d.st != 3 then s.dmaFinish k else s
  match d.kept with
  | some ws => s.dmaDescDone k ws
  | none => s
/-- A DOORBELL write (R329): each one on a parked channel is a read of the link word, one after another. -/
def State.dmaDoorbell (s : State) (k : Nat) : State :=
  let d := s.dma k
  if d.st = 2 then
    if d.reading.isSome then s.modDma k (fun d => { d with more := d.more + 1 }) else s.dmaTo k (fun d => { d with reading := some (d.cur, true, s.now) })
  else s.bump (dmaU k) Dma.DB_IGNORED

/-! ### Start and abort (R327, R338, R568) -/

/-- DMA_START. -/
def State.cmdDmaStart (s : State) (k : Nat) : State × Nat × List Nat :=
  let u := dmaU k
  let chain := s.reg u Dma.CHAIN_HI * 2 ^ 32 + s.reg u Dma.CHAIN_LO * 32
  let stat := s.reg u Dma.STATUS_HI * 2 ^ 32 + s.reg u Dma.STATUS_LO * 32
  if (s.dma k).st != 0 then (s, St.BUSY, [s.groupCode u])
  else if chain = 0 ∨ stat = 0 then (s, St.DMA_CHAIN, [])
  else
    let s := ((s.set u Dma.XFER_SEQ 0).set u Dma.BYTES_LO 0).set u Dma.BYTES_HI 0
    ((s.modDma k DmaSt.clear).dmaGo k chain, St.OK, [])
/-- ABORT reaches a channel: it stops after the burst in progress. -/
def State.dmaAbort (s : State) (k : Nat) : State :=
  if (s.dma k).st = 0 then s else
  let s := s.dmaTo k (fun d => { d with st := 3, reading := none, more := 0 })
  if s.fenced (dmaU k) then s else s.setSt (dmaU k) .stopping
/-- The abort of a channel completes: the bytes of the last burst are a free value, in 64-byte units for a ring. -/
def State.dmaAborted (s : State) (k : Nat) : State :=
  let d := s.dma k
  if d.st != 3 then s else
  let n := Config.freeNat s.draw % (d.bytes / 64 + 1) * 64
  let s := if d.waitBarrier then (s.dmaStatus k 2).dmaEvent k false
    else if d.inXfer then ((({ s with draw := s.draw + 1 }).dmaData k n).dmaStatus k 2).dmaEvent k false
    else if d.owed = some 1 then s.dmaEvent k false
    else s
  let s := s.dmaTo k (fun d => { d.clear with st := 0 })
  if s.fenced (dmaU k) then s else s.setSt (dmaU k) .idle

/-! ### Movers (R340, R341, R569) -/

/-- The copies by MOVE of a mover, in their order. -/
def State.moves (s : State) (u : Nat) : List Work := s.works.filter (fun w => w.op == 0x39 && w.uid == u)
/-- The device's own copies on a mover. -/
def State.ownMoves (s : State) (u : Nat) : List (Nat × Nat × Nat) := s.memS.own.filter (fun x => x.1 == u)
/-- A mover that no copy holds. -/
def State.moverIdle (s : State) (u : Nat) : Bool := s.moves u == [] && s.ownMoves u == []
def State.moverRegs (s : State) (u : Nat) : State :=
  let s := s.set u Mover.BUSY (b2n (!s.moverIdle u))
  if s.fenced u then s else s.setSt u (if s.moverIdle u then .idle else .running)
/-- A copy of the device's own takes the lowest-numbered idle mover, and holds it until the copy is done (R341). Where no mover is idle it stands behind the copies of the first; its data are in
place with the command that makes it (DESIGN CHOICE, log entry 74). -/
def State.moverTake (s : State) (bytes : Nat) : State :=
  let us := (List.range 8).map movU
  let u := (us.find? (fun u => s.moverIdle u && !s.fenced u)).getD (movU 0)
  ({ s with memS := { s.memS with own := s.memS.own ++ [(u, bytes / 64, (s.moves u).length)] } } : State).moverRegs u
/-- A request that breaks the alignment rule (R340): the offending value and the event; MOVE also keeps it in its mover's page. -/
def State.misaligned (s : State) (mover : Option Nat) (v : Nat) : State × Nat × List Nat :=
  let s := match mover with
    | some u => (s.set u Mover.LAST_ALIGN (lo32 v)).raise Ev.MOVER_ALIGN u (lo32 v)
    | none => s.raise Ev.MOVER_ALIGN 0x5F00 (lo32 v)
  (s, St.ALIGN, [lo32 v])
/-- A region that MOVE would write is owned by the device. -/
def State.ownedRange (s : State) (a len : Nat) : Bool :=
  let lo := a / 2 ^ 20
  (List.range ((a + len - 1) / 2 ^ 20 + 1 - lo)).any (fun i => s.deviceOwned ((lo + i) * 2 ^ 20))
/-- MOVE at acceptance. -/
def State.cmdMove (s : State) (u : Nat) (k : Pkt) : State × Nat × List Nat :=
  let src := nth k.params 1 * 2 ^ 32 + nth k.params 0
  let dst := nth k.params 3 * 2 ^ 32 + nth k.params 2
  let len := nth k.params 4
  let sram := tbit k.flags 8
  if src % 64 != 0 then s.misaligned (some u) src
  else if dst % 64 != 0 then s.misaligned (some u) dst
  else if len % 64 != 0 then s.misaligned (some u) len
  else if (if sram then 2 ^ 23 < src + len else s.fitted < src + len) then (s, St.BAD_PARAM, [0])
  else if s.fitted < dst + len ∨ s.ownedRange dst len then (s, St.BAD_PARAM, [2])
  else if len = 0 then (s, St.BAD_PARAM, [4])
  else if 4 ≤ (s.moves u).length then (s, St.BUSY, [s.groupCode u])
  else ((s.workStart k u []).moverRegs u, St.OK, [])
/-- A copy of the device's own ends. -/
def State.ownDone (s : State) (u : Nat) (x : Nat × Nat × Nat) : State :=
  ((({ s with memS := { s.memS with own := s.memS.own.erase x } } : State).bump u Mover.BYTES x.2.1)).moverRegs u
/-- MOVER_COPY_DONE: the running copy ends, and the next is served. -/
def State.moverDone (s : State) (u : Nat) : State :=
  match (s.ownMoves u).find? (fun x => x.2.2 == 0), s.moves u with
  | some x, _ => s.ownDone u x
  | none, [] => s
  | none, w :: _ =>
    let s := { s with memS := { s.memS with own := s.memS.own.map (fun (x : Nat × Nat × Nat) => if x.1 = u then (u, x.2.1, x.2.2 - 1) else x) } }
    let src := nth w.params 1 * 2 ^ 32 + nth w.params 0
    let dst := nth w.params 3 * 2 ^ 32 + nth w.params 2
    let len := nth w.params 4
    let sram := tbit w.flags 8
    let bs := Machine.Mem.read (if sram then s.sram else s.dram) src len
    let s := if sram then s else s.meetPoison src len
    let s := s.dramWrite dst bs
    let s := if sram || !s.eccOn then s else s.poisonCopy src dst len
    ((s.bump u Mover.BYTES (len / 64)).workEnd w St.OK [len / 64]).moverRegs u
/-- ABORT of a mover: every copy of MOVE ends with ST_ABORTED, and those of the device's own let the mover go. -/
def State.moverAbort (s : State) (u : Nat) : State :=
  let s := { s with memS := { s.memS with own := s.memS.own.filter (fun x => x.1 != u) } }
  ((s.moves u).foldl (fun (s : State) w => s.workEnd w St.ABORTED [0]) s).moverRegs u

end Sys2Proof.Machine
end

