-- ==== Sys2Proof/Machine/Lamp.lean ====
section
/-! DEFINITION. Lamp groups and their strings (R406 to R420): setpoints, strobes, measurements and the fault policy, verification of lines, diagnosis
pulses, the relight with the spare, and LAMP_CAL. -/
namespace Sys2Proof.Machine
open R

/-! ### Setpoints and roles (R407, R408) -/

/-- IFS_uA and I_set of R408. -/
def ifsUa (rsense : Nat) : Nat := (10 ^ 11 + rsense / 2) / max 1 rsense
def isetUa (setpoint rsense : Nat) : Nat := (setpoint * ifsUa rsense + 2 ^ 15) / 2 ^ 16
/-- The role a slot plays: its own, or for the spare that of the string it replaces, or against which a DELTA run measures it. -/
def State.roleOf (s : State) (g k : Nat) : Nat :=
  if k = 5 then (match (s.lamp g).delta.orElse (fun _ => (s.lamp g).spareFor) with | some j => s.act (strU g j) Str.ROLE | none => 0)
  else if (s.lamp g).spareFor = some k then 0 else s.act (strU g k) Str.ROLE
/-- The setpoint a slot is lit with. -/
def State.setpointOf (s : State) (g k : Nat) : Nat := if k = 5 then (s.lamp g).spareSp else s.act (strU g k) Str.SETPOINT
/-- Slots of a group with a role. -/
def State.slotsAs (s : State) (g : Nat) (roles : List Nat) : List Nat := [1, 2, 3, 4, 5].filter (fun k => roles.contains (s.roleOf g k))
/-- The group is on (R412), before the fault policy. -/
def State.lampOn (s : State) (g : Nat) : Bool := s.act (lampU g) Lamp.ON == 1 && !s.fenced (lampU g) && !(s.lamp g).aborted && s.powered (lampU g)
/-- Light that a bound group owes its port is missing (R412, R419): the level of LAMP_INVALID_g. The interval ends with the relight, for which the spare stands in from its boundary on. -/
def State.lampInvalid (s : State) (g : Nat) : Bool :=
  let relit : Nat → Bool := fun k => (s.lamp g).relit.isSome && (s.lamp g).faultSlot == some k
  let strOut := (s.slotsAs g [1, 2]).any (fun k => s.fenced (strU g k) && !relit k)
  (s.lampPort g).isSome && (!s.lampOn g || (s.reg (lampU g) Lamp.DARK == 1 && (s.lamp g).relit.isNone) || strOut)

/-! ### Flags of lines (R415, R419) -/

/-- A flag that lifts a figure of R234 is set on lines that Eyebright has had: blobs open on them carry LIFTED, and their repeats are INCOMPLETE (R264, R271). -/
def EbSt.lift (e : EbSt) (ls : List Nat) (flag : Nat) : EbSt :=
  let repOf := fun (l : Nat) => ((e.reps.filter (fun r => Nat.ble r.first l)).getLast?).map (·.no)
  { e with
    queue := e.queue.map (fun c => if ls.contains c.fire.line then { c with fire := { c.fire with flags := orFlag c.fire.flags flag true } } else c),
    blobs := e.blobs.map (fun b => { b with lifted := b.lifted || ls.any (fun l => Nat.ble b.firstLine l && Nat.ble l b.lastLine) }),
    reps := e.reps.map (fun r => { r with incomplete := r.incomplete || ls.any (fun l => repOf l == some r.no) }) }
/-- Set a flag on lines of a port that are still to be corrected or stand in a block. -/
def State.flagLines (s : State) (p : Nat) (ls : List Nat) (flag : Nat) (done : Bool) : State :=
  let s := if liftFlags.contains flag then s.modEb p (fun e => e.lift ls flag) else s
  let s := s.modPort p (fun x => { x with fires := x.fires.map (fun f => if ls.contains f.line && !f.closing then { f with flags := orFlag f.flags flag true } else f) })
  s.modRing p (fun r => { r with blocks := r.blocks.map (fun b => { b with
    lines := b.lines.map (fun l => if ls.contains l.line then { l with flags := orFlag l.flags flag true, lampDone := l.lampDone || done } else l) }) })
/-- A group or the chain port still has to verify a line. -/
def State.lampWaits (s : State) (p line : Nat) : Bool :=
  (s.lampsOf p).any (fun g => (s.lamp g).strs.any (fun x => x.pend.contains line)) || (s.act chainU Chain.CHAIN_PORT == p && s.chain.pend.contains line)
/-- Lines that no string holds any longer are decided. -/
def State.lampDecide (s : State) (p : Nat) : State :=
  let s := s.modRing p (fun r => { r with blocks := r.blocks.map (fun b => { b with
    lines := b.lines.map (fun l => { l with lampDone := l.lampDone || !s.lampWaits p l.line }) }) })
  (s.closeBlocks p).flushHeld p
/-- Lines of a group that cannot be verified (R409, R415). The event comes with the first line that a fault leaves behind (`fault`), and otherwise with the first of a run
(log entry 35). -/
def State.lampUnverified (s : State) (g : Nat) (ls : List Nat) (fault : Bool) : State :=
  match s.lampPort g with
  | some p => if ls = [] then s else (s.flagLines p ls Ln.LAMP_UNVERIFIED false).unverCount g ls fault
  | none => s
/-- Lines still undecided are given up (R316): those for which `f` holds. -/
def State.lampGiveUp (s : State) (p : Nat) (f : Nat → Bool) : State :=
  let s := (s.lampsOf p).foldl (fun s g =>
    let ls := ((s.lamp g).strs.flatMap (fun x => x.pend.filter f)).eraseDups
    let s := s.lampUnverified g ls false
    s.modLamp g (fun l => { l with strs := l.strs.map (fun x => { x with pend := x.pend.filter (fun n => !f n) }) })) s
  let s := if s.act chainU Chain.CHAIN_PORT = p then
      (s.flagLines p (s.chain.pend.filter f) Ln.LAMP_UNVERIFIED false).modChain (fun c => { c with pend := c.pend.filter (fun n => !f n) }) else s
  s.lampDecide p
/-- Lines whose exposure is not over at tick t. -/
def State.linesOpen (s : State) (p t : Nat) : List Nat :=
  ((s.port p).fires.filter (fun f => !f.closing && !hasFlag f.flags Ln.LAMP_INVALID && (match f.te with | some e => t < e | none => true))).map (·.line)
/-- Lines whose lamp window reaches past tick t, and `ls` that stand in a block already, carry LAMP_INVALID. -/
def State.lampInvalidLines (s : State) (g t : Nat) (ls : List Nat) : State :=
  match s.lampPort g with
  | none => s
  | some p =>
    let there := ls.filter (fun n => (s.ring p).blocks.any (fun b => b.lines.any (fun l => l.line == n && !hasFlag l.flags Ln.LAMP_INVALID)))
    let hit := (s.linesOpen p t ++ there).eraseDups
    if hit = [] then s else (s.flagLines p hit Ln.LAMP_INVALID false).bump (lampU g) Lamp.INVALID_LINES hit.length
def State.lampInvalidFrom (s : State) (g t : Nat) : State := s.lampInvalidLines g t []
/-- The groups' part in the STATE of their port (R20). -/
def State.lampRefresh (s : State) (g : Nat) : State :=
  let u := lampU g
  let s := if s.fenced u then s
    else s.setSt u (if !s.lampOn g then .idle else if s.reg u Lamp.DARK == 1 || (s.slotsAs g [1, 2]).any (fun k => s.fenced (strU g k)) then .degraded else .running)
  match s.lampPort g with
  | some p => (s.degrade p 3 ((s.port p).jobOn && (s.lampsOf p).any s.lampInvalid)).portRefresh p
  | none => s

/-! ### Light (R407, R410, R412) -/

/-- Set LIT of a slot. -/
def State.setLit (s : State) (g k : Nat) (on : Bool) : State :=
  (s.modStr g k (fun x => { x with lit := on })).set (strU g k) Str.LIT (b2n on)
/-- During a BLACK or SLOPE capture without LAMPS_ON the bound groups are held dark (R224). -/
def State.capDark (s : State) (p : Nat) : Bool :=
  match (s.port p).capture with
  | some c => (c.kind == 0 || c.kind == 2) && !(match s.workOf 0x23 (pipeU p) with | some w => tbit w.flags 8 | none => false)
  | none => false
/-- The lit length M of a line in ticks: MEAS_STROBE, and for a lead group the measured strobe of the line, 0 passed as 1 (R410). -/
def State.strobeMeas (s : State) (g p line m : Nat) : State :=
  (s.set (lampU g) Lamp.MEAS_STROBE m).modFire p line (fun h => if vw s h.set (lampU g) Lamp.LEAD = 1 then { h with strobeLen := max 1 m } else h)
/-- Every string of a group goes dark, its buck with it; an open strobe is cut here. -/
def State.lampDark (s : State) (g : Nat) : State :=
  let s := match (s.lamp g).strobe, s.lampPort g with | some (line, a), some p => s.strobeMeas g p line (s.now - a) | _, _ => s
  let s := [1, 2, 3, 4, 5].foldl (fun s k => (s.setLit g k false).modStr g k (fun x => { x with buckOn := none, duty := 0 })) s
  s.modLamp g (fun l => { l with strobe := none, diag := none })
/-- A slot may be lit: not faulted, and the one that a DELTA run lights (R418). -/
def State.slotOk (s : State) (g k : Nat) : Bool :=
  !s.fenced (strU g k) && !(s.lamp g).back.contains k && (match (s.lamp g).only with | some j => j == k | none => true)
/-- The group is held dark by a capture of its port (R224). -/
def State.lampHeld (s : State) (g : Nat) : Bool := match s.lampPort g with | some p => s.capDark p | none => false
/-- A string gives no light that its role does not give it (R407): an ILLUM string is lit in a strobe, a diagnosis pulse or a calibration, and only an INDICATOR has a duty. -/
def State.roleDark (s : State) (g k : Nat) : State :=
  let x := s.str g k
  let l := s.lamp g
  match s.roleOf g k with
  | 0 => if l.calAt.isSome then s else (s.setLit g k false).modStr g k (fun x => { x with buckOn := none, duty := 0 })
  | 1 =>
    let s := if x.lit && ((l.strobe.isNone && l.diag.isNone && l.calAt.isNone) || x.duty != 0) then s.setLit g k false else s
    if x.duty = 0 then s else s.modStr g k (fun x => { x with duty := 0 })
  | 2 => if x.duty = 0 then s else s.modStr g k (fun x => { x with duty := 0 })
  | _ => if x.lit && x.duty == 0 && l.calAt.isNone then s.setLit g k false else s
/-- The bucks of the group start, and CONTINUOUS strings are lit, while the group is on; otherwise it is dark, but for the buck of a spare that a relight awaits (R416). A capture that
holds it dark leaves its bucks running (R224, R406). -/
def State.lampLights (s : State) (g : Nat) : State :=
  if s.lampOn g && !(s.reg (lampU g) Lamp.DARK == 1) then
    let s := [1, 2, 3, 4, 5].foldl (fun (s : State) k => s.roleDark g k) s
    let s := (s.slotsAs g [1, 2, 3]).foldl (fun s k => if s.fenced (strU g k) || (s.lamp g).back.contains k then s else s.modStr g k (fun x => { x with buckOn := x.buckOn.orElse (fun _ => some s.now) })) s
    if s.lampHeld g then [1, 2, 3, 4, 5].foldl (fun s k => s.setLit g k false) s
    else (s.slotsAs g [2]).foldl (fun (s : State) k =>
      if !s.slotOk g k then (if (s.lamp g).only.isSome then s.setLit g k false else s)
      else if (s.str g k).lit then s else (s.setLit g k true).modStr g k (fun x => { x with measAt := s.now })) s
  else
    let waits : Bool := s.lampOn g && s.reg (lampU g) Lamp.RELIGHT_PENDING == 1
    let buck := (s.str g 5).buckOn
    let s := s.lampDark g
    if waits then s.modStr g 5 (fun x => { x with buckOn := buck }) else s
/-- Commits of the group or of its strings have come into force: ON or a ROLE may have changed (R407, R412, R420). -/
def State.lampSync (s : State) (g : Nat) : State :=
  let u := lampU g
  let seq := (lampU g :: [1, 2, 3, 4, 5].map (strU g)).map (fun v => (s.unit v).activeSeq)
  if seq = (s.lamp g).seen then s else
  let own : Bool := seq.headD 0 != (s.lamp g).seen.headD 0
  let s := s.modLamp g (fun l => { l with seen := seq, aborted := l.aborted && !(own && s.act u Lamp.ON == 1) })
  let s := s.lampLights g
  let s := if s.lampInvalid g then s.lampInvalidFrom g s.now else s
  s.lampRefresh g

/-- A LAMP_CAL lights nothing any longer, and its DELTA run captures no more lines (R409, R418). -/
def State.calStop (s : State) (g : Nat) : State :=
  let l := s.lamp g
  let s := if l.calAt.isSome then [1, 2, 3, 4, 5].foldl (fun (s : State) k => if s.roleOf g k = 2 then s else s.setLit g k false) s else s
  let s := s.modLamp g (fun l => { l with only := none, delta := none, calAt := none, spareSp := if l.delta.isSome && l.spareFor.isNone then 0 else l.spareSp })
  match l.delta, s.lampPort g with
  | some _, some p => ((match (s.port p).capture with | some c => if c.kind = 3 then s.capEnd p St.OK 0 [] else s | none => s).setLit g 5 false).lampLights g
  | _, _ => s
/-- A port that no longer runs a job or a capture leaves its ILLUM strings dark (R412); a DELTA run whose lines have ended ends with it (R418). -/
def State.lampIdle (s : State) (g : Nat) : State :=
  match s.lampPort g with
  | none => s
  | some p =>
    let x := s.port p
    let l := s.lamp g
    let s := if x.jobOn || x.capture.isSome || (l.strobe.isNone && l.diag.isNone) then s else
      let s := match l.strobe with | some (line, a) => s.strobeMeas g p line (s.now - a) | none => s
      let s := (s.slotsAs g [1]).foldl (fun (s : State) k => s.setLit g k false) s
      s.modLamp g (fun l => { l with strobe := none, diag := none })
    if l.delta.isSome && x.capture.isNone then
      let s := s.calStop g
      match s.workOf 0x50 (lampU g) with | some w => s.workEnd w St.ABORTED [s.cmdSeq] | none => s
    else s

/-! ### Faults and the policy (R413, R416, R417, R420) -/

/-- The spare setpoint of R417. -/
def spareSetpoint (sp delta : Nat) : Nat := (sp * delta + 2 ^ 13) / 2 ^ 14
/-- GROUP_OFF: dark until RESET_UNIT, fenced with MEMBER_FENCED. -/
def State.lampGroupOff (s : State) (g : Nat) : State :=
  let u := lampU g
  let s := ((s.lampDark g).set u Lamp.DARK 1).set u Lamp.RELIGHT_PENDING 0
  let s := s.modLamp g (fun l => { l with relit := none })
  match s.lampPort g with
  | some p => s.fenceServing u Fr.MEMBER_FENCED [p]
  | none => s.fenceUnit u Fr.MEMBER_FENCED
/-- A relight with the spare is possible (R417). -/
def State.relightOk (s : State) (g k : Nat) : Bool :=
  let sp := spareSetpoint (s.act (strU g k) Str.SETPOINT) (s.reg (strU g k) Str.SPARE_DELTA)
  s.reg (strU g 5) Str.SPARE_OK == 1 && s.reg (strU g k) Str.DELTA_VALID == 1 && s.reg (lampU g) Lamp.SPARE_USED == 0 && (s.lamp g).spareFor.isNone &&
  !s.fenced (strU g 5) && !(s.slotsAs g [1, 2]).any (fun j => j != k && s.fenced (strU g j)) && sp ≤ 65535
/-- What the group does by its POLICY when slot k has faulted in a pulse begun at tick t that lit the lines `ls` (R416, R419, R420). -/
def State.lampPolicy (s : State) (g k t : Nat) (ls : List Nat) : State :=
  let u := lampU g
  let policy := s.act u Lamp.POLICY
  let pending : Bool := s.reg u Lamp.RELIGHT_PENDING == 1
  let s := if (k == 5) || pending then s.lampGroupOff g
    else if policy == 1 && s.relightOk g k then
      let s := ((s.lampDark g).set u Lamp.DARK 1).set u Lamp.RELIGHT_PENDING 1
      (s.modLamp g (fun l => { l with faultSlot := some k, detected := s.now, relit := none })).modStr g 5 (fun x => { x with buckOn := some s.now })
    else if policy == 2 then s
    else s.lampGroupOff g
  s.lampInvalidLines g t ls
/-- Work that a string fault ends: a WHITE capture of the port, and a LAMP_CAL (R232, R420, R572). -/
def State.lampEndsWork (s : State) (g su : Nat) : State :=
  let s := match s.lampPort g with
    | some p =>
      let white : Bool := match (s.port p).capture with | some c => c.kind == 1 | none => false
      (if white then s.capEnd p St.LAMP_FAULT 0 [su] else s).lampDecide p
    | none => s
  match s.workOf 0x50 (lampU g) with
  | some w => (s.calStop g).workEnd w St.LAMP_FAULT [su]
  | none => s
/-- A string fault (R416): 1 OPEN, 2 SHORT, 3 VOLTAGE, 4 CURRENT, found in a pulse that began at tick t and lit the line `line`. What a CONTINUOUS string has lit since its last
measurement counts as one pulse (R413, R419, log entry 35). -/
def State.lampFault (s : State) (g k code t : Nat) (line : Option Nat) : State :=
  let su := strU g k
  if s.fenced su then s else
  let role := s.roleOf g k
  let pend := (s.str g k).pend
  let lit := if role = 2 then pend else line.toList
  let serves : Bool := role == 1 || role == 2 || (k == 5 && (s.reg (lampU g) Lamp.RELIGHT_PENDING == 1 || (s.lamp g).spareFor.isSome))
  let s := (s.set su Str.FAULT code).lampUnverified g (pend.filter (fun l => !lit.contains l)) true
  let s := s.modStr g k (fun x => { x with pend := [], pulse := none, duty := 0, buckOn := none })
  let s := s.setLit g k false
  let s := match s.lampPort g with
    | some p => s.fenceServing su (0x3F + code) [p]
    | none => s.fenceUnit su (0x3F + code)
  let s := s.raise Ev.LAMP_FAULT su (code + s.act (lampU g) Lamp.POLICY * 16)
  let s := if serves then s.lampPolicy g k t lit else s
  (s.lampEndsWork g su).lampRefresh g

/-! ### Strobes (R410) -/

/-- Lamp window of a fire: its start, and its end where known. -/
def lampWindow (s : State) (p : Nat) (f : Fire) : Option Nat × Option Nat :=
  if vw s f.set (portU p) Port.SHUTTER = 1 then
    (if f.te.isSome ∨ (s.port p).openLine = some f.line then some f.ts else none, f.te)
  else (some f.tick, f.te)
/-- The next line that a group would strobe, with the start of its strobe. -/
def State.strobeNext (s : State) (g : Nat) : Option (Nat × Fire × Nat) :=
  match s.lampPort g with
  | none => none
  | some p =>
    ((s.port p).fires.find? (fun f => !f.closing && (s.lamp g).next ≤ f.tick)).bind (fun f =>
      (lampWindow s p f).1.map (fun ws => (p, f, ws + vw s f.set (lampU g) Lamp.STROBE_DELAY)))
/-- The strobe of the next line begins (STROBE_START), or is found not to take place. -/
def State.strobeStart (s : State) (g : Nat) : State :=
  match s.strobeNext g with
  | none => s
  | some (p, f, a) =>
    if s.now < a ∨ (s.lamp g).strobe.isSome then s else
    let s := s.modLamp g (fun l => { l with next := f.tick + 1 })
    let late := match (lampWindow s p f).2 with | some we => decide (we ≤ a) | none => false
    if late || !s.lampOn g || s.reg (lampU g) Lamp.DARK == 1 || s.capDark p || !((s.port p).jobOn || (s.port p).capture.isSome) then s.strobeMeas g p f.line 0
    else
      let s := (s.slotsAs g [1]).foldl (fun s k => if s.slotOk g k then (s.setLit g k true).modStr g k (fun x => { x with buckOn := x.buckOn.orElse (fun _ => some s.now) }) else s) s
      s.modLamp g (fun l => { l with strobe := some (f.line, a) })
/-- A lit pulse of a slot has ended: it awaits its measurement, and its line awaits verification (R409, R413, R415). -/
def State.pulseDone (s : State) (g k : Nat) (line : Option Nat) (a len : Nat) : State :=
  let s := s.setLit g k false
  let job := match s.lampPort g with | some p => (s.port p).jobOn | none => false
  let cal := s.reg (strU g k) Str.CAL_OK == 1
  let s := match line with
    | some l =>
      if !job then s
      else if cal then s.modStr g k (fun x => { x with pend := x.pend ++ [l] })
      else s.lampUnverified g [l] false
    | none => s
  s.modStr g k (fun x => { x with pulse := some (line, a, len) })
/-- The strobe, or the diagnosis pulse, ends (STROBE_END). -/
def State.strobeEnd (s : State) (g : Nat) : State :=
  match (s.lamp g).strobe, s.lampPort g with
  | some (line, a), some p =>
    match s.fireOf p line with
    | none => ((s.slotsAs g [1]).foldl (fun (s : State) k => s.setLit g k false) s).modLamp g (fun l => { l with strobe := none })
    | some f =>
      let len := vw s f.set (lampU g) Lamp.STROBE_LEN
      let we := (lampWindow s p f).2
      let b := if len = 0 then we else match we with | some w => some (min (a + len) w) | none => some (a + len)
      match b with
      | none => s
      | some b =>
        if s.now < b then s else
        let m := b - a
        let s := s.strobeMeas g p line m
        let s := [1, 2, 3, 4, 5].foldl (fun s k => if (s.str g k).lit ∧ s.roleOf g k = 1 then s.pulseDone g k (some line) a m else s) s
        s.modLamp g (fun l => { l with strobe := none })
  | _, _ =>
    match (s.lamp g).diag with
    | none => s
    | some a =>
      if s.now < a + 3200 then s else
      let s := [1, 2, 3, 4, 5].foldl (fun s k => if (s.str g k).lit ∧ s.roleOf g k = 1 then s.pulseDone g k none a 3200 else s) s
      s.modLamp g (fun l => { l with diag := none })

/-! ### Measurements (R409, R413, R415) -/

/-- The calibrated reading of a string's current, in µA: the converter's reading on the nominal scale, through the coefficients that LAMP_CAL SENSE has found against REF_USE_UV
(R147, R149, R408). -/
def State.senseUa (s : State) (g k ua : Nat) : Nat :=
  let x := s.str g k
  if !x.senseOk then ua else
  let ifs := max 1 (ifsUa (s.act (strU g k) Str.RSENSE))
  let m := Int.ofNat (ua * 2 ^ 24 / ifs)
  (sar (sar ((m - x.ofs) * Int.ofNat x.gain) 22 * Int.ofNat ifs + 2 ^ 23) 24).toNat
/-- What a measurement of voltage (mV) and current (µA) finds: 0 GOOD, or the fault. -/
def State.judge (s : State) (g k mv ua : Nat) : Nat :=
  let u := strU g k
  let vref := s.reg u Str.VREF_MV
  let fr := s.act u Str.V_FAULT_FRAC
  let iset := isetUa (s.setpointOf g k) (s.act u Str.RSENSE)
  let held : Bool := (s.str g k).vrefOk
  if held ∧ mv * 256 < vref * (256 - fr) then 2
  else if held ∧ vref * (256 + fr) < mv * 256 then 3
  else if iset < 50 * (Int.ofNat ua - Int.ofNat iset).natAbs then 4 else 0
/-- A measurement that ends a pulse of slot k begun at tick t for a line: it vouches for the pulses up to it, or finds a fault. -/
def State.measured (s : State) (g k mv ua t : Nat) (line : Option Nat) : State :=
  let u := strU g k
  let s := ((s.set u Str.V_LAST_MV mv).set u Str.I_LAST_MA (ua / 1000)).bump u Str.MEASURED
  let s := s.modStr g k (fun x => { x with pulse := none, unmeas := 0, measAt := s.now })
  let f := s.judge g k mv ua
  if f != 0 then s.lampFault g k f t line
  else
    let vref := s.reg u Str.VREF_MV
    let worn := (s.str g k).vrefOk && vref * s.act u Str.V_WARN_FRAC < 256 * (Int.ofNat mv - Int.ofNat vref).natAbs
    let s := if worn && !(s.str g k).wear then s.raise Ev.LAMP_WEAR u mv else s
    -- a line that a CONTINUOUS string still lights waits for the next measurement
    let lit : Nat → Bool := fun n => s.roleOf g k == 2 && (match s.lampPort g with
      | some p => (s.port p).fires.any (fun f => f.line == n && !f.closing && (match f.te with | some e => Nat.blt s.now e | none => true))
      | none => false)
    let s := s.modStr g k (fun x => { x with wear := x.wear || worn, goodMv := mv, pend := x.pend.filter lit })
    match s.lampPort g with
    | some p => s.lampDecide p
    | none => s

/-! ### LAMP_CAL (R408, R409, R418, R572) -/

/-- Slots a LAMP_CAL works on. -/
def State.calSlots (s : State) (g kind : Nat) : List Nat :=
  let own := [1, 2, 3, 4].filter (fun k => s.act (strU g k) Str.ROLE != 0 && (kind != 2 || s.act (strU g k) Str.ROLE < 3))
  if kind = 2 then own else own ++ (if s.act (lampU g) Lamp.POLICY = 1 then [5] else [])
/-- The slot that a LAMP_CAL has come to is lit: for VREF at once, pulse after pulse until its measurements are made, because R409 gives no pause between them; for DELTA in the strobes of
the lines that the port captures (R418; log entry 88). -/
def State.calLight (s : State) (g kind : Nat) (k : Option Nat) : State :=
  match kind, k with
  | 1, some k => ((s.setLit g k true).modStr g k (fun x => { x with buckOn := x.buckOn.orElse (fun _ => some s.now) })).modLamp g (fun l => { l with calAt := some s.now })
  | 2, some k => (s.modLamp g (fun l => { l with only := some k, delta := some k })).lampLights g
  | _, _ => s
/-- Lines of the port that have been fired and are still to be corrected: what they show belongs to the light before (R225, R418). -/
def State.linesOut (s : State) (p : Nat) : Nat := ((s.port p).fires.filter (fun f => !f.closing)).length
/-- The bound port captures the lines of a DELTA run, as it does for a shading capture (R224, R225, R418; log entry 88). -/
def State.deltaCapture (s : State) (g : Nat) : State :=
  match s.lampPort g with
  | none => s
  | some p =>
    let c : Capture := { kind := 3, slot := 0, lines := 256, tries := 1, tolRms := 0, tolPix := 0, tolOut := 0, hot := 0, weak := 0, discard := capDiscard s p }
    let s := s.modPort p (fun x => { x with capture := some c, capFire := some s.now })
    let s := s.modLc p (fun l => { l with nextLine := 0, fires := [] })
    (s.pgStart p).portRefresh p
/-- LAMP_CAL. Work.data: the slots still to do; step: the measurements of the present slot; status: bits of failed slots. A DELTA run needs the port for itself (R85). -/
def State.cmdLampCal (s : State) (g : Nat) (k : Pkt) : Answer :=
  let u := lampU g
  let kind := k.p 0
  let busy := match s.lampPort g with | some p => (s.port p).jobOn || (kind == 2 && (s.port p).capture.isSome) | none => false
  let delta := match s.lampPort g with | some p => s.act (pipeU p) Pipe.WT_SRC != 0 | none => false
  s.unless (firstOf [
    badParam (kind < 3) 0,
    s.busyUnless (!busy) u,
    need (kind != 2 || delta) St.UNSUPPORTED [kind]]) (fun _ =>
    let slots := s.calSlots g kind
    let s := s.workStart k u slots
    let s := s.modLamp g (fun l => { l with strs := l.strs.map (fun x => { x with sums := [] }) })
    let s := if kind = 2 then s.deltaCapture g else s
    (s.calLight g kind slots.head?, St.OK, [0]))
/-- End a LAMP_CAL: slots measured, slots failed, and each slot's result. -/
def State.lampCalEnd (s : State) (g : Nat) (w : Work) : State :=
  let kind := nth w.params 0
  let slots := s.calSlots g kind
  let bit := fun (l : List Nat) => l.foldl (fun a k => setBit a (k - 1) true) 0
  let bad := slots.filter (fun k => tbit w.status (k - 1))
  let res := [1, 2, 3, 4, 5].map (fun k =>
    if !slots.contains k || bad.contains k then 0
    else if kind = 1 then s.reg (strU g k) Str.VREF_MV else if kind = 2 ∧ k < 5 then s.reg (strU g k) Str.SPARE_DELTA else 0)
  let s := s.calStop g
  let s := if kind = 2 then s.set (strU g 5) Str.SPARE_OK (b2n ((s.str g 5).sums == [])) else s
  s.workEnd w (if bad = [] then St.OK else St.CAL_DISAGREE) (bit slots :: bit bad :: res)
/-- The present slot of a LAMP_CAL is done. -/
def State.lampCalNext (s : State) (g : Nat) (failed : Bool) : State :=
  match s.workOf 0x50 (lampU g) with
  | none => s
  | some w =>
    let k := w.data.headD 0
    let w' := { w with data := w.data.drop 1, step := 0, status := if failed then setBit w.status (k - 1) true else w.status }
    let s := { s with works := s.works.map (fun x => if x = w then w' else x) }
    let s := if (s.lamp g).calAt.isSome && s.roleOf g k != 2 then s.setLit g k false else s
    if w'.data = [] then s.lampCalEnd g w' else s.calLight g (nth w.params 0) w'.data.head?
/-- CAL_OK follows the two results held. -/
def State.calOkRegs (s : State) (g k : Nat) : State :=
  let x := s.str g k
  s.set (strU g k) Str.CAL_OK (b2n (x.senseOk && x.vrefOk))
/-- A measurement of a running LAMP_CAL: for SENSE the two sums of a two-point calibration, for VREF a voltage. -/
def State.lampCalMeasure (s : State) (g : Nat) (w : Work) (a b : Nat) : State :=
  let k := w.data.headD 0
  let kind := nth w.params 0
  let x := s.str g k
  let sums := x.sums ++ [a, b]
  let s := s.modStr g k (fun x => { x with sums := sums })
  if kind = 0 then
    if sums.length < 4 then s
    else
      match attempt (calResult (nth sums 0) (nth sums 1)) (calResult (nth sums 2) (nth sums 3)) with
      | some r => ((s.modStr g k (fun x => { x with senseOk := true, ofs := r.1, gain := r.2, ref := s.reg calU CalRef.REF_USE_UV })).calOkRegs g k).lampCalNext g false
      | none => s.lampCalNext g true
  else if kind = 1 then
    let s := s.modLamp g (fun l => { l with calAt := some s.now })
    if sums.length < 128 then s
    else
      let vs := (sums.zipIdx.filter (fun y => y.2 % 2 == 0)).map (·.1)
      let s := s.set (strU g k) Str.VREF_MV ((vs.foldl (· + ·) 0 + 32) / 64)
      ((s.modStr g k (fun x => { x with vrefOk := true })).calOkRegs g k).lampCalNext g false
  else s
/-- A line of a DELTA run gives its patch mean (R418): 256 lines of the string, then 256 of the spare. What is out when the light changes is discarded. -/
def State.lampDelta (s : State) (g p mean : Nat) : State :=
  match s.workOf 0x50 (lampU g) with
  | none => s
  | some w =>
    let k := w.data.headD 0
    let sums := (s.str g k).sums ++ [mean]
    let s := s.modStr g k (fun x => { x with sums := sums })
    let flush := fun (s : State) => s.modPort p (fun x => { x with capture := x.capture.map (fun c => { c with discard := s.linesOut p }) })
    if sums.length = 256 then flush ((s.modLamp g (fun l => { l with only := some 5, spareSp := s.act (strU g k) Str.SETPOINT })).lampLights g)
    else if sums.length < 512 then s
    else
      let of := fun (l : List Nat) => (l.foldl (· + ·) 0 + 128) / 256
      let wk := of (sums.take 256)
      let wsp := of (sums.drop 256)
      let d := if wsp = 0 then 0 else (wk * 2 ^ 14 + wsp / 2) / wsp
      let ok := 8192 ≤ d && d ≤ 32767
      let s := (s.set (strU g k) Str.SPARE_DELTA (min d 65535)).set (strU g k) Str.DELTA_VALID (b2n ok)
      flush (s.lampCalNext g (!ok))
/-- A capture line of a DELTA run: the patch mean w of R208, over its planes where the port has several (log entry 88). A line that R211 would keep from the trackers gives none. -/
def State.deltaLine (s : State) (p : Nat) (c : Capture) (f : Fire) (rows : List (List Nat)) (flags : Nat) : State :=
  if 0 < c.discard then s.modPort p (fun x => { x with capture := some { c with discard := c.discard - 1 } })
  else if anyFlag flags [Ln.PLANE_FILL, Ln.LANE_FAULT] then s
  else match (s.lampsOf p).find? (fun g => (s.lamp g).delta.isSome) with
    | some g => s.lampDelta g p (meanInt (s.patchMeans p f (s.zRows p f (s.port p).delta rows))).toNat
    | none => s
/-- A measurement of the spare in a DELTA run is no fault: one that is not GOOD keeps SPARE_OK from being set (R418). -/
def State.lampReads (s : State) (g k mv ua t : Nat) (line : Option Nat) : State :=
  if k = 5 ∧ (s.lamp g).delta.isSome then
    let s := (((s.set (strU g 5) Str.V_LAST_MV mv).set (strU g 5) Str.I_LAST_MA (ua / 1000)).bump (strU g 5) Str.MEASURED).modStr g 5 (fun x => { x with pulse := none, measAt := s.now })
    if s.judge g 5 mv ua = 0 then s else s.modStr g 5 (fun x => { x with sums := [1] })
  else s.measured g k mv ua t line
/-- The voltage and current of the last 800 lit ticks of a pulse of slot k. -/
def State.pulseMeasure (s : State) (g k mv ua : Nat) : State :=
  match (s.str g k).pulse with
  | none => if s.roleOf g k = 3 ∧ (s.str g k).lit ∧ 2400 ≤ (s.str g k).duty then s.measured g k mv (s.senseUa g k ua) s.now none else s
  | some (line, a, len) => if len < 2400 then s else s.lampReads g k mv (s.senseUa g k ua) a line
/-- LAMP_MEASUREMENT: of a pulse, or of a running LAMP_CAL SENSE or VREF. -/
def State.lampMeasure (s : State) (g k mv ua : Nat) : State :=
  match s.workOf 0x50 (lampU g) with
  | some w => if nth w.params 0 = 2 then s.pulseMeasure g k mv ua else s.lampCalMeasure g w mv ua
  | none => s.pulseMeasure g k mv ua
/-- CONTINUOUS strings are measured every 1 ms (CONTINUOUS_MEASURE): the lines lit since the last GOOD measurement are judged. -/
def State.lampContinuous (s : State) (g k mv ua : Nat) : State :=
  if s.roleOf g k != 2 || !(s.str g k).lit || s.now < (s.str g k).measAt + 1600000 then s
  else s.lampReads g k mv (s.senseUa g k ua) (s.str g k).measAt none
/-- Ticks that the open strobe of a line lasts: what STROBE_LEN and the end of the lamp window leave of it, or what the set gives where that end is not known yet (R410). -/
def State.strobeSpan (s : State) (g p line a : Nat) : Nat :=
  match s.fireOf p line with
  | none => 0
  | some f =>
    let v := fun x => vw s f.set (portU p) x
    let len := vw s f.set (lampU g) Lamp.STROBE_LEN
    let win := (if v Port.SHUTTER = 1 then v Port.EXP_TIME else v Port.LINE_PERIOD_MIN) - vw s f.set (lampU g) Lamp.STROBE_DELAY
    let room := match (lampWindow s p f).2 with | some we => we - a | none => if len = 0 then win else len
    if len = 0 then room else min len room
/-- An INDICATOR string is lit for the first `duty` ticks of each period of 65,536 (R407, R425); the periods start at the multiples of 65,536 (log entry 35). -/
def State.indicatorLit (s : State) (g k : Nat) : Bool := decide (s.now % 65536 < (s.str g k).duty)
/-- The pulse in which slot k is lit: its start, its length, and the line it lights. An INDICATOR's begins with its period, and a CONTINUOUS string's lasts on (R407, R410, R414, R425). -/
def State.litPulse (s : State) (g k : Nat) : Option (Nat × Nat × Option Nat) :=
  let l := s.lamp g
  if l.calAt.isSome then l.calAt.map (fun a => (a, 16000, none))
  else match s.roleOf g k with
    | 1 => match l.strobe, s.lampPort g with
      | some (line, a), some p => some (a, s.strobeSpan g p line a, some line)
      | _, _ => l.diag.map (fun a => (a, 3200, none))
    | 3 => if s.indicatorLit g k then some (s.now / 65536 * 65536, (s.str g k).duty, none) else none
    | _ => none
/-- The flyback comparator trips in a lit pulse (OVP_TRIP): within 200 ns of the start of one that lasts 80 ticks or more (R413). A CONTINUOUS string is open at once (R415). -/
def State.ovpTrip (s : State) (g k : Nat) : State :=
  if !(s.str g k).lit then s
  else if s.roleOf g k = 2 ∧ (s.lamp g).calAt.isNone then s.lampFault g k 1 (s.str g k).measAt none
  else match s.litPulse g k with
    | some (a, len, line) => if a + 320 < s.now || len < 80 then s else s.lampFault g k 1 a line
    | none => s
/-- A buck has not reached I_set within 100 µs of switching on (BUCK_SWITCH_ON_TIMEOUT). -/
def State.buckTimeout (s : State) (g k : Nat) : State :=
  match (s.str g k).buckOn with
  | some t => if s.now < t + 160000 || t < (s.str g k).measAt then s else s.lampFault g k 4 t none
  | none => s

/-! ### Diagnosis pulses (R414) -/

/-- A due diagnosis pulse lights every ILLUM string for 2 µs at its placed instant (DIAG_PULSE). -/
def State.diagPulse (s : State) (g : Nat) : State :=
  match s.lampPort g with
  | none => s
  | some p =>
    let l := s.lamp g
    let go := fun (t : Nat) =>
      if s.now < t then s else
      let s := (s.slotsAs g [1]).foldl (fun s k => if s.slotOk g k then s.setLit g k true else s) s
      (s.modLamp g (fun l => { l with diag := some t, diagDue := false, diagRow := none })).bump (lampU g) Lamp.DIAG_PULSES
    if !l.diagDue || l.strobe.isSome || l.diag.isSome || !s.lampOn g || s.reg (lampU g) Lamp.DARK == 1 || s.capDark p || !((s.port p).jobOn || (s.port p).capture.isSome) then s
    else if s.act (portU p) Port.SHUTTER = 1 then
      match (s.port p).lastTe, (s.port p).openLine with
      | some te, none =>
        -- no prediction stands in table mode, and the pulse, which the next fire cuts, is placed without (log entry 88)
        let room : Bool := match s.lcDue p with
          | some d => decide (te + 3520 ≤ d.1 + s.act (portU p) Port.EXP_DELAY)
          | none => !s.webMode p
        if room then go (te + 160) else s
      | _, _ => s
    else match l.diagRow with
      | some f => go (f + s.act (lampU g) Lamp.DIAG_OFFSET)
      | none => s

/-! ### Relight (R416, R417, R420) -/

/-- The group is relit with the spare (LAMP_RELIGHT), at the boundary that LINE_FIRE found, or 200 µs after detection where it has no port. -/
def State.lampRelight (s : State) (g : Nat) : State :=
  let u := lampU g
  let l := s.lamp g
  if s.reg u Lamp.RELIGHT_PENDING != 1 then s else
  let ok := if (s.lampPort g).isSome then l.relit.isSome else decide (l.detected + 320000 ≤ s.now)
  match l.faultSlot, ok with
  | some k, true =>
    let rep := match l.relit with | some r => r.2 | none => 0
    let s := (((s.set u Lamp.DARK 0).set u Lamp.RELIGHT_PENDING 0).set u Lamp.SPARE_USED 1).modLamp g (fun l => { l with
      spareFor := some k, spareSp := spareSetpoint (s.act (strU g k) Str.SETPOINT) (s.reg (strU g k) Str.SPARE_DELTA), relit := none, faultSlot := none })
    let s := (s.raise Ev.LAMP_SPARE_IN u (k + rep % 2 ^ 24 * 256)).audit 7 (strU g k) (leBytes 4 (strU g 5))
    (s.lampLights g).lampRefresh g
  | _, _ => s
/-- A string whose fence was cleared returns to service, and the spare to standby, at a job boundary; wear is reported anew (R413, R420). -/
def State.lampJob (s : State) (g : Nat) : State :=
  let back := (s.lamp g).back
  let s := s.strobeEnd g
  let s := s.modLamp g (fun l => { l with unver := [], back := [], strs := l.strs.map (fun x => { x with wear := false, pend := [], unmeas := 0, pulse := none }) })
  match (s.lamp g).spareFor with
  | some k =>
    if !back.contains k || s.fenced (strU g k) then (if back = [] then s else (s.lampLights g).lampRefresh g)
    else
      let s := (s.setLit g 5 false).set (lampU g) Lamp.SPARE_USED 0
      ((s.modLamp g (fun l => { l with spareFor := none, spareSp := 0 })).lampLights g).lampRefresh g
  | none => if back = [] then s else (s.lampLights g).lampRefresh g
/-- A numbered line is about to be recorded as fired at tick t: its lamp groups' part (R412, R414, R419, R424). Answers LAMP_INVALID. -/
def State.lampFire (s : State) (p t rep row : Nat) (boundary : Bool) : State × Bool :=
  (s.lampsOf p).foldl (fun (a : State × Bool) g =>
    let s := a.1
    -- an aborted group lights again at the commit that has just come into force (R412)
    let s := if (s.lamp g).aborted && s.act (lampU g) Lamp.ON == 1 then s.lampSync g else s
    let l := s.lamp g
    let s := if boundary && s.reg (lampU g) Lamp.RELIGHT_PENDING == 1 && l.relit.isNone && l.detected + 320000 ≤ t
      then s.modLamp g (fun l => { l with relit := some (t, rep) }) else s
    -- an open diagnosis pulse ends at the fire; cut below 2,400 ticks it gives no measurement and falls due again
    let s := match (s.lamp g).diag with
      | some d =>
        let len := min (t - d) 3200
        let s := [1, 2, 3, 4, 5].foldl (fun (s : State) k => if (s.str g k).lit ∧ s.roleOf g k = 1 then s.pulseDone g k none d len else s) s
        s.modLamp g (fun l => { l with diag := none, diagDue := len < 2400, dueRep := rep })
      | none => s
    let ill := s.slotsAs g [1]
    let s := ill.foldl (fun (s : State) k => s.modStr g k (fun x => { x with unmeas := x.unmeas + 1 })) s
    let due := ill.any (fun k => 960 ≤ (s.str g k).unmeas)
    -- with SHUTTER 0 the pulse falls in the repeat after the one in which it fell due
    let s := s.modLamp g (fun l => { l with
      diagDue := l.diagDue || due, dueRep := if due && !l.diagDue then rep else l.dueRep,
      diagRow := if row = s.act (lampU g) Lamp.DIAG_ROW ∧ l.diagDue ∧ l.dueRep ≠ rep then some t else l.diagRow })
    let inv := s.lampInvalid g
    let s := if inv then s.bump (lampU g) Lamp.INVALID_LINES else s
    (s, a.2 || inv)) (s, false)
/-- Lines lit by CONTINUOUS strings wait for their next measurement, or are unverified (R409, R415). -/
def State.lampSteady (s : State) (p line : Nat) : State :=
  (s.lampsOf p).foldl (fun s g =>
    (s.slotsAs g [2]).foldl (fun s k =>
      if !(s.str g k).lit then s
      else if s.reg (strU g k) Str.CAL_OK = 1 then s.modStr g k (fun x => { x with pend := x.pend ++ [line] })
      else s.lampUnverified g [line] false) s) s

/-! ### Abort, reset, loss of time base, checks (R34, R411, R412, R414, R420) -/

/-- ABORT of a group (R104, R412, R420). -/
def State.lampAbort (s : State) (g seq : Nat) : State :=
  let u := lampU g
  let pend := s.reg u Lamp.RELIGHT_PENDING == 1
  let s := ((s.calStop g).lampDark g).modLamp g (fun l => { l with aborted := true, relit := none, faultSlot := none })
  let s := if pend then (s.set u Lamp.RELIGHT_PENDING 0).set u Lamp.DARK 0 else s
  let s := match s.workOf 0x50 u with | some w => s.workEnd w St.ABORTED [seq] | none => s
  (s.lampInvalidFrom g s.now).lampRefresh g
/-- Fence a group: dark at once (R34, R543). -/
def State.lampFence (s : State) (g reason : Nat) : State :=
  let s := ((s.calStop g).lampDark g).lampInvalidFrom g s.now
  let s := match s.workOf 0x50 (lampU g) with | some w => s.workEnd w St.FENCED [lampU g] | none => s
  match s.lampPort g with
  | some p => s.fenceServing (lampU g) reason [p]
  | none => s.fenceUnit (lampU g) reason
/-- The refusal of R414: a diagnosis pulse does not fit where an ILLUM strobe can be shorter than 2,400 ticks. With SHUTTER 1 the window is no shorter than EXP_TIME, or than what
LINE_PERIOD_MIN leaves before EXP_GAP_MIN (R125, R182). -/
def lampFit (s : State) (m : RegMap) (g : Nat) : Refuse :=
  let v := fun f => vw s m (lampU g) f
  let p := v Lamp.PORT
  let q := fun f => vw s m (portU p) f
  let sh := q Port.SHUTTER == 1
  let len := v Lamp.STROBE_LEN
  let win := if sh then min (q Port.EXP_TIME) (q Port.LINE_PERIOD_MIN - (q Port.EXP_GAP_MIN + q Port.EXP_DELAY)) else q Port.LINE_PERIOD_MIN
  let ill := v Lamp.BOUND == 1 && [1, 2, 3, 4].any (fun k => vw s m (strU g k) Str.ROLE == 1)
  let short := (len != 0 && len < 2400) || (len == 0 && win < v Lamp.STROBE_DELAY + 2400)
  let fit := if sh then 3520 ≤ q Port.EXP_GAP_MIN + q Port.EXP_DELAY
    else v Lamp.DIAG_OFFSET + 3520 ≤ q Port.LINE_PERIOD_MIN && v Lamp.DIAG_ROW < vw s m (lcU p) Lc.REPEAT_LINES / 256
  need (!ill || !short || fit) St.LAMP_DIAG_FIT [if sh then 3520 else q Port.LINE_PERIOD_MIN - 3520]
/-- The same for the groups that a port's own set, or that of its line clock, touches. -/
def portLampFit (s : State) (m : RegMap) (p : Nat) : Refuse :=
  firstOf ((List.range 8).map (fun g => if vw s m (lampU g) Lamp.BOUND = 1 ∧ vw s m (lampU g) Lamp.PORT = p then lampFit s m g else none))
/-- R411 and R414. -/
def lampChecks (s : State) (m : RegMap) (g : Nat) : Refuse :=
  let v := fun f => vw s m (lampU g) f
  let p := v Lamp.PORT
  let q := fun f => vw s m (portU p) f
  let cfg := fun (ok : Bool) off => need ok St.LAMP_CONFIG [off]
  let bound := v Lamp.BOUND == 1
  let lead := fun h => vw s m (lampU h) Lamp.BOUND == 1 && vw s m (lampU h) Lamp.LEAD == 1 && vw s m (lampU h) Lamp.PORT == p
  let len := v Lamp.STROBE_LEN
  let dl := v Lamp.STROBE_DELAY
  let sh := q Port.SHUTTER == 1
  let win := if sh then q Port.EXP_TIME else q Port.LINE_PERIOD_MIN
  firstOf [
    cfg (v Lamp.POLICY != 3) 0x000,
    cfg ([1, 2, 3, 4, 5].all (fun k => 5000 ≤ vw s m (strU g k) Str.RSENSE && vw s m (strU g k) Str.RSENSE ≤ 2000000)) 0x008,
    cfg (200 ≤ v Lamp.BUCK_KHZ && v Lamp.BUCK_KHZ ≤ 2000) 0x014,
    cfg (!bound || s.portsOn.contains p) 0x000,
    cfg (!(lead g) || !(List.range 8).any (fun h => h != g && lead h)) 0x000,
    cfg (!bound || len == 0 || dl ≤ win) 0x004,
    cfg (!bound || len == 0 || dl + len ≤ win) 0x008,
    cfg (!(lead g) || vw s m (pipeU p) Pipe.NORM_SRC != 1 || len != 0) 0x008,
    lampFit s m g]

end Sys2Proof.Machine
end

