-- ==== Sys2Proof/Machine/Chain.lean ====
section
/-! DEFINITION. The chain port (R422 to R424) and the Harebell engines (R425, R426). -/
namespace Sys2Proof.Machine
open R

/-! ### The chain port -/

/-- N and Tb of R422. -/
def chainN (s : State) (m : RegMap) : Nat :=
  vw s m chainU Chain.DRIVERS * (vw s m chainU Chain.WORDS + 1) * (vw s m chainU Chain.WORD_BITS_M1 + 1)
def chainTb (s : State) (m : RegMap) : Nat := cdiv 1600000 (max 1 (vw s m chainU Chain.CHAIN_KHZ))
/-- R422 and R423. -/
def chainChecks (s : State) (m : RegMap) : Refuse :=
  let v := fun f => vw s m chainU f
  let n := chainN s m
  let tb := chainTb s m
  let lpm := vw s m (portU (v Chain.CHAIN_PORT)) Port.LINE_PERIOD_MIN
  firstOf [
    need (1 ≤ v Chain.DRIVERS && v Chain.DRIVERS ≤ 256 && 7 ≤ v Chain.WORD_BITS_M1) St.BAD_PARAM [0x000],
    need (1000 ≤ v Chain.CHAIN_KHZ && v Chain.CHAIN_KHZ ≤ 50000) St.BAD_PARAM [0x004],
    need (v Chain.LATCH_KIND != 0 || n * tb + 128 ≤ lpm) St.CHAIN_RATE [(lpm - 128) / tb],
    need (n * tb + 128 ≤ v Chain.FRAME_TICKS) St.CHAIN_RATE [(v Chain.FRAME_TICKS - 128) / tb]]
/-- A channel of a frame set to a value. -/
def frameSet (wb frame j v : Nat) : Nat :=
  let old := frame / 2 ^ (j * wb) % 2 ^ wb
  frame - old * 2 ^ (j * wb) + v % 2 ^ wb * 2 ^ (j * wb)
/-- An engine runs: its effect, or an indication (R425, R426). -/
def State.hareOn (s : State) (e : Nat) : Bool := s.reg (hareU e) Hare.RUN == 1 || (s.hare e).ind.isSome
/-- The host image with the channels of the running engines overlaid; the lowest-numbered engine is overlaid last (R422, R426). -/
def State.chainContent (s : State) : Nat :=
  let wb := s.act chainU Chain.WORD_BITS_M1 + 1
  let channels := s.act chainU Chain.DRIVERS * (s.act chainU Chain.WORDS + 1)
  [3, 2, 1, 0].foldl (fun f e =>
    if s.hareOn e && s.reg (hareU e) Hare.TARGET_STR == 0 then
      ((s.hare e).outs.take (s.reg (hareU e) Hare.COUNT)).zipIdx.foldl (fun f o =>
        let j := s.reg (hareU e) Hare.FIRST + o.2
        if j < channels then frameSet wb f j ((o.1 * (2 ^ wb - 1) + 2 ^ 15) / 2 ^ 16) else f) f
    else f) s.chain.image
/-- A shift begins: the content is fixed now (R422). -/
def State.chainShift (s : State) : State :=
  let f := s.chainContent
  s.modChain (fun c => { c with shift := some s.now, marker := false, frame := f, lines := 0 })
/-- The shift after a latch begins when the pulse of CHAIN_LAT ends (R423); its content is fixed then (R422). -/
def State.chainBegins (s : State) : State :=
  match s.chain.begin_ with
  | none => s
  | some t =>
    if s.now < t then s else
    let f := s.chainContent
    s.modChain (fun c => { c with shift := some t, marker := false, frame := f, lines := 0, begin_ := none })
/-- The marker shift of R424. -/
def State.chainMarker (s : State) : State :=
  let s := (s.set chainU Chain.CHAIN_FAULT 0).set chainU Chain.LEN_FAULT 0
  s.modChain (fun c => { c with on := true, stopped := false, shift := some s.now, marker := true, bad := 0, latched := none, due := none, begin_ := none, lastLatch := s.now })
/-- CHAIN_EN in force is taken up. -/
def State.chainSync (s : State) : State :=
  let en := s.act chainU Chain.CHAIN_EN == 1
  if en && !s.chain.on then (s.modChain (fun c => { c with image := c.loaded.getD c.image, loaded := none })).chainMarker
  else if !en && s.chain.on then s.modChain (fun c => { c with on := false, shift := none, due := none, begin_ := none, latched := none })
  else s
/-- The chain port shifts and latches no more: by an abort, a fence or a reset. It starts again on CHAIN_RESTART, or when CHAIN_EN becomes 1 (R424). -/
def State.chainHalt (s : State) : State := if s.chain.on then s.modChain (fun c => { c with stopped := true, shift := none, due := none, begin_ := none }) else s
/-- The chain port stops with its outputs off (R424). -/
def State.chainStop (s : State) (detail : Nat) : State :=
  let s := s.set chainU Chain.CHAIN_FAULT 1
  let p := s.act chainU Chain.CHAIN_PORT
  -- lines lit while CHAIN_FAULT is set
  let s := if (s.lampsOf p).any (fun g => s.act (lampU g) Lamp.CHAIN_ILLUM == 1) then s.flagLines p (s.linesOpen p s.now) Ln.LAMP_INVALID false else s
  (s.modChain (fun c => { c with stopped := true, shift := none, due := none, begin_ := none })).raise Ev.CHAIN_FAULT chainU detail
/-- A frame or marker shift ends (CHAIN_SHIFT_DONE): `ret` the bits that came back, `count` the clocks until the marker returned. -/
def State.chainShiftDone (s : State) (ret count : Nat) : State :=
  let s := s.chainBegins
  let c := s.chain
  let n := chainN s s.active
  match c.shift with
  | none => s
  | some t =>
    if s.now < t + n * chainTb s s.active then s
    else if c.marker then
      let s := (s.set chainU Chain.LEN_MEASURED count).modChain (fun c => { c with shift := none, marker := false })
      if count != n then (s.set chainU Chain.LEN_FAULT 1).chainStop 4 else s.chainShift
    else
      let s := s.modChain (fun c => { c with shift := none })
      let p := s.act chainU Chain.CHAIN_PORT
      match c.latched with
      | none => s
      | some f =>
        if ret % 2 ^ n = f % 2 ^ n then
          (s.modChain (fun c => { c with bad := 0, pend := [] })).lampDecide p
        else
          let s := s.bump chainU Chain.MISMATCHES
          let ls := c.pend
          let s := ((s.flagLines p ls Ln.LAMP_UNVERIFIED false).modChain (fun c => { c with bad := c.bad + 1, pend := [] })).lampDecide p
          if c.bad + 1 < 3 then s.raise Ev.CHAIN_FAULT chainU 1 else s.chainStop 3
/-- CHAIN_PORT has boundaries (R423). -/
def State.chainHasPort (s : State) : Bool :=
  let p := s.act chainU Chain.CHAIN_PORT
  (s.port p).jobOn && !s.fenced (portU p) && s.stOf (portU p) != .off
/-- A boundary of a port at tick t (R423): rank 1 line, 2 repeat, 3 job; a job start latches for every kind. One that finds a shift still running, or still to come after a latch, does not latch. -/
def State.chainBoundary (s : State) (p rank t : Nat) (jobStart : Bool) : State :=
  let k := s.act chainU Chain.LATCH_KIND
  if !s.chain.on || s.chain.stopped || s.act chainU Chain.CHAIN_PORT != p then s
  else if !(jobStart || (k < 3 && k < rank)) then s
  else if (match s.chain.shift.orElse (fun _ => s.chain.begin_) with | some t0 => decide (t < t0 + chainN s s.active * chainTb s s.active) | none => false) then
    (s.bump chainU Chain.LATE).raise Ev.CHAIN_LATE chainU (s.reg chainU Chain.FRAMES)
  else s.modChain (fun c => { c with due := some (t + 32) })
/-- The latch (CHAIN_LATCH): the next shift begins 64 ticks later. -/
def State.chainLatch (s : State) : State :=
  let s := s.chainBegins
  let c := s.chain
  if !c.on || c.stopped then s else
  let timed := s.act chainU Chain.LATCH_KIND == 3 || !s.chainHasPort
  let at_ := match c.due with
    | some t => some t
    | none => if timed then some (c.lastLatch + s.act chainU Chain.FRAME_TICKS) else none
  match at_ with
  | none => s
  | some t =>
    if s.now < t || c.shift.isSome || c.begin_.isSome then s
    else (s.bump chainU Chain.FRAMES).modChain (fun c => { c with
      due := none, lastLatch := t, latched := some c.frame, image := c.loaded.getD c.image, loaded := none, begin_ := some (t + 64) })
/-- CHAIN_RESTART is written (R424). It starts nothing on a fenced port (R26). -/
def State.chainRestart (s : State) : State :=
  let s := s.set chainU Chain.CHAIN_RESTART 0
  if s.act chainU Chain.CHAIN_EN = 1 ∧ s.fenced chainU = false then s.chainMarker else s
/-- A line of the port is fired: lines lit through the chain wait for the frame's verification; after 960 lines without a shift the latched
frame is shifted again (R424). Answers LAMP_INVALID. -/
def State.chainFire (s : State) (p line : Nat) : State × Bool :=
  if s.act chainU Chain.CHAIN_PORT != p || !(s.lampsOf p).any (fun g => s.act (lampU g) Lamp.CHAIN_ILLUM == 1) then (s, false)
  else
    let s := s.modChain (fun c => { c with pend := c.pend ++ [line], lines := c.lines + 1 })
    let c := s.chain
    let s := if 960 ≤ c.lines && c.shift.isNone && c.begin_.isNone && c.on && !c.stopped then
        (match c.latched with
         | some f => s.modChain (fun c => { c with shift := some s.now, frame := f, lines := 0 })
         | none => s)
      else s
    (s, s.reg chainU Chain.CHAIN_FAULT == 1)
/-- CHAIN_LOAD (R422, R423, R340, R572). -/
def State.cmdChainLoad (s : State) (k : Pkt) : Answer :=
  let a := k.p 1 * 2 ^ 32 + k.p 0
  let len := 64 * cdiv (chainN s s.active) 512
  if a % 64 != 0 then s.misaligned none a
  else if k.p 2 % 64 != 0 then s.misaligned none (k.p 2)
  else s.unless (firstOf [
    badParam (s.inDram a (k.p 2)) 0,
    badParam (k.p 2 == len) 2]) (fun _ =>
    ((s.modChain (fun c => { c with loaded := some (ofLe (Mem.read s.dram a len)) })).moverTake len, St.OK, [0]))

/-! ### Harebell -/

/-- HC of R425. -/
def cos64 (e : Nat) : Int :=
  let e := e % 1024
  let q := fun k => if k ≤ 128 then cosEighth k else sinEighth (256 - k)
  if e ≤ 256 then q e else if e ≤ 512 then -(q (512 - e)) else if e ≤ 768 then -(q (e - 512)) else q (1024 - e)
def hareHc (i : Nat) : Nat := min (sar (2 ^ 64 - cos64 i + 2 ^ 48) 49).toNat 65535
/-- Largest n up to 2^k - 1 + r for which a test holds, bit by bit. -/
def climb (f : Nat → Bool) : Nat → Nat → Nat
  | 0, r => r
  | k + 1, r => climb f k (if f (r + 2 ^ k) then r + 2 ^ k else r)
/-- GT of R425: the nearest n to 65,535 × (i / 4,095)^γ, γ = p / 5. -/
def gammaOf (g i : Nat) : Nat :=
  if g = 0 then (65535 * i * 2 + 4095) / 8190
  else
    let p := if g = 1 then 9 else if g = 2 then 11 else 14
    climb (fun n => (2 * n - 1) ^ 5 * 4095 ^ p ≤ 2 ^ 5 * 65535 ^ 5 * i ^ p) 16 0
/-- Brightness of target i of an engine at time t in ms (R425). -/
def State.hareB (s : State) (e t i : Nat) : Nat :=
  let v := fun f => s.reg (hareU e) f
  let mn := v Hare.LEVEL_MIN
  let mx := v Hare.LEVEL_MAX
  let per := max 1 (v Hare.PERIOD_MS)
  let step := max 1 (v Hare.STEP_MS)
  let cnt := max 1 (v Hare.COUNT)
  match v Hare.EFFECT with
  | 0 => (Int.ofNat mn + sar ((Int.ofNat mx - Int.ofNat mn) * Int.ofNat (hareHc (t % per * 1024 / per)) + 2 ^ 15) 16).toNat
  | 1 =>
    let h := t / step % cnt
    let h := if v Hare.REVERSE = 1 then cnt - 1 - h else h
    if (i + cnt - h) % cnt < v Hare.LENGTH then mx else mn
  | 2 => if t % per < v Hare.STEP_MS then mx else mn
  | _ => s.reg (hareU e) Hare.STEP_LEVEL (t / step % max 1 (min 16 (v Hare.LENGTH)))
/-- Brightness of target i during an indication aimed at target c (R426). -/
def State.hareInd (s : State) (e t i : Nat) (c : Option Nat) : Nat :=
  let v := fun f => s.reg (hareU e) f
  let mn := v Hare.LEVEL_MIN
  let mx := v Hare.LEVEL_MAX
  let per := max 1 (v Hare.PERIOD_MS)
  let step := max 1 (v Hare.STEP_MS)
  let blink := if t % per < v Hare.STEP_MS then mx else mn
  match c with
  | none => blink
  | some c =>
    let last := v Hare.COUNT - 1
    let up := last ≤ 2 * c
    let dist := if up then c else last - c
    let j := t / step
    if j < dist then
      -- the head has moved j channels from the far end; LENGTH channels are lit up to it
      let d := if up then i else last - i
      if d ≤ j ∧ j < d + v Hare.LENGTH then mx else mn
    else if i = c then blink else mn
/-- Another engine sets string n: a running one, with a lower number or where this one does not run (R426). -/
def State.hareOwned (s : State) (e n : Nat) : Bool :=
  (List.range 4).any (fun d => d != e && s.hareOn d && (decide (d < e) || !s.hareOn e) && s.reg (hareU d) Hare.TARGET_STR == 1 &&
    decide (s.reg (hareU d) Hare.FIRST ≤ n) && decide (n < s.reg (hareU d) Hare.FIRST + s.reg (hareU d) Hare.COUNT))
/-- The outputs of an engine reach its strings (R407, R425). -/
def State.hareStrings (s : State) (e : Nat) (outs : List Nat) : State :=
  outs.zipIdx.foldl (fun s o =>
    let n := s.reg (hareU e) Hare.FIRST + o.2
    let g := n / 4
    let k := n % 4 + 1
    if 31 < n || s.act (strU g k) Str.ROLE != 3 then s.set (hareU e) Hare.SKIPPED 1
    else if s.hareOwned e n then s
    else
        let lit := o.1 != 0 && s.lampOn g && !s.fenced (strU g k) && !(s.lamp g).back.contains k && !(s.reg (lampU g) Lamp.DARK == 1) && !s.lampHeld g
        (s.modStr g k (fun x => { x with duty := o.1 })).setLit g k lit) s
/-- String n is a target of an engine. -/
def State.hareAims (s : State) (e n : Nat) : Bool :=
  s.reg (hareU e) Hare.TARGET_STR == 1 && decide (s.reg (hareU e) Hare.FIRST ≤ n) && decide (n < s.reg (hareU e) Hare.FIRST + s.reg (hareU e) Hare.COUNT)
/-- The page of an engine has been written: INDICATOR strings that are no target of it any more, and of no other, go dark (R425). -/
def State.hareLeaves (s before : State) (e : Nat) : State :=
  (List.range 32).foldl (fun s n =>
    let g := n / 4
    let k := n % 4 + 1
    if !before.hareAims e n || s.hareAims e n || s.act (strU g k) Str.ROLE != 3 || s.hareOwned e n then s
    else (s.modStr g k (fun x => { x with duty := 0 })).setLit g k false) s
/-- STATE of an engine. -/
def State.hareState (s : State) (e : Nat) : State := if s.fenced (hareU e) then s else s.setSt (hareU e) (if s.hareOn e then .running else .idle)
/-- Every 1 ms an engine computes its brightness (HAREBELL_TICK). -/
def State.hareTick (s : State) (e : Nat) : State :=
  let u := hareU e
  let s := s.chainBegins
  let x := s.hare e
  if s.fenced u || s.now < x.last + 1600000 then s else
  let ms := fun (t : Nat) => (s.now - t) / 1600000
  let s := match x.ind with
    | some (t, _) => if s.reg u Hare.INDICATE_MS ≤ ms t then s.modHare e (fun x => { x with ind := none }) else s
    | none => s
  let cnt := min 4096 (s.reg u Hare.COUNT)
  let bs := match (s.hare e).ind with
    | some (t, c) => (List.range cnt).map (fun i => s.hareInd e (ms t) i c)
    | none => match x.run with
      | some t => (List.range cnt).map (fun i => s.hareB e (ms t) i)
      | none => (List.range cnt).map (fun _ => 0)
  let outs := bs.map (fun b => gammaOf (s.reg u Hare.GAMMA) (b % 65536 / 16))
  let s := s.modHare e (fun x => { x with last := s.now, outs := outs })
  let s := s.hareState e
  if s.reg u Hare.TARGET_STR == 1 && (s.hareOn e || x.outs.any (· != 0)) then s.hareStrings e outs else s
/-- RUN has been written: the time of the effect starts (R425). -/
def State.hareSync (s : State) (e : Nat) : State :=
  let run := s.reg (hareU e) Hare.RUN == 1
  let s := s.modHare e (fun x => { x with run := if run then x.run.orElse (fun _ => some s.now) else none })
  s.hareState e
/-- A trigger of a condition with A_INDICATE (R426): home port and PIX256, none without a pixel. -/
def State.hareIndicate (s : State) (e p : Nat) (pix : Option Nat) : State :=
  let u := hareU e
  let s := s.chainBegins
  if s.fenced u then s else
  let cnt := s.reg u Hare.COUNT
  let c := pix.map (fun x =>
    let o := x * cnt / (max 1 (s.act (portU p) Port.LINE_UNITS) * 64 * 256)
    if s.reg u Hare.REVERSE = 1 then cnt - 1 - o else o)
  ((s.modHare e (fun x => { x with ind := some (s.now, c) })).bump u Hare.INDICATIONS).setSt u .running
/-- ABORT or fence of an engine (R104, R426): its channels return to the host image, its strings go dark. -/
def State.hareStop (s : State) (e : Nat) : State :=
  let u := hareU e
  let s := (s.modHare e (fun _ => {})).set u Hare.RUN 0
  if s.reg u Hare.TARGET_STR = 1 then s.hareStrings e (List.replicate (min 4096 (s.reg u Hare.COUNT)) 0) else s

end Sys2Proof.Machine
end

