-- ==== Sys2Proof/Machine/Rope.lean ====
section
/-! DEFINITION. The local Rope part: pitches and link-up (R454 to R460, R471, R472), messages (R461 to R463), Rope time (R464 to R466), and
the subtree reports (R469). -/
namespace Sys2Proof.Machine
open R

/-! ### Role and pitches -/

/-- ROLE and NODE_ID in force (R458). -/
def State.role (s : State) : Nat := s.inForce ropeU Rope.ROLE
def State.node (s : State) : Nat := s.inForce ropeU Rope.NODE_ID
/-- The broadcast address, which also means "not set" (R456). -/
def allNodes : Nat := 0x3FFFF
def State.pitch (s : State) (k : Nat) : PitchSt := s.ropeS.pitches.getD k {}
def State.modRope (s : State) (f : RopeSt → RopeSt) : State := { s with ropeS := f s.ropeS }
def State.modPitch (s : State) (k : Nat) (f : PitchSt → PitchSt) : State := s.modRope (fun r => { r with pitches := upd r.pitches k f })
/-- The subtree group of downstream pitch k (R457). -/
def subU (k : Nat) : Nat := 0x9010 + k
/-- State of a pitch: LINK of a downstream pitch, UP_STATE of the upstream one (index 4). -/
def State.linkSt (s : State) (k : Nat) : Nat := if k = 4 then s.reg ropeU Rope.UP_STATE else s.reg ropeU Rope.LINK k
def State.setLink (s : State) (k st refuse : Nat) : State :=
  if k = 4 then (s.set ropeU Rope.UP_STATE st).set ropeU Rope.REFUSE refuse
  else (s.set ropeU Rope.LINK st k).set ropeU Rope.DN_REFUSE refuse k
/-- EV_ROPE_LINK (R474). -/
def State.linkEvent (s : State) (k : Nat) : State :=
  s.raise Ev.ROPE_LINK ropeU (k + s.linkSt k * 8 + (if k = 4 then s.reg ropeU Rope.REFUSE else s.reg ropeU Rope.DN_REFUSE k) * 32)
/-- The joined downstream pitches. -/
def State.downs (s : State) : List Nat := [0, 1, 2, 3].filter (fun k => s.linkSt k == 2)
/-- The device is joined, as a member or as the leader (R455, R459). -/
def State.ropeJoined (s : State) : Bool := s.role != 0 && s.reg ropeU Rope.UP_STATE == 2
def State.aligned (s : State) : Bool := s.reg ropeU Rope.ALIGNED == 1
/-- ANCHOR and MEMBERS (R457, R469). -/
def State.ropeRegs (s : State) : State :=
  let n := ([0, 1, 2, 3].map (fun k => s.reg ropeU Rope.SUB_MEMBERS k)).foldl (· + ·) 1
  (s.set ropeU Rope.ANCHOR (b2n (s.downs != []))).set ropeU Rope.MEMBERS n
/-- STATE of the local part: DEGRADED on a MEMBER that is not ALIGNED (R466). -/
def State.ropeRefresh (s : State) : State :=
  if s.fenced ropeU then s
  else if s.role = 0 ∨ s.ropeS.aborted = true then s.setSt ropeU .idle
  else if s.role = 2 ∧ !s.aligned then s.setSt ropeU .degraded
  else s.setSt ropeU .running
/-- ALIGNED changes (R465, R466). -/
def State.setAligned (s : State) (on : Bool) : State :=
  if s.aligned = on then s else
  let s := (s.set ropeU Rope.ALIGNED (b2n on)).modRope (fun r => { r with good := 0, bad := 0 })
  let s := (s.raise Ev.ROPE_ALIGN ropeU (b2n on)).ropeRefresh
  s.portsOn.foldl (fun (s : State) p => (s.degrade p 5 (!on && s.role == 2)).portRefresh p) s

/-! ### Messages (R461 to R463) -/

/-- Sending order of R463. -/
def RMsg.prio (m : RMsg) : Nat :=
  if m.typ = 2 then 0 else if m.typ = 1 then 1 else if m.typ = 4 then 2
  else if m.typ = 6 then (if nth m.pay 0 % 16 = 2 ∨ nth m.pay 0 % 16 = 3 then 3 else 5) else if m.typ = 3 then 4 else 6
/-- The words of a message as sent (R461). -/
def RMsg.words (m : RMsg) (lseq : Nat) : List Nat :=
  let b := [m.typ + lseq * 16 + b2n m.up * 256, m.src, m.dst] ++ m.pay.map (· % 2 ^ 32)
  b ++ [crc32c (wordBytes b)]
/-- Put a message on the wire of a pitch; every message but TIME waits for its acknowledgement (R462). -/
def State.transmit (s : State) (k : Nat) (m : RMsg) : State :=
  let q := (s.pitch k).lseq
  let s := s.modRope (fun r => { r with sent := (k, m.words q) :: r.sent })
  s.modPitch k (fun x => { x with lseq := (q + 1) % 16, unacked := if m.typ = 3 then x.unacked else x.unacked ++ [{ msg := m, lseq := q, tries := 0, at_ := s.now }] })
/-- Send the first waiting message once nothing is unacknowledged (log entry 22); a FIRE goes at once (R463). -/
def State.pump (s : State) (k : Nat) : State :=
  match (s.pitch k).wait with
  | [] => s
  | m :: l => if m.typ = 2 || (s.pitch k).unacked == [] then (s.modPitch k (fun x => { x with wait := l })).transmit k m else s
/-- Insert in the order of R463, in order of arrival within each kind. -/
def insertMsg (m : RMsg) : List RMsg → List RMsg
  | [] => [m]
  | x :: l => if x.prio ≤ m.prio then x :: insertMsg m l else m :: x :: l
/-- A message that cannot be sent (R462). -/
def State.msgDropped (s : State) (k : Nat) (m : RMsg) : State :=
  (s.bump ropeU Rope.MSG_DROPPED).raise Ev.ROPE_MSG_DROPPED ropeU (m.typ + k * 16)
/-- Queue a message on a pitch. `link`: it belongs to the link-up and may use a pitch that is LINKING. -/
def State.ropeSend (s : State) (k : Nat) (m : RMsg) (link : Bool := false) : State :=
  if s.linkSt k = 2 ∨ (link ∧ s.linkSt k = 1) then
    (s.modPitch k (fun x => { x with wait := insertMsg m x.wait })).pump k
  else s.msgDropped k m
/-- Send a message of this device, or pass one on, on every joined pitch it is bound for but the one it came from (R463). -/
def State.ropeFlood (s : State) (m : RMsg) (from_ : Nat) (up down : Bool) : State :=
  let ks := (if down then s.downs else []) ++ (if up && s.role == 2 && s.linkSt 4 == 2 then [4] else [])
  (ks.filter (· != from_)).foldl (fun (s : State) k => s.ropeSend k { m with up := k == 4 }) s
/-- A STATUS message of this device. -/
def State.status (s : State) (kind : Nat) (up : Bool) (dst : Nat) (pay : List Nat) : RMsg :=
  { typ := 6, up := up, src := s.node, dst := dst, pay := kind :: pay }

/-! ### A pitch comes and goes (R459, R471) -/

/-- Clear what a pitch holds; its messages cannot be sent (R462). -/
def State.pitchClear (s : State) (k : Nat) : State :=
  let x := s.pitch k
  let s := s.modPitch k (fun x => { locked := x.locked, lseq := x.lseq, retryAt := s.now + 16000000 })
  (x.unacked.map (·.msg) ++ x.wait).foldl (fun (s : State) m => s.msgDropped k m) s
/-- SUB_STATE is the STATE of the subtree group (R20, R457). -/
def State.subShow (s : State) (k : Nat) : State := s.set ropeU Rope.SUB_STATE (s.unit (subU k)).st.code k
/-- The nodes behind pitch k are out of reach (R471). The leader keeps them in its set, marked so: they come back together (log entry 23). -/
def State.nodesAway (s : State) (k : Nat) : State :=
  s.modRope (fun r => { r with joined := r.joined.map (fun x => if x.2 = k then (x.1, k + 8) else x), routes := r.routes.filter (fun x => x.2 != k) })
/-- The subtree behind a downstream pitch is gone. -/
def State.subGone (s : State) (k : Nat) : State :=
  (((((s.set ropeU Rope.SUB_WORST_NODE allNodes k).set ropeU Rope.SUB_COUNT 0 k).set ropeU Rope.SUB_MEMBERS 0 k).nodesAway k).ropeRegs)
/-- STATUS LOST goes down (R471). -/
def State.sendLost (s : State) (from_ : Nat) : State :=
  s.ropeFlood (s.status 5 false allNodes []) from_ false true
/-- A pitch breaks (R471): the group above is fenced with ROPE_LOST, the device below free-runs. A pitch that was linking up returns to DOWN. -/
def State.pitchBreak (s : State) (k : Nat) : State :=
  let st := s.linkSt k
  if st = 0 ∨ (k = 4 ∧ s.role = 1) then s else
  let s := (s.setLink k 0 0).pitchClear k
  if st != 2 then s.nodesAway k else
  let s := (s.bump ropeU Rope.BREAKS).linkEvent k
  if k = 4 then
    let s := ({ s with ropeT := { s.ropeT with slew := 0 } }.modRope (fun r => { r with first := true })).setAligned false
    s.sendLost 4
  else
    -- a FENCED that the last REPORT told is not this device's own
    let s := s.modUnit (subU k) (fun x => if x.st = .fenced ∧ x.reason = 0 then { x with st := .idle } else x)
    ((s.subGone k).fenceUnit (subU k) Fr.ROPE_LOST).subShow k
/-- A downstream pitch is taken down by DN_EN, or by a local part that starts again: its group is OFF (R457). -/
def State.pitchOff (s : State) (k : Nat) : State :=
  let st := s.linkSt k
  let s := (s.setLink k 0 0).pitchClear k
  let s := if st = 2 then s.linkEvent k else s
  if k = 4 then s else ((s.subGone k).setSt (subU k) .off).subShow k
/-- A pitch may link up (R455 to R458). -/
def State.pitchMay (s : State) (k : Nat) : Bool :=
  s.role != 0 && !s.fenced ropeU && !s.frozen && s.powered ropeU && s.node != allNodes && (if k = 4 then s.role == 2 else tbit (s.reg ropeU Rope.DN_EN) k)
/-- Step 1 of R459, and the child's JOIN of step 2. -/
def State.linkUp (s : State) (k : Nat) : State :=
  if !s.pitchMay k || !(s.pitch k).locked || 2 ≤ s.linkSt k then s else
  let s := (s.pitchClear k).setLink k 1 0
  let s := s.modPitch k (fun x => { x with phase := 1 })
  if k = 4 then s.ropeSend 4 (s.status 1 true allNodes [s.node + s.role * 2 ^ 18]) true else s
/-- A pitch gains or loses symbol lock (R459, R471). -/
def State.pitchLock (s : State) (k : Nat) (on : Bool) : State :=
  if 5 ≤ k then s else
  let s := s.modPitch k (fun x => { x with locked := on })
  if on then s.linkUp k else s.pitchBreak k
/-- A pitch whose link-up has failed, or has not led to JOINED, tries again every 10 ms (R459). -/
def State.linkRetry (s : State) (k : Nat) : State :=
  if 5 ≤ k || 2 ≤ s.linkSt k || s.now < (s.pitch k).retryAt then s
  else ((s.setLink k 0 0).pitchClear k).linkUp k
/-- A pitch is refused (R456, R459). -/
def State.linkRefuse (s : State) (k reason : Nat) : State :=
  (((s.pitchClear k).setLink k 3 reason).nodesAway k).linkEvent k
/-- On a device that leads or stands alone, Rope time is the count of its own ticks since the lock at start-up (R455, R464). -/
def State.ropeOwn (s : State) : State :=
  if s.role = 2 then s else { s with ropeT := { t32 := (s.now - s.sys.lockAt) * 2 ^ 32 } }.set ropeU Rope.RATE 0
/-- The local part begins (start-up and a RESET_UNIT that relinks, R455, R456, R458). -/
def State.ropeBegin (s : State) : State :=
  let s := s.ropeOwn
  let s := [0, 1, 2, 3, 4].foldl (fun (s : State) k => s.pitchOff k) s
  let s := s.modRope (fun r => { r with joined := if s.role = 1 then r.joined else [], routes := [], good := 0, bad := 0, first := true, aborted := false })
  let noId := s.role != 0 && s.node == allNodes
  let s := (s.set ropeU Rope.DEPTH 0).set ropeU Rope.LEADER_NODE (if s.role = 1 then s.node else allNodes)
  let s := if noId then s.setLink 4 3 5 else if s.role = 1 then s.setLink 4 2 0 else s
  let s := (s.setAligned (s.role == 1)).ropeRefresh
  let s := s.portsOn.foldl (fun (s : State) p => (s.degrade p 5 (s.role == 2)).portRefresh p) s
  [0, 1, 2, 3, 4].foldl (fun (s : State) k => s.linkUp k) s.ropeRegs
/-- A write of DN_EN has taken effect (R457). -/
def State.ropeSync (s : State) : State :=
  [0, 1, 2, 3].foldl (fun (s : State) k =>
    if tbit (s.reg ropeU Rope.DN_EN) k then (if s.linkSt k = 0 then s.linkUp k else s)
    else if s.linkSt k = 0 then (s.setSt (subU k) .off).subShow k else s.pitchOff k) s
/-- A reset of the refusing side's local part releases the pitches it refused (R459). -/
def State.refusedAgain (s : State) : State :=
  [0, 1, 2, 3].foldl (fun (s : State) k => if s.linkSt k = 3 then (s.setLink k 0 0).linkUp k else s) s
/-- A RESET_UNIT of the local part that keeps its links (R458). A leader goes by its NODE_ID in force. -/
def State.ropeKeeps (s : State) : State :=
  let s := s.modRope (fun r => { r with aborted := false })
  ((if s.role = 1 then s.set ropeU Rope.LEADER_NODE s.node else s).refusedAgain).ropeRefresh
/-- The links of the local part do not outlast a reset that changes its ROLE, or takes its NODE_ID away (R455, R456): asked before RESET fields come into force. -/
def State.ropeChanges (s : State) : Bool := s.reg ropeU Rope.ROLE != s.role || (s.reg ropeU Rope.NODE_ID == allNodes && s.node != allNodes)

/-! ### Joining (R456, R459, R460) -/

/-- The leader's judgement on a joining node (R456): 0 accepted, or the reason. A node out of reach, and one that rejoins through a pitch whose subtree
has lost members, is no duplicate (log entry 23). -/
def State.leaderJudge (s : State) (k node : Nat) : Nat :=
  if node = allNodes then 5
  else if node = s.node then 1
  else match s.ropeS.joined.find? (fun x => x.1 == node) with
    | none => 0
    | some x => if 8 ≤ x.2 then 0 else if x.2 = k ∧ s.reg ropeU Rope.SUB_MEMBERS k < (s.ropeS.joined.filter (fun y => y.2 == k)).length then 0 else 1
/-- The leader takes a node into its set (R456). The first that joined behind a pitch stands nearest to the leader there: when it comes back, the whole subtree that was
out of reach behind that pitch comes back with it (log entry 23). -/
def RopeSt.takeNode (r : RopeSt) (node k : Nat) : RopeSt :=
  match r.joined.find? (fun x => x.1 == node) with
  | some (_, b) =>
    if 8 ≤ b ∧ (r.joined.find? (fun x => x.2 == b)).map (·.1) = some node
    then { r with joined := r.joined.map (fun x => if x.2 = b then (x.1, k) else x) }
    else { r with joined := r.joined.map (fun x => if x.1 = node then (node, k) else x) }
  | none => { r with joined := r.joined ++ [(node, k)] }
/-- The parent answers its own child: refused, or on to the delay exchange (R459). -/
def State.childAnswer (s : State) (k reason : Nat) : State :=
  if s.linkSt k != 1 then s
  else if reason != 0 then s.linkRefuse k reason
  else s.modPitch k (fun x => { x with phase := 2, exch := [], reps := 0 })
/-- A JOIN of a node behind downstream pitch k goes to the leader: judged here on the leader, sent up on a member with the node it arose at (R461). -/
def State.joinUp (s : State) (k node role : Nat) : State :=
  let direct := s.linkSt k == 1
  if s.role = 1 then
    let r := s.leaderJudge k node
    let s := if r = 0 then s.modRope (fun x => x.takeNode node k) else s
    let s := s.ropeSend k (s.status 1 false node [node + role * 2 ^ 18 + b2n (r != 0) * 2 ^ 20 + r * 2 ^ 21]) true
    if direct then s.childAnswer k r else s
  else
    let s := s.modRope (fun x => { x with routes := x.routes.filter (fun y => y.1 != node) ++ [(node, k)] })
    s.ropeSend 4 { s.status 1 true allNodes [node + role * 2 ^ 18] with src := node }
/-- A JOIN from below (R459, step 2). A direct child waits until this device is joined, and is refused here as a LEADER or beyond depth 9. -/
def State.joinFromBelow (s : State) (k node role : Nat) : State :=
  if s.linkSt k = 2 then (if s.ropeJoined then s.joinUp k node role else s)
  else if s.linkSt k != 1 || (s.pitch k).phase != 1 then s
  else
    let answer := fun (r : Nat) => (s.ropeSend k (s.status 1 false node [node + role * 2 ^ 18 + 2 ^ 20 + r * 2 ^ 21]) true).linkRefuse k r
    if role = 1 then answer 4
    else if s.ropeJoined then (if 9 ≤ s.reg ropeU Rope.DEPTH then answer 2 else s.joinUp k node role)
    else s.modPitch k (fun x => { x with child := some (node, role) })
/-- Children that waited for this device to be joined. -/
def State.joinWaiting (s : State) : State :=
  [0, 1, 2, 3].foldl (fun (s : State) k => match (s.pitch k).child with
    | some (n, r) => (s.modPitch k (fun x => { x with child := none })).joinFromBelow k n r
    | none => s) s
/-- The leader's answer comes down (R459). -/
def State.joinFromAbove (s : State) (src node role refused reason : Nat) : State :=
  let r := if refused = 1 then reason else 0
  if s.linkSt 4 = 1 ∧ node = s.node then
    if r != 0 then s.linkRefuse 4 r
    else (s.set ropeU Rope.LEADER_NODE src).modPitch 4 (fun x => { x with phase := 2 })
  else match s.ropeS.routes.find? (fun x => x.1 == node) with
    | none => s
    | some (_, k) =>
      let s := s.modRope (fun x => { x with routes := x.routes.filter (fun y => y.1 != node) })
      let direct := s.linkSt k == 1
      let s := s.ropeSend k { typ := 6, up := false, src := src, dst := node, pay := [1, node + role * 2 ^ 18 + refused * 2 ^ 20 + reason * 2 ^ 21] } true
      if direct then s.childAnswer k r else s
/-- Send TIME down a pitch (R461, R464). -/
def State.sendTime (s : State) (k : Nat) : State :=
  let d := s.reg ropeU Rope.DELAY k + b2n s.aligned * 2 ^ 16 + (s.reg ropeU Rope.DEPTH + 1) * 2 ^ 17
  s.transmit k { typ := 3, up := false, src := s.node, dst := allNodes, pay := [s.rope % 2 ^ 32, s.rope / 2 ^ 32 % 2 ^ 32, d] }
/-- The parent's side is JOINED (R459 step 5, R472): the group appears, its ROPE_LOST fence ends, and the last ARM and JOB are sent again. -/
def State.childJoined (s : State) (k : Nat) : State :=
  let s := (s.sendTime k).setLink k 2 0
  let s := (s.modPitch k (fun x => { x with phase := 0, rep := 1 })).set ropeU Rope.SUB_MEMBERS 1 k
  let s := if s.fenced (subU k) && (s.unit (subU k)).reason != Fr.ROPE_LOST then s else (s.setSt (subU k) .idle).subShow k
  let s := s.ropeRegs.linkEvent k
  let s := match s.ropeS.lastArm with | some m => s.ropeSend k m | none => s
  match s.ropeS.lastJob with | some m => s.ropeSend k m | none => s
/-- DELAY of R460. -/
def pitchDelay (l : List Int) : Nat := low 16 (fdiv (l.foldl (· + ·) 0 * 16 + 16) 32)
/-- One answer of the delay exchange (R460): `d` is (t4 − t1) − (t3 − t2). -/
def State.delayExchange (s : State) (k : Nat) (d : Int) : State :=
  let x := s.pitch k
  if 4 ≤ k || s.linkSt k != 1 || x.phase != 2 then s else
  let l := x.exch ++ [d]
  if l.length < 16 then s.modPitch k (fun x => { x with exch := l })
  else
    let spread := (l.max?.getD 0) - (l.min?.getD 0)
    if 4 < spread then
      if x.reps < 4 then s.modPitch k (fun x => { x with exch := [], reps := x.reps + 1 })
      else s.linkRefuse k 3
    else (s.set ropeU Rope.DELAY (pitchDelay l) k).childJoined k

/-! ### Rope time (R464, R465) -/

/-- e16 of R464 (log entry 24): the exact difference. -/
def e16Of (t delay rt32 : Nat) : Int := Int.ofNat (t * 16 + delay) - Int.ofNat ((rt32 * 16 + 2 ^ 31) / 2 ^ 32)
/-- A signed value saturated to 32 bits, as a register holds it. -/
def low32s (i : Int) : Nat := low 32 (clamp (-(2 ^ 31)) (2 ^ 31 - 1) i)
/-- The servo step of R464. Answers the new Rope time and whether it stepped. -/
def RopeTime.servo (r : RopeTime) (e : Int) (first : Bool) : RopeTime × Bool :=
  if first || 25600 < e.natAbs then ({ r with t32 := (Int.ofNat r.t32 + e * 2 ^ 28).toNat, slew := 0 }, true)
  else ({ r with rate := clamp (-858993) 858993 (r.rate + fdiv (e * 2 ^ 28) 12800000), slew := fdiv (e * 2 ^ 28) 3200000 }, false)
/-- The child's side is JOINED with the first TIME (R459 step 5). -/
def State.upJoined (s : State) : State :=
  if s.linkSt 4 != 1 then s else
  let s := ((s.setLink 4 2 0).modPitch 4 (fun x => { x with phase := 0 })).linkEvent 4
  s.ropeRefresh.joinWaiting
/-- A TIME message from the parent (R459 steps 4 and 5, R464, R465). -/
def State.timeMsg (s : State) (t delay : Nat) (alignedUp : Bool) (depth : Nat) : State :=
  if s.role != 2 || (s.linkSt 4 != 2 && !(s.linkSt 4 == 1 && 2 ≤ (s.pitch 4).phase)) then s else
  let e := e16Of t delay s.ropeT.t32
  let rs := s.ropeT.servo e s.ropeS.first
  let rt := rs.1
  let stepped := rs.2
  let s := { s with ropeT := rt }
  let s := ((s.set ropeU Rope.UP_DELAY delay).set ropeU Rope.DEPTH depth).set ropeU Rope.OFFSET_LAST (low32s e)
  let s := (s.set ropeU Rope.RATE (low 32 rt.rate)).modRope (fun r => { r with lastTime := s.now, first := false })
  let s := if stepped then
      let d := sar (e + 8) 4
      (s.set ropeU Rope.STEP_LAST (low32s d)).raise Ev.ROPE_STEP ropeU (low32s d)
    else s
  let s := if stepped then (s.setAligned false).modRope (fun r => { r with good := 0, bad := 0 })
    else (
      let ok := e.natAbs ≤ 32 && alignedUp
      let off := 64 < e.natAbs
      let s := s.modRope (fun r => { r with good := if ok then r.good + 1 else 0, bad := if off then r.bad + 1 else 0 })
      if s.aligned then (if 2 ≤ s.ropeS.bad then s.setAligned false else s)
      else (if 8 ≤ s.ropeS.good then s.setAligned true else s))
  s.upJoined
/-- TIME falls due (TIME_SEND). -/
def State.timeSend (s : State) : State :=
  if s.now < s.ropeS.timeNext || s.role == 0 || s.fenced ropeU || s.frozen then s else
  let s := s.modRope (fun r => { r with timeNext := s.now / 1600000 * 1600000 + 1600000 })
  s.downs.foldl (fun (s : State) k => s.sendTime k) s
/-- No TIME for 4 ms (TIME_TIMEOUT, R465): from then on SLEW is 0 (log entry 24). -/
def State.timeTimeout (s : State) : State :=
  if s.role != 2 || s.now < s.ropeS.lastTime + 6400000 then s
  else { s with ropeT := { s.ropeT with slew := 0 } }.setAligned false

/-! ### Acknowledgements (R462) -/

/-- Send an unacknowledged message again, or take the pitch down after three retransmissions. -/
def State.resend (s : State) (k : Nat) (m : RSent) : State :=
  if 3 ≤ m.tries then s.pitchBreak k
  else
    let s := (s.bump ropeU Rope.RETRIES).modRope (fun r => { r with sent := (k, m.msg.words m.lseq) :: r.sent })
    s.modPitch k (fun x => { x with unacked := x.unacked.map (fun y => if y.lseq = m.lseq then { y with tries := y.tries + 1, at_ := s.now } else y) })
/-- The answer to the message with an LSEQ arrives. -/
def State.ropeAck (s : State) (k lseq : Nat) (ok : Bool) : State :=
  match (s.pitch k).unacked.find? (fun y => y.lseq == lseq) with
  | none => s
  | some m => if ok then (s.modPitch k (fun x => { x with unacked := x.unacked.filter (fun y => y.lseq != lseq) })).pump k else s.resend k m
/-- No answer within 2 µs. -/
def State.ropeAckTimeout (s : State) (k lseq : Nat) : State :=
  match (s.pitch k).unacked.find? (fun y => y.lseq == lseq) with
  | none => s
  | some m => if s.now < m.at_ + 3200 then s else s.resend k m

/-! ### Reports (R469) -/

/-- Code of the most severe STATE of a list of units (R21). -/
def State.worst (s : State) (us : List Nat) : Nat := (us.map (fun u => (s.stOf u).code)).foldl max 0
/-- The units of this device itself: every unit but the subtree groups. -/
def ownUnits : List Nat := allUnits.filter (fun u => !(0x9010 ≤ u && u ≤ 0x9013))
/-- The REPORT of a member: STATE, WORST_NODE, COUNT, MEMBERS. The group of a pitch that is broken has no member to report it, and counts with this device (log entry 23). -/
def State.reportNow (s : State) : List Nat :=
  let subs := s.downs
  let code := fun (k : Nat) => (s.stOf (subU k)).code
  let own := s.worst (ownUnits ++ ([0, 1, 2, 3].filter (fun k => !subs.contains k)).map subU)
  let st := (subs.map code).foldl max own
  let ks := subs.filter (fun k => code k == st)
  let nodes := (if own = st then [s.node] else []) ++ ks.map (fun k => s.reg ropeU Rope.SUB_WORST_NODE k)
  let n := (ks.map (fun k => s.reg ropeU Rope.SUB_COUNT k)).foldl (· + ·) (b2n (own == st))
  [st, nodes.min?.getD allNodes, n, s.reg ropeU Rope.MEMBERS]
/-- Send a REPORT upwards. -/
def State.sendReport (s : State) : State :=
  let r := s.reportNow
  let s := s.modRope (fun x => { x with report := r })
  s.ropeSend 4 (s.status 0 true allNodes [nth r 1, nth r 2, nth r 3] |> fun m => { m with pay := upd m.pay 0 (fun k => k + nth r 0 * 16) })
/-- A REPORT on change (R469); after every command. -/
def State.reportChanged (s : State) : State :=
  if s.role = 2 && s.reg ropeU Rope.UP_STATE == 2 && !s.frozen then (if s.reportNow = s.ropeS.report then s else s.sendReport) else s
/-- The 1 ms report (REPORT_TIMER). -/
def State.reportTimer (s : State) : State :=
  if s.now < s.ropeS.reportNext || s.role != 2 || s.linkSt 4 != 2 || s.frozen then s
  else (s.modRope (fun r => { r with reportNext := s.now / 1600000 * 1600000 + 1600000 })).sendReport
/-- The STATE that a REPORT carries as a number (R20). -/
def ustateOf (st : Nat) : UState :=
  if st = 1 then .idle else if st = 2 then .running else if st = 3 then .waiting else if st = 4 then .degraded
  else if st = 5 then .stopping else if st = 6 then .frozen else if st = 7 then .fenced else .off
/-- The subtree group takes the STATE of the latest REPORT (R469). A fence of this device's own making (ABORT_LATE) stays until the group is reset (R31). -/
def State.subFollows (s : State) (k : Nat) : State :=
  if s.fenced (subU k) && (s.unit (subU k)).reason != 0 then s
  else (s.modUnit (subU k) (fun x => { x with st := ustateOf (s.pitch k).rep, reason := 0 })).subShow k
/-- A RESET_UNIT of a subtree group ends a fence of this device's own making (R31). -/
def State.subReset (s : State) (k : Nat) : State :=
  if s.linkSt k = 2 then ((s.modUnit (subU k) (fun x => { x with reason := 0 })).subFollows k).ropeRegs else s
/-- A REPORT of the child on pitch k. -/
def State.reportMsg (s : State) (k st worst count members : Nat) : State :=
  if 4 ≤ k || s.linkSt k != 2 then s else
  let s := ((s.set ropeU Rope.SUB_WORST_NODE worst k).set ropeU Rope.SUB_COUNT count k).set ropeU Rope.SUB_MEMBERS members k
  ((s.modPitch k (fun x => { x with rep := st })).subFollows k).ropeRegs

end Sys2Proof.Machine
end

