-- ==== Sys2Proof/Machine/Trigger.lean ====
section
/-! DEFINITION. The trigger engine (chapter 08): arming (R281, R282), slots and conditions (R276 to R280, R291 to R293), placing (R285 to
R287), cairns (R290), and actions (R283, R294, R295). -/
namespace Sys2Proof.Machine
open R

/-! ### Signals (R276, R277) -/

/-- The level signals now: GPIO inputs and LAMP_INVALID. -/
def State.levelWord (s : State) : Nat :=
  s.trig.gpio + ((List.range 8).map (fun g => b2n (s.lampInvalid g) * 2 ^ (48 + g))).foldl (· + ·) 0
/-- The slot that can be evaluated now: every GPIO edge of it has stood for GPIO_FILTER ticks and has been timestamped (R277; DEDUCED, log entry 52). -/
def State.slotDue (s : State) : Nat := s.ropeAt (s.now - s.reg trigU Trig.GPIO_FILTER) / 8
/-- The level signals at the end of slot n: transitions with a later timestamp have not happened there (R277). -/
def State.levelsAt (s : State) (n : Nat) : Nat :=
  s.trig.levelT.foldl (fun w x => if n < x.2 / 8 then setBit w x.1 (!tbit w x.1) else w) s.levelWord
/-- MASK and VALUE in force. -/
def State.maskOf (s : State) (c : Nat) : Nat := condMask s s.active c
def State.valueOf (s : State) (c : Nat) : Nat := condValue s s.active c
/-- An event of a slot counts for condition c (R276). CLASS_MASK filters defects only for a condition whose MASK has a DEFECT bit (R280). -/
def State.evFor (s : State) (c : Nat) (e : SigEv) : Bool :=
  if 32 ≤ e.sig ∧ e.sig < 40 then bits (s.maskOf c) 39 32 == 0 || tbit (s.act trigU Cond.CLASS_MASK c) e.cls
  else if 58 ≤ e.sig ∧ e.sig ≤ 62 then e.port == s.act trigU Cond.HOME_PORT c else true
/-- The signal word of a slot for condition c. -/
def State.sigWord (s : State) (c levels : Nat) (evs : List SigEv) : Nat :=
  (evs.filter (s.evFor c)).foldl (fun w e => setBit w e.sig true) levels
/-- LAMP_INVALID levels that have changed are transitions of the slot, at the Rope time of the change (R285). -/
def State.lampSignals (s : State) : State :=
  let w := s.levelWord
  let gs := (List.range 8).filter (fun g => tbit w (48 + g) != tbit s.trig.lampSeen (48 + g))
  if gs = [] then s else s.modTrig (fun t => { t with lampSeen := w / 2 ^ 48 * 2 ^ 48, levelT := t.levelT ++ gs.map (fun g => (48 + g, s.rope)) })
/-- R278: condition c matches a signal word. -/
def State.condMatch (s : State) (c w : Nat) : Bool := (w &&& s.maskOf c) == (s.valueOf c &&& s.maskOf c)
/-- The event signals of a slot that the pattern of condition c names with 1. -/
def State.condEvents (s : State) (c : Nat) (evs : List SigEv) : List SigEv :=
  evs.filter (fun e => s.evFor c e && tbit (s.maskOf c) e.sig && tbit (s.valueOf c) e.sig)

/-! ### Arming (R281, R282) -/

/-- STATE of the engine, its unit state, and EV_ARM_CHANGE where STATE changes or the change is late. -/
def State.trigState (s : State) (late : Bool) : State :=
  let t := s.trig
  let pend : Bool := match t.armAt with | some (_, true) => true | _ => false
  let st := if pend then 2 else if t.armed then 1 else 0
  let was := s.reg trigU Trig.STATE
  let s := s.set trigU Trig.STATE st
  let s := if s.fenced trigU then s else s.setSt trigU (if st = 0 then .idle else .running)
  if was = st ∧ !late then s else s.raise Ev.ARM_CHANGE trigU (st + b2n late * 4)
/-- The engine arms or disarms now. A level already true does not trigger. -/
def State.armNow (s : State) (on late : Bool) : State :=
  let levels := s.levelWord
  let s := if on && !s.trig.armed then
      s.modTrig (fun t => { t with armSlot := some (s.rope / 8), conds := t.conds.zipIdx.map (fun x => { x.1 with matched := s.condMatch x.2 levels }) })
    else s
  (s.modTrig (fun t => { t with armed := on, armAt := none })).trigState late
/-- A request to arm or disarm, at a Rope time or at once. `late`: EV_ARM_CHANGE tells when the time has passed (R282). -/
def State.armReq (s : State) (on : Bool) (at_ : Option Nat) (tell : Bool) : State :=
  match at_ with
  | none => s.armNow on false
  | some t => if t ≤ s.rope then s.armNow on tell else (s.modTrig (fun x => { x with armAt := some (t, on) })).trigState false
/-- Rope time reaches AT (ARM_AT). -/
def State.armDue (s : State) : State :=
  match s.trig.armAt with
  | none => s
  | some (t, on) => if s.rope < t then s else s.armNow on false
/-- TRIG_ARM (R281, R282, R567). -/
def State.cmdTrigArm (s : State) (k : Pkt) : State × Nat × List Nat :=
  let on := tbit (k.params.headD 0) 0
  let t := nth k.params 2 * 2 ^ 32 + nth k.params 1
  let rope := s.reg trigU Trig.ARM_SRC == 1
  if rope ∧ s.role != 1 then (s, St.NOT_LEADER, [s.reg ropeU Rope.LEADER_NODE])
  else
    let at_ := if tbit k.flags 8 then some t else none
    let s := if rope then
        let m : RMsg := { typ := 1, up := false, src := s.node, dst := allNodes, pay := [b2n on, (at_.getD s.rope) % 2 ^ 32, (at_.getD s.rope) / 2 ^ 32 % 2 ^ 32] }
        (s.modRope (fun r => { r with lastArm := some m })).ropeFlood m 5 false true
      else s
    let s := s.armReq on at_ false
    (s, St.OK, [s.reg trigU Trig.STATE])

/-! ### Writing a cairn (R290) -/

/-- Queue an A_OUT pulse (R294). -/
def State.pulseQueue (s : State) (p line c : Nat) : State :=
  let v := fun f => s.act trigU f c
  let target := line + v Cond.OUT_DELAY
  if 64 ≤ (s.trig.pulses.filter (fun q => q.cond == c)).length then
    (s.bump trigU Cond.OUT_DROPPED 1 c).raise Ev.OUT_OVERFLOW trigU c
  else
    let past := (s.lc p).fires.reverse.find? (fun f => target ≤ f.2)
    let q : OutPulse := { cond := c, port := p, line := target, gpio := v Cond.OUT_GPIO, low := v Cond.OUT_LOW == 1, width := v Cond.OUT_WIDTH, startAt := past.map (fun f => f.1 + 32), left := none }
    s.modTrig (fun t => { t with pulses := t.pulses ++ [q] })
/-- The window that the conditions with A_EVID of one cairn open: the union of their ranges and crops (R296). -/
def State.cairnWindow (s : State) (p seq line : Nat) (cs : List Nat) : State × Nat × Bool :=
  if cs = [] || s.fenced trigU then (s, 0, false) else
  let v := fun f => cs.map (fun c => s.act trigU f c)
  let last := cs.map (fun c => s.act trigU Cond.CROP_FIRST c + s.act trigU Cond.CROP_COUNT c - 1)
  s.windowOpen p false seq line line ((v Cond.EVID_PRE).foldl max 0) ((v Cond.EVID_POST).foldl max 0) ((v Cond.CROP_FIRST).min?.getD 0) (last.foldl max 0)
/-- Write the cairn of a placed trigger and carry out the actions that need its position. -/
def State.cairn (s : State) (w : Waiting) (line frac : Nat) (unplaced : Bool) (pix : Option Nat) (nopix : Nat) : State :=
  let p := w.port
  let seq := (s.ring p).cairns
  let ow := s.cairnWindow p seq line w.evid
  let s := ow.1
  let body := [w.conds, lo32 line, hi32 line % 2 ^ 16 + frac * 2 ^ 16 + p * 2 ^ 24 + b2n unplaced * 2 ^ 27 + b2n w.hold * 2 ^ 28 + b2n w.remote * 2 ^ 29,
    (pix.getD nopix) % 2 ^ 22 + b2n pix.isNone * 2 ^ 22 + w.prim * 2 ^ 23, lo32 w.ropeT, hi32 w.ropeT, w.node, s.repOf p line, w.interval, w.dead,
    min w.missed 0xFFFF, (if ow.2.2 then ow.2.1 else 0) + b2n ow.2.2 * 2 ^ 12, w.sigLo, w.sigHi, seq]
  let s := (s.emit p 2 (some line) line line body).modTrig (fun t => { t with noJobRun := false })
  let s := if (List.range 32).any (fun c => tbit w.conds c && s.act trigU Cond.NOTIFY c == 1)
    then s.raise Ev.TRIG_COND trigU (w.prim + p * 2 ^ 5 + seq % 2 ^ 24 * 2 ^ 8) else s
  let s := w.outs.foldl (fun (s : State) c => s.pulseQueue p line c) s
  w.indicate.foldl (fun (s : State) c => s.hareIndicate (s.act trigU Cond.INDICATE_ENGINE c) p pix) s

/-! ### Placing a time-domain trigger (R286) -/

/-- Where a waiting trigger lies on its port's grid, `grid` newest first: line, fraction and UNPLACED, none while it still waits. -/
def placeWait (grid : List (Nat × Nat)) (t : Nat) : Option (Nat × Nat × Bool) :=
  match grid.head?, grid.getLast? with
  | some n, some o =>
    if n.1 ≤ t then none
    else if t < o.1 then some (o.2, 0, true)
    else (placeIn grid t).map (fun q => (q / 256, q % 256, false))
  | _, _ => none
/-- Place the triggers of a port that its newest fire lets place. -/
def State.trigPlace (s : State) (p : Nat) : State :=
  s.trig.waiting.foldl (fun (s : State) w =>
    if w.port != p then s else
    match placeWait (s.lc p).fires w.t with
    | none => s
    | some (l, f, u) => (s.modTrig (fun t => { t with waiting := t.waiting.erase w })).cairn w l f u none 0) s
/-- The last line fired before T, for a trigger that no fire places (R286, R302). -/
def State.trigLast (s : State) (w : Waiting) : State :=
  let s := s.modTrig (fun t => { t with waiting := t.waiting.erase w })
  match (s.lc w.port).fires.find? (fun f => f.1 ≤ w.t) with
  | some f => s.cairn w f.2 255 true none 0
  | none => s.cairn w 0 0 true none 0
/-- Does port p fire the lines of a job, so that a trigger at home there has a grid (R287): not while it holds (R54) or waits to rejoin (R31). -/
def State.trigHome (s : State) (p : Nat) : Bool := (s.port p).jobOn && !(s.port p).hold && !(s.port p).rejoin && !s.fenced (portU p)
/-- A trigger at or after the sample point of a boundary whose drain still runs belongs to the next job (R286). -/
def State.trigNext (s : State) (t : Nat) : Bool := s.reg devU Job.JOB_STATE == 4 && decide (s.job.lastS ≤ t)
/-- PLACE_WAIT has passed (PLACE_WAIT_EXPIRY). A port that has been aborted fires no more, and its trigger is written all the same while its JOB_START stands in the ring. -/
def State.placeExpiry (s : State) : State :=
  s.trig.waiting.foldl (fun (s : State) w =>
    if s.now < w.t + s.act trigU Trig.PLACE_WAIT ∨ s.trigNext w.t ∨ s.fenced (portU w.port) ∨ !(s.ring w.port).jobOpen then s else s.trigLast w) s
/-- Step 5 of R51: triggers before the sample point are placed with it standing in for the next fire. -/
def State.trigBoundary (s : State) (p sp : Nat) : State :=
  s.trig.waiting.foldl (fun (s : State) w =>
    if w.port != p || sp ≤ w.t then s else
    let fires := (s.lc p).fires
    match fires.head? with
    | none => s.trigLast w
    | some f =>
      match placeWait ((sp, f.2 + 1) :: fires) w.t with
      | some (l, fr, u) => (s.modTrig (fun t => { t with waiting := t.waiting.erase w })).cairn w l fr u none 0
      | none => s.trigLast w) s
/-- The job of a port ends (R291, R294): counts not reported, intervals, and pulses of the ended job. -/
def State.trigJobEnd (s : State) (p : Nat) : State :=
  let home := (List.range 32).filter (fun c => s.act trigU Cond.HOME_PORT c == p)
  let s := home.foldl (fun (s : State) c =>
    let m := min (s.cond c).missed 0xFFFF
    let s := if m = 0 then s else s.raise Ev.TRIG_MISSED trigU (c + m * 2 ^ 16)
    let x := s.cond c
    let kept := x.lastSlot.filter (fun t => decide (s.job.lastS ≤ t))
    (s.modCond c (fun x => { x with missed := 0, lastSlot := kept, dead := if kept.isSome then x.dead else 0 })).set trigU Cond.MISSED_PENDING 0 c) s
  let n := (s.lc p).nextLine
  let fired := (s.lc p).lastFire.isSome && n != 0
  let gone := s.trig.pulses.filter (fun q => q.port == p && q.startAt.isNone && q.left.isNone && !fired)
  let s := gone.foldl (fun (s : State) q => s.bump trigU Cond.OUT_DROPPED 1 q.cond) s
  s.modTrig (fun t => { t with
    pulses := (t.pulses.filter (fun q => !gone.contains q)).map (fun q =>
      if q.port = p ∧ q.startAt.isNone ∧ q.left.isNone then
        (let k := q.line + 1 - (n + (s.lc p).ghost)
         if k = 0 then { q with startAt := some (s.now + 32) } else { q with left := some k })
      else q) })
/-- The conditions of a port start its job with no trigger before it; one of the drain, after S, belongs to the job (R286, R290). -/
def State.trigFresh (s : State) (p : Nat) : State :=
  s.modTrig (fun t => { t with conds := t.conds.zipIdx.map (fun x =>
    if s.act trigU Cond.HOME_PORT x.2 = p ∧ !x.1.lastSlot.any (fun t => decide (s.job.lastS ≤ t)) then { x.1 with lastSlot := none, dead := 0 } else x.1) })
/-- The fires of a port reach its queued pulses (R294). -/
def State.pulseFire (s : State) (p line t : Nat) : State :=
  s.modTrig (fun x => { x with pulses := x.pulses.map (fun q =>
    if q.port = p ∧ q.startAt.isNone ∧ q.left.isNone ∧ q.line ≤ line then { q with startAt := some (t + 32) } else q) })
/-- Pulses whose start has come begin (A_OUT_PULSE_START). -/
def State.pulseStart (s : State) : State :=
  let due := s.trig.pulses.filter (fun q => match q.startAt with | some t => t ≤ s.now | none => false)
  due.foldl (fun (s : State) q => s.modTrig (fun t =>
    let end_ := q.startAt.getD 0 + q.width
    let old := (t.active.filter (fun a => a.1 == q.gpio)).map (·.2.1)
    { t with
      pulses := t.pulses.erase q
      active := t.active.filter (fun a => a.1 != q.gpio) ++ [(q.gpio, old.foldl max end_, q.low)] })) s
/-- Pulses end (A_OUT_PULSE_END). -/
def State.pulseEnd (s : State) : State := s.modTrig (fun t => { t with active := t.active.filter (fun a => s.now < a.2.1) })

/-! ### Slots (R278 to R283, R287, R292 to R295) -/

/-- A FIRE goes out, or is suppressed (R283). Every member, this one included, raises ROPE_FIRE at T. -/
def State.fireSend (s : State) (t : Nat) : State :=
  let soon : Bool := match s.trig.lastFire with | some f => s.now < f + 3200 | none => false
  if soon then s.bump trigU Trig.FIRE_SUPPRESSED else
  let m : RMsg := { typ := 2, up := false, src := s.node, dst := allNodes, pay := [lo32 t, hi32 t] }
  let s := (s.modTrig (fun x => { x with lastFire := some s.now })).ropeFlood m 5 true true
  s.signal { sig := 57, port := 0, t := t, line := 0, frac := 0, pix := none, cls := 0, node := s.node }
/-- A condition is re-armed. -/
def State.rearmed (s : State) (c : Nat) : Bool :=
  let x := s.cond c
  (match x.rearmAt with | some t => t ≤ s.now | none => true) && (s.act trigU Cond.HOLD_MODE c != 2 || x.holdCount == 0)
/-- Show a condition. -/
def State.condRegs (s : State) (c : Nat) : State :=
  (s.set trigU Cond.MISSED_PENDING (min (s.cond c).missed 0xFFFF) c).set trigU Cond.REARMED (b2n (s.rearmed c)) c
/-- The dead time measured after a trigger is an unspecified value within the bounds of R306. -/
def State.deadDraw (s : State) (evid : Bool) : State × Nat := ({ s with draw := s.draw + 1 }, Config.freeNat s.draw % (if evid then 1601 else 33))
/-- Condition c triggers at a slot: counters, dead time, hold-off (R292, R293). -/
def State.condTrigger (s : State) (c t : Nat) : State :=
  let d := s.deadDraw (s.act trigU Cond.A_EVID c == 1)
  let s := d.1.bump trigU Cond.TRIGGERS 1 c
  let hold := s.act trigU Cond.HOLD c
  let mode := s.act trigU Cond.HOLD_MODE c
  let native := s.now + d.2
  (s.modCond c (fun x => { x with
    rearmAt := some (if mode = 1 then max native (s.now + hold) else native), holdCount := if mode = 2 then hold else 0, dead := d.2
    lastSlot := some (s.tickOf t) })).set trigU Cond.LAST_DEAD d.2 c
/-- A trigger that a condition misses (R278, R293). -/
def State.condMiss (s : State) (c : Nat) : State :=
  (s.modCond c (fun x => { x with missed := x.missed + 1, holdCount := x.holdCount - 1 })).bump trigU Cond.DISCARDS 1 c
/-- What the conditions of one home port that triggered in a slot leave: the cairn's words as far as they are known, with the event that is its cause. -/
structure Fired where
  w : Waiting
  cause : Option SigEv
  deriving DecidableEq, Repr
/-- Gather the trigger of port p in slot n from its conditions. INTERVAL and DEAD count ticks of the device, not Rope time (R467). -/
def State.gather (s : State) (n p levels : Nat) (cs : List Nat) (evs : List SigEv) : Fired :=
  let prim := cs.headD 0
  let es := s.condEvents prim evs
  let low := (es.map (·.sig)).min?
  let cause := low.bind (fun k => es.find? (fun e => e.sig == k))
  let mask := s.maskOf prim
  let lvT := ((s.trig.levelT.filter (fun x => x.2 / 8 ≤ n && tbit mask x.1)).map (·.2)).min?
  let image : Bool := match cause with | some e => e.sig != 56 && e.sig != 57 && e.sig != 63 | none => false
  let t := match cause with
    | some e => if image then n * 8 else e.t
    | none => lvT.getD (n * 8)
  let x := s.cond prim
  let w := s.sigWord prim levels evs
  let remote : Bool := match cause with | some e => e.sig == 57 && e.node != s.node | none => false
  let on := fun (f : Field) => cs.filter (fun c => s.act trigU f c == 1)
  { cause := cause, w := { conds := cs.foldl (fun a c => a + 2 ^ c) 0, prim := prim, port := p, t := s.tickOf t, ropeT := t, hold := s.act trigU Cond.HOLD_MODE prim != 0, remote := remote, node := if remote then (cause.map (·.node)).getD 0 else s.node, interval := match x.lastSlot with | some l => sat32 (s.tickOf t - l) | none => 0xFFFFFFFF, dead := if x.lastSlot.isSome then x.dead else 0, missed := (cs.map (fun c => (s.cond c).missed)).foldl (· + ·) 0, sigLo := w % 2 ^ 32, sigHi := w / 2 ^ 32 % 2 ^ 32, evid := on Cond.A_EVID, outs := on Cond.A_OUT, indicate := on Cond.A_INDICATE } }
/-- A trigger with a home port that runs no job (R287). -/
def State.trigNoJob (s : State) (w : Waiting) : State :=
  let s := s.bump trigU Trig.NO_JOB
  if s.trig.noJobRun then s else (s.modTrig (fun t => { t with noJobRun := true })).raise Ev.TRIG_NO_JOB trigU (w.prim + w.port * 2 ^ 5)
/-- Triggers that waited for a job their home port does not run after all (R286, R287). -/
def State.trigOrphans (s : State) : State :=
  s.trig.waiting.foldl (fun (s : State) w =>
    if s.trigHome w.port then s else (s.modTrig (fun t => { t with waiting := t.waiting.erase w })).trigNoJob w) s
/-- The counts that a cairn reports are over (R291). -/
def State.condReported (s : State) (cs : List Nat) : State :=
  cs.foldl (fun (s : State) c => (s.modCond c (fun x => { x with missed := 0 })).condRegs c) s
/-- Place a trigger, or let it wait for its fire (R285, R286). -/
def State.trigSet (s : State) (f : Fired) : State :=
  match f.cause with
  | some e =>
    if e.sig = 56 ∨ e.sig = 57 ∨ e.sig = 63 then (s.modTrig (fun t => { t with waiting := t.waiting ++ [f.w] })).trigPlace f.w.port
    else if e.sig = 59 ∨ e.sig = 60 ∨ e.sig = 61 ∨ e.sig = 62 ∨ e.sig = 58 then s.cairn f.w e.line 0 false none 0
    else s.cairn f.w e.line e.frac false e.pix e.node
  | none => (s.modTrig (fun t => { t with waiting := t.waiting ++ [f.w] })).trigPlace f.w.port
/-- Latch FREEZE_CAUSE (R295): the position of a time-domain trigger is known when its T lies between kept fires. -/
def State.freezeCause (s : State) (f : Fired) : State :=
  let onGrid : Option Nat := if !s.trigHome f.w.port then none else
    match placeWait (s.lc f.w.port).fires f.w.t with
    | some (l, _, false) => some l
    | _ => none
  let placed : Option Nat := match f.cause with
    | some e => if e.sig = 56 ∨ e.sig = 57 ∨ e.sig = 63 then onGrid else some e.line
    | none => onGrid
  let u := trigU
  let s := ((s.set u Trig.FC_CONDITIONS f.w.conds).set u Trig.FC_TIME_LO (lo32 f.w.ropeT)).set u Trig.FC_TIME_HI (hi32 f.w.ropeT)
  let s := ((s.set u Trig.FC_PORT f.w.port).set u Trig.FC_PLACED (b2n placed.isSome)).set u Trig.FC_LINE (lo32 (placed.getD 0))
  s.modTrig (fun t => { t with froze := some f.w.prim })
/-- A trigger of the next job carries no count of the ended one, and, where it is the first since S, no interval (R286, R290, R291). -/
def Waiting.nextJob (w : Waiting) (first : Bool) : Waiting :=
  if first then { w with missed := 0, interval := 0xFFFFFFFF, dead := 0 } else { w with missed := 0 }
/-- Carry out the trigger of one home port. Answers whether the device freezes. -/
def State.trigPort (s : State) (n p levels : Nat) (cs : List Nat) (evs : List SigEv) : State × Bool :=
  let f := s.gather n p levels cs evs
  let first : Bool := !(s.cond f.w.prim).lastSlot.any (fun t => decide (s.job.lastS ≤ t))
  let s := cs.foldl (fun (s : State) c => s.condTrigger c (s.gather n p levels [c] evs).w.ropeT) s
  let s := if cs.any (fun c => s.act trigU Cond.A_FIRE_ROPE c == 1) then s.fireSend f.w.ropeT else s
  let s := (s.portsOn.filter (fun q => s.repSrc q == 1 && cs.contains (s.act (lcU q) Lc.MARK_COND))).foldl (fun (s : State) q =>
    match f.cause with
    | some e => if 40 ≤ e.sig ∧ e.sig < 48 then s.modTrig (fun t => { t with reports := t.reports ++ [(q, e.line * 256 + e.frac)] }) else s
    | none => s) s
  let timed : Bool := match f.cause with | some e => e.sig == 56 || e.sig == 57 || e.sig == 63 | none => true
  let freeze := s.reg trigU Trig.FREEZE_ALLOW == 1 && cs.any (fun c => s.act trigU Cond.A_FREEZE c == 1)
  let next := timed && s.trigNext f.w.t
  let idle := if next then !(s.job.starts && s.job.scope.contains (portU p) && !s.job.noStart.contains p && !s.fenced (portU p)) else !s.trigHome p
  let s := if idle then s.trigNoJob f.w else s
  if freeze then (s.freezeCause f, true)
  else if idle then (s, false)
  else if next then (s.modTrig (fun t => { t with waiting := t.waiting ++ [f.w.nextJob first] }), false)
  else ((s.trigSet f).condReported cs, false)
/-- Slot n, of 8 ticks: evaluate every condition and carry out the triggers. Answers whether the device freezes. A slot before that of arming finds the engine not armed (R281). -/
def State.trigSlotAt (s : State) (n : Nat) : State × Bool :=
  if s.trig.lastSlotDone = some n || s.frozen || s.fenced trigU || !s.powered trigU then (s, false) else
  let s := s.lampSignals
  let levels := s.levelsAt n
  let armed : Bool := s.trig.armed && (match s.trig.armSlot with | some a => decide (a ≤ n) | none => true)
  let evs := s.trig.events.filter (fun e => e.t / 8 ≤ n)
  let s := s.modTrig (fun t => { t with events := t.events.filter (fun e => n < e.t / 8), lastSlotDone := some n })
  let m := (List.range 32).map (fun c => s.condMatch c (s.sigWord c levels evs))
  let wouldT := (List.range 32).filter (fun c =>
    let was := if s.trig.armSlot = some n then m.getD c false else (s.cond c).matched
    armed && s.act trigU Cond.EN c == 1 && m.getD c false && (!was || s.condEvents c evs != []))
  let missed := wouldT.filter (fun c => !s.rearmed c)
  let go := wouldT.filter (fun c => s.rearmed c)
  let s := missed.foldl (fun (s : State) c => s.condMiss c) s
  let r := (List.range 8).foldl (fun (a : State × Bool) p =>
    let cs := go.filter (fun c => s.act trigU Cond.HOME_PORT c == p)
    if cs = [] then a else
    let x := a.1.trigPort n p levels cs evs
    (x.1, a.2 || x.2)) (s, false)
  let s := r.1.modTrig (fun t => { t with
    levelT := t.levelT.filter (fun x => n < x.2 / 8), conds := t.conds.zipIdx.map (fun x => { x.1 with matched := m.getD x.2 false }) })
  ((List.range 32).foldl (fun (s : State) c => s.condRegs c) s, r.2)
/-- TRIGGER_SLOT: the slot that can be evaluated now. -/
def State.trigSlot (s : State) : State × Bool := s.trigSlotAt s.slotDue
/-- Step 5 of R51: events of image-domain signals of an ending port, such as the defects of step 3, meet their conditions before JOB_END is written. A trigger that freezes the device is left to its slot. -/
def State.trigDrain (s : State) (p : Nat) : State :=
  if !s.trig.events.any (fun e => e.port == p && e.sig != 56 && e.sig != 57 && e.sig != 63) then s else
  let done := s.trig.lastSlotDone
  let r := (s.modTrig (fun t => { t with lastSlotDone := none })).trigSlotAt (s.rope / 8)
  if r.2 then s else r.1.modTrig (fun t => { t with lastSlotDone := done })
/-- A time hold-off ends (HOLD_EXPIRY): the condition shows as re-armed. -/
def State.holdExpiry (s : State) (c : Nat) : State := s.condRegs c
/-- The oldest report to a port's line clock is delivered (MARK_REPORT, R191). -/
def State.markReport (s : State) (p : Nat) : State :=
  match s.trig.reports.find? (fun r => r.1 == p) with
  | none => s
  | some r => (s.modTrig (fun t => { t with reports := t.reports.erase r })).lcMark p r.2

/-! ### GPIO (R277) -/

/-- GPIO input k has stood at a level for g ticks. Less than GPIO_FILTER ticks is a pulse so far, and is ignored; an edge has the tick of its crossing (R171, R277). -/
def State.gpioEdge (s : State) (k : Nat) (level : Bool) (g : Nat) : State :=
  if g < s.reg trigU Trig.GPIO_FILTER || tbit s.trig.gpio k == level then s else
  let te := s.now - g
  let s := s.modTrig (fun t => { t with gpio := setBit t.gpio k level, levelT := t.levelT ++ [(k, s.ropeAt te)] })
  let s := s.set trigU Trig.GPIO_IN s.trig.gpio
  let active := level != (s.act trigU Trig.SPLICE_FALL == 1)
  let s := if s.act trigU Trig.SPLICE_GPIO = k then s.modTrig (fun t => { t with spliceT := if active then some te else none }) else s
  s.portsOn.foldl (fun (s : State) p =>
    if s.repSrc p == 2 && s.act (lcU p) Lc.INPUT_GPIO == k && (level != (s.act (lcU p) Lc.INPUT_FALL == 1)) then s.lcInput p te else s) s
/-- The splice input has held its new level (SPLICE). -/
def State.splice (s : State) : State :=
  match s.trig.spliceT with
  | none => s
  | some t =>
    if s.now < t + s.act trigU Trig.SPLICE_MIN * 16 then s else
    (s.modTrig (fun x => { x with spliceT := none })).signal { sig := 56, port := 0, t := s.ropeAt t, line := 0, frac := 0, pix := none, cls := 0, node := 0 }
/-- SOFT_FIRE is written (R283). -/
def State.softFire (s : State) : State :=
  s.signal { sig := 63, port := 0, t := s.rope, line := 0, frac := 0, pix := none, cls := 0, node := 0 }

/-! ### Abort and reset (R302) -/

/-- ABORT of the engine. -/
def State.trigAbort (s : State) : State :=
  let s := s.trig.waiting.foldl (fun (s : State) w => s.trigLast w) s
  let s := (List.range 8).foldl (fun (s : State) p => s.windowsEnd p 0x20) s
  let s := s.modTrig (fun t => { t with armed := false, armAt := none, pulses := [], reports := [] })
  s.trigState false
/-- After a THAW, the trigger that froze the device is told (R295). -/
def State.trigFroze (s : State) : State :=
  match s.trig.froze with
  | none => s
  | some c => (s.modTrig (fun t => { t with froze := none })).raise Ev.TRIG_FROZE trigU c

end Sys2Proof.Machine
end

