-- ==== Sys2Proof/Machine/Recipe.lean ====
section
/-! DEFINITION. Recipes (R430 to R437): their format and signature, the sets they would bring into force, feasibility, and the slots of the store; the checks that
every COMMIT makes on a set (R436, R561). -/
namespace Sys2Proof.Machine
open R

/-! ### The checks of a unit's set (R436, R561) -/

/-- The checks that the chapter of a unit makes on its set in a map. -/
def unitCheck (s : State) (m : RegMap) (u : Nat) : Refuse :=
  let c := uClass u
  let i := uInst u
  let k := uSub u
  if c = 1 then
    (if k = 0 then firstOf [portChecks s m i, ringChecks s m i]
     else if k = 0x10 ∨ k = 0x11 ∨ k = 0x12 then portChecks s m i
     else if k = 0x20 then pipeChecks s m i else none)
  else if c = 2 then (if k = 0 ∧ i < 2 then clusterChecks s m i else none)
  else if c = 3 then trigChecks s m
  else if c = 4 then (if k = 0 then none else dmaChecks s m (i * 16 + (k - 1)))
  else if c = 6 then axisChecks s m i
  else if c = 7 then (if u = chainU then chainChecks s m else lampChecks s m i)
  else if c = 8 then (if u = encU then none else lcChecks s m i)
  else none
/-- A refusal of a unit's check carries the UID of that unit as a further result word. -/
def namedCheck (s : State) (m : RegMap) (u : Nat) : Refuse := (unitCheck s m u).map (fun r => (r.1, r.2 ++ [u]))
/-- The terms of R342 of a port in a map. -/
def ringTerms (s : State) (m : RegMap) (p : Nat) : List Nat :=
  [keepLines s m p, strideOf s m p, chunkOf s m p, vw s m (portU p) Ring.BLOCK_LINES, vw s m (portU p) Ring.RING_SIZE]
/-- A set that changes a term of R342 of a port is refused when its demands do not fit. The UID named is that of the port, whose check it is (R436). -/
def ringAgain (s : State) (old new : RegMap) : Refuse :=
  firstOf (s.portsOn.map (fun p =>
    if ringTerms s old p != ringTerms s new p then (ringFits s new p).map (fun r => (r.1, r.2 ++ [portU p])) else none))
/-- What the set of a port or of its pipeline changes for the clusters that serve it and for the evidence pool (R239, R344), and that of a
port or line clock for its lamp groups (R414). These are checks of other units, so they come after those of every
member, and where none of those units is one the UID named is that of the port or pipeline. -/
def servedAgain (s : State) (m : RegMap) (u : Nat) : Refuse :=
  let r := if uClass u = 8 ∧ u ≠ encU then portLampFit s m (uInst u)
    else if uClass u ≠ 1 then none else if uSub u = 0 then firstOf [servedChecks s m (uInst u), portLampFit s m (uInst u)] else if uSub u = 0x20 then poolFits s m else none
  r.map (fun x => (x.1, x.2 ++ [u]))
/-- Every check of a set of units, with the sets as they would be active together. -/
def setChecks (s : State) (old new : RegMap) (us : List Nat) : Refuse :=
  firstOf (us.map (namedCheck s new) ++ [ringAgain s old new] ++ us.map (servedAgain s new))

/-! ### The host link (R62, R63, R437) -/

/-- The budget of R63 in B/s. A link between the widths listed counts as the next width below. R63 lists none below x4 or below 8 GT/s, where the link is DEGRADED (R62): the budget there is 0, so
that no web-mode port fits it (DESIGN CHOICE, log entry 72). -/
def State.linkBudget (s : State) : Nat :=
  let r := s.reg bar0 Tim.RATE
  let w := s.reg bar0 Tim.WIDTH
  let base := if r = 5 then 30000 else if r = 4 then 15000 else if r = 3 then 7500 else 0
  let mb := if 16 ≤ w then base else if 8 ≤ w then base / 2 else if 4 ≤ w then (if r = 3 then 1870 else base / 4) else 0
  mb * 1000000
/-- R437 for the job ports of a set. -/
def linkFits (s : State) (m : RegMap) (ps : List Nat) : Refuse :=
  let one := fun p =>
    let l := max 1 (vw s m (portU p) Port.LINE_PERIOD_MIN)
    (strideOf s m p * 1600000000 + l - 1) / l
  let demand := ((ps.filter (fun p => vw s m (portU p) Port.MODE == 0)).map one).foldl (· + ·) 0
  need (demand * 16 ≤ s.linkBudget * 15) St.LINK_BUDGET [cdiv demand 1000000]

/-! ### The image of a recipe (R433, R434) -/

/-- An entry of a section: unit, context, page offset, value, and its byte offset in the image. -/
structure RecEnt where
  uid : Nat
  ctx : Nat
  off : Nat
  val : Nat
  at_ : Nat
  deriving DecidableEq, Repr
/-- A recipe as read. -/
structure Rec where
  level : Nat
  length : Nat
  ports : Nat
  lead : Nat
  groups : Nat
  axes : Nat
  refTag : Nat
  sigOff : Nat
  shading : List Nat
  ents : List RecEnt
  deriving DecidableEq, Repr
/-- Word at an offset of an image. -/
def recWord (m : Mem) (a o : Nat) : Nat := Machine.Mem.rd32 m (a + o)
/-- The first byte of a range of an image that is not 0. -/
def firstNonZero (m : Mem) (a from_ : Nat) : Nat → Option Nat
  | 0 => none
  | n + 1 => if (Machine.Mem.get m (a + from_)).toNat = 0 then firstNonZero m a (from_ + 1) n else some from_
/-- Job ports as a list. -/
def maskList (n : Nat) : List Nat := (List.range 8).filter (tbit n)
/-- The scope before the sections name their DMA channels (R435). -/
def baseScope (ports groups axes : Nat) : List Nat :=
  (maskList ports).flatMap (fun p => instUnits 1 p ++ [lcU p]) ++ instUnits 2 0 ++ instUnits 2 1 ++ [trigU, chainU] ++
  (maskList groups).flatMap (instUnits 7) ++ (maskList axes).map axU
def isChannel (u : Nat) : Bool := uClass u == 4 && uidOk u && uInst u < 4 && uSub u != 0
/-- The scope of a recipe (R435). -/
def Rec.scope (r : Rec) : List Nat :=
  baseScope r.ports r.groups r.axes ++ ((r.ents.map (·.uid)).filter isChannel).eraseDups
/-- The fields of the word that an entry names. -/
def RecEnt.fields (e : RecEnt) : List (Field × Nat) :=
  if uClass e.uid = 2 ∧ uSub e.uid = 0 ∧ 0x400 ≤ e.off ∧ e.off < 0x800 then wordFields tabCtx e.off else wordFields (pageOf e.uid) e.off
/-- Byte offset of the first fault of an entry: first word `w0`, the entries before it. A word without a field is no word that an entry may name. -/
def entFault (before : List RecEnt) (e : RecEnt) (w0 : Nat) : Option Nat :=
  let inCtx := uClass e.uid = 2 ∧ uSub e.uid = 0 ∧ 0x400 ≤ e.off ∧ e.off < 0x800
  let fs := e.fields
  if w0 / 2 ^ 15 ≠ 0 ∨ e.off % 4 ≠ 0 ∨ (e.ctx ≠ 0 ∧ ¬ inCtx) ∨ fs = [] ∨ fs.any (fun f => f.1.acc != .sh) ∨
    before.any (fun x => x.uid == e.uid && x.ctx == e.ctx && x.off == e.off) then some e.at_
  else if e.val &&& fieldMask fs ≠ e.val then some (e.at_ + 4) else none
/-- Read the entries of a section: the offset of the first fault, or the entries so far. -/
def readEnts (m : Mem) (a uid : Nat) : Nat → Nat → List RecEnt → Nat ⊕ List RecEnt
  | 0, _, acc => .inr acc
  | n + 1, o, acc =>
    let w0 := recWord m a o
    let e : RecEnt := { uid := uid, ctx := bits w0 14 12, off := w0 % 4096, val := recWord m a (o + 4), at_ := o }
    match entFault acc e w0 with
    | some x => .inl x
    | none => readEnts m a uid n (o + 8) (acc ++ [e])
/-- Read the sections up to `lim`: the offset of the first fault, or the end of the last section and the entries. -/
def readSections (m : Mem) (a lim : Nat) (scope : List Nat) : Nat → Nat → List RecEnt → Nat ⊕ (Nat × List RecEnt)
  | 0, o, acc => .inr (o, acc)
  | n + 1, o, acc =>
    let w := recWord m a o
    let uid := w / 65536
    let cnt := w % 65536
    if lim < o + 4 ∨ cnt = 0 ∨ lim < o + 4 + 8 * cnt ∨ ¬ (scope.contains uid || isChannel uid) then .inl o
    else match readEnts m a uid cnt (o + 4) acc with
      | .inl x => .inl x
      | .inr acc => readSections m a lim scope n (o + 4 + 8 * cnt) acc
/-- The image at an address, of a stated length: the byte offset of its first fault, or the recipe (R433, R434). -/
def readRecipe (m : Mem) (a len : Nat) : Nat ⊕ Rec :=
  let w := recWord m a
  let ports := w 8 % 256
  let lead := bits (w 8) 10 8
  let sig := w 0x18 % 65536
  let zero := fun o n => (firstNonZero m a o n).map (fun x => x / 4 * 4)
  let lim := if sig = 0 then len else sig * 64
  if w 0 % 65536 ≠ 1 ∨ bits (w 0) 23 16 = 0 ∨ w 0 / 2 ^ 24 ≠ 0 then .inl 0
  else if w 4 ≠ len ∨ len % 64 ≠ 0 ∨ len < 256 ∨ 65536 < len then .inl 4
  else if ports = 0 ∨ !tbit ports lead ∨ bits (w 8) 15 11 ≠ 0 then .inl 8
  else if w 0xC % 65536 = 0 ∨ w 0xC / 65536 ≠ 0 then .inl 0xC
  else if w 0x18 / 65536 ≠ 0 ∨ (sig ≠ 0 ∧ (sig < 4 ∨ len < sig * 64)) then .inl 0x18
  else match zero 0x1C 4, zero 0x28 0x18, zero 0x80 0x80 with
  | some x, _, _ => .inl x
  | none, some x, _ => .inl x
  | none, none, some x => .inl x
  | none, none, none =>
    let groups := bits (w 8) 23 16
    let axes := w 8 / 2 ^ 24
    match readSections m a lim (baseScope ports groups axes) (w 0xC) 0x100 [] with
    | .inl x => .inl x
    | .inr (o, ents) =>
      match firstNonZero m a o (lim - o) with
      | some x => .inl x
      | none => .inr { level := bits (w 0) 23 16, length := len, ports := ports, lead := lead, groups := groups, axes := axes, refTag := w 0x14,
                       sigOff := sig, shading := Machine.Mem.read m (a + 0x20) 8, ents := ents }

/-! ### Signature, level and part (R3, R58, R432, R512) -/

/-- The digest of R432. -/
def recDigest (m : Mem) (a : Nat) (r : Rec) : List Nat := sha512 (Machine.Mem.read m a (if r.sigOff = 0 then r.length else r.sigOff * 64))
/-- R512: the signature block verifies. -/
def State.sigOk (s : State) (m : Mem) (a : Nat) (r : Rec) : Bool :=
  let o := r.sigOff * 64
  let blk := Machine.Mem.read m (a + o) 192
  let key := s.sec.keys.getD (nth blk 2) []
  r.length == o + 192 && ofLe (blk.take 2) == 1 && nth blk 2 < 4 && ((blk.drop 3).take 5).all (· == 0) && (blk.drop 0x8C).all (· == 0) &&
  key != [] && ecdsaOk key (recDigest m a r) ((blk.drop 8).take 132)
def recSignature (s : State) (m : Mem) (a : Nat) (r : Rec) : Refuse :=
  if r.sigOff = 0 then need (!tbit (s.reg secU Sec.POLICY) 0) St.LOCKED []
  else need (s.sigOk m a r) St.SIGNATURE []
/-- An entry asks for a port that the NV8140 lacks, or for an exposure apart from the line period (R3). R3 does not list the fields that bind a port; here they are those
of an enabled lane, an enabled chain port, a bound lamp group, a channel that drains a ring, an enabled condition's HOME_PORT and an enabled mark detector, and every
entry of a cluster context of ports 4 to 7, even where no lane is bound (DESIGN CHOICE, log entry 72). -/
def RecEnt.absent (e : RecEnt) : Bool :=
  let c := uClass e.uid
  let k := uSub e.uid
  (c == 1 && k == 0 && e.off == 0 && tbit e.val 12) || (c == 2 && k == 0 && decide (e.off < 0x20) && tbit e.val 3 && tbit e.val 2) ||
  (c == 2 && k == 0 && decide (0x400 ≤ e.off) && decide (4 ≤ e.ctx)) ||
  (e.uid == chainU && e.off == 0 && tbit e.val 22 && tbit e.val 21) ||
  (c == 3 && decide (0x400 ≤ e.off) && e.off % 64 == 0x10 && tbit e.val 0 && tbit e.val 3) ||
  (c == 3 && decide (0x140 ≤ e.off) && decide (e.off < 0x180) && e.off % 16 == 0 && tbit e.val 31) ||
  (c == 4 && e.off == 0 && e.val % 4 == 1 && decide (4 ≤ bits e.val 4 2)) || (c == 7 && k == 0 && e.uid != chainU && e.off == 0 && tbit e.val 3 && tbit e.val 2)
/-- The refusal for the part (R3). The first offending field is named by its byte offset in the image: 8 for PORTS, otherwise that of its entry; R3 and R103 give word 3 as the
"offending field" and no form of it (DESIGN CHOICE, log entry 72). -/
def recPart (s : State) (r : Rec) : Refuse :=
  if s.part.part != 0x8140 then none
  else if 16 ≤ r.ports then some (St.UNSUPPORTED, [8])
  else (r.ents.find? RecEnt.absent).map (fun e => (St.UNSUPPORTED, [e.at_]))

/-! ### Feasibility (R435 to R437, R486) -/

/-- Put an entry into a map. -/
def RecEnt.put (s : State) (m : RegMap) (e : RecEnt) : RegMap :=
  e.fields.foldl (fun m f =>
    if s.part.part == 0x8140 && f.1.name == "SHUTTER" then m else putVal s.part m e.uid e.ctx f.1 f.2 (fieldOf f.1 f.2 e.val)) m
/-- The snapshots of a recipe: every unit of the scope at its reset values, then the entries. -/
def Rec.snaps (s : State) (r : Rec) : List (Nat × RegMap) :=
  let m := r.ents.foldl (RecEnt.put s) []
  r.scope.map (fun u => (u, RegMap.ofUid m u))
/-- A table-mode job port names an axis of the recipe (R5, R436). Word 3 names the offending field by the page offset of the word that holds AXIS_SEL, a form that no rule gives
(DESIGN CHOICE, log entry 72); the UID of the line clock, which R436 adds, follows. -/
def tableAxis (s : State) (m : RegMap) (r : Rec) : Refuse :=
  ((maskList r.ports).find? (fun p => vw s m (portU p) Port.MODE == 1 && !tbit r.axes (vw s m (lcU p) Lc.AXIS_SEL))).map (fun p => (St.UNSUPPORTED, [0x000, lcU p]))
/-- Check 5 of R432. -/
def recFeasible (s : State) (r : Rec) : Refuse :=
  let old := s.prospect []
  let m := s.prospect (r.snaps s)
  let ps := maskList r.ports
  let run := (s.portsRunning.filter (fun p => !ps.contains p))
  firstOf ([tableAxis s m r] ++ [setChecks s old m r.scope] ++ [linkFits s m ps,
    let d := memDemand s m (run ++ ps)
    need (d ≤ s.memBudget) St.MEM_BUDGET [d]])
/-- The checks of R432 in order, on the image at an address. -/
def State.recChecks (s : State) (a len : Nat) : (Nat × List Nat) ⊕ Rec :=
  match readRecipe s.dram a len with
  | .inl x => .inl (St.RECIPE_FORMAT, [x])
  | .inr r =>
    match firstOf [recSignature s s.dram a r, need (tbit (s.reg bar0 Id.BL_SUPPORTED) (r.level - 1)) St.LEVEL_UNSUPPORTED [r.level], recPart s r, recFeasible s r] with
    | some x => .inl x
    | none => .inr r

/-! ### The store (R430, R431, R573, R574) -/

/-- The record of a slot. -/
def State.slotRec (s : State) (n : Nat) : Option SlotRec := (s.slots.find? (fun p => p.1 == n)).map (·.2)
/-- Put or remove a record, slots rising. -/
def putSlot : List (Nat × SlotRec) → Nat → Option SlotRec → List (Nat × SlotRec)
  | [], n, some r => [(n, r)]
  | [], _, none => []
  | p :: l, n, r => if p.1 < n then p :: putSlot l n r
    else match r with
      | some x => if p.1 = n then (n, x) :: l else (n, x) :: p :: l
      | none => if p.1 = n then l else p :: l
def State.setSlot (s : State) (n : Nat) (r : Option SlotRec) : State := { s with slots := putSlot s.slots n r }
/-- An MRAM record is lost in both copies and is absent from now on (R488): a slot record leaves its slot EMPTY; of a unit, every field that MRAM keeps has its reset value, and
what goes with it (the calibration of a string, the meter of the reference, the retirement table). Code 0xFFFE is the device's own record; a boot record has no stated absence
(log entry 81). -/
def State.lostRecord (s : State) (n : Nat) : State :=
  if n < 1024 then s.setSlot n none
  else
    let u := if n = 0xFFFE then devU else n
    if !uidOk u || u = secU then s else
    let s := (pageOf u).foldl (fun (s : State) f => if f.mram then (List.range (max 1 f.count)).foldl (fun (s : State) i => s.set u f (resetOf s.part u f i) i) s else s) s
    if u = calU then { s with memS := { s.memS with trace := none } }
    else if u = memU then { s with memS := { s.memS with retired := [] } }
    else if uClass u != 7 then s
    else if uSub u = 0 then s.modLamp (uInst u) (fun l => { l with spareFor := none })
    else s.modStr (uInst u) (uSub u) (fun x => { x with senseOk := false, vrefOk := false, ofs := 0, gain := 0, ref := 0, goodMv := 0 })
/-- A copy of an MRAM record cannot be corrected: it is restored from the other, or both are lost (R488, R494). -/
def State.mramError (s : State) (row : Nat) (lost : Option Nat) : State :=
  (match lost with | some n => s.lostRecord n | none => s).raise Ev.MRAM_ERROR memU ((if lost.isSome then 2 else 1) + row % 2 ^ 24 * 256)
/-- An upset of the MRAM in service (R488, log entry 81), as an operand of TJ_UPDATE: 16 corrected errors, 17 a row that failed verification three times is replaced by a spare
row, 18 a copy restored, 19 a record lost (row, and record times 2^24), 20 the highest write count of a word, 21 a copy of the anti-rollback counter (copy, and 4 times its value;
65,536 and above: unreadable), 22 an audit entry; and, of the LPDDR5X (R479), 23 a reader that meets a corrected error at an address, 24 the unit at an address that can no
longer be corrected, which the next reader meets. -/
def State.mramUpset (s : State) (code v : Nat) : State :=
  if code = 16 then s.bump memU R.Mem.MRAM_CE v
  else if code = 17 then
    let used := s.reg memU R.Mem.MRAM_SPARE_USED
    if 492 ≤ used then s else (s.set memU R.Mem.MRAM_SPARE_USED (used + 1)).raise Ev.MRAM_ROW memU (used + 1)
  else if code = 18 then s.mramError v none
  else if code = 19 then s.mramError (v % 2 ^ 24) (some (v / 2 ^ 24))
  else if code = 21 then s.counterUpset (v % 4) (if v / 4 < 65536 then some (v / 4) else none)
  else if code = 22 then s.auditTorn v
  else if code = 23 then (if v < s.fitted then s.memCE v else s)
  else if code = 24 then (if s.eccOn && !s.memS.poison.contains (v / 64) then { s with memS := { s.memS with poison := v / 64 :: s.memS.poison } } else s)
  else if code = 20 then s.set memU R.Mem.MRAM_MAX_WRITES (max v (s.reg memU R.Mem.MRAM_MAX_WRITES))
  else s
def State.modSlot (s : State) (n : Nat) (f : SlotRec → SlotRec) : State := s.setSlot n ((s.slotRec n).map f)
def slotBaseR (n : Nat) : Nat := n * 65536
/-- The words of a slot record (R431). -/
def slotWords (r : Option SlotRec) : List Nat :=
  match r with
  | none => List.replicate 24 0
  | some x => [(if x.loaded then 1 else 2) + b2n x.restored * 4 + x.level * 2 ^ 8, x.length] ++
    (List.range 16).map (fun i => ofLe ((x.digest.drop (4 * i)).take 4)) ++ [x.uses, lo32 x.lastTime, hi32 x.lastTime, x.lastJobId, x.lastFw, x.loadFw]
/-- The active or the staged slot (R432). -/
def State.slotInUse (s : State) (n : Nat) : Bool :=
  (s.reg devU Job.ACTIVE_VALID == 1 && s.reg devU Job.ACTIVE_SLOT == n) ||
    (s.jobState != 0 && s.reg devU Job.STAGED_SLOT == n && (s.jobState != 4 || s.job.starts || s.job.scope != [] || s.stagingWork.isSome))
/-- RECIPE_LOAD. With CLEAR the audit entry carries the digest of the record erased, and zeros for a slot that was EMPTY (R515, log entry 72). The read of the image may meet an uncorrectable error at `env` (R479); the spec gives it no refusal here, and the image is taken as read. -/
def State.cmdRecipeLoad (s : State) (k : Pkt) (env : Option Nat) : Answer :=
  let a := k.p 1 * 2 ^ 32 + k.p 0
  let len := k.p 2
  let slot := k.p 3
  let clear := k.flag 8
  if 1024 ≤ slot then (s, St.BAD_PARAM, [3])
  else if !clear && a % 64 != 0 then s.misaligned none a
  else if !clear && len % 64 != 0 then s.misaligned none len
  else if s.slotInUse slot then (s, St.BUSY, [s.groupCode devU])
  else if clear then
    let dig := (s.slotRec slot).elim (List.replicate 64 0) (·.digest)
    ((s.setSlot slot none).audit 1 devU (leBytes 4 slot ++ dig), St.OK, [0, 0])
  else if !s.inDram a (min 65536 (max 256 len)) then (s, St.BAD_PARAM, [0])
  else
    let s := match s.readError a len env with | some e => s.memUE e | none => s
    match s.recChecks a len with
    | .inl r => s.refuse r
    | .inr r =>
      let dig := recDigest s.dram a r
      let keep : Bool := match s.slotRec slot with | some x => !x.loaded && x.digest == dig | none => false
      let s := ((s.dramWrite (slotBaseR slot) (Machine.Mem.read s.dram a len)).poisonCopy a (slotBaseR slot) len).moverTake len
      let fw := s.reg bar0 Id.FW_VERSION
      let s := if keep then s.modSlot slot (fun x => { x with loaded := true, restored := true })
        else s.setSlot slot (some { loaded := true, restored := false, level := r.level, length := len, digest := dig, uses := 0, lastTime := 0, lastJobId := 0, lastFw := 0, loadFw := fw })
      let s := s.audit 1 devU (leBytes 4 slot ++ dig)
      (s, St.OK, [1, b2n keep])
/-- RECIPE_INFO. -/
def State.cmdRecipeInfo (s : State) (k : Pkt) : Answer :=
  if 1024 ≤ k.p 0 then (s, St.BAD_PARAM, [0]) else (s, St.OK, slotWords (s.slotRec (k.p 0)))

end Sys2Proof.Machine
end

