-- ==== Sys2Proof/Machine/Job.lean ====
section
/-! DEFINITION. Jobs: the checks of a staged reference slot (R246), staging (R438 to R442), starting and ending (R443 to R448, R450, R451), and the job
boundary with its drain and the start of the next job (R51 to R55, R133, R445). -/
namespace Sys2Proof.Machine
open R

/-- The number of the next commit, from the device-wide counter (R42). -/
def State.commitNumber (s : State) : State × Nat :=
  ({ s with commitNext := if 0xFFFF ≤ s.commitNext then 1 else s.commitNext + 1 }, s.commitNext)

/-! ### The staged reference slot (R245, R246) -/

/-- Byte address of the staged slot. -/
def State.stagedRef (s : State) : Nat := s.slotAddr (1 - s.reg refU RefSt.ACTIVE)
/-- The first check of R246 that the image bound to a port fails, with the image index. -/
def imageCheck (s : State) (m : RegMap) (k p : Nat) : Option Nat :=
  let d := s.dram
  let base := s.stagedRef
  let i := vwC s m (clU k) p Ctx.IMAGE
  let im := imageAt d base i
  let img := 2 * im.w * im.planes * im.h
  let cls := (im.w * im.h + 1) / 2
  let size := s.slotMiB * 2 ^ 20
  let mode := vwC s m (clU k) p Ctx.TR_MODE
  let lim := im.w * 256
  let h0 := Machine.Mem.rd32 d base
  let bad := fun (n : Nat) => some (n * 2 ^ 24 + i)
  if h0 % 65536 ≠ 1 ∨ bits h0 20 16 ≤ i ∨ Machine.Mem.rd32 d (base + 0xFFC) ≠ crc32c (Machine.Mem.read d base 0xFFC) then bad 1
  else if im.w ≠ widthOf s m p ∨ im.planes ≠ planesOf s m p then bad 2
  else if im.len256 < 64 * 256 ∨ im.h < cdiv im.len256 256 + 1 then bad 3
  else if size < im.img + img ∨ size < im.cls + cls then bad 4
  else if lim ≤ im.posA ∨ (mode = 2 ∧ (lim ≤ im.posB ∨ im.posB < im.posA + 262144)) then bad 5
  else if im.crc ≠ crc32c (Machine.Mem.read d (base + im.img) img ++ Machine.Mem.read d (base + im.cls) cls) then bad 6
  else none
/-- What the check of a port's image rests on: port, cluster, image, width, planes and tracker mode (R246, R604). -/
def imageKey (s : State) (m : RegMap) (k p : Nat) : List Nat :=
  [p, k, vwC s m (clU k) p Ctx.IMAGE, widthOf s m p, planesOf s m p, vwC s m (clU k) p Ctx.TR_MODE]
/-- The image bindings of a set. -/
def imageKeys (s : State) (m : RegMap) : List (List Nat) := s.portsOn.filterMap (fun p => (clusterOf s m p).map (fun k => imageKey s m k p))
/-- Check the staged slot for every port that a set binds to an image (R246, R438 step 5): word 3 of ST_REF_IMAGE. -/
def refCheck (s : State) (m : RegMap) (tag : Nat) : Option Nat :=
  match s.portsOn.findSome? (fun p => (clusterOf s m p).bind (fun k => imageCheck s m k p)) with
  | some n => some n
  | none => if tag ≠ 0 ∧ Machine.Mem.rd32 s.dram (s.stagedRef + 4) ≠ tag then some (7 * 2 ^ 24) else none

/-! ### Staging (R438 to R442) -/

/-- The ports of a scope. -/
def State.scopePorts (s : State) (us : List Nat) : List Nat := s.portsOn.filter (fun p => us.contains (portU p))
/-- The ports of the staged job. -/
def State.stagedPorts (s : State) : List Nat := s.scopePorts s.job.scope
/-- A unit of the staged scope, which takes no COMMIT (R441). -/
def State.unitStaged (s : State) (u : Nat) : Bool :=
  s.commits.any (fun c => c.staged && c.uid == u) || ((s.jobState == 2 || s.jobState == 3) && s.job.scope.contains u)
/-- The units of a scope that have a set. -/
def withSets (us : List Nat) : List Nat := us.filter (fun u => (pageOf u).any (fun f => f.acc == .sh) || uClass u == 2)
/-- Digest of the image in a slot (R438 step 1). -/
def slotDigest (m : Mem) (a len : Nat) : List Nat :=
  let sig := recWord m a 0x18 % 65536
  sha512 (Machine.Mem.read m a (if sig = 0 then len else min len (sig * 64)))
/-- Staging ends without a staged job: its commits, shadows and staged banks are withdrawn, and its work ends. -/
def State.stageFail (s : State) (w : Work) (status : Nat) (data : List Nat) : State :=
  let s := s.stagedPorts.foldl (fun (s : State) p => s.set (pipeU p) Pipe.STAGED_OK 0) s
  let s := if s.job.scope = [] then s else s.set refU RefSt.STAGED_OK 0
  (s.stageWithdraw).workEnd w status data
/-- Step 3 of R438: the shadows of the scope, and the staged commit. -/
def State.stageCommit (s : State) (r : Rec) : State :=
  let snaps := (r.snaps s).filter (fun x => (withSets [x.1]) != [])
  let cn := s.commitNumber
  let n := cn.2
  let s := cn.1
  let sh := snaps.foldl (fun m x => RegMap.replace m x.1 x.2) s.shadow
  let cs := snaps.map (fun x => ({ uid := x.1, seq := n, kind := .job, snap := x.2, notify := false, staged := true, at_ := s.now } : Commit))
  let s := { s with
    shadow := sh, commits := s.commits ++ cs, openSets := s.openSets.filter (fun o => !r.scope.contains o.1),
    job := { s.job with scope := r.scope, newLead := r.lead } }
  s.set devU Job.STAGE_SEQ n
/-- An uncorrectable error that stands in a range or is found there now. -/
def State.stageRead (s : State) (a len : Nat) (ues : List Nat) : Option Nat :=
  match ues.find? (fun e => s.eccOn && decide (a ≤ e) && decide (e < a + len)) with
  | some e => some e
  | none => s.readError a len none
/-- Step 4 of R438: stage the shading set of each job port, or the status that ends staging. -/
def State.stageSets (s : State) (m : RegMap) (r : Rec) (ues : List Nat) : State × Option (Nat × List Nat) :=
  (maskList r.ports).foldl (fun (a : State × Option (Nat × List Nat)) p =>
    if a.2.isSome then a else
    let s := a.1
    let slot := nth r.shading p
    let len := setBytes (widthOf s m p) (planesOf s m p)
    match s.stageRead (slotBase slot) len ues with
    | some e => (s.memUE e, some (St.SHADING_SET, [4 * 2 ^ 24]))
    | none => match setCheck s m p slot with
      | some d => (s, some (St.SHADING_SET, [d]))
      | none => ((s.setStage m p slot).moverTake (8 * widthOf s m p * planesOf s m p), none)) (s, none)
/-- Reliefs of R158 that staging waits for. -/
def State.stageReliefs (s : State) : Bool :=
  s.stagedPorts.any (fun p => (match (s.port p).relief with | some r => r.staged | none => false) || (s.port p).queueCal.any (·.staged))
/-- The scope of the recipe in a LOADED slot, empty where it cannot be read (R440). -/
def State.slotScope (s : State) (slot : Nat) : List Nat :=
  match readRecipe s.dram (slotBaseR slot) ((s.slotRec slot).elim 0 (·.length)) with
  | .inr r => if (s.slotRec slot).elim false (·.loaded) then r.scope else []
  | .inl _ => []
/-- Refusals 2 to 4 of R440. -/
def State.stageRefuse (s : State) (slot : Nat) : Refuse :=
  let us := s.slotScope slot
  let full := fun u => decide (4 ≤ (s.commits.filter (fun c => c.uid == u)).length)
  firstOf [need (match s.slotRec slot with | some r => r.loaded | none => false) St.NO_RECIPE [slot],
    need (!us.any (fun u => s.openSets.any (fun o => o.1 == u) || full u)) St.BUSY [s.groupCode devU],
    (us.find? s.fenced).map (fun u => (St.FENCED, [u]))]
/-- Steps 1 to 5 of R438 for a slot, up to the reliefs of step 6. The checks of the recipe, its signature with them, are made anew (R513). A JOB_START with LOAD_NOW meets refusals 2 to 4 of R440 here (R444, R574). -/
def State.stageSteps (s : State) (w : Work) (slot : Nat) (ues : List Nat) : State :=
  match (if w.op = 0x64 then s.stageRefuse slot else none), s.slotRec slot with
  | some r, _ => s.stageFail w r.1 r.2
  | none, none => s.stageFail w St.NO_RECIPE [slot]
  | none, some x =>
    let a := slotBaseR slot
    let ue := s.stageRead a x.length ues
    let s := match ue with | some e => s.memUE e | none => s
    if ue.isSome || slotDigest s.dram a x.length != x.digest then
      (s.modSlot slot (fun y => { y with loaded := false })).stageFail w St.RECIPE_DIGEST [slot]
    else match s.recChecks a x.length with
      | .inl e => s.stageFail w e.1 e.2
      | .inr r =>
        let s := s.stageCommit r
        let m := s.prospect []
        let ps := maskList r.ports
        let q := s.stageSets m r ues
        let s := q.1
        match q.2 with
        | some e => s.stageFail w e.1 e.2
        | none =>
          match refCheck s m r.refTag with
          | some d => s.stageFail w St.REF_IMAGE [d]
          | none =>
            let s := { s.set refU RefSt.STAGED_OK 1 with job := { s.job with images := imageKeys s m } }
            let s := ps.foldl (fun (s : State) p => s.reliefStaged p m) s
            { s with works := s.works.map (fun v => if v = w then { v with step := 1 } else v) }

/-! ### Starting (R443, R444, R450) -/

/-- The present repeat number of the running job's lead port. -/
def State.leadRepeat (s : State) : Nat := s.reg (lcU s.job.lead) Lc.REPEAT_NUM
/-- Refusals of a start by the job ports and the link (R62, R443): the first fenced job port, or the degraded link. -/
def State.startRefuse (s : State) (ps : List Nat) : Refuse :=
  firstOf [(ps.find? (fun p => s.fenced (portU p))).map (fun p => (St.FENCED, [portU p])),
    need (s.reg bar0 Tim.DEGRADED == 0) St.LINK_DEGRADED [s.reg bar0 Tim.RATE + s.reg bar0 Tim.WIDTH * 16 + s.reg bar0 Tim.DEGRADED * 512]]
/-- JOB_STATE becomes START_PENDING; with no job running the boundary is now. `rc`: the Rope repeat of R450. -/
def State.startPend (s : State) (slot id : Nat) (rc : Option Nat) (remote : Bool) : State :=
  let run := s.reg devU Job.ACTIVE_VALID == 1
  let s := { s with job := { s.job with startTick := some s.now, startSlot := slot, startId := id, startRope := if run then rc else none, remote := remote, endOnly := false, noStart := [] } }
  let s := s.set devU Job.JOB_STATE 3
  let s := if run then s.set devU Job.DUE_REPEAT (rc.getD 0xFFFFFFFF) else s
  if run then s else { s with job := { s.job with at_ := some s.now } }
/-- The start of a staged job goes ahead: the leader's JOB message with ROPE, then START_PENDING. -/
def State.startGo (s : State) (slot p0 id : Nat) (rope : Bool) : State :=
  if !rope then s.startPend slot id none false else
  let rc := (s.leadRepeat + bits p0 23 16) % 2 ^ 32
  let m : RMsg := { typ := 4, up := false, src := s.node, dst := allNodes, pay := [rc, id] }
  let s := (s.modRope (fun r => { r with lastJob := some m })).ropeFlood m 5 false true
  s.startPend slot id (some rc) false
/-- Long work that starting a job would meet runs on a unit of its scope (R85): everything but calibrations, which wait for a job of their own accord (R159), moves and
work of the device itself. -/
def State.scopeBusy (s : State) (us : List Nat) : Bool :=
  s.works.any (fun w => w.uid != devU && w.op != 0x21 && w.op != 0x39 && (us.contains w.uid || us.any (fun u => (members w.uid).contains u) || (members w.uid).any (fun v => us.contains v) ||
    us.any (fun u => uSub u == 0 && uClass u == uClass w.uid && uInst u == uInst w.uid)))
/-- Staging of a LOAD_NOW has ended: the start proceeds as in R443 from here. -/
def State.startAfterLoad (s : State) (w : Work) : State :=
  let p0 := nth w.params 0
  if s.reg devU Job.END_PENDING = 1 ∨ s.jobState = 4 ∨ s.scopeBusy s.job.scope = true then s.workEnd w St.BUSY [s.groupCode devU]
  else match s.startRefuse s.stagedPorts with
    | some r => s.workEnd w r.1 r.2
    | none => s.startGo (p0 % 1024) p0 (nth w.params 1) (tbit w.flags 9)
/-- STAGING_DONE: the steps of staging, then, once the out-of-turn reliefs are over, JOB_STATE STAGED (R438). A JOB_END may take its boundary meanwhile: the drain keeps JOB_STATE until it is over. -/
def State.stagingDone (s : State) (ues : List Nat) : State :=
  match s.stagingWork with
  | none => s
  | some w =>
    let s := if w.step = 0 then s.stageSteps w (nth w.params 0 % 1024) ues else s
    match s.stagingWork with
    | none => s
    | some w =>
      if w.step != 1 || s.stageReliefs then s
      else
        let s := if s.jobState = 4 then s else s.set devU Job.JOB_STATE 2
        if w.op = 0x62 then s.workEnd w St.OK [s.reg devU Job.STAGE_SEQ]
        else
          let v := { w with step := 3 }
          ({ s with works := s.works.map (fun x => if x = w then v else x) } : State).startAfterLoad v

/-! ### The job commands (R440, R442 to R444, R447, R448, R573, R574) -/

/-- Staging begins. -/
def State.stageBegin (s : State) (k : Pkt) (slot : Nat) : State :=
  ((s.workStart k devU []).set devU Job.JOB_STATE 1).set devU Job.STAGED_SLOT slot
/-- PD23 is off (R531). -/
def State.noStageBank (s : State) : Bool := !tbit (s.reg devU Pd.PD_STAT) 23
/-- JOB_STAGE (R438). -/
def State.cmdJobStage (s : State) (k : Pkt) : Answer :=
  s.unless (firstOf [badParam (k.p 0 < 1024) 0, need (!s.noStageBank) St.POWER_OFF [23],
    need (s.jobState == 0) St.BUSY [s.groupCode devU], s.stageRefuse (k.p 0)]) (fun _ => (s.stageBegin k (k.p 0), St.OK, []))
/-- A staging in progress ends with a status (R442, R448, R574). -/
def State.stagingEnds (s : State) (status : Nat) (data : List Nat) : State :=
  match s.stagingWork with
  | some w => s.stageFail w status data
  | none => s
/-- JOB_UNSTAGE. -/
def State.cmdJobUnstage (s : State) (k : Pkt) : Answer :=
  let st := s.jobState
  if st = 3 ∨ st = 4 then (s, St.BUSY, [s.groupCode devU])
  else if st = 0 then (s, St.OK, [0xFFFFFFFF])
  else
    let slot := s.reg devU Job.STAGED_SLOT
    ((s.stagingEnds St.ABORTED [k.seq]).stageWithdraw, St.OK, [slot])
/-- JOB_START. With LOAD_NOW its job is that of the recipe in the slot named (R443, R444, R574). A unit of the job that stops for an ABORT refuses it (R105). -/
def State.cmdJobStart (s : State) (k : Pkt) : Answer :=
  let slot := k.p 0 % 1024
  let load := k.flag 8
  let rope := k.flag 9
  let st := s.jobState
  let margin := bits (k.p 0) 23 16
  let resv := bits (k.p 0) 15 10 + k.p 0 / 2 ^ 24
  let us := if load then s.slotScope slot else s.job.scope
  s.unless (firstOf [
    badParam (resv == 0 && (if rope then 1 ≤ margin else margin == 0)) 0,
    need (!rope || s.role == 1) St.NOT_LEADER [s.reg ropeU Rope.LEADER_NODE],
    need (!(load && s.noStageBank)) St.POWER_OFF [23],
    need (st != 1 && st != 3 && st != 4 && s.reg devU Job.END_PENDING == 0) St.BUSY [s.groupCode devU],
    need (load || (st == 2 && s.reg devU Job.STAGED_SLOT == slot)) St.NOT_STAGED [],
    s.startRefuse (s.scopePorts us),
    need (!s.scopeBusy us && !us.any s.aborting) St.BUSY [s.groupCode devU]]) (fun _ =>
    if load then ((if st = 2 then s.stageWithdraw else s).stageBegin k slot, St.OK, [])
    else ((s.workStart k devU []).startGo slot (k.p 0) (k.p 1) rope, St.OK, []))
/-- JOB_END. -/
def State.cmdJobEnd (s : State) (k : Pkt) : Answer :=
  if s.reg devU Job.ACTIVE_VALID = 0 then (s, St.BUSY, [0])
  else if s.reg devU Job.END_PENDING = 1 ∨ s.jobState = 4 then (s, St.BUSY, [s.groupCode devU])
  else
    let s := if s.jobState = 3 then (s.startEnds St.ABORTED).set devU Job.JOB_STATE 2 else s
    let s := s.workStart k devU []
    let s := { s with job := { s.job with endTick := some s.now, at_ := if k.flag 8 then some s.now else s.job.at_ } }
    (s.set devU Job.END_PENDING (if k.flag 8 then 0 else 1), St.OK, [])

/-! ### The boundary: drain (R51, R133, R445) -/

/-- The port whose repeat boundary ends the running job (R443): the lead, or the lowest running port that is not fenced. -/
def State.decider (s : State) : Option Nat :=
  let ok := fun p => (s.port p).jobOn && !s.fenced (portU p)
  if ok s.job.lead then some s.job.lead else s.portsOn.find? ok
/-- The closing fire of an ending port (R133). -/
def State.closingFire (s : State) (p sp : Nat) : State :=
  let x := s.port p
  match (x.fires.filter (fun f => !f.closing)).getLast? with
  | none => s
  | some f =>
    if x.fires.any (·.closing) then s else
    let t := max sp (f.tick + vw s f.set (portU p) Port.LINE_PERIOD_MIN)
    if s.now < t then s.modPort p (fun x => { x with closeAt := some t })
    else s.portFire p { line := f.line + 1, tick := t, set := f.set, closing := true }
/-- A closing fire that was still to come at S. -/
def State.closeFires (s : State) (p t : Nat) : State :=
  let s := s.modPort p (fun x => { x with closeAt := none })
  match ((s.port p).fires.filter (fun f => !f.closing)).getLast? with
  | none => s
  | some f => s.portFire p { line := f.line + 1, tick := t, set := f.set, closing := true }
/-- Something stands staged no longer (R445): cause 1 reference, 2 shading. -/
def State.stageMissing (s : State) : Option Nat :=
  if s.reg refU RefSt.STAGED_OK = 0 then some 1
  else if s.stagedPorts.any (fun p => s.reg (pipeU p) Pipe.STAGED_OK == 0) then some 2 else none
/-- The JOB_REPLY of a member (R468). -/
def State.jobReply (s : State) (status id : Nat) : State := s.ropeFlood (s.status 6 true allNodes [status, id]) 5 true false
/-- The sample point S of a job boundary (JOB_BOUNDARY). A start whose job is lost there is lost as in R442, and no boundary takes place (R445). -/
def State.jobBoundary (s : State) : State :=
  match s.job.at_ with
  | none => s
  | some sp =>
    if s.jobState = 4 then s else
    let starts := s.job.startTick.isSome && !s.job.endOnly
    match starts, s.stageMissing with
    | true, some cause => ({ s with job := { s.job with at_ := none } } : State).stageLost cause 0
    | _, _ =>
      let s := ((s.set devU Job.JOB_STATE 4).set devU Job.END_PENDING 0).set devU Job.DUE_REPEAT 0xFFFFFFFF
      let s := { s with job := { s.job with starts := starts, lastS := sp, endTick := none } }
      s.portsRunning.foldl (fun (s : State) p => if s.fenced (portU p) then s else s.closingFire p sp) s
/-- Every line of an ending port has passed the pipeline and Eyebright (R51 step 2). -/
def State.portDrained (s : State) (p : Nat) : Bool := (s.ring p).inFlight == [] && (s.eb p).queue == [] && (s.port p).closeAt.isNone
/-- JOB_END of a port that has been aborted, or waits to rejoin: its JOB_START still stands in the ring (R51, R312). -/
def State.portLastRec (s : State) (p : Nat) : State :=
  if !(s.ring p).jobOpen || s.fenced (portU p) then s else
  let s := ((s.lampGiveUp p (fun _ => true)).endBlock p).windowsEnd p 4
  let s := ((s.trigBoundary p s.job.lastS).trigJobEnd p).windowsEnd p 4
  (s.flushHeld p).jobEndRec p (s.ropeAt s.job.lastS)
/-- Steps 3 to 6 of R51 on one port; it stays IDLE. A fenced port only leaves the job. A relief through the spare that still runs is left waiting for a cycle start of a later job, and calibrations in
place wait behind it (R157; DESIGN CHOICE, log entry 86). -/
def State.portEnds (s : State) (p : Nat) : State :=
  let sp := s.job.lastS
  let x := s.port p
  let out := fun (s : State) =>
    let s := (s.modPort p (fun x => { x with jobOn := false, hold := false, rejoin := false })).portLeavesScan p
    [0, 1].foldl (fun (s : State) k => s.setC (clU k) p Ctx.HELD_STOP 0 0) s
  if s.fenced (portU p) then out s
  else if x.hold || x.rejoin || !x.started then out (((s.portLastRec p).portHalt p).setSt (portU p) .idle)
  else
    let s := s.modEb p (fun e => { e with reps := e.reps.map (fun r => { r with ended := true }) })
    let s := match clusterOf s s.active p with
      | some k => ((s.blobsTruncate p k).verdicts p k).setC (clU k) p Ctx.INSPECTING 0 0
      | none => s
    let s := (s.lampGiveUp p (fun _ => true)).gapStopped p (s.lc p).nextLine 0
    let s := (s.endBlock p).windowsEnd p 4
    let s := (((s.trigDrain p).trigBoundary p sp).trigJobEnd p).windowsEnd p 4
    let s := (s.flushHeld p).jobEndRec p (s.ropeAt sp)
    let s := (s.portHalt p).modEb p (fun e => { e with on := false })
    out (s.setSt (portU p) .idle)
/-- Units with pending commits take those of a job boundary at S (R46, R52): the staged ones whatever the window (R439). What an abort has left pending waits where the unit does not
run again with this boundary (R24): `runs` says that it does. -/
def State.jobForce (s : State) (runs : Bool) (u : Nat) : State :=
  if s.fenced u then s else
  let cs := (s.commits.filter (fun c => c.uid == u)).takeWhile (fun c => (runs || !(c.kept && s.atRest u)) && (c.staged || decide (c.at_ + 8 < s.job.lastS)))
  s.commitForce u cs 3 0 0 (s.ropeAt s.job.lastS % 2 ^ 32)
/-- What the ended job leaves on ports that were fenced before its end, and counts since the end of a port: they are told and dropped, and queued pulses go on at their lines (R291, R294). -/
def State.trigLeft (s : State) : State := (List.range 8).foldl (fun (s : State) p => s.trigJobEnd p) s
/-- JOB_STATE when a drain has ended with no following job: a staging, a start or a staged job that the boundary did not concern stands on (R447, R448). -/
def State.stateLeft (s : State) : Nat := if s.stagingWork.isSome then 1 else if s.job.startTick.isSome then 3 else if s.job.scope != [] then 2 else 0
/-- The job has ended with no following job (R447, R448). A start of the Rope that came while the JOB_END waited finds no job running now, and starts (R450, log entry 45). -/
def State.jobOver (s : State) : State :=
  let sp := s.ropeAt s.job.lastS
  let old := s.active
  let s := (s.commitUids.filter (fun u => !s.unitStaged u)).foldl (fun (s : State) u => s.jobForce false u) s
  let s := s.portsOn.foldl (fun (s : State) p => s.gainChange p old s.active) s
  let s := ((s.set devU Job.ACTIVE_VALID 0).set devU Job.JOB_PORTS 0).set devU Job.JOB_STATE s.stateLeft
  let s := { s with job := { s.job with at_ := if s.jobState = 3 then some s.now else none, endOnly := false, starts := false } }
  let s := (List.range 8).foldl (fun (s : State) g => s.lampJob g) s.trigLeft.trigOrphans
  let s := s.raise Ev.JOB_BOUNDARY devU 0x3FF
  match s.workOf 0x65 devU with
  | some w => s.workEnd w St.OK [lo32 sp, hi32 sp]
  | none => s
/-- The drain goes on after every command (R51, R55): ports that are drained end; when all have ended, a job without a successor is over. -/
def State.drainCheck (s : State) : State :=
  if s.jobState != 4 then s else
  let s := s.portsOn.foldl (fun (s : State) p =>
    let x := s.port p
    if x.jobOn && (s.fenced (portU p) || x.hold || x.rejoin || !x.started || s.portDrained p) then s.portEnds p
    else if x.jobOn then s else s.portLastRec p) s
  if s.portsRunning = [] ∧ !s.job.starts then s.jobOver else s

/-! ### The next job starts (R31, R52, R54, R390, R445) -/

/-- The digest, level and other facts of the slot that a job runs from. -/
def State.jobSlot (s : State) : SlotRec :=
  (s.slotRec (s.reg devU Job.ACTIVE_SLOT)).getD { loaded := false, restored := false, level := 1, length := 0, digest := [], uses := 0, lastTime := 0, lastJobId := 0, lastFw := 0, loadFw := 0 }
/-- The conditions that lift a figure of a port as they stand when it starts (R20, R38, R242, R412, R466). -/
def State.degradeAll (s : State) (p : Nat) : State :=
  let s := (s.degrade p 2 (s.lanesFenced p)).degrade p 3 ((s.lampsOf p).any s.lampInvalid)
  (s.degrade p 4 (s.reg bar0 Pace.CRITICAL == 1)).degrade p 5 (s.role == 2 && !s.aligned)
/-- A port fires from line 0 with no history (R52, R31, R212): `rep` is the repeat number it starts at, `passed` the repeats passed over
(R54), `sp` the boundary's sample point. -/
def State.portStart (s : State) (p rep passed sp : Nat) (rejoin : Bool) : State :=
  let m := s.active
  let u := lcU p
  let k := clusterOf s m p
  let count := s.repSrc p == 0
  let s := s.modPort p (fun x => { x.trackersRestart with jobOn := true, hold := false, rejoin := false, passed := 0, degraded := [] })
  let s := [0, 1].foldl (fun (s : State) k => (s.setC (clU k) p Ctx.HELD_STOP 0 0).setC (clU k) p Ctx.DEFECT_SEQ 0 0) (s.pipeRegs m p)
  let ok : Bool := match k with | some k => s.job.imagesOn.contains (imageKey s m k p) | none => false
  let s := s.modEb p (fun _ => { on := k.isSome && !s.lanesHeld p, imageOk := ok, settleLeft := match k with | some k => vwC s m (clU k) p Ctx.SETTLE_REPEATS | none => 0 })
  let s := s.modLc p (fun c => { c with
    nextLine := 0, held := false, resume := false, fires := [], skipFrom := none, repNo := rep, repBase := rep, repFirst := 0, meas := if count then s.act u Lc.REPEAT_LINES else 0, repMeas := if count then s.act u Lc.REPEAT_LINES else 0,
    resid := 0, repFlags := 0, phased := count, mPrev := none, next := none, inputT := none, inputPrev := none, accepted := false, overRun := false,
    repHist := [(0, rep)], ghost := 0 })
  let s := (if rejoin then s else s.trigFresh p).modTrig (fun t => { t with dets := upd t.dets p (fun _ => {}) })
  let s := ((s.set u Lc.REPEAT_NUM rep).set u Lc.REPEAT_MEAS (s.lc p).meas).set u Lc.LINE_LO 0
  let s := (s.set u Lc.LINE_HI 0).lcRegs p
  let x := s.jobSlot
  let s := s.jobStartRec p (s.reg devU Job.ACTIVE_SLOT) (s.reg devU Job.JOB_ID) rep passed (s.ropeAt sp) x.level rejoin x.digest
  (((s.pgStart p).reliefJob p).degradeAll p).portRefresh p
/-- The banks of a port swap at a job boundary (R52, R221, R223); those of the reference store swap beside them (R243). -/
def State.bankSwap (s : State) (p : Nat) : State :=
  let u := pipeU p
  let a := s.reg u Pipe.ACTIVE_SET
  let s := s.modPort p (fun x => { x with seg := 1 - x.seg, actRegs := x.stgRegs, stgRegs := x.actRegs, lutActive := x.lutStaged })
  let s := ((s.set u Pipe.ACTIVE_SET (s.reg u Pipe.STAGED_SET)).set u Pipe.ACTIVE_OK (s.reg u Pipe.STAGED_OK)).set u Pipe.STAGED_SET a
  s.set u Pipe.STAGED_OK 0
/-- The commits of a port of the new job, and those of the units it is the source of, come into force. -/
def State.portForce (s : State) (p : Nat) : State :=
  let old := s.active
  let us := s.commitUids.filter (fun u => s.sourcePort u == some p)
  let s := us.foldl (fun (s : State) u => s.jobForce true u) s
  s.gainChange p old s.active
/-- A new port's banks swap, and its sets come into force. -/
def State.portSwap (s : State) (p : Nat) : State := (s.bankSwap p).portForce p
/-- The line clock of a port counts positions of the new job that it does not fire. -/
def State.lcFresh (s : State) (p : Nat) : State :=
  s.modLc p (fun c => { c with
    nextLine := 0, ghost := 0, held := true, fires := [], skipFrom := none, repNo := 0, repBase := 0, repFirst := 0, mPrev := none, next := none, inputT := none, inputPrev := none,
    accepted := false })
/-- A port of the new job starts, or holds until its ring is empty (R54): its banks swap now, its sets, with the ring's own, come into force when it starts. -/
def State.portBegins (s : State) (p : Nat) : State :=
  let s := match (s.port p).capture with | some _ => s.capEnd p St.ABORTED 0 [] | none => s
  if s.ringU p = 0 then ((s.portSwap p).portStart p 0 0 s.job.lastS false).lcReady p
  else
    let s := ((s.bankSwap p).lcReady p).lcFresh p
    (s.modPort p (fun x => { x with jobOn := true, hold := true })).setSt (portU p) .waiting
/-- A job port that takes no part in the start waits to be restarted (R448, R55), or has lost its staged shading set since S (R221); its repeats count from the start of the job. -/
def State.portSitsOut (s : State) (p : Nat) : State := (s.portSwap p).lcFresh p
/-- The drain is complete: every ring of an ended port is empty, or its channel does not drain it now (R51 step 7, R54). -/
def State.drainDone (s : State) : Bool :=
  s.portsRunning == [] && (s.portsOn.all (fun p => s.ringU p == 0 || (match ringChan s s.active p with | some k => (s.dma k).st != 1 | none => true)))
/-- NEW_JOB_START. A JOB_END that waited for the same boundary ends with it (R447, R451). -/
def State.newJobStart (s : State) : State :=
  if s.jobState != 4 || !s.job.starts || !s.drainDone then s else
  let j := s.job
  let slot := j.startSlot
  let ps := s.stagedPorts
  let sp := s.ropeAt j.lastS
  let s := { s.trigLeft with ebStopped := [] }
  -- the reference banks swap
  let s := (s.set refU RefSt.ACTIVE (1 - s.reg refU RefSt.ACTIVE)).set refU RefSt.STAGED_OK 0
  -- sets of units whose source is no port of the new job, and of every line clock and axis: a port that holds counts repeats and waits under the new ones (R54, R390)
  let us := s.commitUids.filter (fun u => (match s.sourcePort u with | some p => !ps.contains p | none => true) || uClass u == 8 || uClass u == 6)
  let s := us.foldl (fun (s : State) u => s.jobForce (j.scope.contains u) u) s
  let s := ((s.set devU Job.ACTIVE_SLOT slot).set devU Job.JOB_ID j.startId).set devU Job.ACTIVE_VALID 1
  let s := (s.set devU Job.JOB_PORTS (ps.foldl (fun a p => a + 2 ^ p) 0)).set devU Job.JOB_STATE 0
  let fw := s.reg bar0 Id.FW_VERSION
  let s := s.modSlot slot (fun x => { x with uses := min (x.uses + 1) 0xFFFFFFFF, lastTime := sp, lastJobId := j.startId, lastFw := fw })
  let s := { s with job := { s.job with lead := j.newLead, at_ := none, startTick := none, startRope := none, starts := false, remote := false, changeDue := true, scope := [], images := [], imagesOn := j.images } }
  let s := ps.foldl (fun (s : State) p => if s.fenced (portU p) || j.noStart.contains p || s.reg (pipeU p) Pipe.STAGED_OK == 0 then s.portSitsOut p else s.portBegins p) s
  -- what is left of the staged commit belongs to fenced units or to ports that hold
  let s := { s with commits := s.commits.map (fun c => if c.staged then { c with staged := false, at_ := 0 } else c) }
  let s := (List.range 8).foldl (fun (s : State) g => s.lampJob g) s
  let s := ps.foldl (fun (s : State) p => if (s.port p).jobOn && !(s.port p).hold then s.chainBoundary p 3 j.lastS true else s) s
  let s := (List.range 8).foldl (fun (s : State) a => s.scanBegin a) s
  let s := (if j.remote then s.jobReply St.OK j.startId else s).trigOrphans
  let s := { s with works := s.works.map (fun (w : Work) => if w.op = 0x64 then { w with step := 2 } else w) }
  let s := match s.workOf 0x65 devU with | some w => s.workEnd w St.OK [lo32 sp, hi32 sp] | none => s
  let x := s.jobSlot
  let s := s.audit 2 devU (leBytes 4 slot ++ leBytes 4 j.startId ++ leBytes 4 x.level ++ x.digest)
  s.raise Ev.JOB_BOUNDARY devU (slot + j.startId % 65536 * 65536)
/-- The ring of a holding port has emptied: at a repeat boundary of its line clock it starts after `passed` repeats (R54), and the chain latches with it (R423). -/
def State.holdEnds (s : State) (p passed sp : Nat) : State := ((s.portForce p).portStart p 0 passed sp false).chainBoundary p 3 sp true
/-- The work of a JOB_START whose boundary has passed, and whose lead cannot fire line 0, ends here; the lead's line 0 ends it otherwise
(R445, R574, log entry 45). -/
def State.startWorkCheck (s : State) : State :=
  let p := s.job.lead
  if !s.job.changeDue || (s.reg devU Job.ACTIVE_VALID == 1 && (s.port p).jobOn && !s.fenced (portU p) && !s.fenced (lcU p) && !(s.lc p).aborted) then s else
  let s := { s with job := { s.job with changeDue := false } }
  match s.works.find? (fun w => w.op == 0x64 && w.step == 2) with
  | none => s
  | some w =>
      let sp := s.ropeAt s.job.lastS
      s.workEnd w St.OK [lo32 sp, hi32 sp, s.reg devU Job.LAST_CHANGE]

/-! ### A JOB message (R450, R451, R468) -/

/-- A member receives JOB: R_c and the JOB_ID. It is refused where no job is staged; the check of R445 comes at S. -/
def State.jobMsg (s : State) (rc id : Nat) : State :=
  if s.jobState != 2 then (s.raise Ev.JOB_NOT_STARTED devU 3).jobReply St.NOT_STAGED id
  else
    let run := s.reg devU Job.ACTIVE_VALID == 1
    let late := run && decide (rc ≤ s.leadRepeat)
    let s := s.startPend (s.reg devU Job.STAGED_SLOT) id (if late then none else some rc) true
    if late then s.raise Ev.JOB_ROPE_LATE devU rc else s
/-- A start of the Rope that was lost before its boundary, or at it, is reported to the leader (R451). -/
def State.jobOwes (s : State) : State :=
  match s.job.owed with
  | some id => ({ s with job := { s.job with owed := none } } : State).jobReply St.NOT_STAGED id
  | none => s
/-- ABORT of 0x0000 meets a changeover (R448), or a staging. -/
def State.jobAborted (s : State) (seq : Nat) : State :=
  let s := s.stagingEnds St.ABORTED [seq]
  if s.jobState = 3 then
    let s := s.startEnds St.ABORTED
    s.set devU Job.JOB_STATE 2
  else if s.jobState = 4 then
    let s := if s.job.startTick.isSome then { s with job := { s.job with starts := false } }.startEnds St.ABORTED else s
    s
  else
    let s := match s.workOf 0x65 devU with | some w => s.workEnd w St.ABORTED [seq] | none => s
    { s with job := { s.job with endTick := none } }.set devU Job.END_PENDING 0

end Sys2Proof.Machine
end

