-- ==== Sys2Proof/Machine/RopeMsg.lean ====
section
/-! DEFINITION. What a received Rope message does (R450, R459, R462 to R464, R468, R469, R471) and ROPE_MARK (R468, R575). A STATUS ABORT,
RESET and DONE stand in Abort.lean. -/
namespace Sys2Proof.Machine
open R

/-- A message is received on a pitch (R461, R462): a pitch that is not up receives nothing, a bad CRC is counted and the message discarded. -/
def State.received (s : State) (k : Nat) (crc : Bool) (act : State → State) : State :=
  if 5 ≤ k || !(s.linkSt k == 1 || s.linkSt k == 2) then s
  else if !crc then s.bump ropeU Rope.CRC_ERRORS
  else act s
/-- ARM (R468): forwarded, and acted on under ARM_SRC ROPE. -/
def State.rxArm (s : State) (k src on lo hi : Nat) : State :=
  if k != 4 || s.linkSt 4 != 2 then s else
  let m : RMsg := { typ := 1, up := false, src := src, dst := allNodes, pay := [on, lo, hi] }
  let s := (s.modRope (fun r => { r with lastArm := some m })).ropeFlood m 4 false true
  if s.reg trigU Trig.ARM_SRC = 1 then s.armReq (tbit on 0) (some (hi * 2 ^ 32 + lo)) true else s
/-- FIRE (R468): forwarded both ways, and ROPE_FIRE with the carried T. -/
def State.rxFire (s : State) (k src lo hi : Nat) : State :=
  if s.linkSt k != 2 then s else
  let m : RMsg := { typ := 2, up := false, src := src, dst := allNodes, pay := [lo, hi] }
  (s.ropeFlood m k true true).signal { sig := 57, port := 0, t := hi * 2 ^ 32 + lo, line := 0, frac := 0, pix := none, cls := 0, node := src }
/-- JOB (R450, R468): forwarded, and acted on. -/
def State.rxJob (s : State) (k src rc id : Nat) : State :=
  if k != 4 || s.linkSt 4 != 2 then s else
  let m : RMsg := { typ := 4, up := false, src := src, dst := allNodes, pay := [rc, id] }
  ((s.modRope (fun r => { r with lastJob := some m })).ropeFlood m 4 false true).jobMsg rc id
/-- MARK (R468): flooded, and queued where DST matches. A message that the full queue drops is counted with the messages not delivered (DEDUCED, log entry 84). -/
def State.rxMark (s : State) (k src dst data lo hi : Nat) : State :=
  if s.linkSt k != 2 then s else
  let s := s.ropeFlood { typ := 5, up := false, src := src, dst := dst, pay := [data, lo, hi] } k true true
  if dst != s.node && dst != allNodes then s
  else if 64 ≤ s.ropeS.marks.length then (s.bump ropeU Rope.MSG_DROPPED).modRope (fun r => { r with dropped := true })
  else (s.modRope (fun r => { r with marks := r.marks ++ [(src, data, hi * 2 ^ 32 + lo)] })).raise Ev.ROPE_MARK ropeU data
/-- A read of MARK_SRC pops the oldest MARK; the word read, then MARK_DATA and MARK_TIME. -/
def State.markPop (s : State) : State :=
  let d := b2n s.ropeS.dropped * 2 ^ 30
  let s := match s.ropeS.marks with
    | [] => { s with rdata := [d] }
    | (src, data, t) :: l =>
      let s := ((s.set ropeU Rope.MARK_DATA data).set ropeU Rope.MARK_TIME_LO (lo32 t)).set ropeU Rope.MARK_TIME_HI (hi32 t)
      { s with rdata := [src % 2 ^ 18 + d + 2 ^ 31] }.modRope (fun r => { r with marks := l })
  s.modRope (fun r => { r with dropped := false })
/-- STATUS LOST (R471). -/
def State.rxLost (s : State) (k src : Nat) : State :=
  if k != 4 || s.linkSt 4 != 2 then s else
  (s.setAligned false).ropeFlood { typ := 6, up := false, src := src, dst := allNodes, pay := [5] } 4 false true
/-- STATUS JOB_REPLY (R468): the leader records a refusal, a member passes it up. -/
def State.rxJobReply (s : State) (k src status id : Nat) : State :=
  if k = 4 || s.linkSt k != 2 then s
  else if s.role = 2 then s.ropeFlood { typ := 6, up := true, src := src, dst := allNodes, pay := [6, status, id] } k true false
  else if s.role != 1 || status == 0 then s
  else ((s.set ropeU Rope.JOB_REFUSED_NODE src).bump ropeU Rope.JOB_REFUSALS).raise Ev.JOB_NOT_STARTED devU 3
/-- STATUS JOIN (R459): from below with a node and its ROLE, or the answer from above. -/
def State.rxJoin (s : State) (k src node role refused reason : Nat) : State :=
  if k = 4 then s.joinFromAbove src node role refused reason else s.joinFromBelow k node role
/-- ROPE_MARK (R468). -/
def State.cmdRopeMark (s : State) (k : Pkt) : Answer :=
  s.unless (firstOf [badParam (k.p 0 < 2 ^ 18) 0,
    need (s.role != 0 && s.reg ropeU Rope.UP_STATE == 2) St.ROPE_NOT_JOINED [s.reg ropeU Rope.UP_STATE],
    s.busyUnless (!([0, 1, 2, 3, 4].any (fun p => decide (16 ≤ ((s.pitch p).wait.filter (fun m => m.typ == 5)).length)))) ropeU]) (fun _ =>
    (s.ropeFlood { typ := 5, up := false, src := s.node, dst := k.p 0, pay := [k.p 1, lo32 s.rope, hi32 s.rope] } 5 true true, St.OK, []))

end Sys2Proof.Machine
end

