-- ==== Sys2Proof/Machine/Security.lean ====
section
/-! DEFINITION. Secure boot, keys and policy, owner authorisation, attestation, audit export, debug lock and transfer bundles (R496 to R525, R556,
R576, R577). -/
namespace Sys2Proof.Machine
open R

/-! ### Firmware images and boot (R497 to R501) -/

/-- A firmware image as the checks read it. -/
structure FwImage where
  ok : Bool
  length : Nat
  version : Nat
  svn : Nat
  vendor : List Nat
  owner : List Nat
  digest : List Nat
  sigV : List Nat
  sigO : List Nat
  deriving DecidableEq, Repr
/-- Read an image at a byte address; its digest covers header and body. -/
def fwRead (m : Mem) (a : Nat) : FwImage :=
  let len := Mem.rd32 m (a + 4)
  let ok : Bool := Mem.rd32 m a % 65536 == 1 && len % 64 == 0 && len ≤ 4193280
  let body := if ok then len else 0
  { ok := ok, length := body, version := Mem.rd32 m (a + 8), svn := Mem.rd32 m (a + 0xC) % 65536, vendor := Mem.read m (a + 0x10) 133, owner := Mem.read m (a + 0x98) 133,
    digest := sha512 (Mem.read m a (0x200 + body)), sigV := Mem.read m (a + 0x200 + body) 132, sigO := Mem.read m (a + 0x284 + body) 132 }
/-- The first check of R498 that an image fails, 0 for none. -/
def State.fwFail (s : State) (i : FwImage) : Nat :=
  if !i.ok then 1
  else if sha512 i.vendor ≠ s.part.vendorKeyHash then 2
  else if !ecdsaOk i.vendor i.digest i.sigV then 3
  else if s.sec.ownerHash ≠ [] ∧ (sha512 i.owner ≠ s.sec.ownerHash ∨ !ecdsaOk i.owner i.digest i.sigO) then 4
  else if i.svn < s.reg secU Sec.COUNTER then 5
  else 0
/-- Flash address of a slot. -/
def fwSlot (k : Nat) : Nat := k * 0x400000
/-- VERSION, SVN and digest, as the audit log keeps them. -/
def FwImage.note (i : FwImage) : List Nat := leBytes 4 i.version ++ leBytes 4 i.svn ++ i.digest
/-- The sequencer starts an image. -/
def State.fwStart (s : State) (i : FwImage) : State :=
  let s := ((s.set bar0 Id.FW_VERSION i.version).set secU Sec.SVN_RUNNING i.svn).set bar0 Cmd.SEQ_RUNNING 1
  let s := (List.range 16).foldl (fun (s : State) k => s.set secU Sec.FW_DIGEST (ofLe ((i.digest.drop (4 * k)).take 4)) k) s
  { s with sec := { s.sec with ownerPub := i.owner, booting := none }, sys := { s.sys with hb := s.reg bar0 Cmd.SEQ_HEARTBEAT, hbAt := s.now, stuck := false } }
/-- No firmware runs: its registers read 0. -/
def State.fwStop (s : State) (src : Option Nat) : State :=
  let s := ((s.set bar0 Id.FW_VERSION 0).set secU Sec.SVN_RUNNING 0).set bar0 Cmd.SEQ_RUNNING 0
  let s := ((s.set secU Sec.TRIAL 0).set secU Sec.FALLBACK 0).set secU Sec.RECOVERED 0
  let s := (List.range 16).foldl (fun (s : State) k => s.set secU Sec.FW_DIGEST 0 k) s
  { s with sec := { s.sec with ownerPub := [], booting := some src, repaired := false } }
/-- BOOT_FAIL of a slot. -/
def State.setBootFail (s : State) (slot n : Nat) : State := s.set secU (if slot = 0 then Sec.BOOT_FAIL0 else Sec.BOOT_FAIL1) n
/-- An event of the start-up is held for the event ring (R98, R499). -/
def State.raiseDeferred (s : State) (src uid detail : Nat) : State :=
  let e : Event := { source := src, uid := uid, detail := detail, time := s.rope }
  if s.reg bar0 Evt.ENABLE = 1 then s.raise src uid detail
  else
    let s := s.logEvent e
    { s with evt := { s.evt with deferred := if s.evt.deferred.length < 16 then s.evt.deferred ++ [e] else s.evt.deferred } }
/-- The ROM starts a slot that has passed its checks. -/
def State.slotStart (s : State) (slot : Nat) (trial fallback : Bool) (i : FwImage) : State :=
  let s := ((s.set secU Sec.BOOT_SLOT slot).set secU Sec.TRIAL (b2n trial)).set secU Sec.FALLBACK (b2n fallback)
  s.fwStart i
/-- The ROM tries the preferred slot, then the other (R499). -/
def State.bootFlash (s : State) : State :=
  let first := s.sec.bootSlot
  let trial := s.sec.bootTrial
  let other := 1 - first
  let s := ((s.setBootFail 0 0).setBootFail 1 0).counterRead
  let s := if trial then { s with sec := { s.sec with bootSlot := other, bootTrial := false } } else s
  let i := fwRead s.sec.flash (fwSlot first)
  let n := s.fwFail i
  if n = 0 then s.slotStart first trial false i
  else
    let s := s.setBootFail first n
    let j := fwRead s.sec.flash (fwSlot other)
    let k := s.fwFail j
    if k = 0 then
      let s := s.slotStart other false true j
      (s.raiseDeferred Ev.BOOT_FALLBACK secU (n + first * 16)).audit 5 secU j.note
    else { s.setBootFail other k with sec := { s.sec with booting := none } }
/-- The ROM checks an image in LPDDR5X and starts it (R500). BOOT_FAIL of the preferred slot shows a failed check (log entry 83). -/
def State.bootDram (s : State) (a : Nat) : State :=
  let s := s.counterRead
  let i := fwRead s.dram a
  let n := if s.inDram a (0x308 + i.length) then (match s.readError a (0x308 + i.length) none with | some _ => 3 | none => s.fwFail i) else 1
  if n = 0 then (s.set secU Sec.RECOVERED 1).fwStart i
  else { s.setBootFail s.sec.bootSlot n with sec := { s.sec with booting := none } }
/-- The boot ROM ends (FIRMWARE_READY, step 3 of R537). -/
def State.bootEnds (s : State) : State :=
  match s.sec.booting with
  | none => s
  | some none => s.bootFlash
  | some (some a) => s.bootDram a
/-- A write of BOOT_RECOVER (R500). -/
def State.bootRecover (s : State) (v : Nat) : State :=
  if s.reg bar0 Cmd.SEQ_RUNNING = 1 then s else { s with sec := { s.sec with booting := some (some (v * 64)) } }

/-! ### Owner authorisation (R509, R556) -/

/-- SERIAL as bytes, SERIAL0 first. -/
def Part.serialBytes (p : Part) : List Nat := (List.range 4).flatMap (fun i => leBytes 4 (nth p.serial i))
/-- Bytes packed in parameter words i to i + n/4. -/
def paramBytes (ws : List Nat) (i n : Nat) : List Nat := ((ws.drop i).flatMap (leBytes 4)).take n
/-- Draw fresh words. -/
def freshWords (d n : Nat) : List Nat := (List.range n).map (fun i => (Config.freshWord (d + i)).toNat)
/-- A fresh nonce is issued, and every earlier challenge lapses. -/
def State.challengeIssue (s : State) : State × List Nat :=
  let ws := freshWords s.draw 16
  ({ s with draw := s.draw + 16, sec := { s.sec with challenge := some (wordBytes ws, s.now), nonces := s.sec.nonces + 1 } }, ws)
/-- The challenge lapses 600 s after its issue. -/
def State.challengeLapse (s : State) : State :=
  match s.sec.challenge with
  | some (_, t) => if t + 960000000000 ≤ s.now then { s with sec := { s.sec with challenge := none } } else s
  | none => s
/-- An owner signature over an opcode byte and parameter words: the challenge is consumed; the nonce used, or the refusal. -/
def State.ownerAuth (s : State) (op : Nat) (words : List Nat) (sig : List Nat) : State × (Nat ⊕ List Nat) :=
  if s.sec.ownerHash = [] then (s, .inl St.UNSUPPORTED) else
  match s.challengeLapse.sec.challenge with
  | none => (s.challengeLapse, .inl St.CHALLENGE)
  | some (nonce, _) =>
    let s := { s with sec := { s.sec with challenge := none } }
    let d := sha512 (s.part.serialBytes ++ nonce ++ [op] ++ wordBytes words)
    if ecdsaOk s.sec.ownerPub d sig then (s, .inr nonce) else (s, .inl St.SIGNATURE)
/-- Carry out a command that is owner-signed in its present form. The result word of a refusal is 0: R103 gives "offending field" with ST_UNSUPPORTED and names no field for a
part without an owner key (DESIGN CHOICE, log entry 72). -/
def State.signed (s : State) (k : Pkt) (must : Bool) (go : State → List Nat → Answer) : Answer :=
  if !must then go s [] else
  let n := k.params.length - 33
  match s.ownerAuth k.op (k.params.take n) (paramBytes k.params n 132) with
  | (s, .inl st) => (s, st, [0])
  | (s, .inr nonce) => go s nonce
/-- LOCKED of the policy. -/
def State.locked (s : State) : Bool := tbit (s.reg secU Sec.POLICY) 31

/-! ### Policy and keys (R510, R511, R496) -/

/-- AUTH_CHALLENGE. -/
def State.cmdChallenge (s : State) : Answer :=
  let c := s.challengeIssue
  (c.1, St.OK, c.2)
/-- POLICY_SET. -/
def State.cmdPolicySet (s : State) (k : Pkt) : Answer :=
  s.signed k s.locked (fun s _ =>
    let old := s.reg secU Sec.POLICY
    let v := k.p 0
    s.unless (firstOf [need (!(tbit v 31 && s.sec.ownerHash == [])) St.UNSUPPORTED [v], badParam (v % 2 ^ 31 < 4) 0]) (fun _ =>
      ((s.set secU Sec.POLICY v).audit 3 secU (leBytes 4 old ++ leBytes 4 v), St.OK, [v])))
/-- A SEC1 point of 133 bytes on the curve. -/
def keyOk (key : List Nat) : Bool := (ecPoint key).isSome
/-- A recipe key slot changes. -/
def State.keyChange (s : State) (slot : Nat) (key : List Nat) (revoked : Bool) : Answer :=
  let old := s.sec.keys.getD slot []
  let s := { s with sec := { s.sec with keys := upd s.sec.keys slot (fun _ => key) } }
  let s := s.set secU Sec.RECIPE_KEYS (setBit (s.reg secU Sec.RECIPE_KEYS) slot (!revoked))
  let dig := if revoked then (if old = [] then [] else sha512 old) else sha512 key
  let s := (s.audit 4 secU (leBytes 4 slot ++ dig)).raise Ev.KEY_CHANGE secU (slot + b2n revoked * 4)
  (s, St.OK, [s.reg secU Sec.RECIPE_KEYS])
/-- KEY_INSTALL. -/
def State.cmdKeyInstall (s : State) (k : Pkt) : Answer :=
  s.signed k s.locked (fun s _ =>
    let key := paramBytes k.params 1 136
    s.unless (firstOf [badParam (k.p 0 < 4) 0, badParam (keyOk (key.take 133)) 1, badParam ((key.drop 133).all (· == 0)) 34]) (fun _ => s.keyChange (k.p 0) (key.take 133) false))
/-- KEY_REVOKE. -/
def State.cmdKeyRevoke (s : State) (k : Pkt) : Answer :=
  s.signed k s.locked (fun s _ => s.unless (badParam (k.p 0 < 4) 0) (fun _ => s.keyChange (k.p 0) [] true))
/-- OWNER_FUSE. -/
def State.cmdOwnerFuse (s : State) (k : Pkt) : Answer :=
  let key := paramBytes k.params 0 136
  s.unless (firstOf [need (s.sec.ownerHash == []) St.LOCKED [0], badParam (keyOk (key.take 133) && key.take 133 == s.sec.ownerPub) 0,
    badParam ((key.drop 133).all (· == 0)) 33, badParam (k.p 34 == 0x4F574E52) 34]) (fun _ =>
    let h := sha512 (key.take 133)
    let s := { s with sec := { s.sec with ownerHash := h } }
    (((s.set secU Sec.OWNER_FUSED 1).audit 4 secU (leBytes 4 0 ++ h)), St.OK, [0]))

/-! ### Firmware update (R502, R503) -/

/-- The address in two parameter words. -/
def Pkt.addr (k : Pkt) (i : Nat) : Nat := k.p (i + 1) * 2 ^ 32 + k.p i
/-- FW_UPDATE starts. -/
def State.cmdFwUpdate (s : State) (k : Pkt) : Answer :=
  s.unless (firstOf [need (k.addr 0 % 64 == 0) St.ALIGN [lo32 (k.addr 0)], badParam (s.inDram (k.addr 0) 0x308) 0]) (fun _ => (s.workStart k secU [], St.OK, []))
/-- FW_UPDATE ends. The image may meet an uncorrectable error at `env`. -/
def State.fwUpdateEnd (s : State) (w : Work) (env : Option Nat) : State :=
  let a := nth w.params 1 * 2 ^ 32 + nth w.params 0
  let i := fwRead s.dram a
  let size := 0x308 + i.length
  let ue := s.readError a size env
  let n := if !s.inDram a size then 1 else if ue.isSome && s.fwFail i == 0 then 3 else s.fwFail i
  let s := match ue with | some e => s.memUE e | none => s
  if n = 5 then s.workEnd w St.ROLLBACK [s.reg secU Sec.COUNTER]
  else if n ≠ 0 then s.workEnd w St.FW_IMAGE [n]
  else
    let rec_ := s.reg secU Sec.RECOVERED == 1
    let slot := if !rec_ then 1 - s.reg secU Sec.BOOT_SLOT else if s.sec.repaired then 1 - s.sec.bootSlot else s.sec.bootSlot
    let keep : Bool := rec_ && s.sec.repaired
    let sec := { s.sec with flash := Mem.write s.sec.flash (fwSlot slot) (Mem.read s.dram a size) }
    let sec := if keep then sec else { sec with bootSlot := slot, bootTrial := true, repaired := rec_ }
    let s := { s with sec := sec }
    ((s.audit 5 secU i.note).raise Ev.FW_STAGED secU i.svn).workEnd w St.OK [slot, i.svn]
/-- FW_ACCEPT. -/
def State.cmdFwAccept (s : State) : Answer :=
  if s.reg secU Sec.TRIAL = 0 then (s, St.OK, [s.reg secU Sec.COUNTER])
  else
    let svn := s.reg secU Sec.SVN_RUNNING
    let s := { s with sec := { s.sec with bootSlot := s.reg secU Sec.BOOT_SLOT, bootTrial := false } }
    let s := (s.set secU Sec.TRIAL 0).counterPut (max svn (s.reg secU Sec.COUNTER))
    let dig := (List.range 16).flatMap (fun i => leBytes 4 (s.reg secU Sec.FW_DIGEST i))
    (s.audit 5 secU (leBytes 4 (s.reg bar0 Id.FW_VERSION) ++ leBytes 4 svn ++ dig), St.OK, [s.reg secU Sec.COUNTER])

/-! ### Certificates and reports (R504 to R508) -/

/-- A signature or certificate byte sequence that the device alone can make: number `kind`, n bytes. -/
def secretBytes (kind n : Nat) : List Nat := (List.range n).map (fun i => (Config.secretByte kind i).toNat)
/-- The certificate chain of R505: a length word and at most 8,188 bytes. -/
def certChain : List Nat :=
  let n := ((Config.secretByte 0 0).toNat * 256 + (Config.secretByte 0 1).toNat) % 8189
  leBytes 4 n ++ secretBytes 1 n
/-- A host buffer's checks: aligned (R554), and large enough. -/
def State.hostBuf (k : Pkt) (i : Nat) : Refuse := badParam (k.addr i % 64 == 0) i
/-- A write into host memory outside a DMA channel (R554). It is made at once, in D3hot too, where R67 speaks of event writes, interrupts and DMA only (DESIGN CHOICE, log entry 78). -/
def State.hostWrite (s : State) (a : Nat) (bs : List Nat) : State := { s with host := Mem.write s.host a bs }
/-- Draw the number of a signature. -/
def State.sign (s : State) : State × List Nat := ({ s with draw := s.draw + 1 }, secretBytes (s.draw + 2) 132)
/-- ID_CERT. -/
def State.cmdIdCert (s : State) (k : Pkt) : Answer :=
  s.unless (firstOf [State.hostBuf k 0, badParam (8192 ≤ k.p 2) 2]) (fun _ => (s.hostWrite (k.addr 0) certChain, St.OK, [certChain.length]))
/-- The persistent calibration that CAL_DIGEST covers (R508). -/
def State.calRecords (s : State) : List Nat :=
  [s.part.refTrimUv, s.reg calU CalRef.REF_USE_UV] ++ (match s.memS.trace with | some t => [t.1, t.2] | none => []) ++
  (List.range 8).flatMap (fun p => (List.range 9).map (fun c => s.reg (chanU p c) Afe.SUSPECT)) ++
  (List.range 8).flatMap (fun a => [s.reg (axU a) Axis.ID_VALID, s.reg (axU a) Axis.R_ID, s.reg (axU a) Axis.L_ID, s.reg (axU a) Axis.KE_ID]) ++
  (List.range 8).flatMap (fun g => [1, 2, 3, 4, 5].flatMap (fun k =>
    [b2n (s.str g k).senseOk, low 32 (s.str g k).ofs, (s.str g k).gain, s.reg (strU g k) Str.VREF_MV, s.reg (strU g k) Str.SPARE_DELTA, s.reg (strU g k) Str.DELTA_VALID]))
/-- CAL_DIGEST. -/
def State.calDigest (s : State) : List Nat := (List.range 64).map (fun i => (Config.calByte s.calRecords i).toNat)
/-- Bytes 0x000 to 0x17F of the report (R507). -/
def State.attestBody (s : State) (nonce : List Nat) : List Nat :=
  let valid := s.reg devU Job.ACTIVE_VALID == 1
  let x := s.jobSlot
  let job := (if valid then x.level else 0) + s.reg devU Job.ACTIVE_SLOT * 2 ^ 8 + b2n valid * 2 ^ 18
  let dig := (List.range 16).flatMap (fun i => leBytes 4 (s.reg secU Sec.FW_DIGEST i))
  let part := s.part.part + s.part.grade % 16 * 2 ^ 16 + s.part.siliconRev * 2 ^ 20
  leBytes 4 1 ++ leBytes 4 576 ++ s.part.serialBytes ++ leBytes 4 part ++ leBytes 4 (s.reg bar0 Id.FW_VERSION) ++
  leBytes 2 (s.reg secU Sec.SVN_RUNNING) ++ leBytes 2 (s.reg secU Sec.COUNTER) ++ leBytes 4 (s.reg bar0 Id.BL_SUPPORTED) ++ leBytes 4 job ++
  leBytes 4 (s.reg devU Job.JOB_ID) ++ leBytes 8 s.rope ++ leBytes 4 (s.reg secU Sec.POLICY) ++ leBytes 4 (s.reg secU Sec.AUDIT_SEQ + (2 ^ 32 - 1)) ++
  dig ++ (if valid then x.digest else List.replicate 64 0) ++ s.calDigest ++ s.auditChain ++ nonce
/-- ATTEST starts; every field is taken now (R506). -/
def State.cmdAttest (s : State) (k : Pkt) : Answer :=
  s.unless (State.hostBuf k 16) (fun _ => (s.workStart k secU (s.attestBody (paramBytes k.params 0 64)), St.OK, []))
/-- ATTEST ends. -/
def State.attestEnd (s : State) (w : Work) : State :=
  let g := s.sign
  let a := nth w.params 17 * 2 ^ 32 + nth w.params 16
  (g.1.hostWrite a (w.data ++ g.2 ++ List.replicate 60 0)).workEnd w St.OK []

/-! ### Audit export (R516, R517) -/

/-- The oldest entry held. -/
def State.auditOldest (s : State) : Nat := (s.sec.audit.head?.map (·.seq)).getD 0
/-- CHAIN of an entry: zero bytes for the one before entry 0; the device keeps that of the entry overwritten last, which precedes the oldest held (DESIGN CHOICE, log entry 83). -/
def State.chainOf (s : State) (seq : Nat) : List Nat :=
  match s.sec.audit.find? (fun e => e.seq == seq) with
  | some e => e.chain
  | none => if s.sec.gone != [] && seq + 1 == s.auditOldest then s.sec.gone else List.replicate 64 0
/-- What an export of entries first to last carries: the CHAIN before them, that of the last, and the entries. It is taken at acceptance, so that no entry can be overwritten while the
export runs (DESIGN CHOICE, log entry 83). -/
def State.auditTake (s : State) (first last : Nat) : List Nat :=
  (if first = 0 then List.replicate 64 0 else s.chainOf (first - 1)) ++ s.chainOf last ++
    (s.sec.audit.filter (fun e => first ≤ e.seq && e.seq ≤ last)).flatMap Audit.bytes
/-- AUDIT_EXPORT starts. LAST_SEQ is fixed now. -/
def State.cmdAuditExport (s : State) (k : Pkt) : Answer :=
  let first := k.p 0
  let n := k.p 1
  let next := s.reg secU Sec.AUDIT_SEQ
  s.unless (firstOf [need (s.auditOldest ≤ first && first < next) St.BAD_PARAM [s.auditOldest], badParam (1 ≤ n && n ≤ 4096) 1,
    State.hostBuf k 18, badParam (128 * n + 512 ≤ k.p 20) 20]) (fun _ =>
      let last := min (first + n - 1) (next - 1)
      (s.workStart k secU (last :: s.auditTake first last), St.OK, []))
/-- AUDIT_EXPORT ends: the entries, then the trailer. -/
def State.auditExportEnd (s : State) (w : Work) : State :=
  let first := nth w.params 0
  let last := nth w.data 0
  let head := s.part.serialBytes ++ leBytes 4 first ++ leBytes 4 last ++ (w.data.drop 1).take 128 ++ paramBytes w.params 2 64 ++ leBytes 8 s.rope
  let g := s.sign
  let trailer := head ++ g.2
  let bs := w.data.drop 129 ++ trailer ++ List.replicate (512 - trailer.length) 0
  let s := g.1.hostWrite (nth w.params 19 * 2 ^ 32 + nth w.params 18) bs
  let s := { s with sec := { s.sec with audit := s.sec.audit.map (fun (e : Audit) => if first ≤ e.seq && e.seq ≤ last then { e with out := true } else e) } }
  let s := s.auditRegs
  let s := { s with sec := { s.sec with low := s.sec.low && 58983 ≤ s.reg secU Sec.AUDIT_UNEXPORTED } }
  s.workEnd w St.OK [last]

/-! ### Debug lock (R518, R519) -/

/-- DEBUG_LOCK closes the read-out instructions, and so does a read-out chain that is off (PD22, R526; DESIGN CHOICE, log entry 44). `need_`: the scope that opens the instruction. -/
def State.debugClosed (s : State) (need_ : Nat) : Bool := !tbit (s.reg devU Pd.PD_STAT) 22 || (tbit (s.reg secU Sec.POLICY) 1 && s.sec.scope < need_)
/-- The closed instructions open (R519). -/
def State.debugOpen (s : State) (scope : Nat) (nonce : List Nat) (jtag : Bool) : State :=
  let s := { s with sec := { s.sec with scope := max s.sec.scope scope } }
  ((s.set secU Sec.DEBUG_OPEN 1).audit 9 secU (leBytes 4 scope ++ nonce.take 32)).raise Ev.DEBUG_UNLOCK secU (b2n jtag)
/-- DEBUG_UNLOCK. -/
def State.cmdDebugUnlock (s : State) (k : Pkt) : Answer :=
  s.signed k true (fun s nonce => s.unless (badParam (k.p 0 == 1 || k.p 0 == 2) 0) (fun _ => (s.debugOpen (k.p 0) nonce false, St.OK, [k.p 0])))
/-- DEBUG_RELOCK. -/
def State.cmdDebugRelock (s : State) : Answer :=
  let s := { s with sec := { s.sec with scope := 0 } }
  ((s.set secU Sec.DEBUG_OPEN 0).audit 9 secU (leBytes 4 0), St.OK, [0])
/-- The JTAG instruction UNLOCK: a scope and a signature over opcode byte 0x00. -/
def State.jtagUnlock (s : State) (scope : Nat) (sig : List Nat) : State :=
  match s.ownerAuth 0 [scope] sig with
  | (s, .inl _) => s
  | (s, .inr nonce) => if scope = 1 ∨ scope = 2 then s.debugOpen scope nonce true else s

/-! ### Transfer bundles (R520 to R522) -/

/-- A bundle without its signature. The spec lists its parts; this layout of them is the model's (log entry 41). -/
def State.bundleBody (s : State) (target : List Nat) : List Nat :=
  let recs := s.slots.flatMap (fun x => leBytes 4 x.1 ++ wordBytes (slotWords (some x.2)))
  let strs := (List.range 8).flatMap (fun g => [1, 2, 3, 4, 5].flatMap (fun k =>
    leBytes 4 (s.reg (strU g k) Str.VREF_MV) ++ leBytes 2 (s.reg (strU g k) Str.SPARE_DELTA) ++
    leBytes 2 (s.reg (strU g k) Str.DELTA_VALID + s.reg (strU g k) Str.SPARE_OK * 2)))
  let len := 56 + recs.length + strs.length + certChain.length + 132
  leBytes 4 1 ++ leBytes 4 len ++ s.part.serialBytes ++ target ++ leBytes 8 s.rope ++ leBytes 4 s.slots.length ++ leBytes 4 40 ++ recs ++ strs ++ certChain
/-- BUNDLE_EXPORT starts; its contents are taken now. -/
def State.cmdBundleExport (s : State) (k : Pkt) : Answer :=
  s.unless (firstOf [State.hostBuf k 4, badParam (131072 ≤ k.p 6) 6]) (fun _ =>
    (s.workStart k secU (s.bundleBody (paramBytes k.params 0 16)), St.OK, []))
/-- BUNDLE_EXPORT ends. -/
def State.bundleExportEnd (s : State) (w : Work) : State :=
  let g := s.sign
  let bs := w.data ++ g.2
  let s := g.1.hostWrite (nth w.params 5 * 2 ^ 32 + nth w.params 4) bs
  (s.audit 10 secU (paramBytes w.params 0 16 ++ (sha512 bs).take 32)).workEnd w St.OK [bs.length]
/-- BUNDLE_IMPORT starts. -/
def State.cmdBundleImport (s : State) (k : Pkt) : Answer :=
  s.unless (firstOf [need (k.addr 0 % 64 == 0) St.ALIGN [lo32 (k.addr 0)], badParam (s.inDram (k.addr 0) (k.p 2)) 0, badParam (k.p 2 ≤ 131072) 2])
    (fun _ => (s.workStart k secU [], St.OK, []))
/-- A slot record from the words of a bundle. -/
def slotOfBytes (bs : List Nat) : Nat × SlotRec :=
  let w := fun (i : Nat) => ofLe ((bs.drop (4 * i)).take 4)
  (w 0, { loaded := false, restored := false, level := bits (w 1) 15 8, length := w 2, digest := (bs.drop 12).take 64, uses := w 19,
          lastTime := w 21 * 2 ^ 32 + w 20, lastJobId := w 22, lastFw := w 23, loadFw := w 24 })
/-- The first check of R522 that a bundle fails. -/
def State.bundleFail (s : State) (bs : List Nat) : Refuse :=
  let w := fun (i : Nat) => ofLe ((bs.drop (4 * i)).take 4)
  let n := w 12
  let recs := (List.range (min n 1024)).map (fun i => slotOfBytes ((bs.drop (56 + 100 * i)).take 100))
  firstOf [need (s.reg devU Job.ACTIVE_VALID == 0 && s.jobState == 0) St.BUSY [s.jobState],
    need (w 0 == 1 && w 1 == bs.length && n ≤ 1024 && w 13 == 40 && 56 + 100 * n + 320 ≤ bs.length) St.BUNDLE [1],
    need (Config.bundleOk 2 bs) St.BUNDLE [2], need (Config.bundleOk 3 bs) St.BUNDLE [3],
    need ((bs.drop 24).take 16 == s.part.serialBytes) St.BUNDLE [4],
    (recs.find? (fun r => !(r.2.level < 32 && tbit (s.reg bar0 Id.BL_SUPPORTED) (r.2.level - 1) && 1 ≤ r.2.level))).map (fun r => (St.LEVEL_UNSUPPORTED, [r.2.level])),
    (recs.find? (fun r => (s.slotRec r.1).isSome || decide (1024 ≤ r.1))).map (fun r => (St.BUNDLE, [0x100 + r.1]))]
/-- The values of one string slot from a bundle. -/
def State.bundleString (s : State) (g k : Nat) (bs : List Nat) : State :=
  let u := strU g k
  let f := ofLe ((bs.drop 6).take 2)
  let s := ((s.set u Str.VREF_MV (ofLe (bs.take 4))).set u Str.SPARE_DELTA (ofLe ((bs.drop 4).take 2))).set u Str.DELTA_VALID (f % 2)
  let s := s.set u Str.SPARE_OK (f / 2 % 2)
  (s.modStr g k (fun x => { x with vrefOk := decide (ofLe (bs.take 4) != 0) })).calOkRegs g k
/-- BUNDLE_IMPORT ends: checked, and applied whole or not at all. The read may meet an uncorrectable error at `env`. -/
def State.bundleImportEnd (s : State) (w : Work) (env : Option Nat) : State :=
  let a := nth w.params 1 * 2 ^ 32 + nth w.params 0
  let len := nth w.params 2
  let bs := Mem.read s.dram a len
  let ue := s.readError a len env
  let s := match ue with | some e => s.memUE e | none => s
  match (if ue.isSome then some (St.BUNDLE, [3]) else none), s.bundleFail bs with
  | _, some r => s.workEnd w r.1 r.2
  | some r, none => s.workEnd w r.1 r.2
  | none, none =>
    let n := ofLe ((bs.drop 48).take 4)
    let s := (List.range n).foldl (fun (s : State) i =>
      let r := slotOfBytes ((bs.drop (56 + 100 * i)).take 100)
      s.setSlot r.1 (some r.2)) s
    let s := (List.range 40).foldl (fun (s : State) i => s.bundleString (i / 5) (i % 5 + 1) ((bs.drop (56 + 100 * n + 8 * i)).take 8)) s
    ((s.audit 10 secU ((bs.drop 8).take 16 ++ (sha512 bs).take 32)).raise Ev.BUNDLE_IMPORT secU n).workEnd w St.OK [n]

/-! ### Work of the sequencer (R84, R107) -/

/-- The opcodes of LONG_WORK_END. -/
def seqOps : List Nat := [0x81, 0x8B, 0x8C, 0x8D, 0x87]
/-- Sequencer-driven work ends (LONG_WORK_END). -/
def State.longWorkEnd (s : State) (op : Nat) (env : Option Nat) : State :=
  match s.workOf op secU with
  | none => s
  | some w =>
    if op = 0x81 then s.attestEnd w
    else if op = 0x8B then s.auditExportEnd w
    else if op = 0x8C then s.bundleExportEnd w
    else if op = 0x8D then s.bundleImportEnd w env
    else if op = 0x87 then s.fwUpdateEnd w env
    else s
/-- The sequencer is reset (R107, R448): NORMAL is discarded, its long work ends, and the ROM starts the firmware again. -/
def State.seqReset (s : State) (seq : Nat) : State :=
  let q := s.normalQ.waiting
  let s := { s with normalQ := { s.normalQ with waiting := [] } }
  let s := q.foldl (fun (s : State) k => s.answer k St.ABORTED [seq]) s
  let s := seqOps.foldl (fun (s : State) op => match s.workOf op secU with | some w => s.workEnd w St.ABORTED [seq] | none => s) s
  (s.stagingEnds St.ABORTED [seq]).fwStop none

end Sys2Proof.Machine
end

