-- ==== Sys2Proof/Machine/Abort.lean ====
section
/-! DEFINITION. Stopping and resetting units: what an abort leaves in each unit (R22 to R24, R104, R105), fences of every class (R26 to R29, R34, R550), RESET_UNIT
(R30, R31, R106, R107, R241, R458, R493), and the same down the Rope (R470). -/
namespace Sys2Proof.Machine
open R

/-! ### Eyebright lanes (R241, R242, R272) -/

/-- The ports that a cluster, or one of its lanes, serves. -/
def State.servedBy (s : State) (u : Nat) : List Nat :=
  let k := uInst u
  if uSub u = 0 then s.portsOn.filter (fun p => lanesOf s s.active k p != [])
  else if uSub u ≤ 8 then s.portsOn.filter (fun p => (lanesOf s s.active k p).contains (uSub u - 1))
  else match s.reg u Lane.PHYS with
    | 0 => []
    | i => s.portsOn.filter (fun p => (lanesOf s s.active k p).contains (i - 1))
/-- Comparison stops on the ports that a unit serves. -/
def State.comparisonStops (s : State) (u : Nat) : State := (s.servedBy u).foldl (fun (s : State) p => (s.ebStop p).portRefresh p) s
/-- A cluster or lane starts again: its ports compare from their next repeat boundary, but one that another of its lanes still holds back. -/
def State.comparisonStarts (s : State) (u : Nat) : State :=
  (s.servedBy u).foldl (fun (s : State) p =>
    if (s.port p).jobOn && !(s.eb p).on && !s.lanesHeld p then (s.modEb p (fun e => { e with resumeAtRepeat := true })).degrade p 2 false |>.portRefresh p else s) s
/-- A logical lane goes out of use (R241). -/
def State.laneOut (s : State) (u : Nat) : State :=
  let s := ((s.set u Lane.RETIRED 1).set u Lane.SELFTEST_OK 0).setSt u .off 0x41
  let k := uInst u
  let staged := s.commits.any (fun c => c.staged && c.uid == clU k && setVal s.part c.snap (clU k) 0 Clus.EN (uSub u - 1) == 1)
  if staged then s.stageLost 3 u else s
/-- The self-test of a lane (R241): `bad` tells that its physical lane fails. -/
def State.laneTest (s : State) (u : Nat) (bad : Bool) : State :=
  let c := clU (uInst u)
  let sp := c + 9
  if s.reg u Lane.RETIRED = 1 then s.setSt u .off 0x41
  else if !bad then s.set u Lane.SELFTEST_OK 1
  else if u = sp then
    let i := s.reg sp Lane.PHYS
    let s := (((s.set sp Lane.RETIRED 1).set sp Lane.SELFTEST_OK 0).set sp Lane.PHYS 0).setSt sp .off 0x41
    let s := s.audit 7 sp (leBytes 4 sp)
    if i = 0 then s else s.laneOut (c + i)
  else if s.reg sp Lane.RETIRED = 0 ∧ s.reg sp Lane.PHYS = 0 ∧ s.reg sp Lane.SELFTEST_OK = 1 then
    let ph := s.reg u Lane.PHYS
    let s := ((s.set sp Lane.PHYS (uSub u)).set u Lane.PHYS 9).set u Lane.SELFTEST_OK 1
    (s.raise Ev.EB_SPARE_IN u ph).audit 7 u (leBytes 4 sp)
  else
    let s := (s.audit 7 u (leBytes 4 0)).laneOut u
    if s.reg u Lane.PHYS = 9 then ((s.set sp Lane.PHYS 0).set sp Lane.RETIRED 1).setSt sp .off 0x41 else s

/-- SPARE_FREE of a cluster follows its spare; LANE_GOOD, the lanes that run, follows every command (Settle.lean). -/
def State.clusRegs (s : State) (c : Nat) : State :=
  let u := clU c
  let free : Bool := s.reg (u + 9) Lane.RETIRED == 0 && s.reg (u + 9) Lane.SELFTEST_OK == 1 && s.reg (u + 9) Lane.PHYS == 0
  s.set u Clus.SPARE_FREE (b2n free)

/-! ### What an abort leaves (R104, R119, R187, R270, R272, R302, R361, R403, R412, R448) -/

/-- The lines of a port that Eyebright has not decided carry UNINSPECTED. -/
def State.ebUndecided (s : State) (p : Nat) : State :=
  (s.ebLeaves p false).modRing p (fun r => { r with inFlight := [], blocks := r.blocks.map (fun b => { b with
    lines := b.lines.map (fun l => { l with flags := orFlag l.flags Ln.UNINSPECTED (!l.ebDone), ebDone := true }) }) })
/-- ABORT of a port. -/
def State.portAbort (s : State) (p seq : Nat) : State :=
  let s := match (s.port p).capture with | some _ => s.capEnd p St.ABORTED 0 [seq] | none => s
  let s := s.reliefStop p St.ABORTED
  let s := if s.jobState == 3 && s.stagedPorts.contains p then { s with job := { s.job with noStart := p :: s.job.noStart } } else s
  let s := if !(s.port p).jobOn then s else
    let s := (s.ebStop p).ebUndecided p
    let s := [0, 1].foldl (fun (s : State) k => s.setC (clU k) p Ctx.HELD_STOP 0 0) s
    let s := (s.gapStopped p (s.lc p).nextLine 0).windowsEnd p 8
    (s.modPort p (fun x => { x with jobOn := false, hold := false, rejoin := false })).portLeavesScan p
  (s.portHalt p).setSt (portU p) .idle
/-- ABORT of one AFE channel: its calibration ends. -/
def State.afeAbort (s : State) (p c : Nat) : State :=
  let hit := match (s.port p).relief with | some r => r.chan == c || r.meas == c | none => false
  let q := (s.port p).queueCal.filter (fun r => r.chan != c)
  let some_ : Bool := hit || q.length != (s.port p).queueCal.length
  let s := if hit then s.reliefAbort p else s
  let s := s.modPort p (fun x => { x with queueCal := q })
  if some_ then s.calFinish (some St.ABORTED) p else s
/-- ABORT of a line clock: it fires no more. -/
def State.lcAbort (s : State) (p : Nat) : State := (s.modLc p (fun c => { c with aborted := true })).portRefresh p
/-- ABORT of the local Rope part: it shows IDLE until it is reset or its ROLE is written. Its pitches stay joined, since the abort itself goes down them (log entry 42). -/
def State.ropeAbort (s : State) : State := s.modRope (fun r => { r with aborted := true })
/-- A channel of a port that serves an enabled tap of its job or capture. -/
def State.chanServes (s : State) (p c : Nat) : Bool :=
  (s.port p).started && s.act (portU p) Port.CAPTURE != 1 && (tapsOn s s.active p).any (fun t => s.serving p t == c)
/-- What ABORT does in one unit. The sub-units of a port that only serve it, a channel that serves one of its taps, and strings, stand for their instance, because they cannot
be IDLE while it runs (DEDUCED, log entry 42); memory and security stop nothing. -/
def State.unitAbort (s : State) (u seq : Nat) : State :=
  let i := uInst u
  match uClass u with
  | 1 => if uSub u = 0 ∨ 0x10 ≤ uSub u ∨ s.chanServes i (uSub u - 1) = true then s.portAbort i seq else s.afeAbort i (uSub u - 1)
  | 2 => if u = refU then s else { s.comparisonStops u with ebStopped := u :: s.ebStopped.filter (· != u) }
  | 3 => s.trigAbort
  | 4 => if uSub u = 0 then s else s.dmaAbort (i * 16 + uSub u - 1)
  | 5 => s.moverAbort u
  | 6 => s.axisAbort i seq
  | 7 => if u = chainU then s.chainHalt else s.lampAbort i seq
  | 8 => if u = encU then s else s.lcAbort i
  | 9 => if u = ropeU then s.ropeAbort else s
  | 0xC => (List.range 8).foldl (fun (s : State) p => s.reliefAbort p) s
  | 0xD => s.hareStop i
  | _ => s
/-- Pitches of depth of subtree k: as many as it has members, where they stand in a row, and no more than R459 lets a Rope have below this device. -/
def State.subDepth (s : State) (k : Nat) : Nat := min (max 1 (s.reg ropeU Rope.SUB_MEMBERS k)) (10 - s.reg ropeU Rope.DEPTH)
/-- The bound of R104 in ticks, from the state at acceptance. The chain port, which has no row there, takes that of the lamps (DESIGN CHOICE, log entry 42). The bound of an axis is rounded up to a whole tick (DESIGN CHOICE, log entry 66). A subtree has the bound of its
slowest member, which is no less than that of an axis at rest and else not known here (a free value, log entry 42), and 2 µs for each pitch below this device. -/
def State.abortBound (s : State) (u : Nat) : Nat :=
  match uClass u with
  | 1 => 32000
  | 2 => 80000
  | 3 => 8000
  | 4 => 3200
  | 5 => 8000
  | 6 => cdiv ((velOf (s.axis (uInst u)).v48).natAbs * 1600000000) (max 1 (s.act (axU (uInst u)) Axis.AQUICK)) + 160000
  | 0xC => 32000
  | 9 => if u = ropeU then 16000 else 160000 + Config.freeNat (s.draw + u % 16) + 3200 * (s.subDepth (u % 16))
  | _ => 1600
/-- Units whose abort stops something. -/
def abortStops (u : Nat) : Bool := !([0xA, 0xB].contains (uClass u)) && u != refU && u != encU
/-- The units of an abort that act for themselves: a unit whose instance is addressed too is covered by it, but for DMA channels and subtrees. -/
def abortTargets (us : List Nat) : List Nat :=
  us.filter (fun u => abortStops u && (uSub u == 0 || uClass u == 4 || uClass u == 9 || !us.contains (u - uSub u)))
/-- UID a lies within unit or group b (R17, R105). -/
def within (a b : Nat) : Bool :=
  a == b || b == 0 || (uInst b == 15 && uSub b == 0 && uClass a == uClass b) || (b == 0x9000 && uClass a == 9) ||
  (uSub b == 0 && uClass a == uClass b && uInst a == uInst b && classSubs (uClass b) != [] && a != 0)
/-- PURGE: queued NORMAL packets within the unit or group are discarded and answered in queue order (R105). -/
def State.purge (s : State) (uid seq : Nat) : State :=
  let q := s.normalQ.waiting
  let hit := q.filter (fun k => within k.uid uid)
  let s := { s with normalQ := { s.normalQ with waiting := q.filter (fun k => !within k.uid uid) } }
  hit.foldl (fun (s : State) k => s.answer k St.ABORTED [seq]) s
/-- The work that runs on the addressed units, but for that of memory and the sequencer, ends (R105). -/
def State.abortWorks (s : State) (uid seq : Nat) : State :=
  s.works.foldl (fun (s : State) w =>
    if s.works.contains w && within w.uid uid && uClass w.uid != 0xA && uClass w.uid != 0xB && w.uid != 0 then s.workEnd w St.ABORTED [seq]
    else if s.works.contains w && uid == 0 && w.op == 0x90 then s.workEnd w St.ABORTED [seq]
    else s) s
/-- One unit of an abort stops: it waits while it is not at rest. A unit already stopping takes the earlier bound. -/
def State.abortOne (s : State) (u seq : Nat) : State × List (Nat × Nat) :=
  let was := s.stOf u
  let b := s.now + s.abortBound u
  match (s.aborts.flatMap (·.waiting)).find? (fun w => w.1 == u) with
  | some w => (s, [(u, min w.2 b)])
  | none =>
    if was = .fenced ∨ was = .off then (s, [])
    else
      let s := s.unitAbort u seq
      let wait : Bool := was != .idle && !s.fenced u && (uClass u != 9 || u == ropeU) && (uClass u != 6 || (s.axis (uInst u)).gen != 0) && (uClass u != 4 || (s.dma (uInst u * 16 + uSub u - 1)).st == 3)
      if wait then (s.setSt u .stopping, [(u, b)]) else (s, [])
/-- The subtree groups that an ABORT or RESET_UNIT of a UID reaches (R470). -/
def State.subtreesOf (s : State) (uid : Nat) : List Nat :=
  if uid = 0 ∨ uid = 0x9000 then s.downs.map subU else if 0x9010 ≤ uid ∧ uid ≤ 0x9013 ∧ s.downs.contains (uid - 0x9010) then [uid] else []

/-! ### Fences of every class -/

/-- A BRIDGE or drive axis is fenced (R382, R402): it stops, its work ends. -/
def State.axisFence (s : State) (a reason cause : Nat) : State :=
  let u := axU a
  if s.fenced u then s else
  let s := (s.scanLost a cause).axisHalt a
  let s := if (s.axis a).home.isSome then s.axisWorkEnd a 0x46 St.FENCED [u] else if (s.axis a).ident.isSome then s.axisWorkEnd a 0x45 St.FENCED [u] else s
  let ps := (scanUsers s s.active a).filter (fun p => (s.port p).jobOn && !s.fenced (portU p))
  s.fenceServing u reason ps
/-- Every pitch of the local part goes down with its fence (R458, R471). -/
def State.ropeFence (s : State) (reason : Nat) : State :=
  if s.fenced ropeU then s else
  let s := [0, 1, 2, 3, 4].foldl (fun (s : State) k => s.pitchBreak k) s
  s.fenceUnit ropeU reason
/-- A sub-unit of a port without which the port makes no lines to its figures (R28): its pipeline and its generator; its exposure timer with SHUTTER 1; its lane receiver
with digital lanes; a converter channel that serves a tap, for which no spare stands in under R153. -/
def State.portNeeds (s : State) (p k : Nat) : Bool :=
  let lanes : Bool := s.act (portU p) Port.CAPTURE == 1
  if k = 0x12 then s.act (portU p) Port.SHUTTER == 1 else if k = 0x10 then lanes else if 0x11 ≤ k then true
  else !lanes && (tapsOn s s.active p).any (fun t => s.serving p t + 1 == k)
/-- Fence a unit of any class. -/
def State.unitFence (s : State) (u reason : Nat) : State :=
  let i := uInst u
  if s.stOf u = .off then s else
  match uClass u with
  | 1 => if uSub u = 0 then s.fencePort i reason
    else let s := s.fenceUnit u reason
      if s.portNeeds i (uSub u) then s.fencePort i Fr.MEMBER_FENCED else s
  | 2 => ((s.servedBy u).foldl (fun (s : State) p => if (s.port p).jobOn then s.degrade p 2 true else s) (s.comparisonStops u)).fenceServing u reason (s.servedBy u)
  | 4 => if uSub u = 0 then s else s.dmaFence (i * 16 + uSub u - 1) reason
  | 6 => s.axisFence i reason (if reason = Fr.FROZE then 1 else 2)
  | 7 => if u = chainU then s.chainHalt.fenceUnit u reason
    else if uSub u = 0 then s.lampFence i reason
    else let s := s.fenceUnit u reason
      if [1, 2].contains (s.roleOf i (uSub u)) then s.lampGroupOff i else s
  | 8 => if u = encU then s else s.fenceServing u reason [i]
  | 9 => if u = ropeU then s.ropeFence reason else if 0x9010 ≤ u then (s.fenceUnit u reason).subShow (u - 0x9010) else s
  | 0xD => (s.hareStop i).fenceUnit u reason
  | _ => s.fenceUnit u reason
/-- The units that R34 fences. -/
def unlockUnits : List Nat :=
  (List.range 8).map portU ++ (List.range 8).map axU ++ (List.range 8).map lampU ++ (List.range 4).map hareU ++ [ropeU]

/-! ### RESET_UNIT (R30, R31, R35, R106) -/

/-- R30: pending commits go, the shadow takes the active copy, RESET fields come into force, the fence ends. A staged commit stays: R439 names the three cases in which it is
withdrawn, and this is none of them (DEDUCED, log entry 85). -/
def State.resetCommon (s : State) (u : Nat) : State :=
  let s := { s with
    commits := s.commits.filter (fun c => c.uid != u || c.staged), openSets := s.openSets.filter (fun o => o.1 != u), shadow := RegMap.replace s.shadow u (RegMap.ofUid s.active u) }
  let m := (pageOf u).foldl (fun m f => if f.chg = .reset then putVal s.part m u 0 f 0 (s.reg u f) else m) s.active
  let s := { s with active := m }
  let off : Bool := (s.unit u).st == .off
  let sub : Bool := 0x9010 ≤ u && u ≤ 0x9013
  if off || sub then s else s.setSt u .idle
/-- The line clock of a port that rejoins its job takes up the job's present repeat (R31, R199), by the lines that have passed since unfired; a repeat that begins with the next line is still to come. -/
def State.lcCatchUp (s : State) (p : Nat) : State :=
  let c := s.lc p
  let rl := max 1 (s.act (lcU p) Lc.REPEAT_LINES)
  let v := c.nextLine + c.ghost
  let count : Bool := s.repSrc p == 0
  let k := if count then c.repBase + (v - 1) * 256 / rl - c.repNo else (v - 1 - c.repFirst) * 256 / rl
  let no := c.repNo + k
  let first := if count then repLine rl (no - c.repBase) else c.repFirst + repLine rl k
  let s := s.modLc p (fun c => { c with
    nextLine := v, ghost := 0, repNo := no, repFirst := if k = 0 then c.repFirst else first, mPrev := c.mPrev.map (fun m => m + Int.ofNat (k * rl)), next := if k = 0 then c.next else none,
    skipFrom := none })
  s.set (lcU p) Lc.REPEAT_NUM no
/-- A port or line clock that has been reset rejoins the job of its port at the next repeat boundary (R31, R199), where the port's active segment holds a checked set (R221). -/
def State.portRejoin (s : State) (p : Nat) : State :=
  let job : Bool := s.reg devU Job.ACTIVE_VALID == 1 && tbit (s.reg devU Job.JOB_PORTS) p && s.jobState != 4
  if !job || s.reg (pipeU p) Pipe.ACTIVE_OK == 0 || s.fenced (portU p) || s.fenced (lcU p) || (s.lc p).aborted || (s.port p).rejoin then s else
  let s := (((s.lcReady p).lcCatchUp p).modPort p (fun x => { x with jobOn := true, rejoin := true })).scanRejoin p
  s.setSt (portU p) .waiting
/-- What a reset does beyond R30, by class. `bad`: the lane fails its self-test. `was`: the unit was fenced, or is a local Rope part whose links do not outlast
the reset. -/
def State.resetClass (s : State) (u : Nat) (was bad : Bool) : State :=
  let i := uInst u
  let s := if uClass u = 2 then { s with ebStopped := s.ebStopped.filter (· != u) } else s
  match uClass u with
  | 1 => if uSub u = 0 then (s.portHalt i).portRejoin i else s
  | 2 => if u = refU then s else if uSub u = 0 then s.comparisonStarts u else ((s.laneTest u bad).clusRegs i).comparisonStarts u
  | 3 => (s.modTrig (fun t => { t with armed := false, armAt := none, pulses := [], reports := [], events := [], waiting := [], conds := List.replicate 32 {}, dets := List.replicate 8 {} })).trigState false
  | 4 => if uSub u = 0 then s else
    let k := i * 16 + uSub u - 1
    (s.dmaTo k (fun d => { d.clear with st := 0 })).setSt u .idle
  | 6 =>
    let s := (s.linkLeave i).modAxis i (fun x => { x with queue := [], kept := none, move := none, gen := 0, prof := {}, after := 0, off := false, vmotLow := false, faulted := 0, stallRun := 0, setPos := none })
    ((s.set u Axis.FAULT 0).axisDisturb i).axisRegs i
  | 7 =>
    if u = chainU then
      (((s.set u Chain.CHAIN_FAULT 0).set u Chain.LEN_FAULT 0).chainHalt).modChain (fun c => { c with bad := 0, latched := none })
    else if uSub u = 0 then ((s.set u Lamp.DARK 0).lampLights i).lampRefresh i
    else
      let k := uSub u
      let out : Bool := (s.lamp i).spareFor == some k
      if !was && !out then s else
      let s := (s.set u Str.FAULT 0).modLamp i (fun l => { l with back := k :: l.back })
      (s.lampLights i).lampRefresh i
  | 8 => if u = encU then s else
    ((s.modLc i (fun c => { c with aborted := false })).portRejoin i).portRefresh i
  | 9 => if u = ropeU then (if was ∨ s.linkSt 4 ≠ 2 then s.ropeBegin else s.ropeKeeps) else if 0x9010 ≤ u then s.subReset (u - 0x9010) else s
  | 0xA => (((s.set u R.Mem.CE_COUNT 0).set u R.Mem.UE_COUNT 0).set u R.Mem.SCRUB_PASSES 0).set u R.Mem.MRAM_CE 0
  | _ => s
/-- RESET_UNIT of one unit. While the time base has no lock, a unit of R34 is fenced again at once (R35). -/
def State.unitReset (s : State) (u : Nat) (fails : List Nat) : State :=
  let was := s.fenced u || (u == ropeU && s.ropeChanges)
  if s.stOf u = .off ∧ (s.unit u).st ≠ .off then s else
  let s := (s.resetCommon u).resetClass u was (fails.contains u)
  if s.sys.unlocked && unlockUnits.contains u then s.unitFence u Fr.TIME_BASE_UNLOCK else s
/-- The resets of a unit or group, after its aborts (R106): sub-units before their instance. The sequencer is reset where it is a member (R107). -/
def State.resetUnits (s : State) (uid seq : Nat) (us fails : List Nat) : State :=
  let subs := us.filter (fun u => uSub u != 0)
  let tops := us.filter (fun u => uSub u == 0)
  let s := (subs ++ tops).foldl (fun (s : State) u => s.unitReset u fails) s
  let s := if uid = 0 then (s.resetCommon devU).tjFlags else s
  let s := if uid = encU ∨ uid = refU then s.resetCommon uid else s
  if us.contains secU then s.seqReset seq else s

/-! ### Aborts as commands (R22, R23, R104 to R106, R470) -/

/-- The packet that an abort answers. -/
def AbortSt.pkt (a : AbortSt) : Pkt :=
  { op := if a.reset then 2 else 1, tag := a.tag, uid := a.uid, flags := a.flags, params := [], seq := a.seq, urgent := a.urgent }
/-- The units of an abort: every member here, and on the Rope only this device's own (R470). -/
def AbortSt.units (a : AbortSt) : List Nat := if a.rope then ownUnits else members a.uid
/-- The reply of an abort, or STATUS DONE up the Rope. Of several late members the lowest UID is named, because they are fenced at one instant where their bounds are
equal (DESIGN CHOICE, log entry 42). -/
def State.abortReply (s : State) (a : AbortSt) : State :=
  if a.rope then s.ropeSend 4 (s.status 4 true allNodes [a.tag])
  else if a.noReply then s
  else match a.late with
    | [] => s.answerAbort a.pkt St.OK [0]
    | l => if a.reset then s.answerAbort a.pkt St.OK [0] else s.answerAbort a.pkt St.FENCED [l.min?.getD 0]
/-- Aborts with nobody left to wait for end: resets follow, then the reply, which waits for the firmware where the sequencer was reset (R107). -/
def State.abortsSettle (s : State) : State :=
  s.aborts.foldl (fun (s : State) a =>
    if a.waiting != [] || a.boot then s else
    let s := if a.reset then s.resetUnits a.uid a.seq a.units a.fails else s
    let left := s.aborts.erase a
    if a.reset && s.sec.booting.isSome && a.units.contains secU then { s with aborts := left ++ [{ a with boot := true }] }
    else ({ s with aborts := left } : State).abortReply a) s
/-- An ABORT or RESET_UNIT begins. -/
def State.abortBegin (s : State) (a : AbortSt) : State :=
  let us := a.units
  let s := { s with commits := s.commits.map (fun c => if us.contains c.uid then { c with kept := true } else c) }
  let s := if a.uid = 0 then s.jobAborted a.seq else s
  let r := (abortTargets us).foldl (fun (x : State × List (Nat × Nat)) u =>
    let y := x.1.abortOne u a.seq
    (y.1, x.2 ++ y.2)) (s, [])
  let s := r.1.abortWorks a.uid a.seq
  let subs := if a.rope then s.downs.map subU else s.subtreesOf a.uid
  let src := if a.rope then a.src else s.node
  let s := subs.foldl (fun (s : State) u => s.ropeSend (u - 0x9010) { s.status (if a.reset then 3 else 2) false allNodes [b2n (tbit a.flags 2), a.tag] with src := src }) s
  let w := r.2 ++ subs.map (fun u => (u, s.now + s.abortBound u))
  let s := if subs = [] then s else { s with draw := s.draw + 4 }
  let s := { s with aborts := s.aborts ++ [{ a with waiting := w }] }
  (if tbit a.flags 2 then s.purge a.uid a.seq else s).abortsSettle
/-- A unit leaves every abort that waits for it. -/
def State.abortLeaves (s : State) (u : Nat) : State :=
  { s with aborts := s.aborts.map (fun (a : AbortSt) => { a with waiting := a.waiting.filter (fun w => w.1 != u) }) }
/-- A waiting unit can complete: an axis must stand. -/
def State.canComplete (s : State) (u : Nat) : Bool :=
  (uClass u != 9 || u == ropeU) && (uClass u != 6 || ((s.axis (uInst u)).prof.v == 0 && (s.axis (uInst u)).gen == 0))
/-- A unit reaches IDLE. -/
def State.abortDone (s : State) (u : Nat) : State :=
  let s := s.abortLeaves u
  match uClass u with
  | 4 => s.dmaAborted (uInst u * 16 + uSub u - 1)
  | 6 => s.axisRegs (uInst u)
  | _ => s.setSt u .idle
/-- The waiting members of a unit or group complete (ABORT_COMPLETION). -/
def State.abortCompletes (s : State) (uid : Nat) : State :=
  let us := ((s.aborts.flatMap (·.waiting)).map (·.1)).eraseDups
  let s := (us.filter (fun u => within u uid && s.canComplete u)).foldl (fun (s : State) u => s.abortDone u) s
  s.abortsSettle
/-- A waiting member has not completed within its bound: it is fenced (ABORT_LATE, R23). -/
def State.abortLate (s : State) (u : Nat) : State :=
  if !s.aborts.any (fun a => a.waiting.any (fun w => w.1 == u && decide (w.2 ≤ s.now))) then s else
  let s := { s with aborts := s.aborts.map (fun (a : AbortSt) => if a.waiting.any (fun w => w.1 == u) then { a with late := a.late ++ [u] } else a) }
  ((s.abortLeaves u).unitFence u Fr.ABORT_LATE).abortsSettle
/-- A unit that is fenced while an abort waits for it counts as complete (R23). -/
def State.abortFenced (s : State) : State :=
  let us := ((s.aborts.flatMap (·.waiting)).map (·.1)).filter s.fenced
  if us = [] then s else (us.foldl (fun (s : State) u => s.abortLeaves u) s).abortsSettle
/-- ABORT or RESET_UNIT as a packet. -/
def State.cmdAbort (s : State) (k : Pkt) (reset : Bool) (fails : List Nat) : State :=
  s.abortBegin { uid := k.uid, waiting := [], tag := k.tag, seq := k.seq, flags := k.flags, urgent := k.urgent, reset := reset, fails := fails }
/-- A Function Level Reset is an ABORT of 0x0000 that nobody is told of (R66). No ABORT command asks for it, nor for one of the Rope: what it ends with ST_ABORTED names the last command
accepted (DESIGN CHOICE, log entry 43). -/
def State.abortQuiet (s : State) : State :=
  s.abortBegin { uid := 0, waiting := [], tag := 0, seq := s.cmdSeq, urgent := true, noReply := true, reset := false }
/-- STATUS ABORT or RESET comes down the Rope (R470). The operand `tag` of its row holds w5 of the message, and above it word 1, the node where it arose (R461). -/
def State.rxStop (s : State) (k purge tag : Nat) (reset : Bool) (fails : List Nat) : State :=
  if k != 4 || s.linkSt 4 != 2 then s else
  s.abortBegin { uid := 0, waiting := [], tag := tag % 65536, seq := s.cmdSeq, flags := purge % 2 * 4, urgent := true, reset := reset, rope := true, src := tag / 65536 % 2 ^ 18, fails := fails }
/-- STATUS DONE comes up from pitch k (R470). -/
def State.rxDone (s : State) (k tag : Nat) : State :=
  if 4 ≤ k || s.linkSt k != 2 then s else
  let u := subU k
  { s with aborts := s.aborts.map (fun (a : AbortSt) => if a.tag = tag then { a with waiting := a.waiting.filter (fun w => w.1 != u) } else a) }.abortsSettle
/-- The firmware is ready, or the ROM has found none (FIRMWARE_READY). -/
def State.firmwareReady (s : State) : State :=
  let s := s.bootEnds
  if s.reg bar0 Cmd.SEQ_RUNNING = 0 then s else
  let done := s.aborts.filter (·.boot)
  let s := { s with aborts := s.aborts.filter (fun a => !a.boot) }
  done.foldl (fun (s : State) a => s.abortReply a) s

end Sys2Proof.Machine
end

