-- ==== Sys2Proof/Machine/Power.lean ====
section
/-! DEFINITION. Power domains (R526 to R533), loss of lock (R34, R35), freeze and thaw (R542 to R550), device resets and start-up (R534 to R541). -/
namespace Sys2Proof.Machine
open R

/-! ### Domains (R526 to R532) -/

/-- The domains that a domain needs (R526). -/
def domainNeeds (d : Nat) : List Nat :=
  if 1 ≤ d ∧ d ≤ 8 then [14, 15, 21] else if (9 ≤ d ∧ d ≤ 12) ∨ d = 23 then [14, 15] else if d = 19 then [21] else []
/-- The units of a domain. -/
def unitsIn (d : Nat) : List Nat := (allUnits ++ [encU, refU]).filter (fun u => domainOf u == d)
/-- What is held in MRAM of the pages of some units stays; the rest of the live registers goes. -/
def State.keepMram (s : State) (us : List Nat) : RegMap :=
  us.foldl (fun (m : RegMap) u =>
    (pageOf u).foldl (fun (m : RegMap) f =>
      if !f.mram then m else
      (List.range (max 1 f.count)).foldl (fun (m : RegMap) i => match RegMap.find s.live (regKey u 0 f i) with
        | some v => RegMap.put m (regKey u 0 f i) v
        | none => m) m) m) []
/-- RESET fields of some units come into force as they stand (R11). -/
def State.resetFields (s : State) (us : List Nat) : State :=
  us.foldl (fun (s : State) u =>
    { s with active := (pageOf u).foldl (fun m f => if f.chg = .reset then putVal s.part m u 0 f 0 (s.reg u f) else m) s.active }) s
/-- Held state of the instances of a domain is lost (R528). What a spare stands in for is kept in MRAM. -/
def State.domainLost (s : State) (d : Nat) : State :=
  if 1 ≤ d ∧ d ≤ 8 then
    let p := d - 1
    { s with ports := upd s.ports p (fun _ => {}), lcs := upd s.lcs p (fun _ => {}), rings := upd s.rings p (fun _ => {}), ebs := upd s.ebs p (fun _ => {}) }
  else if d = 11 then { s with trig := { gpio := s.trig.gpio, lampSeen := s.trig.lampSeen } }
  else if d = 12 then
    let s := (List.range 64).foldl (fun (s : State) k => ((s.set bar0 Db.STATE 0 k).set bar0 Db.CUR_LO 0 k).set bar0 Db.CUR_HI 0 k) s
    { s with dmas := s.dmas.map (fun _ => {}) }
  else if d = 18 then
    { s with axes := s.axes.map (fun (a : AxisSt) => { inputs := a.inputs.map (fun i => { raw := i.raw, deb := i.raw }) }), links := [], belays := s.belays.map (fun _ => {}), vmot := [[], []] }
  else if d = 19 then
    { s with lamps := s.lamps.map LampSt.kept, chain := {}, hares := s.hares.map (fun _ => {}) }
  else if d = 20 then { s with ropeS := { sent := s.ropeS.sent } }
  else s
/-- A domain goes off (R528). The page of the memory unit keeps what training and the map fixed (R530). -/
def State.powerOff (s : State) (d : Nat) : State :=
  let us := (unitsIn d).filter (· != memU)
  let s := if d = 20 then [0, 1, 2, 3, 4].foldl (fun (s : State) k => s.pitchBreak k) s else s
  let kept := s.keepMram us
  let other := fun (k : Nat) => !us.contains (keyUid k)
  let s := { s with
    live := RegMap.join kept (s.live.filter (fun p => other p.1)), active := s.active.filter (fun p => other p.1), shadow := s.shadow.filter (fun p => other p.1),
    openSets := s.openSets.filter (fun o => !us.contains o.1), commits := s.commits.filter (fun c => !us.contains c.uid),
    units := s.units.filter (fun x => !us.contains x.1), results := s.results.filter (fun r => !us.contains r.1) }
  let s := s.domainLost d
  let s := if d = 23 then (List.range 8).foldl (fun (s : State) p => s.set (pipeU p) Pipe.STAGED_OK 0) s else s
  s.set devU Pd.PD_STAT (setBit (s.reg devU Pd.PD_STAT) d false)
/-- A domain comes on: its units wait until they have passed R529. -/
def State.powerOn (s : State) (d : Nat) : State :=
  let s := s.set devU Pd.PD_STAT (setBit (s.reg devU Pd.PD_STAT) d true)
  let us := (unitsIn d).filter (· != memU)
  let s := s.resetFields us
  let s := us.foldl (fun (s : State) u => s.setSt u .waiting) s
  { s with pow := { s.pow with coming := s.pow.coming ++ [d] } }
/-- Nominal sums of a calibration, taken where no measurement is given (log entry 6). -/
def nominalCal : Nat × Nat := (1048576, 14680064)
/-- One channel is calibrated in place for gain code 0 (R149, R150, R160). -/
def State.calibrateZero (s : State) (p c : Nat) (ms : List (Nat × Nat)) : State :=
  if s.reg (chanU p c) Afe.SUSPECT = 1 then s else
  let r : Relief := { tap := 15, chan := c, meas := c, phase := 3, gains := [0], inPlace := true, alone := true }
  let s := s.modPort p (fun x => { x with relief := some r })
  (ms ++ List.replicate 6 nominalCal).foldl (fun (s : State) m => (s.calSums p m.1 m.2).1) s
/-- A port comes up: retired channels, the spare in its place, and every other channel calibrated (R153, R160). -/
def State.portUp (s : State) (p : Nat) (o : Outcomes) : State :=
  let spare := s.reg (portU p) Port.SPARE_TAP
  let s := (List.range 8).foldl (fun (s : State) c => if s.reg (chanU p c) Afe.SUSPECT = 1 then s.set (chanU p c) Afe.TAP 0xF else s) s
  let s := if spare < 8 ∧ s.reg (chanU p 8) Afe.SUSPECT = 0 then s.set (chanU p 8) Afe.TAP spare else s
  (List.range 9).foldl (fun (s : State) c => s.calibrateZero p c (((o.cals.find? (fun x => x.1 == chanU p c)).map (·.2)).getD [])) s
/-- The units of a domain become IDLE (R529): records, queue self-test, lanes, calibration. A unit whose queue fails is fenced with SELF_TEST (R539). -/
def State.domainUp (s : State) (d : Nat) (o : Outcomes) : State :=
  let us := unitsIn d
  let s := us.foldl (fun (s : State) u =>
    let gone : Bool := (uClass u == 1 && 1 ≤ uSub u && uSub u ≤ 9 && s.reg u Afe.SUSPECT == 1) || (uClass u == 2 && u != refU && uSub u != 0 && s.reg u Lane.RETIRED == 1)
    if gone then s.setSt u .off 0x41 else if s.fenced u || (0x9010 ≤ u && u ≤ 0x9013) then s else s.setSt u .idle) s
  let s := if d = 9 ∨ d = 10 then ([9, 1, 2, 3, 4, 5, 6, 7, 8].foldl (fun (s : State) k => s.laneTest (clU (d - 9) + k) (o.lanes.contains (clU (d - 9) + k))) s).clusRegs (d - 9) else s
  let s := if 1 ≤ d ∧ d ≤ 8 then s.portUp (d - 1) o else s
  let s := if d = 20 then s.ropeBegin else s
  (us.filter (fun u => o.queues.contains u)).foldl (fun (s : State) u => s.unitFence u Fr.SELF_TEST) s
/-- DOMAIN_READY. -/
def State.domainReady (s : State) (d : Nat) (o : Outcomes) : State :=
  if !s.pow.coming.contains d then s else
  { s with pow := { s.pow with coming := s.pow.coming.filter (· != d) } }.domainUp d o
/-- The work of POWER_SET ends when every domain switched on has come up (R527, R563). -/
def State.powerWork (s : State) : State :=
  match s.workOf 0x90 devU with
  | some w => if s.pow.coming.any (fun d => w.data.contains d) then s else s.workEnd w St.OK [s.reg devU Pd.PD_STAT]
  | none => s

/-- Bits set in a mask, ascending. -/
def maskBits (m : Nat) : List Nat := (List.range 24).filter (fun d => tbit m d)
/-- The units in the scope of the running, staged or pending job (R435, R528). -/
def State.jobScopes (s : State) : List Nat :=
  let run := if s.reg devU Job.ACTIVE_VALID = 1 then
      (List.range 8).flatMap (fun p => if tbit (s.reg devU Job.JOB_PORTS) p then [portU p, lcU p] else []) ++ s.slotScope (s.reg devU Job.ACTIVE_SLOT)
    else []
  run ++ s.job.scope ++ (if s.jobState = 1 then s.slotScope (s.reg devU Job.STAGED_SLOT) else [])
/-- R528 lets a domain go off. -/
def State.mayGoOff (s : State) (d : Nat) : Bool :=
  if d = 20 ∨ d = 22 then true
  else if d = 23 then s.jobState == 0
  else
    let scope := s.jobScopes
    (unitsIn d).all (fun u => !s.working u && s.stOf u != .stopping && !scope.contains u)
/-- The first dependency that a set of domains breaks (R526, R527): the domain needed, or the one still needing. -/
def powerDep (now on : Nat) : Option Nat :=
  (maskBits now).findSome? (fun d => (domainNeeds d).findSome? (fun n => if tbit now n then none else some (if tbit on d then n else d)))
/-- POWER_SET (R527, R563). -/
def State.cmdPowerSet (s : State) (k : Pkt) : Answer :=
  let on := k.p 0
  let off := k.p 1
  let stat := s.reg devU Pd.PD_STAT
  let next := (List.range 24).foldl (fun (m : Nat) d => m + b2n ((tbit stat d || tbit on d) && !tbit off d) * 2 ^ d) 0
  let fixed := (List.range 24).find? (fun d =>
    ((tbit on d || tbit off d) && [0, 13, 16, 17].contains d) || (s.part.part == 0x8140 && tbit on d && 5 ≤ d && d ≤ 8))
  s.unless (firstOf [badParam (on < 2 ^ 24) 0, badParam (off < 2 ^ 24) 1, badParam ((on &&& off) == 0) 1, badParam (tbit on 14 == tbit on 15) 0, badParam (tbit off 14 == tbit off 15) 1,
    fixed.map (fun d => (St.UNSUPPORTED, [d])), (powerDep next on).map (fun d => (St.POWER_DEP, [d])),
    ((maskBits off).find? (fun d => tbit stat d && !s.mayGoOff d)).map (fun d => (St.BUSY, [d]))]) (fun _ =>
    let ups := (maskBits on).filter (fun d => !tbit stat d)
    let s := s.workStart k devU ups
    let s := ((maskBits off).filter (fun d => tbit stat d)).reverse.foldl (fun (s : State) d => s.powerOff d) s
    let s := ups.foldl (fun (s : State) d => s.powerOn d) s
    let s := if k.flag 8 then s.set devU Pd.PD_BOOT (s.reg devU Pd.PD_STAT) else s
    (s.raise Ev.POWER_CHANGE devU (s.reg devU Pd.PD_STAT), St.OK, []))

/-! ### Loss of lock (R34, R35) -/

/-- The time base loses lock. -/
def State.timebaseUnlock (s : State) : State :=
  if s.sys.unlocked then s else
  let s := { s with sys := { s.sys with unlocked := true } }.raise Ev.TIMEBASE_UNLOCK devU 0
  unlockUnits.foldl (fun (s : State) u => s.unitFence u Fr.TIME_BASE_UNLOCK) s
/-- Lock returns: the fences stay until they are reset. -/
def State.timebaseRelock (s : State) : State :=
  if !s.sys.unlocked then s else { s with sys := { s.sys with unlocked := false } }.raise Ev.TIMEBASE_UNLOCK devU 1

/-! ### Freeze and thaw (R542 to R550) -/

/-- Put FRZ_TIME. -/
def State.frzTime (s : State) : State := (s.set frzU Frz.FRZ_TIME_LO (lo32 s.rope)).set frzU Frz.FRZ_TIME_HI (hi32 s.rope)
/-- The device freezes; a cause that arises while it is frozen has no effect. -/
def State.freeze (s : State) (source : Nat) : State :=
  if s.frozen then s else
  let s := (List.range 8).foldl (fun (s : State) g => (s.lampDark g).lampInvalidFrom g s.now) s
  let s := s.modTrig (fun t => { t with active := [] })
  let s := [0, 1, 2, 3, 4].foldl (fun (s : State) k => s.pitchBreak k) s
  let was22 := tbit (s.reg devU Pd.PD_STAT) 22
  let s := s.set devU Pd.PD_STAT (setBit (s.reg devU Pd.PD_STAT) 22 true)
  let s := { s with frozen := true, pow := { s.pow with haltAt := s.now, len := 0, pd22Off := !was22 } }
  let s := (s.frzTime.set frzU Frz.FROZEN 1).set frzU Frz.SOURCE source
  let s := (s.bump frzU Frz.COUNT).set bar0 Cmd.FROZEN 1
  s.raise Ev.FREEZE devU source
/-- FRZ_LEN: ticks of the present or last freeze (R545). -/
def State.frzLen (s : State) : Nat := if s.frozen then s.now - s.pow.haltAt else s.pow.len
/-- The units that THAW fences (R550): ports with their sub-units, line clocks, axes, lamp groups, the chain port, Harebell engines, the local Rope part. -/
def thawUnits : List Nat :=
  (List.range 8).flatMap (fun p => instUnits 1 p) ++ (List.range 8).map lcU ++ (List.range 8).map axU ++ (List.range 8).map lampU ++ [chainU] ++ (List.range 4).map hareU ++ [ropeU]
/-- Rope time is stepped forward on a device that leads or stands alone (R545). -/
def State.thawStep (s : State) (len : Nat) : State :=
  if s.role = 2 then s else
  let v := low32s (Int.ofNat len)
  ({ s with ropeT := { s.ropeT with t32 := s.ropeT.t32 + len * 2 ^ 32 } }.set ropeU Rope.STEP_LAST v).raise Ev.ROPE_STEP ropeU v
/-- Long work on a unit that THAW has fenced ends with the first fenced UID as its result (R103, R546). -/
def State.thawWorks (s : State) : State :=
  s.works.foldl (fun (s : State) w =>
    if s.works.contains w && w.uid != 0 && !([5, 0xA, 0xB].contains (uClass w.uid)) then
      match (members w.uid).find? s.fenced with | some u => s.workEnd w St.FENCED [u] | none => s
    else s) s
/-- The device resumes (R545, R546, R550). -/
def State.thawGo (s : State) : State :=
  let len := s.frzLen
  let s := { s with frozen := false, pow := { s.pow with len := len } }
  let s := (s.set frzU Frz.FROZEN 0).set bar0 Cmd.FROZEN 0
  let s := s.thawStep len
  let s := { s with aborts := s.aborts.map (fun (a : AbortSt) => { a with waiting := a.waiting.map (fun w => (w.1, w.2 + len)) }) }
  let s := (List.range 8).foldl (fun (s : State) p => s.windowsEnd p 0x100) s
  let s := thawUnits.foldl (fun (s : State) u => s.unitFence u Fr.FROZE) s
  let s := (List.range 8).foldl (fun (s : State) a => if s.powered (axU a) then s.axisDisturb a else s) s
  let s := s.thawWorks.trigFroze
  let s := s.raise Ev.THAW devU (sat32 (len / 1600))
  if s.pow.pd22Off then s.set devU Pd.PD_STAT (setBit (s.reg devU Pd.PD_STAT) 22 false) else s
/-- THAW as a packet (R544, R545, R560). A device that is not frozen has nothing to resume (log entry 43). -/
def State.cmdThaw (s : State) : Answer :=
  if s.pow.pinLow then (s, St.FROZEN, [0])
  else if !s.frozen then (s, St.OK, [lo32 s.frzLen, hi32 s.frzLen])
  else
    let s := s.thawGo
    (s, St.OK, [lo32 s.frzLen, hi32 s.frzLen])
/-- The level of FREEZE_N. -/
def State.pinSet (s : State) (low_ : Bool) : State := { s with pow := { s.pow with pinLow := low_ } }.set frzU Frz.PIN_LOW (b2n low_)
/-- READY has been reached. -/
def State.ready (s : State) : Bool := s.reg devU Pd.READY == 1
/-- FREEZE_N falls: before READY the freeze waits for it (R542). -/
def State.freezePin (s : State) : State :=
  let s := s.pinSet true
  if s.ready then s.freeze 0 else s

/-! ### Device reset and start-up (R534 to R541) -/

/-- The device in reset (R535, R541): what MRAM, fuses, the event and audit logs and the pins hold is kept, everything else is as after power-on. -/
def State.deviceReset (s : State) : State :=
  let us := allUnits ++ [encU, refU, devU]
  let r : State := { State.reset with
    pending := s.pending, part := s.part, now := s.now, live := s.keepMram us,
    evt := { log := s.evt.log }, encs := s.encs.map (fun (e : EncSt) => { a := e.a, b := e.b, z := e.z }), trig := { gpio := s.trig.gpio },
    axes := s.axes.map (fun (a : AxisSt) => { inputs := a.inputs.map (fun i => { raw := i.raw, deb := i.raw }) }),
    lamps := s.lamps.map LampSt.kept,
    ropeS := { sent := s.ropeS.sent }, slots := s.slots.map (fun x => (x.1, { x.2 with loaded := false })),
    sec := { s.sec with challenge := none, scope := 0, ownerPub := [], booting := none, repaired := false },
    memS := { retired := s.memS.retired, clear := s.memS.clear, ids := s.memS.ids, lowRaised := s.memS.lowRaised, emptyRaised := s.memS.emptyRaised, changed := s.memS.changed, trace := s.memS.trace },
    pow := { pinLow := s.pow.pinLow }, host := s.host, draw := s.draw, sys := { s.sys with inReset := true, unlocked := false, paceArmed := true, paceReqAt := none, paceHigh := none, vreq := none, stuck := false, wedged := none, dac := none } }
  r.set frzU Frz.PIN_LOW (b2n s.pow.pinLow)
/-- PORESET_N falls: THERMTRIP_N is released, and the device resets (R541, R586). -/
def State.poresetFall (s : State) : State := { s.deviceReset with sys := { s.deviceReset.sys with tripped := false } }
/-- The junction reaches the trip point (R586): the device is held in reset until PORESET_N falls. -/
def State.thermTrip (s : State) (tj : Int) : State :=
  let limit : Int := if s.part.grade = 2 then 135 * 16 else 120 * 16
  if tj < limit || s.sys.inReset then s else
  let r := s.deviceReset
  { r with sys := { r.sys with tripped := true } }

/-- A fault of a start-up step (R539). -/
def State.startFail (s : State) (step : Nat) : State := s.set devU Pd.START_FAIL (setBit (s.reg devU Pd.START_FAIL) step true)
/-- Step 4: MRAM records and the audit log (R488, R514, R537): row, whether the record is lost, and which record. -/
def State.startMram (s : State) (u : StartUp) : State :=
  (u.mram.foldl (fun (s : State) (x : Nat × Bool × Option Nat) => s.mramError x.1 (if x.2.1 then some (x.2.2.getD 0xFFFF) else none)) s).auditStart
/-- RATE code of MAX_MTS. -/
def rateOf (maxMts : Nat) : Nat := if maxMts = 0 then 3 else if maxMts = 1 then 2 else 1
/-- The retirement table is discarded when MEM_RETIRE asked for it or the packages have been exchanged (R483). -/
def State.startTable (s : State) (ids : Nat × Nat × Nat) : State :=
  let other : Bool := match s.memS.ids with | some x => x != ids | none => false
  let drop : Bool := other || s.memS.clear
  let s := if drop then { s with memS := { s.memS with retired := [], lowRaised := false, emptyRaised := false } }.set memU R.Mem.RESERVE_USED 0 else s
  let s := { s with memS := { s.memS with clear := false, ids := some ids } }
  if other then s.raise Ev.MEM_RETIRE memU (2 ^ 31) else s
/-- Step 5: training from MAX_MTS downwards (R476, R477, R478). -/
def State.startTrain (s : State) (u : StartUp) : State :=
  let want := rateOf (s.inForce memU R.Mem.MAX_MTS)
  let got := min want u.train
  let s := s.startTable u.ids
  if got = 0 ∨ !u.dense then (s.startFail 5).unitFence memU 0x40
  else
    let s := ((s.set memU R.Mem.RATE got).set memU R.Mem.CAPACITY s.part.capacity).set memU R.Mem.ECC_ACTIVE (s.inForce memU R.Mem.ECC_EN)
    if got = want then s else s.raise Ev.MEM_TRAIN memU got
/-- Steps 6 and 7 on every domain of PD_BOOT (R539): a queue that fails, or a logical lane that no spare can serve, is a fault of step 6, and a channel that fails one of step 7. -/
def State.startDomains (s : State) (u : StartUp) : State :=
  let ds := (maskBits (s.reg devU Pd.PD_STAT))
  let bad := fun (s : State) => (List.range 8).flatMap (fun p => (List.range 9).filter (fun c => s.reg (chanU p c) Afe.SUSPECT == 1))
  let lost := fun (s : State) => [0, 1].flatMap (fun c => (List.range 8).filter (fun k => s.reg (clU c + k + 1) Lane.RETIRED == 1))
  let before := bad s
  let gone := lost s
  let s := ds.foldl (fun (s : State) d => s.domainUp d u.found) s
  let s := if u.found.queues != [] || lost s != gone then s.startFail 6 else s
  if bad s != before then s.startFail 7 else s
/-- Steps 2 and 3: lock, from which Rope time counts, and the boot ROM. -/
def State.startBoot (s : State) (u : StartUp) : State :=
  let rise := s.now
  let s := u.flash.foldl (fun (s : State) x => { s with sec := { s.sec with flash := Machine.Mem.put s.sec.flash x.1 (byte x.2) } }) s
  let s := s.advance (rise + min u.lock 800000)
  let s := { s with ropeT := {}, sys := { s.sys with inReset := false, riseAt := rise, lockAt := s.now } }
  let s := if u.lock ≤ 800000 then s else s.startFail 2
  let s := s.bootFlash
  if s.reg bar0 Cmd.SEQ_RUNNING == 1 then s else s.startFail 3
/-- Steps 4 to 7. PD_STAT follows PD_BOOT, without ports 4 to 7 on the NV8140 (R533). -/
def State.startUnits (s : State) (u : StartUp) : State :=
  let boot := s.reg devU Pd.PD_BOOT &&& resetOf s.part devU Pd.PD_STAT 0
  let s := s.set devU Pd.PD_STAT boot
  let s := (s.startMram u).resetFields (allUnits ++ [devU])
  let s := if tbit boot 14 then s.startTrain u else s
  s.startDomains u
/-- Step 8. -/
def State.startReady (s : State) (u : StartUp) : State :=
  let s := s.advance (s.sys.riseAt + u.ready)
  let s := ((s.set devU Pd.PHASE 8).set devU Pd.READY 1).set devU Pd.START_US (min 0xFFFF (u.ready / 16000))
  let s := { s with sys := { s.sys with pmb := [0x20] :: s.sys.pmb } }
  let s := if u.linear16 then s else (s.set bar0 Pace.SUPPLY_FAIL 1).raise Ev.PACE_LOW devU (s.reg bar0 Pace.HEADROOM + 256)
  let s := if u.lock ≤ 800000 then s else s.timebaseUnlock
  if s.pow.pinLow then s.freeze 0 else s
/-- The rise of PORESET_N and start-up up to READY (R537 to R540). -/
def State.poresetRise (s : State) (u : StartUp) : State :=
  if !s.sys.inReset || s.sys.tripped then s else ((s.startBoot u).startUnits u).startReady u
/-- DEVICE_RESET of SMBus (R599, R600). It acts as PORESET_N held low and released; it has no effect while PORESET_N is low or the device is tripped. -/
def State.smbReset (s : State) (v : Nat) (u : StartUp) : State :=
  if v % 256 != 0xA5 || s.sys.inReset then s else s.deviceReset.poresetRise u

end Sys2Proof.Machine
end

