-- ==== Sys2Proof/Machine/Pages.lean ====
section
/-! DEFINITION. Register access from the host: unit windows with their side effects (R9, R10, R68 to R71), the event block (R96 to R100), the BAR2 aperture
(R72 to R74), the freeze read-out window (R547, R548), and the link (R62 to R67). -/
namespace Sys2Proof.Machine
open R

/-! ### Unit windows (R70) -/

/-- A window shows the page of a unit (R70, R543): not while the device is frozen, nor for a unit that is absent or whose domain is off. -/
def State.windowOk (s : State) (u : Nat) : Bool := uidOk u && !fusedOff s.part u && s.powered u && !s.frozen
/-- Unit shown in window n. -/
def State.windowUid (s : State) (n : Nat) : Nat := s.reg bar0 Cmd.UID n
/-- A read of RES_TAG (R71): the live result goes to RES_DATA, VALID and OVERWRITTEN clear. -/
def State.resTagRead (s : State) (u : Nat) : State × Nat :=
  let w := s.pageWord u 0xF00
  let r := ((s.results.find? (fun x => x.1 == u)).map (·.2)).getD []
  let s := (List.range 16).foldl (fun (s : State) i => s.set u Res.RES_DATA (nth r i) i) s
  ((s.set u Res.VALID 0).set u Res.OVERWRITTEN 0, w)
/-- Values that a page shows as they stand at the read (R143, R149, R151, R407). -/
def State.pageNow (s : State) (u : Nat) : State :=
  let p := uInst u
  if uClass u = 1 ∧ 1 ≤ uSub u ∧ uSub u ≤ 9 then (s.set u Afe.CAL_AGE (s.calAgeMs p (uSub u - 1))).set u Afe.STALE (b2n (s.chanStale p (uSub u - 1)))
  else if uClass u = 1 ∧ uSub u = 0 then (s.set u Port.CAL_SPACING (s.calTime p).1).set u Port.CAL_TP (s.calTime p).2
  else if u = calU then s.dacRun.dacShow
  else if uClass u = 7 ∧ uSub u != 0 ∧ (s.str p (uSub u)).duty != 0 then s.set u Str.LIT (b2n ((s.str p (uSub u)).lit && s.indicatorLit p (uSub u)))
  else s
/-- A read of a page word through a window: its value, and the state after it. -/
def State.pageRead (s : State) (u off : Nat) : State × Nat :=
  if !s.windowOk u || off % 4 != 0 then (s, 0) else
  let s := s.pageNow u
  if u = ropeU ∧ off = 0xC0 then
    let s := s.markPop
    (s, s.rdata.headD 0)
  else if off = 0xF00 ∧ (pageOf u).any (fun f => f.name == "RES_DATA") then s.resTagRead u
  else
    let w := s.pageWord u off
    let x := s.pageFields u off
    let s := s.rcClear u x.2 x.1
    (if u = devU ∧ off = 0x304 then s.set u Th.TJ_PEAK (s.reg u Th.TJ) else s, w)
/-- Audit a change of ROLE, NODE_ID, MAX_MTS or ECC_EN (R515, KIND 0x0B). Field numbers of DETAIL: log entry 41. -/
def State.auditChange (s before : State) (u : Nat) (f : Field) (n : Nat) : State :=
  if s.reg u f = before.reg u f then s else s.audit 0x0B u (leBytes 4 n ++ leBytes 4 (before.reg u f) ++ leBytes 4 (s.reg u f))
/-- What a write of a page word starts beyond the fields themselves. -/
def State.pageHook (s before : State) (u off w : Nat) : State :=
  if u = trigU ∧ off = 0x00C then (if tbit w 0 then s.softFire else s)
  else if u = chainU ∧ off = 0x00C then (if tbit w 0 then s.chainRestart else s)
  else if u = ropeU ∧ off = 0x000 then (s.auditChange before u Rope.ROLE 1).ropeSync
  else if u = ropeU ∧ off = 0x004 then s.auditChange before u Rope.NODE_ID 2
  else if u = memU ∧ off = 0x000 then (s.auditChange before u R.Mem.MAX_MTS 3).auditChange before u R.Mem.ECC_EN 4
  else if u = secU ∧ off = 0x01C then s.bootRecover (w / 64)
  else if u = devU ∧ off = 0x300 then (if s.part.grade = 2 then s else s.set u Th.HOT_RATE 0)
  else if u = devU ∧ off = 0x304 then s.tjFlags
  else if uClass u = 0xD then (if off = 0x000 then (s.hareLeaves before (uInst u)).hareSync (uInst u) else s.hareLeaves before (uInst u))
  else s
/-- An encoder input whose line clocks work takes no write (R174). -/
def State.encLocked (s : State) (i : Nat) : Bool :=
  (s.followers i).any (fun p => match s.stOf (lcU p) with | .running => true | .waiting => true | _ => false)
/-- A write of a page word, with the port context of a cluster page. CHAIN_LO and STATUS_LO of a channel take none unless it is IDLE (R326). -/
def State.pageWrite (s : State) (u ctx off w : Nat) : State :=
  if !s.windowOk u || off % 4 != 0 then s else
  let s := if uClass u = 0xD then s.chainBegins else s
  if uClass u = 4 ∧ uSub u ≠ 0 ∧ (off = 0x008 ∨ off = 0x010) ∧ (s.dma (uInst u * 16 + uSub u - 1)).st ≠ 0 then s
  else if u = encU ∧ s.encLocked (off / 32 % 4) ∧ off < 0x80 then
    if wordFields tabEnc off = [] then s else s.set u Enc.WR_IGNORED 1 (off / 32)
  else
    let x := s.pageFields u off
    let c := if x.2 = 0 ∧ !(uClass u == 2 && uSub u == 0 && 0x400 ≤ off && off < 0x800) then 0 else ctx
    (s.writeFields u c x.1 w).pageHook s u off w

/-! ### The event block (R96 to R100) -/

/-- ENABLE is written (R96, R98): becoming 1, the ring starts anew, EV_EVENT_LOST comes first, then the deferred events. Before READY it stays 0 (R538). Writing 1 where
it is 1 leaves EVT_WR, EVT_RD and the phase alone; R96 does not say (DESIGN CHOICE, log entry 71). -/
def State.evtEnable (s : State) (w : Nat) : State :=
  let s := s.set bar0 Evt.HOLDOFF (bits w 25 16)
  let was := s.reg bar0 Evt.ENABLE == 1
  if !tbit w 0 then s.set bar0 Evt.ENABLE 0
  else if was || !s.ready then s
  else
    let s := (((s.set bar0 Evt.ENABLE 1).set bar0 Evt.EVT_WR 0).set bar0 Evt.EVT_RD 0).set bar0 Evt.WR_PHASE 1
    let s := s.evtLostEntry
    let d := s.evt.deferred
    let s := { s with evt := { s.evt with deferred := [] } }
    d.foldl (fun (s : State) e => (if s.reg bar0 Map.RING_EN e.source == 1 then (if s.evtRoom then s.evtWrite e else s.evtLost) else s).irq e.source) s
/-- EVT_RD is written (R97). -/
def State.evtRd (s : State) (w : Nat) : State :=
  let s := if tbit w 31 then s.set bar0 Evt.RD_ERR 0 else s
  let v := w % 4096
  let rd := s.reg bar0 Evt.EVT_RD
  let span := (s.reg bar0 Evt.EVT_WR + 4096 - rd) % 4096
  if (v + 4096 - rd) % 4096 ≤ span then (s.set bar0 Evt.EVT_RD v).evtLostEntry else s.set bar0 Evt.RD_ERR 1
/-- The hold-off of a vector ends (R100): one message for the events that arrived meanwhile, which starts a new hold-off. -/
def State.holdoffEnds (s : State) (v : Nat) : State :=
  match s.evt.hold.find? (fun h => h.1 == v) with
  | none => s
  | some h =>
    if s.now < h.2.1 || s.d3hot then s else
    let s := { s with evt := { s.evt with hold := s.evt.hold.filter (fun x => x.1 != v) } }
    if h.2.2 then s.msixSend v else s
/-- A vector that is no longer masked sends the message that waits for it, at the end of its hold-off where one runs (R100). -/
def State.msixPending (s : State) (v : Nat) : State :=
  if s.reg msixU Msix.MASK v == 0 && s.cfg.msixEnable && !s.cfg.msixMask && s.reg pbaU Msix.PBA v == 1 && !s.d3hot then (s.set pbaU Msix.PBA 0 v).msixSend v else s
/-- A write of the MSI-X table (R100). -/
def State.msixWrite (s : State) (off w : Nat) : State :=
  let s := (wordFields tabMsix off).foldl (fun (s : State) f => s.writeField msixU 0 f.1 f.2 (fieldOf f.1 f.2 w)) s
  let v := off / 16 % 64
  s.msixPending v

/-! ### The freeze read-out window (R547, R548) -/

/-- The queues of a unit that bank 1 shows (R321, R548): queue code, depth, read and write position, whether it is empty. Positions that no rule fixes are free. -/
def State.bankQueues (s : State) (u : Nat) : List (Nat × Nat × Nat × Nat × Bool) :=
  let i := uInst u
  let any := fun (j : Nat) => (Config.bankWord u 1 j).toNat
  if uClass u = 1 ∧ uSub u = 0 then
    let r := s.ring i
    let d := s.act u Ring.RING_SIZE * 16384
    [(1, any 0 % 65536, any 1, any 2, r.inFlight == []), (2, d, r.rd % max 1 d, r.wr % max 1 d, r.rd == r.wr), (3, any 3 % 65536, any 4, any 5, r.held == [])]
  else if u = trigU then [(4, any 0 % 65536, any 1, any 2, s.poolUsed == 0)]
  else if uClass u = 4 ∧ uSub u != 0 then [(5, any 0 % 65536, any 1, any 2, (s.dma (i * 16 + uSub u - 1)).seg == [])]
  else if u = secU then
    [(6, 256, any 0, any 1, s.urgentQ.part == [] && s.urgentQ.waiting == []), (6, 2048, any 2, any 3, s.normalQ.part == [] && s.normalQ.waiting == []),
     (7, 2048, any 4, any 5, s.reply.words == [])]
  else []
/-- The unit selected holds banks. -/
def State.bankUnit (s : State) (u : Nat) : Bool := uidOk u && uInst u != 15 && u != 0 && s.stOf u != .off
/-- Word i of a bank of a unit. -/
def State.bankWordAt (s : State) (u b i : Nat) : Nat :=
  if !s.bankUnit u then 0
  else if b = 0 then (s.pageNow u).pageWord u (4 * i)
  else if b = 1 then
    match (s.bankQueues u)[i / 8]? with
    | none => 0
    | some (c, d, r, w, e) => nth [c + d % 65536 * 65536, r, r, w, w, b2n e, 0, 0] (i % 8) % 2 ^ 32
  else (Config.bankWord u b i).toNat
/-- READOUT_OK: 200 µs after the halt. -/
def State.readoutOk (s : State) : Bool := s.frozen && decide (s.pow.haltAt + 320000 ≤ s.now)
/-- A read of the freeze window at a byte offset from 0xC000. -/
def State.frzRead (s : State) (off : Nat) : State × Nat :=
  let u := s.reg frzU Frz.SEL_UID
  let b := s.reg frzU Frz.SEL_BANK
  if off = 0 then
    let w := (wordFields tabFrz 0).foldl (fun n x => n + s.reg frzU x.1 x.2 * 2 ^ fieldLo x.1 x.2) 0
    (s.set frzU Frz.COUNT 0, setBit w 4 s.readoutOk)
  else if off = 0x10 then (s.set frzU Frz.FRZ_LEN_HI (hi32 s.frzLen), lo32 s.frzLen)
  else if off = 0x14 then (s, if s.bankUnit u then 2 + (Config.bankWord u 0xFF 0).toNat % 254 else 0)
  else if 0x1000 ≤ off then (s, if s.readoutOk then s.bankWordAt u b ((off - 0x1000) / 4) else 0)
  else (s, (wordFields tabFrz off).foldl (fun n x => n + s.reg frzU x.1 x.2 * 2 ^ fieldLo x.1 x.2) 0)

/-! ### BAR2 (R72 to R74, R244) -/

/-- LPDDR5X can be used (R477). -/
def State.dramUp (s : State) : Bool := s.powered memU && tbit (s.reg devU Pd.PD_STAT) 15 && !s.fenced memU && s.reg memU R.Mem.RATE != 0
/-- An access is refused (R72). -/
def State.bar2Denied (s : State) (off : Nat) : State := (s.bump bar0 Tim.DENIED).raise Ev.APERTURE_DENIED memU off
/-- LPDDR5X address of a BAR2 offset. -/
def State.bar2Addr (s : State) (off : Nat) : Nat := s.reg bar0 Tim.APERTURE_BASE * 2 ^ 30 + off
/-- A read of bytes; `env`: an uncorrectable error found now. A poisoned completion carries no data. -/
def State.bar2Read (s : State) (off len : Nat) (env : Option Nat) : State :=
  let a := s.bar2Addr off
  if !s.dramUp || !s.inDram a len then { s with rdata := List.replicate len 0xFF }.bar2Denied off
  else match s.readError a len env with
    | some e => { s with rdata := [] }.memUE e
    | none => { s with rdata := Machine.Mem.read s.dram a len }
/-- A write into the staged reference slot while it is staged loses the staged job (R244, R442). -/
def State.refTouched (s : State) (off a len : Nat) : State :=
  let b := s.refBase (1 - s.reg refU RefSt.ACTIVE) * 2 ^ 20
  if s.reg refU RefSt.STAGED_OK == 1 && a < b + s.slotMiB * 2 ^ 20 && b < a + len then
    (((s.set refU RefSt.STAGED_OK 0).set refU RefSt.STAGE_LOST 1).raise Ev.REF_STAGE_LOST refU off).stageLost 1 0
  else s
/-- A write of bytes. -/
def State.bar2Write (s : State) (off : Nat) (bs : List Nat) : State :=
  let a := s.bar2Addr off
  let own := (List.range (bs.length / 2 ^ 20 + 2)).any (fun i => s.deviceOwned (min (a + i * 2 ^ 20) (a + bs.length - 1)))
  if bs = [] then s
  else if !s.dramUp || !s.inDram a bs.length || s.reg bar0 Tim.WRITE_EN == 0 || own then s.bar2Denied off
  else (s.dramWrite a bs).refTouched off a bs.length

/-! ### Configuration space (R61) -/

/-- One configuration write of the host (R61). BAR0 is 64 KiB and BAR2 is 4 GiB, so their low address bits stay 0; status bits of AER are cleared by a 1. -/
def CfgSt.write (c : CfgSt) (r : CfgReg) (w : Nat) : CfgSt :=
  match r with
  | .command => { c with command := w % 2 ^ 16 }
  | .bar0Lo => { c with bar0 := c.bar0 / 2 ^ 32 * 2 ^ 32 + w % 2 ^ 32 / 2 ^ 16 * 2 ^ 16 }
  | .bar0Hi => { c with bar0 := w % 2 ^ 32 * 2 ^ 32 + c.bar0 % 2 ^ 32 }
  | .bar2Lo => c
  | .bar2Hi => { c with bar2 := w % 2 ^ 32 * 2 ^ 32 }
  | .msixControl => { c with msixControl := w % 2 ^ 16 / 2 ^ 14 * 2 ^ 14 }
  | .deviceControl => { c with deviceControl := w % 2 ^ 15 }
  | .aerUncStatus => { c with aerUncStatus := c.aerUncStatus &&& ((2 ^ 32 - 1) ^^^ (w % 2 ^ 32)) }
  | .aerUncMask => { c with aerUncMask := w % 2 ^ 32 }
  | .aerUncSeverity => { c with aerUncSeverity := w % 2 ^ 32 }
  | .aerCorStatus => { c with aerCorStatus := c.aerCorStatus &&& ((2 ^ 32 - 1) ^^^ (w % 2 ^ 32)) }
  | .aerCorMask => { c with aerCorMask := w % 2 ^ 32 }
/-- Configuration writes in their order; a vector that MSI-X Enable or Function Mask lets go sends the message that waits for it (R100). -/
def State.cfgWrites (s : State) (ws : List (CfgReg × Nat)) : State :=
  ws.foldl (fun (s : State) x =>
    let s := { s with cfg := s.cfg.write x.1 x.2 }
    if x.1 = .msixControl then (List.range 64).foldl State.msixPending s else s) s
/-- A word of the capabilities that R61 names, as the PCI Express Base Specification 5.0 lays them out: power management (D0 and D3hot, No_Soft_Reset, no PME), MSI-X with 64
vectors, PCI Express (payload to 512 B, 10-bit tags, Function Level Reset, no ASPM, the rates and widths of R61), and AER. Their offsets are the model's (PRESUMED, log entry 70). -/
def State.cfgCap (s : State) (off : Nat) : Nat :=
  match off with
  | 0x40 => 0x01 + 0x48 * 2 ^ 8 + 3 * 2 ^ 16
  | 0x44 => 2 ^ 3 + (if s.d3hot then 3 else 0)
  | 0x48 => 0x11 + 0x54 * 2 ^ 8 + (63 + s.cfg.msixControl) * 2 ^ 16
  | 0x4C => 0xE000
  | 0x50 => 0xF000
  | 0x54 => 0x10 + 2 * 2 ^ 16
  | 0x58 => 2 + 2 ^ 5 + 2 ^ 15 + 2 ^ 28
  | 0x5C => s.cfg.deviceControl
  | 0x60 => 5 + 16 * 2 ^ 4 + 2 ^ 22
  | 0x64 => (s.reg bar0 Tim.RATE + s.reg bar0 Tim.WIDTH * 2 ^ 4) * 2 ^ 16
  | 0x78 => 2 ^ 16 + 2 ^ 17
  | 0x80 => 0x3A
  | 0x100 => 0x0001 + 2 * 2 ^ 16
  | 0x104 => s.cfg.aerUncStatus
  | 0x108 => s.cfg.aerUncMask
  | 0x10C => s.cfg.aerUncSeverity
  | 0x110 => s.cfg.aerCorStatus
  | 0x114 => s.cfg.aerCorMask
  | _ => 0
/-- A word of the configuration space (R61): vendor and device ID, command, class code 0x118000 with the revision, the base addresses, BAR0 64-bit
non-prefetchable and BAR2 64-bit prefetchable, and the capabilities. The table of commands has no row for a configuration read; this is what one gives. -/
def State.cfgWord (s : State) (off : Nat) : Nat :=
  if off = 0x00 then Config.vendorId.toNat % 2 ^ 16 + s.part.part % 2 ^ 16 * 2 ^ 16
  else if off = 0x04 then s.cfg.command + 0x10 * 2 ^ 16
  else if off = 0x08 then s.part.siliconRev % 2 ^ 8 + 0x118000 * 2 ^ 8
  else if off = 0x10 then lo32 s.cfg.bar0 + 4 else if off = 0x14 then hi32 s.cfg.bar0
  else if off = 0x18 then lo32 s.cfg.bar2 + 12 else if off = 0x1C then hi32 s.cfg.bar2
  else if off = 0x34 then 0x40 else s.cfgCap off

/-! ### The link, function resets and D3hot (R62 to R67, R536) -/

/-- LINK_STAT. -/
def State.linkStat (s : State) : Nat := s.reg bar0 Tim.RATE + s.reg bar0 Tim.WIDTH * 16 + s.reg bar0 Tim.DEGRADED * 512
/-- The link trains to a rate and width. -/
def State.linkTrain (s : State) (rate width : Nat) : State :=
  let old := s.linkStat
  let s := ((s.set bar0 Tim.RATE rate).set bar0 Tim.WIDTH width).set bar0 Tim.DEGRADED (b2n (rate != 0 && (width < 4 || rate < 3)))
  if s.linkStat = old then s else s.raise Ev.LINK_CHANGE devU s.linkStat
/-- The command interface block and the event block take their reset values (R66). What the firmware and the freeze show there stays true. -/
def State.blocksReset (s : State) : State :=
  let gone := fun (k : Nat) => keyUid k == bar0 && (let b := k % 2 ^ 24 / 8; (0x100 ≤ b && b < 0x200) || (0x300 ≤ b && b < 0x400))
  let run := s.reg bar0 Cmd.SEQ_RUNNING
  let s := { s with
    cfg := {}, live := s.live.filter (fun p => !gone p.1), urgentQ := {}, normalQ := {}, reply := {}, cmdSeq := 0,
    evt := { s.evt with hold := [] }, aborts := s.aborts.map (fun (a : AbortSt) => if a.rope then a else { a with noReply := true }) }
  let s := (s.set bar0 Cmd.SEQ_RUNNING run).set bar0 Cmd.FROZEN (b2n s.frozen)
  { s with sys := { s.sys with hb := 0, hbAt := s.now, done := 0, doneAt := s.now, wedged := none } }
/-- A Function Level Reset (R66). A frozen device refuses the abort (log entry 43). The configuration space takes its reset values and the function is in D0, as the base
specification that R61 names has it; R66 does not say (PRESUMED, log entry 70). -/
def State.flr (s : State) : State := { (if s.frozen then s else s.abortQuiet).blocksReset with d3hot := false }
/-- PERST_N (R536): an FLR, and the link is down until it has trained. -/
def State.perst (s : State) : State := (((s.flr.set bar0 Tim.RATE 0).set bar0 Tim.WIDTH 0).set bar0 Tim.DEGRADED 0)
/-- The function enters D3hot (R67). -/
def State.d3Enter (s : State) : State := { s with d3hot := true }
/-- The function returns to D0 (R67): one EV_EVENT_LOST entry with the count comes first; then the configuration writes that go with the return. -/
def State.d0Return (s : State) (cfg : List (CfgReg × Nat)) : State :=
  if !s.d3hot then s.cfgWrites cfg else
  let s := ({ s with d3hot := false } : State).evtLostEntry
  ((List.range 64).foldl (fun (s : State) k => s.dmaBack k) s).cfgWrites cfg

/-! ### The sequencer's heartbeat (R108) -/

/-- SEQ_HEARTBEAT. -/
def State.heartbeat (s : State) : Nat :=
  if s.reg bar0 Cmd.SEQ_RUNNING == 1 && !s.sys.stuck then (s.sys.hb + (s.now - s.sys.hbAt) / 1600000) % 2 ^ 32 else s.sys.hb
/-- 250 ms without a heartbeat (`beat`: the main loop has stopped), or without a reply while NORMAL holds a packet. The event is raised again once both counters have moved
since it was raised last (R108). -/
def State.seqWedged (s : State) (beat : Bool) : State :=
  let hang : Bool := beat && s.reg bar0 Cmd.SEQ_RUNNING == 1 && !s.sys.stuck && decide (s.sys.hbAt + 400000000 ≤ s.now)
  let idle : Bool := !beat && s.normalQ.waiting != [] && s.sys.done == s.reg bar0 Cmd.NORMAL_DONE && decide (s.sys.doneAt + 400000000 ≤ s.now)
  if !(hang || idle) then s else
  let s := if hang then { s with sys := { s.sys with hb := (s.sys.hb + (s.now - 400000000 - s.sys.hbAt) / 1600000) % 2 ^ 32, stuck := true } } else s
  let armed : Bool := match s.sys.wedged with | some (h, n) => s.heartbeat != h && s.reg bar0 Cmd.NORMAL_DONE != n | none => true
  if armed then ({ s with sys := { s.sys with wedged := some (s.heartbeat, s.reg bar0 Cmd.NORMAL_DONE) } } : State).raise Ev.SEQ_WEDGED secU s.heartbeat else s
/-- Keep the watch of NORMAL_DONE: it restarts when a reply is written (watchDone), when NORMAL is empty, and with the first packet that waits (takeIn). -/
def State.seqWatch (s : State) : State := if s.normalQ.waiting = [] then { s with sys := { s.sys with doneAt := s.now } } else s

end Sys2Proof.Machine
end

