-- ==== Sys2Proof/Machine/Commands.lean ====
section
/-! DEFINITION. Command packets: the two FIFOs (R75 to R82), the checks of R555 in order, the opcode map (R559), what GET_STATUS, COMMIT, UNIT_WRITE and the commands of
ports and logs do (R18 to R21, R42 to R49, R148, R159, R223, R224, R560 to R567, R575), and the service of URGENT and NORMAL (R78, R83 to R87, R538). -/
namespace Sys2Proof.Machine
open R

/-! ### The opcode map (R559) -/

/-- The commands of the map. -/
inductive Op where
  | abort | resetUnit | freeze | thaw | getStatus | commit | unitWrite | pgLoad | afeCalibrate | refTrace | shadingCapture | lutLoad | ebRelease | trigArm
  | dmaStart | move | axisMove | axisLinear | axisStop | axisResume | axisSetPosition | axisIdentify | axisHome | lampCal | chainLoad | recipeLoad | recipeInfo
  | jobStage | jobUnstage | jobStart | jobEnd | ropeMark | memRetire | spareLedger | logRead | idCert | attest | authChallenge | policySet | keyInstall | keyRevoke
  | ownerFuse | fwUpdate | fwAccept | debugUnlock | debugRelock | auditExport | bundleExport | bundleImport | powerSet
  deriving DecidableEq, Repr
/-- Kind of a command (R559): served by the URGENT machine, reads only, changes shadows only, starts work. -/
inductive Kind where
  | u | r | s | w
  deriving DecidableEq, Repr
/-- The command of an opcode. -/
def opOf (n : Nat) : Option Op :=
  match n with
  | 0x01 => some .abort | 0x02 => some .resetUnit | 0x03 => some .freeze | 0x04 => some .thaw | 0x05 => some .getStatus
  | 0x10 => some .commit | 0x11 => some .unitWrite
  | 0x20 => some .pgLoad | 0x21 => some .afeCalibrate | 0x22 => some .refTrace | 0x23 => some .shadingCapture | 0x24 => some .lutLoad | 0x28 => some .ebRelease
  | 0x30 => some .trigArm | 0x38 => some .dmaStart | 0x39 => some .move
  | 0x40 => some .axisMove | 0x41 => some .axisLinear | 0x42 => some .axisStop | 0x43 => some .axisResume | 0x44 => some .axisSetPosition
  | 0x45 => some .axisIdentify | 0x46 => some .axisHome
  | 0x50 => some .lampCal | 0x51 => some .chainLoad
  | 0x60 => some .recipeLoad | 0x61 => some .recipeInfo | 0x62 => some .jobStage | 0x63 => some .jobUnstage | 0x64 => some .jobStart | 0x65 => some .jobEnd
  | 0x70 => some .ropeMark | 0x78 => some .memRetire | 0x79 => some .spareLedger | 0x7A => some .logRead
  | 0x80 => some .idCert | 0x81 => some .attest | 0x82 => some .authChallenge | 0x83 => some .policySet | 0x84 => some .keyInstall | 0x85 => some .keyRevoke
  | 0x86 => some .ownerFuse | 0x87 => some .fwUpdate | 0x88 => some .fwAccept | 0x89 => some .debugUnlock | 0x8A => some .debugRelock | 0x8B => some .auditExport
  | 0x8C => some .bundleExport | 0x8D => some .bundleImport | 0x90 => some .powerSet
  | _ => none
/-- Opcode of a command. -/
def Op.code : Op → Nat
  | .abort => 0x01 | .resetUnit => 0x02 | .freeze => 0x03 | .thaw => 0x04 | .getStatus => 0x05 | .commit => 0x10 | .unitWrite => 0x11 | .pgLoad => 0x20
  | .afeCalibrate => 0x21 | .refTrace => 0x22 | .shadingCapture => 0x23 | .lutLoad => 0x24 | .ebRelease => 0x28 | .trigArm => 0x30 | .dmaStart => 0x38
  | .move => 0x39 | .axisMove => 0x40 | .axisLinear => 0x41 | .axisStop => 0x42 | .axisResume => 0x43 | .axisSetPosition => 0x44 | .axisIdentify => 0x45
  | .axisHome => 0x46 | .lampCal => 0x50 | .chainLoad => 0x51 | .recipeLoad => 0x60 | .recipeInfo => 0x61 | .jobStage => 0x62 | .jobUnstage => 0x63
  | .jobStart => 0x64 | .jobEnd => 0x65 | .ropeMark => 0x70 | .memRetire => 0x78 | .spareLedger => 0x79 | .logRead => 0x7A | .idCert => 0x80 | .attest => 0x81
  | .authChallenge => 0x82 | .policySet => 0x83 | .keyInstall => 0x84 | .keyRevoke => 0x85 | .ownerFuse => 0x86 | .fwUpdate => 0x87 | .fwAccept => 0x88
  | .debugUnlock => 0x89 | .debugRelock => 0x8A | .auditExport => 0x8B | .bundleExport => 0x8C | .bundleImport => 0x8D | .powerSet => 0x90
/-- The Kind column. -/
def Op.kind : Op → Kind
  | .abort | .resetUnit | .freeze | .thaw | .getStatus => .u
  | .commit | .unitWrite => .s
  | .recipeInfo | .spareLedger | .logRead | .idCert => .r
  | _ => .w
/-- The COUNT column: the count expected of a packet that carries n parameters, the first being p0 (R562, R570, R577). -/
def Op.count (o : Op) (locked : Bool) (n p0 : Nat) : Nat :=
  match o with
  | .unitWrite => min 254 (max 2 (n + n % 2))
  | .axisLinear => 5 + 2 * ((List.range 8).filter (tbit p0)).length
  | .policySet | .keyRevoke => if locked then 34 else 1
  | .keyInstall => if locked then 68 else 35
  | .pgLoad | .lutLoad | .trigArm | .chainLoad | .idCert | .bundleImport => 3
  | .refTrace | .axisSetPosition | .axisIdentify | .jobStart | .ropeMark | .memRetire | .logRead | .fwUpdate | .powerSet => 2
  | .shadingCapture | .recipeLoad => 4
  | .move => 5
  | .axisMove => 6
  | .axisHome => 9
  | .lampCal | .recipeInfo | .jobStage => 1
  | .attest => 18
  | .ownerFuse => 35
  | .debugUnlock => 34
  | .auditExport => 21
  | .bundleExport => 7
  | _ => 0
/-- The Flags column: bits of FLAGS that the command defines beside NOTIFY and NO_REPLY (R76, R77). -/
def Op.flags : Op → Nat
  | .abort | .resetUnit => 0x4
  | .unitWrite | .refTrace | .shadingCapture | .trigArm | .move | .axisLinear | .axisStop | .axisIdentify | .recipeLoad | .jobEnd | .memRetire | .powerSet => 0x100
  | .axisMove | .jobStart => 0x300
  | _ => 0
/-- A unit has SH fields. -/
def hasSets (u : Nat) : Bool := (pageOf u).any (fun f => f.acc == .sh) || (uClass u == 2 && u != refU && uSub u == 0)
/-- The UID column. A lane takes COMMIT although its page holds no SH field, because R40 says when such a commit comes into force (log entry 25). Subtree groups take ABORT, RESET_UNIT and GET_STATUS only (R470); the device takes UNIT_WRITE as the unit of its page. -/
def Op.takes (o : Op) (u : Nat) : Bool :=
  let inst := fun (c : Nat) => uClass u == c && uInst u != 15 && uSub u == 0
  match o with
  | .abort | .resetUnit | .getStatus => true
  | .freeze | .thaw | .recipeLoad | .recipeInfo | .jobStage | .jobUnstage | .jobStart | .jobEnd | .spareLedger | .logRead | .powerSet => u == devU
  | .commit => (members u).any hasSets || (uClass u == 2 && uSub u != 0)
  | .unitWrite => uInst u != 15 && pageOf u != []
  | .pgLoad => uClass u == 1 && uInst u != 15 && uSub u == 0x11
  | .afeCalibrate => uClass u == 1 && uSub u ≤ 9
  | .refTrace => u == calU
  | .shadingCapture | .lutLoad => uClass u == 1 && uInst u != 15 && uSub u == 0x20
  | .ebRelease => uClass u == 1 && uSub u == 0
  | .trigArm => u == trigU
  | .dmaStart => uClass u == 4 && uSub u != 0
  | .move => inst 5
  | .axisMove | .axisResume | .axisSetPosition | .axisIdentify | .axisHome => inst 6
  | .axisLinear => u == 0x6F00
  | .axisStop => uClass u == 6
  | .lampCal => inst 7
  | .chainLoad => u == chainU
  | .ropeMark => u == ropeU
  | .memRetire => u == memU
  | _ => u == secU
/-- Commands that read or write LPDDR5X, or start a unit that needs it (R477): RECIPE_LOAD with CLEAR only writes MRAM, JOB_START needs it to stage with LOAD_NOW, and TRIG_ARM to arm
(DEDUCED, log entry 27). -/
def Op.needsDram (o : Op) (k : Pkt) : Bool :=
  match o with
  | .pgLoad | .shadingCapture | .lutLoad | .dmaStart | .move | .chainLoad | .jobStage | .fwUpdate | .bundleImport => true
  | .recipeLoad => !k.flag 8
  | .jobStart => k.flag 8
  | .trigArm => k.p 0 == 1
  | _ => false

/-! ### Step 6 of R555: powered, not busy, not fenced (R25, R85, R105, R157, R532, R557, R565) -/

/-- The units that a command acts on for the checks of step 6: those its UID names, or the axes that AXIS_LINEAR lists. -/
def Op.targets (o : Op) (k : Pkt) : List Nat := if o = .axisLinear then ((List.range 8).filter (tbit (k.p 0))).map axU else [k.uid]
/-- Long work stands against a command. A capture holds its whole port, but an AFE_CALIBRATE waits for it; a calibration holds its channels; a mover queues; jobs refuse what
their own rules name. -/
def State.workBlocks (s : State) (o : Op) (u : Nat) : Bool :=
  s.works.any (fun w =>
    let port : Bool := uClass u == 1 && uClass w.uid == 1 && (uInst u == uInst w.uid || uInst u == 15 || uInst w.uid == 15)
    if w.op = 0x90 then u == devU
    else if w.uid = devU ∨ w.op = 0x39 ∨ u = devU then false
    else if w.op = 0x21 then (o == .shadingCapture && port) || (o == .afeCalibrate && (within w.uid u || within u w.uid))
    else if w.op = 0x23 then port && o != .afeCalibrate
    else within w.uid u || within u w.uid)
/-- The unit of a command is STOPPING for an abort (R105): one of its members is; the device itself is while an ABORT or RESET_UNIT of 0x0000 has not completed. A stop of an
axis is none (R363, R571). -/
def State.stoppingFor (s : State) (u : Nat) (ms : List Nat) : Bool :=
  if u = devU then s.aborts.any (fun a => a.uid == 0 && !a.boot) else ms.any s.aborting
/-- The checks of step 6. R25 refuses a group with a fenced member; UID 0x0000 of a command that the UID column gives to the device is not taken as the group of every unit, which
one fenced port would otherwise close to RECIPE_LOAD, JOB_END and POWER_SET (DESIGN CHOICE, log entry 27); JOB_STAGE and JOB_START make that check on their scope (R440, R443). -/
def State.workCheck (s : State) (o : Op) (k : Pkt) : Refuse :=
  let u := k.uid
  let ts := o.targets k
  let ms := ts.flatMap members
  firstOf [
    need (u == devU || ms.any s.powered) St.POWER_OFF [domainOf (ms.headD u)],
    need (!o.needsDram k || s.powered memU) St.POWER_OFF [14],
    need (!ts.any (s.workBlocks o)) St.BUSY [s.groupCode u],
    need (!s.stoppingFor u ms) St.BUSY [s.groupCode u],
    if u = devU then none else (ms.find? s.fenced).map (fun v => (St.FENCED, [v])),
    need (o != .shadingCapture || !s.fenced (portU (uInst u))) St.FENCED [portU (uInst u)],
    need (!o.needsDram k || !s.fenced memU) St.FENCED [memU]]
/-- Urgent commands before READY and while frozen (R87, R538). -/
def State.urgentCheck (s : State) (o : Op) (u : Nat) : Refuse :=
  if o = .getStatus then none
  else if !s.ready then some (St.BUSY, [s.groupCode u])
  else if s.frozen && (o == .abort || o == .resetUnit) then some (St.FROZEN, [])
  else none
/-- Steps 1 to 6 of R555. -/
def State.pktCheck (s : State) (k : Pkt) : Op ⊕ (Nat × List Nat) :=
  match opOf k.op with
  | none => .inr (St.BAD_OPCODE, [])
  | some o =>
    let n := k.params.length
    let c := o.count s.locked n (k.p 0)
    let flagsOk : Bool := (k.flags &&& (0xFFFF - 3 - o.flags)) == 0 && !(o == .getStatus && k.flag 1)
    let r := firstOf [
      need (!k.urgent || k.op < 0x10) St.WRONG_QUEUE [],
      need (n == c) St.BAD_LENGTH [c],
      need flagsOk St.BAD_FLAGS [k.flags],
      need (uidOk k.uid && !fusedOff s.part k.uid) St.NO_UNIT [k.uid],
      need (o.takes k.uid) St.UNSUPPORTED [k.uid],
      match o.kind with
      | .u => s.urgentCheck o k.uid
      | .w => s.workCheck o k
      | _ => none]
    match r with
    | none => .inl o
    | some x => .inr x

/-! ### GET_STATUS (R18 to R21, R470, R560) -/

/-- REASON of a unit: 0 where its domain is off or it is absent (R532). -/
def State.reasonOf (s : State) (u : Nat) : Nat := if fusedOff s.part u || !s.powered u then 0 else (s.unit u).reason
/-- STATE of a member of a group: a unit's own, or that of a group in it. -/
def State.memberCode (s : State) (u v : Nat) : Nat := if v = u then (s.stOf v).code else s.groupCode v
/-- The members of a group whose state is the group's (R18), in UID order. -/
def State.worstOf (s : State) (u : Nat) : List Nat := (groupMembers u).filter (fun v => s.memberCode u v == s.groupCode u)
/-- The unit whose words 1 to 5 a block reports (R19): the member named by WORST_UID, and where that is a group itself, its own. Groups nest three deep here (R17). -/
def State.reported (s : State) (u : Nat) : Nat → Nat
  | 0 => u
  | n + 1 => match s.worstOf u with
    | [] => u
    | v :: _ => if v = u then u else s.reported v n
/-- The status block. -/
def State.statusBlock (s : State) (u : Nat) : List Nat :=
  let code := s.groupCode u
  if 0x9010 ≤ u ∧ u ≤ 0x9013 then
    [u * 2 ^ 16 + code * 2 ^ 12 + s.reasonOf u, 0, 0, 0, 0, 0, min 0xFFFF (s.reg ropeU Rope.SUB_COUNT (u - 0x9010)), (s.unit u).lastTag]
  else
    let hit := s.worstOf u
    let w := s.reported u 4
    let x := s.unit w
    let pend := ((s.commits.filter (fun c => c.uid == w && !c.staged)).getLast?.map (·.seq)).getD x.activeSeq
    [u * 2 ^ 16 + code * 2 ^ 12 + s.reasonOf w, x.activeSeq * 2 ^ 16 + pend, lo32 x.actLine, hi32 x.actLine % 2 ^ 16 * 2 ^ 16 + x.actKind * 2 ^ 14, x.actRepeat, x.actTime,
      if hit = [] then u * 2 ^ 16 + 1 else hit.headD u * 2 ^ 16 + hit.length, (s.unit u).lastTag]
/-- LAST_TAG of the units that take a command. -/
def State.tagged (s : State) (o : Op) (k : Pkt) : State :=
  let us := if o.kind = .r ∨ o = .getStatus ∨ (k.uid = devU ∧ o ≠ .abort ∧ o ≠ .resetUnit) then [k.uid] else k.uid :: (members k.uid).filter (· != k.uid)
  us.foldl (fun (s : State) u => s.modUnit u (fun x => { x with lastTag := k.tag })) s

/-! ### COMMIT and UNIT_WRITE (R42 to R49, R158, R441, R561, R562) -/

/-- The snapshot that a unit queues: its shadow, or the set in force where the unit has no SH field. -/
def State.snapOf (s : State) (u : Nat) : RegMap := RegMap.ofUid (if hasSets u then s.shadow else s.active) u
/-- The units that queue a snapshot at a COMMIT of u (R44). -/
def State.queueing (s : State) (u : Nat) : List Nat :=
  match members u with
  | [v] => [v]
  | ms => ms.filter (fun v => s.openSets.any (fun o => o.1 == v))
/-- The kind of the commit of a unit (R43). -/
def State.openKind (s : State) (u : Nat) : Change := ((s.openSets.find? (fun o => o.1 == u)).map (·.2)).getD .line
/-- COMMIT. NOTIFY raises EV_COMMIT_ACTIVE later (R50, R558). -/
def State.cmdCommit (s : State) (u : Nat) (notify : Bool) : Answer :=
  let q := s.queueing u
  let named := if q.contains u then q else u :: q
  let snaps := q.map (fun v => (v, s.snapOf v))
  let full := q.find? (fun v => decide (4 ≤ (s.commits.filter (fun c => c.uid == v)).length))
  s.unless (firstOf [
    full.map (fun v => (St.COMMIT_FULL, [v])),
    (named.find? (fun v => s.job.scope.contains v)).map (fun v => (St.STAGED, [v])),
    setChecks s (s.prospect []) (s.prospect snaps) q]) (fun _ =>
    let n := s.commitNumber
    let add := snaps.map (fun x => ({ uid := x.1, seq := n.2, kind := s.openKind x.1, snap := x.2, notify := notify, staged := false, at_ := s.now,
                                      held := s.workHolds x.1 && s.noBoundary x.1 (s.openKind x.1) } : Commit))
    let t : State := { n.1 with commits := n.1.commits ++ add, openSets := n.1.openSets.filter (fun o => !q.contains o.1) }
    let t := q.foldl State.forceReady t
    let t := snaps.foldl (fun (t : State) x =>
      if uClass x.1 == 1 && uSub x.1 == 0 && t.commits.any (fun c => c.uid == x.1 && c.seq == n.2) then t.reliefStaged (uInst x.1) x.2 else t) t
    (t, St.OK, [n.2]))
/-- Entry j of a UNIT_WRITE breaks a rule. -/
def State.entryBad (s : State) (u w0 v : Nat) : Bool :=
  let off := w0 % 4096
  let fs := (s.pageFields u off).1
  let ctxPage : Bool := uClass u == 2 && uSub u == 0 && 0x400 ≤ off && off < 0x800
  off % 4 != 0 || 2 ^ 15 ≤ w0 || (bits w0 14 12 != 0 && !ctxPage) || !fs.any (fun x => x.1.acc != .ro) || (v &&& (2 ^ 32 - 1 - fieldMask fs)) != 0
/-- UNIT_WRITE. With the COMMIT flag a COMMIT of the unit follows, which the UID column refuses for a unit without SH fields (R555, R562). -/
def State.cmdUnitWrite (s : State) (k : Pkt) : Answer :=
  let n := k.params.length / 2
  match (List.range n).find? (fun j => s.entryBad k.uid (k.p (2 * j)) (k.p (2 * j + 1))) with
  | some j => (s, St.BAD_PARAM, [2 * j])
  | none =>
    let s := (List.range n).foldl (fun (s : State) j => s.pageWrite k.uid (bits (k.p (2 * j)) 14 12) (k.p (2 * j) % 4096) (k.p (2 * j + 1))) s
    if !k.flag 8 then (s, St.OK, [0])
    else if Op.commit.takes k.uid then s.cmdCommit k.uid false
    else (s, St.UNSUPPORTED, [k.uid])

/-! ### Ports (R121, R122, R148, R157 to R159, R223 to R230, R564 to R566) -/

/-- A step of a program in memory (R114). -/
def stepAt (m : Mem) (a : Nat) : PgStep :=
  let w0 := Machine.Mem.rd32 m a
  let w1 := Machine.Mem.rd32 m (a + 4)
  { outVal := w0 % 65536, outMask := w0 / 65536, dur := w1 % 2 ^ 20, ctrl := bits w1 23 20, cdsRst := tbit w1 24, cdsSig := tbit w1 25 }
/-- Put a program in a bank and show it (R121). -/
def State.bankPut (s : State) (p b : Nat) (prog : List PgStep) : State :=
  let s := s.modPort p (fun x => if b = 0 then { x with bank0 := prog } else { x with bank1 := prog })
  s.set (portU p) (if b = 0 then Port.LOADED0 else Port.LOADED1) (b2n (prog != []))
/-- PG_LOAD. `env`: an uncorrectable error met by the read. -/
def State.cmdPgLoad (s : State) (k : Pkt) (env : Option Nat) : Answer :=
  let p := uInst k.uid
  let a := k.addr 0
  let n := k.p 2 % 8192
  let b := bits (k.p 2) 16 16
  let runs : Bool := (s.port p).started && (s.port p).bank == b
  let pend := s.commits.any (fun c => c.uid == portU p && vw s c.snap (portU p) Port.BANK == b)
  match firstOf [badParam (a % 8 == 0 && s.inDram a (8 * n)) 0, badParam ((k.p 2 &&& 0xFFFEE000) == 0 && 1 ≤ n && n ≤ 4096) 2, need (!runs && !pend) St.BUSY [s.groupCode k.uid]] with
  | some r => s.refuse r
  | none =>
    match s.readError a (8 * n) env with
    | some e => (s.memUE e, St.MEM_UNCORRECTABLE, [e / 8])
    | none =>
      let prog := (List.range n).map (fun i => stepAt s.dram (a + 8 * i))
      match progFail prog ((List.range n).map (fun i => 2 ^ 26 ≤ Machine.Mem.rd32 s.dram (a + 8 * i + 4))) with
      | some i => (s.bankPut p b [], St.PG_PROGRAM, [i])
      | none => (s.bankPut p b prog, St.OK, [])
/-- REF_TRACE. -/
def State.cmdRefTrace (s : State) (k : Pkt) : Answer :=
  let trim := s.part.refTrimUv
  let v := k.p 0
  let diff := (Int.ofNat v - Int.ofNat trim).natAbs
  if k.flag 8 then
    let s := (s.dacRun.set calU CalRef.REF_TRACE_UV 0).set calU CalRef.REF_USE_UV trim
    let s := { s with memS := { s.memS with trace := none } }.audit 6 calU (leBytes 4 0 ++ leBytes 4 0)
    (s.raise Ev.REF_TRACE calU trim, St.OK, [trim])
  else if trim < diff * 500 then (s, St.BAD_PARAM, [0])
  else
    let s := (s.dacRun.set calU CalRef.REF_TRACE_UV v).set calU CalRef.REF_USE_UV v
    let s := (s.set calU CalRef.TRACE_TJ (s.reg devU Th.TJ)).bump calU CalRef.TRACE_COUNT
    let s := { s with memS := { s.memS with trace := some (k.p 1, s.rope) } }.audit 6 calU (leBytes 4 v ++ leBytes 4 (k.p 1))
    (s.raise Ev.REF_TRACE calU v, St.OK, [v])
/-- The channels of port p that an AFE_CALIBRATE addresses, each with its tap: those serving an enabled tap, and the spare; or the one addressed. Retired ones are OFF. -/
def State.calTargets (s : State) (u p : Nat) : List (Nat × Nat) :=
  let taps := if s.act (portU p) Port.CAPTURE = 1 then [] else (tapsOn s s.active p).filter (· < 8)
  let served := taps.map (fun t => (s.owner p t, t))
  let all := served ++ (if served.any (fun x => x.1 == 8) then [] else [(8, 15)])
  let l := if uSub u = 0 then all else match all.find? (fun x => x.1 + 1 == uSub u) with | some x => [x] | none => [(uSub u - 1, 15)]
  l.filter (fun x => s.reg (chanU p x.1) Afe.SUSPECT == 0)
/-- The relief or calibration in place of a channel (R152, R157): a tap of 15 means that it serves none; the spare is then calibrated for gain code 0, another channel for that of
its own tap. -/
def State.calRelief (s : State) (p : Nat) (x : Nat × Nat) : Relief :=
  let tap := if x.2 = 15 then x.1 else x.2
  let gain := if x.1 = 8 ∧ x.2 = 15 then 0 else s.act (portU p) Tap.GAIN_CODE tap
  if x.2 = 15 then { tap := tap, chan := x.1, meas := x.1, phase := 3, gains := [gain], inPlace := true, alone := true, gain := gain } else s.mkRelief p x.2 [gain]
/-- A channel needs the spare and there is none (R159). -/
def State.needsSpare (s : State) (p : Nat) (x : Nat × Nat) : Bool :=
  (s.port p).jobOn && x.2 != 15 && (x.1 == 8 || !s.spareFree p || s.reg (chanU p 8) Afe.SUSPECT == 1)
/-- AFE_CALIBRATE. -/
def State.cmdAfeCalibrate (s : State) (k : Pkt) : Answer :=
  let ps := (if uInst k.uid = 15 then s.portsOn else [uInst k.uid]).filter (fun p => s.powered (portU p))
  let ts := ps.map (fun p => (p, s.calTargets k.uid p))
  match ts.findSome? (fun t => (t.2.find? (s.needsSpare t.1)).map (·.2)) with
  | some tap => (s, St.NO_SPARE, [tap])
  | none =>
    let data := (List.range 8).flatMap (fun p =>
      [(((ts.find? (fun t => t.1 == p)).map (·.2)).getD []).foldl (fun (m : Nat) x => m + 2 ^ x.1) 0, 0, 0, 0])
    let s := s.workStart k k.uid data
    let s := s.modWork 0x21 k.uid (fun w => { w with step := ps.foldl (fun (m : Nat) p => m + 2 ^ p) 0 })
    let s := ts.foldl (fun (s : State) t =>
      (s.modPort t.1 (fun x => { x with queueCal := x.queueCal ++ t.2.map (s.calRelief t.1) })).reliefNext t.1) s
    (s.calFinish none 0, St.OK, [])
/-- Parameters of SHADING_CAPTURE in their ranges (R564). -/
def capParams (k : Pkt) : Refuse :=
  let p0 := k.p 0
  firstOf [
    badParam (p0 % 4 != 3 && bits p0 7 2 == 0 && 64 ≤ bits p0 28 16 && bits p0 28 16 ≤ 4096 && 1 ≤ p0 / 2 ^ 29 && p0 / 2 ^ 29 ≤ 4) 0,
    badParam (k.p 1 % 65536 != 0 && k.p 1 / 65536 != 0) 1,
    badParam (k.p 2 / 65536 != 0) 2,
    badParam (k.p 3 != 0 && k.p 3 < 256) 3]
/-- SHADING_CAPTURE (R224, R225, R229, R230). The first capture line fires at once. -/
def State.cmdShadingCapture (s : State) (k : Pkt) (env : Option Nat) : Answer :=
  let p := uInst k.uid
  let v := fun f => s.act (portU p) f
  let kind := k.p 0 % 4
  let slot := bits (k.p 0) 15 8
  let black := tbit (hdr s.dram (slotBase slot) 0) 24
  match firstOf [
    need (!(s.port p).jobOn && (s.port p).capture.isNone) St.BUSY [s.groupCode k.uid], capParams k,
    badParam (v Port.SHUTTER == 1 || v Port.LINE_PERIOD_MIN ≤ v Port.NOMINAL_PERIOD) 0,
    need (kind != 2 || s.act (pipeU p) Pipe.TEMP_SRC != 0) St.UNSUPPORTED [s.act (pipeU p) Pipe.TEMP_SRC],
    need (kind == 0 || black) St.SHADING_SET [2 * 2 ^ 24]] with
  | some r => s.refuse r
  | none =>
    let s := match s.readError (slotBase slot) 256 env with | some e => s.memUE e | none => s
    let c : Capture := {
      kind := kind, slot := slot, lines := bits (k.p 0) 28 16, tries := k.p 0 / 2 ^ 29, tolRms := k.p 1 % 65536, tolPix := k.p 1 / 65536, tolOut := k.p 2 % 65536,
      hot := k.p 2 / 65536, weak := k.p 3 }
    let s := s.workStart k k.uid []
    let s := s.modPort p (fun x => { x with capture := some (c.begin_ (capDiscard s p)), capFire := some s.now })
    let s := s.modLc p (fun l => { l with nextLine := 0, fires := [] })
    ((s.pgStart p).portRefresh p, St.OK, [])
/-- LUT_LOAD. -/
def State.cmdLutLoad (s : State) (k : Pkt) (env : Option Nat) : Answer :=
  let p := uInst k.uid
  let a := k.addr 0
  let mask := k.p 2
  let planes := [0, 1, 2, 3].filter (tbit mask)
  let len := 4096 * planes.length
  if a % 64 != 0 then s.misaligned none a
  else match firstOf [badParam (s.inDram a len) 0, badParam (mask != 0 && mask < 16) 2, need (!(s.jobState == 3 && s.stagedPorts.contains p)) St.BUSY [s.groupCode k.uid]] with
  | some r => s.refuse r
  | none =>
    match s.readError a len env with
    | some e => (s.memUE e, St.MEM_UNCORRECTABLE, [e / 8])
    | none =>
      let table := fun (x : Nat × Nat) => (List.range 4096).filterMap (fun i =>
        let b := (Machine.Mem.get s.dram (a + 4096 * x.2 + i)).toNat
        if b = i / 16 then none else some (x.1 * 4096 + i, b))
      ((s.modPort p (fun y => { y with lutStaged := [0, 1, 2, 3].flatMap (fun q =>
        match planes.zipIdx.find? (fun x => x.1 == q) with
        | some x => table x
        | none => y.lutStaged.filter (fun e => e.1 / 4096 == q)) })).moverTake len, St.OK, [])
/-- EB_RELEASE (R269, R398, R566). -/
def State.cmdEbRelease (s : State) (k : Pkt) : Answer :=
  let ps := (if uInst k.uid = 15 then s.portsOn else [uInst k.uid]).filter s.heldStop
  let s := ps.foldl (fun (s : State) p => ([0, 1].foldl (fun (s : State) c => s.setC (clU c) p Ctx.HELD_STOP 0 0) s).portRefresh p) s
  (s, St.OK, [ps.foldl (fun (m : Nat) p => m + 2 ^ p) 0])

/-! ### Logs (R94, R575) -/

/-- The words of a log entry; the phase bit of the host ring is 0. -/
def eventWords (e : Event) : List Nat := [e.source + e.uid % 65536 * 2 ^ 16, e.detail, lo32 e.time, hi32 e.time]
/-- LOG_READ. -/
def State.cmdLogRead (s : State) (k : Pkt) : Answer :=
  s.unless (badParam (1 ≤ k.p 1 && k.p 1 ≤ 126) 1) (fun _ =>
    let es := (s.evt.log.drop (k.p 0)).take (k.p 1)
    (s, St.OK, es.length :: es.flatMap eventWords))
/-- MEM_RETIRE; discarding the table is audited (R515). -/
def State.cmdRetire (s : State) (k : Pkt) : Answer :=
  let was := b2n s.memS.clear
  let r := s.cmdMemRetire (k.addr 0) (k.flag 8)
  if k.flag 8 then (r.1.audit 0x0B memU (leBytes 4 5 ++ leBytes 4 was ++ leBytes 4 1), r.2) else r
/-- TRIG_ARM with its parameter checks (R567). -/
def State.cmdArm (s : State) (k : Pkt) : Answer :=
  s.unless (firstOf [badParam (k.p 0 < 2) 0, badParam (k.flag 8 || k.p 1 == 0) 1, badParam (k.flag 8 || k.p 2 == 0) 2]) (fun _ => s.cmdTrigArm k)
/-- AXIS_STOP of one axis or of every axis that is not OFF (R571). -/
def State.cmdStop (s : State) (k : Pkt) : Answer :=
  let as_ := (if uInst k.uid = 15 then [0, 1, 2, 3, 4, 5, 6, 7] else [uInst k.uid]).filter (fun a => s.powered (axU a))
  let s := as_.foldl (fun (s : State) a => s.cmdAxisStop a (k.flag 8)) s
  (s, St.OK, [if uInst k.uid = 15 then 0 else s.reg k.uid Axis.REMAIN_LO])

/-! ### Execution -/

/-- What a command that has passed steps 1 to 6 does and answers. ABORT and RESET_UNIT answer for themselves (cmdAbort). -/
def State.runOp (s : State) (o : Op) (k : Pkt) (env : Option Nat) : Answer :=
  let i := uInst k.uid
  match o with
  | .abort | .resetUnit => (s, St.OK, [0])
  | .freeze => let s := s.freeze 1; (s, St.OK, [s.reg frzU Frz.FRZ_TIME_LO])
  | .thaw => s.cmdThaw
  | .getStatus => (s, St.OK, s.statusBlock k.uid)
  | .commit => s.cmdCommit k.uid (k.flag 0)
  | .unitWrite => s.cmdUnitWrite k
  | .pgLoad => s.cmdPgLoad k env
  | .afeCalibrate => s.cmdAfeCalibrate k
  | .refTrace => s.cmdRefTrace k
  | .shadingCapture => s.cmdShadingCapture k env
  | .lutLoad => s.cmdLutLoad k env
  | .ebRelease => s.cmdEbRelease k
  | .trigArm => s.cmdArm k
  | .dmaStart => s.cmdDmaStart (i * 16 + uSub k.uid - 1)
  | .move => s.cmdMove k.uid k
  | .axisMove => s.cmdAxisMove i k
  | .axisLinear => s.cmdAxisLinear k
  | .axisStop => s.cmdStop k
  | .axisResume => s.cmdAxisResume i
  | .axisSetPosition => s.cmdAxisSetPos i k
  | .axisIdentify => s.cmdAxisIdentify i k
  | .axisHome => s.cmdAxisHome i k
  | .lampCal => s.cmdLampCal i k
  | .chainLoad => s.cmdChainLoad k
  | .recipeLoad => s.cmdRecipeLoad k env
  | .recipeInfo => s.cmdRecipeInfo k
  | .jobStage => s.cmdJobStage k
  | .jobUnstage => s.cmdJobUnstage k
  | .jobStart => s.cmdJobStart k
  | .jobEnd => s.cmdJobEnd k
  | .ropeMark => s.cmdRopeMark k
  | .memRetire => s.cmdRetire k
  | .spareLedger => s.cmdLedger
  | .logRead => s.cmdLogRead k
  | .idCert => s.cmdIdCert k
  | .attest => s.cmdAttest k
  | .authChallenge => s.cmdChallenge
  | .policySet => s.cmdPolicySet k
  | .keyInstall => s.cmdKeyInstall k
  | .keyRevoke => s.cmdKeyRevoke k
  | .ownerFuse => s.cmdOwnerFuse k
  | .fwUpdate => s.cmdFwUpdate k
  | .fwAccept => s.cmdFwAccept
  | .debugUnlock => s.cmdDebugUnlock k
  | .debugRelock => s.cmdDebugRelock
  | .auditExport => s.cmdAuditExport k
  | .bundleExport => s.cmdBundleExport k
  | .bundleImport => s.cmdBundleImport k
  | .powerSet => s.cmdPowerSet k
/-- A packet is executed and answered. `fails`: the Eyebright lanes that fail the self-test of a RESET_UNIT. -/
def State.execPkt (s : State) (k : Pkt) (env : Option Nat) (fails : List Nat) : State :=
  match s.pktCheck k with
  | .inr r => s.answer k r.1 r.2
  | .inl o =>
    if o = .abort ∨ o = .resetUnit then (s.tagged o k).cmdAbort k (o == .resetUnit) fails
    else
      let r := s.runOp o k env
      (if r.2.1 = St.OK then r.1.tagged o k else r.1).answer k r.2.1 r.2.2

/-! ### The FIFOs (R75, R79 to R83, R87) -/

/-- Words that a FIFO holds. -/
def CmdFifo.used (q : CmdFifo) : Nat := q.part.length + (q.waiting.map (fun k => k.params.length + 2)).foldl (· + ·) 0
/-- Keep CMD_STAT and CMD_SEQ in step with the FIFOs. -/
def State.cmdRegs (s : State) : State :=
  let s := (s.set bar0 Cmd.URGENT_FREE (256 - s.urgentQ.used)).set bar0 Cmd.NORMAL_FREE (2048 - s.normalQ.used)
  let s := (s.set bar0 Cmd.URGENT_OVF (b2n s.urgentQ.ovf)).set bar0 Cmd.NORMAL_OVF (b2n s.normalQ.ovf)
  s.set bar0 Cmd.CMD_SEQ s.cmdSeq
/-- A packet from its words. -/
def pktOf (urgent : Bool) (ws : List Nat) (seq : Nat) : Pkt :=
  let w0 := nth ws 0
  let w1 := nth ws 1
  { op := w0 / 2 ^ 24 % 256, tag := w0 % 65536, uid := w1 / 65536 % 65536, flags := w1 % 65536, params := ws.drop 2, seq := seq, urgent := urgent }
/-- The words of a packet, as the host writes them. -/
def pktWords (op tag uid flags : Nat) (params : List Nat) : List Nat :=
  [op * 2 ^ 24 + params.length * 2 ^ 16 + tag % 65536, uid % 65536 * 2 ^ 16 + flags % 65536] ++ params
/-- The next NORMAL packet, of opcode `op`, is taken: READY, not frozen, the last reply written, and for an opcode that is not urgent the firmware running, since the
hardware state machine executes an urgent one (R78, R83, R87, R91, R538). -/
def State.normalServes (s : State) (op : Nat) : Bool :=
  s.ready && !s.frozen && (decide (op < 0x10) || (s.reg bar0 Cmd.SEQ_RUNNING == 1 && !s.sys.stuck)) && s.reply.held == [] && !s.normalPends
/-- The pointers of a command FIFO disagree as it is written or read: it is emptied, as by an overflow (R82, R321, code 6). -/
def State.cmdLost (s : State) (urgent : Bool) : State :=
  let s := s.ptrFound 6 (if urgent then 0 else 1) devU
  ((if urgent then { s with urgentQ := { s.urgentQ with part := [], waiting := [], ovf := true } }
    else { s with normalQ := { s.normalQ with part := [], waiting := [], ovf := true } }).raise Ev.CMD_OVERFLOW devU (if urgent then 1 else 2)).cmdRegs
/-- The packet at the head of NORMAL starts (NORMAL_PACKET_START). -/
def State.normalStart (s : State) (env : Option Nat) (fails : List Nat) : State :=
  match s.normalQ.waiting with
  | [] => s
  | k :: rest =>
    if !s.normalServes k.op then s
    else if s.skewed 6 1 then s.cmdLost false else
    { s with normalQ := { s.normalQ with waiting := rest } }.execPkt k env fails |>.cmdRegs
/-- Number given to a packet at acceptance (R80). -/
def State.nextSeq (s : State) : Nat := if s.cmdSeq = 0xFFFFFFFF then 1 else s.cmdSeq + 1
/-- A packet is taken in: it has its number and is no longer under assembly; a NORMAL packet waits behind the others (R80, R83), and the first to wait starts the
watch of R108. -/
def State.takeIn (s : State) (urgent : Bool) (k : Pkt) : State :=
  if urgent then { s with cmdSeq := s.nextSeq, urgentQ := { s.urgentQ with part := [] } }
  else { s with
    cmdSeq := s.nextSeq, normalQ := { s.normalQ with part := [], waiting := s.normalQ.waiting ++ [k] },
    sys := { s.sys with doneAt := if s.normalQ.waiting == [] then s.now else s.sys.doneAt } }.cmdRegs
/-- A packet is accepted (R80, R83, R86): an URGENT packet is executed, a NORMAL packet starts when none waits before it. -/
def State.accept (s : State) (urgent : Bool) (ws : List Nat) (env : Option Nat) (fails : List Nat) : State :=
  let k := pktOf urgent ws s.nextSeq
  let a := s.takeIn urgent k
  if urgent then (a.execPkt k env fails).cmdRegs
  else if s.normalQ.waiting == [] then a.normalStart env fails else a
/-- The words of the packet under assembly make it whole. -/
def whole (ws : List Nat) : Bool := 2 ≤ ws.length && ws.length == nth ws 0 / 2 ^ 16 % 256 + 2
/-- A write to a command window (R79, R82): dropped while OVF is set; a full FIFO or byte enables not all set overflow. URGENT takes in the whole of a packet whose COUNT is too
large (R81). -/
def State.cmdWord (s : State) (urgent : Bool) (w : Nat) (full : Bool) (env : Option Nat) (fails : List Nat) : State :=
  let q := if urgent then s.urgentQ else s.normalQ
  let put := fun (s : State) (q : CmdFifo) => if urgent then { s with urgentQ := q } else { s with normalQ := q }
  let ws := q.part ++ [w % 2 ^ 32]
  if q.ovf then s
  else if s.skewed 6 (if urgent then 0 else 1) then s.cmdLost urgent
  else if !full || (!(urgent && whole ws) && (if urgent then 256 else 2048) ≤ q.used) then
    ((put s { q with part := [], ovf := true }).raise Ev.CMD_OVERFLOW devU (if urgent then 1 else 2)).cmdRegs
  else if whole ws then s.accept urgent ws env fails
  else (put s { q with part := ws }).cmdRegs
/-- The words of a packet, one after the other (R79). -/
def State.cmdWords (s : State) (urgent : Bool) (ws : List Nat) (env : Option Nat) (fails : List Nat) : State :=
  ws.foldl (fun (s : State) w => s.cmdWord urgent w true env fails) s
/-- RESYNC of a FIFO (R82). -/
def State.resync (s : State) (urgent : Bool) : State :=
  (if urgent then { s with urgentQ := { s.urgentQ with part := [], ovf := false } }
   else { s with normalQ := { s.normalQ with part := [], ovf := false } }).cmdRegs

/-! ### The reply FIFO as the host reads it (R91 to R93) -/

/-- REPLY_FLAGS. -/
def State.replyFlags (s : State) : Nat := b2n s.reply.underrun + b2n s.reply.length * 2 + s.reg bar0 Cmd.LEVEL * 2 ^ 16
/-- A read of REPLY_POP: the word popped; 64 bits show REPLY_FLAGS above it. -/
def State.replyPop (s : State) (wide : Bool) : State :=
  let done := fun (s : State) (w : Nat) =>
    let s := { s with reply := { s.reply with last := w } }.replyRegs
    let s := ((s.set bar0 Cmd.LEVEL s.reply.words.length).set bar0 Cmd.UNDERRUN (b2n s.reply.underrun)).set bar0 Cmd.LENGTH (b2n s.reply.length)
    { s with rdata := if wide then [w, s.replyFlags] else [w] }.replyRelease
  let s := s.replyLost
  match s.reply.words with
  | [] => done ({ s with reply := { s.reply with underrun := true, length := false } }.set bar0 Cmd.UNDERRUN_STICKY 1) s.reply.last
  | x :: l => done { s with reply := { s.reply with words := l, underrun := false, length := x.2 } } x.1

end Sys2Proof.Machine
end

