-- ==== Sys2Proof/Machine/Board.lean ====
section
/-! DEFINITION. What the board sees and does: the pace monitor and the core regulator (R37 to R39, R583), the temperature sensor (R584, R585), SMBus (R599) and the JTAG
instructions (R509, R518, R519, R549, R598). -/
namespace Sys2Proof.Machine
open R

/-! ### Pace and the core supply -/

/-- A PMBus transaction. -/
def State.pmbSend (s : State) (ws : List Nat) : State := { s with sys := { s.sys with pmb := ws :: s.sys.pmb } }
/-- The regulator has not acknowledged (R39, R583). -/
def State.supplyFail (s : State) : State :=
  let s := { s with sys := { s.sys with vreq := none } }.set bar0 Pace.SUPPLY_FAIL 1
  s.raise Ev.PACE_LOW devU (s.reg bar0 Pace.HEADROOM + 256)
/-- Core voltage now requested: the nominal voltage before the first request. -/
def State.vcoreNow (s : State) : Nat := if s.reg bar0 Pace.VCORE_REQ = 0 then 750 else s.reg bar0 Pace.VCORE_REQ
/-- Request a core voltage; `ack` tells whether the regulator acknowledges. -/
def State.supplyRequest (s : State) (mv : Nat) (ack : Bool) : State :=
  let page := s.reg devU Th.VREG_PAGE
  let s := if page = 0xFF then s else s.pmbSend [0x00, page]
  let s := (s.pmbSend [0x21, mv]).set bar0 Pace.VCORE_REQ mv
  let s := { s with sys := { s.sys with paceReqAt := some s.now, vreq := some (s.now, mv) } }
  if ack then s else s.supplyFail
/-- Requests may be made: enabled, no failure standing, 10 ms since the last. -/
def State.mayRequest (s : State) : Bool :=
  s.reg bar0 Pace.SUPPLY_REQ_EN == 1 && s.reg bar0 Pace.SUPPLY_FAIL == 0 && (match s.sys.paceReqAt with | some t => decide (t + 16000000 ≤ s.now) | none => true)
/-- Show a headroom and what follows from it at once (R38, R20). -/
def State.paceShow (s : State) (h uid : Nat) : State :=
  let s := (s.set bar0 Pace.HEADROOM h).set bar0 Pace.MIN_HEADROOM (min h (s.reg bar0 Pace.MIN_HEADROOM))
  let s := ((s.set bar0 Pace.LOW (b2n (h < 8))).set bar0 Pace.CRITICAL (b2n (h < 2))).set bar0 Pace.WORST_UID uid
  let s := s.portsRunning.foldl (fun (s : State) p => (s.degrade p 4 (h < 2)).portRefresh p) s
  let s := if h < 8 && s.sys.paceArmed then s.raise Ev.PACE_LOW devU (h + s.reg bar0 Pace.SUPPLY_FAIL * 256) else s
  let armed : Bool := if h < 8 then false else s.sys.paceArmed || 10 ≤ h
  let high := if h < 20 then none else some (s.sys.paceHigh.getD s.now)
  { s with sys := { s.sys with paceArmed := armed, paceHigh := high } }
/-- Demand of the path of a unit (R37): the samples of a line, that is its length times its planes, over the shortest line period of the port that feeds the path, as
the active recipe has them. None where the unit takes no lines of a port of the job. -/
def State.paceDemand (s : State) (u : Nat) : Option (Nat × Nat) :=
  if s.reg devU Job.ACTIVE_VALID = 0 then none else
  match s.sourcePort u with
  | some p => if tbit (s.reg devU Job.JOB_PORTS) p && samplesOf s s.active p != 0 then
      some (samplesOf s s.active p, s.act (portU p) Port.LINE_PERIOD_MIN) else none
  | none => none
/-- Headroom of one path in percent (R37): (capacity - demand) / demand, rounded down, no lower than the field holds; capacity in samples per second. -/
def headroomOf (cap : Nat) (d : Nat × Nat) : Nat := (cap * d.2 - d.1 * 1600000000) * 100 / (d.1 * 1600000000)
/-- HEADROOM and WORST_UID from the capacities measured (R37): the least over the paths with demand, the first of equal ones; 255 while no path has demand. -/
def State.paceMin (s : State) (paths : List (Nat × Nat)) : Nat × Nat :=
  let worst := paths.foldl (fun (m : Option (Nat × Nat)) x => match s.paceDemand x.1, m with
    | some d, some y => if headroomOf x.2 d < y.1 then some (headroomOf x.2 d, x.1) else m
    | some d, none => some (headroomOf x.2 d, x.1)
    | none, _ => m) none
  match worst with
  | some m => (min 255 m.1, m.2)
  | none => (255, 0)
/-- The pace monitor has measured its paths (PACE_UPDATE). -/
def State.paceUpdate (s : State) (paths : List (Nat × Nat)) (ack : Bool) : State :=
  let m := s.paceMin paths
  let h := m.1
  let s := s.paceShow h m.2
  let now := s.vcoreNow
  let calm : Bool := match s.sys.paceHigh with | some t => decide (t + 1600000000 ≤ s.now) | none => false
  if !s.mayRequest then s
  else if h < 8 then (if now < 900 then s.supplyRequest (min 900 (now + 5)) ack else s)
  else if calm && decide (750 < now) then s.supplyRequest (max 750 (now - 5)) ack
  else s
/-- READ_VOUT 2 ms after a request (VOUT_READBACK). -/
def State.voutReadback (s : State) (mv : Nat) (ack : Bool) : State :=
  match s.sys.vreq with
  | none => s
  | some (t, want) =>
    if s.now < t + 3200000 then s else
    let s := { s with sys := { s.sys with vreq := none } }.pmbSend [0x8B]
    if !ack then s.supplyFail
    else
      let s := s.set devU Th.VCORE_READ mv
      if want + 10 < mv ∨ mv + 10 < want then s.supplyFail else s
/-- PMB_ALERT_N is low. -/
def State.pmbAlert (s : State) : State := (s.pmbSend [0x79]).pmbSend [0x03]
/-- A write of 1 to SUPPLY_FAIL, and of 1 to MIN_CLEAR. -/
def State.supplyFailClear (s : State) : State := s.set bar0 Pace.SUPPLY_FAIL 0
def State.minClear (s : State) : State := s.set bar0 Pace.MIN_HEADROOM (s.reg bar0 Pace.HEADROOM)

/-! ### Temperature -/

/-- A reading of Tj in sixteenths of a degree. -/
def State.tjUpdate (s : State) (tj : Int) : State :=
  let peak := max tj (sgn 16 (s.reg devU Th.TJ_PEAK))
  ((s.set devU Th.TJ (low 16 tj)).set devU Th.TJ_PEAK (low 16 peak)).tjWarn tj

/-! ### SMBus -/

/-- The data of a read are shown in `rdata`. -/
def State.shows (s : State) (ws : List Nat) : State := { s with rdata := ws }
/-- The STATUS word. -/
def State.smbStatus (s : State) : Nat :=
  s.reg devU Pd.READY + b2n s.frozen * 2 + s.reg bar0 Cmd.SEQ_RUNNING * 4 + s.reg devU Th.WARN * 8 + s.reg devU Th.ABOVE_RATE * 16 + s.reg devU Pd.START_FAIL * 256
/-- The part word of the identity block. -/
def Part.word (p : Part) : Nat := p.part % 2 ^ 16 + p.grade % 16 * 2 ^ 16 + p.siliconRev % 256 * 2 ^ 20
/-- SERIAL0 to SERIAL3. -/
def Part.serials (p : Part) : List Nat := (List.range 4).map (fun i => nth p.serial i)

/-! ### JTAG -/

/-- An instruction is selected. -/
def State.jtag (s : State) (ir : Nat) : State := { s with sys := { s.sys with jtagIr := ir, extest := ir == 0 || ir == 3 || ir == 4 } }
/-- The identification code. -/
def Part.idcode (p : Part) : Nat := p.siliconRev % 16 * 2 ^ 28 + p.part % 2 ^ 16 * 2 ^ 12 + 0x2D3 * 2 + 1
/-- A boundary-scan instruction: what the balls show is captured (no rule fixes it) and the bits shifted in are kept. -/
def State.bscan (s : State) (ir bits_ : Nat) : State :=
  let s := (s.jtag ir).shows [Config.freeNat s.draw]
  { s with draw := s.draw + 1, sys := { s.sys with bscan := bits_ } }
/-- CHALLENGE shifts out SERIAL and a fresh nonce. -/
def State.jtagChallenge (s : State) : State :=
  let x := (s.jtag 0x20).challengeIssue
  x.1.shows (s.part.serials ++ x.2)
/-- FREEZE_READ: the 1,024 words of the bank selected. A closed instruction acts as BYPASS (log entry 44). -/
def State.jtagFreezeRead (s : State) (sel : Nat) : State :=
  if s.debugClosed 1 then (s.jtag 0xFF).shows []
  else (s.jtag 0x30).shows ((List.range 1024).map (fun i => if s.readoutOk then s.bankWordAt (sel % 65536) (bits sel 23 16) i else 0))
/-- SCAN_STATE: the status block of the unit selected. -/
def State.jtagScanState (s : State) (sel : Nat) : State :=
  let u := sel % 65536
  if s.debugClosed 2 then (s.jtag 0xFF).shows []
  else (s.jtag 0x31).shows (if uidOk u then s.statusBlock u else List.replicate 8 0)

end Sys2Proof.Machine
end

