-- ==== Sys2Proof/Machine/Bar0.lean ====
section
/-! DEFINITION. BAR0 as the host reads and writes it (R9, R10, R68 to R71, R79, R92, R96 to R100, R329, R547). -/
namespace Sys2Proof.Machine
open R

/-- What a plain field of BAR0 reads as: nothing where it is write-only, what the part fixes in the identity block, and what it holds otherwise. -/
def State.bar0Field (s : State) (f : Field) (i : Nat) : Nat :=
  if f.acc = .wo then 0 else if f.reset = .part then resetOf s.part bar0 f i else s.reg bar0 f i
/-- A word of the blocks of BAR0 that are plain fields. -/
def State.bar0Word (s : State) (off : Nat) : Nat :=
  (wordFields bar0Tables off).foldl (fun n x => n + s.bar0Field x.1 x.2 * 2 ^ fieldLo x.1 x.2) 0
/-- A word of the MSI-X table or of its pending bits. -/
def State.msixWord (s : State) (u : Nat) (tab : List Field) (off : Nat) : Nat :=
  (wordFields tab off).foldl (fun n x => n + s.reg u x.1 x.2 * 2 ^ fieldLo x.1 x.2) 0
/-- A 32-bit read at a byte offset: the state after it and the value. -/
def State.bar0Read (s : State) (off : Nat) : State × Nat :=
  if off % 4 ≠ 0 ∨ 0x10000 ≤ off then (s, 0)
  else if off = 0x118 then let s := s.replyPop false; (s, s.rdata.headD 0)
  else if off = 0x11C then (s, s.replyFlags)
  else if off = 0x110 then (s, s.heartbeat)
  else if off = 0x500 then ((s.set bar0 Tim.TIME_LO (lo32 s.rope)).set bar0 Tim.TIME_HI (hi32 s.rope), lo32 s.rope)
  else if 0x180 ≤ off ∧ off < 0x190 then
    let u := s.windowUid ((off - 0x180) / 4)
    (s, u + b2n (!uidOk u) * 2 ^ 31)
  else if 0x1000 ≤ off ∧ off < 0x3000 then (s, 0)
  else if 0x4000 ≤ off ∧ off < 0x8000 then s.pageRead (s.windowUid ((off - 0x4000) / 0x1000)) (off % 0x1000)
  else if 0xC000 ≤ off ∧ off < 0xE000 then s.frzRead (off - 0xC000)
  else if 0xE000 ≤ off ∧ off < 0xE400 then (s, s.msixWord msixU [Msix.ADDR_LO, Msix.ADDR_HI, Msix.DATA, Msix.MASK] (off - 0xE000))
  else if 0xF000 ≤ off ∧ off < 0xF008 then (s, s.msixWord pbaU [Msix.PBA] (off - 0xF000))
  else
    let w := s.bar0Word off
    (s.rcClear bar0 0 (wordFields bar0Tables off), w)
/-- Fields of BAR0 take a word by their access codes. -/
def State.bar0Fields (s : State) (u : Nat) (tab : List Field) (off w : Nat) : State :=
  (wordFields tab off).foldl (fun (s : State) f => s.writeField u 0 f.1 f.2 (fieldOf f.1 f.2 w)) s
/-- Byte enables of a partial write to the MSI-X table (R69). -/
def mergeBytes (old w be : Nat) : Nat := (List.range 4).foldl (fun n i => n + bits (if tbit be i then w else old) (8 * i + 7) (8 * i) * 2 ^ (8 * i)) 0
/-- A 32-bit write at a byte offset with its byte enables. -/
def State.bar0Write (s : State) (off w be : Nat) : State :=
  let full : Bool := be % 16 == 15
  if off % 4 ≠ 0 ∨ 0x10000 ≤ off then s
  else if 0x1000 ≤ off ∧ off < 0x2000 then s.cmdWord true w full none []
  else if 0x2000 ≤ off ∧ off < 0x3000 then s.cmdWord false w full none []
  else if 0xE000 ≤ off ∧ off < 0xE400 then
    s.msixWrite (off - 0xE000) (mergeBytes (s.msixWord msixU [Msix.ADDR_LO, Msix.ADDR_HI, Msix.DATA, Msix.MASK] (off - 0xE000)) w be)
  else if !full then s
  else if off = 0x104 then
    let s := if tbit w 0 then s.resync true else s
    if tbit w 1 then s.resync false else s
  else if off = 0x200 then (if tbit w 18 then s.supplyFailClear else s)
  else if off = 0x204 then
    let s := s.set bar0 Pace.SUPPLY_REQ_EN (w % 2)
    if tbit w 1 then s.minClear else s
  else if (off = 0x300 ∨ off = 0x304) ∧ s.reg bar0 Evt.ENABLE = 1 then s
  else if off = 0x308 then s.evtEnable w
  else if off = 0x310 then s.evtRd w
  else if 0x3000 ≤ off ∧ off < 0x3400 ∧ off % 16 = 0 then
    (if s.frozen || !s.powered (dmaU ((off - 0x3000) / 16)) then s else s.dmaDoorbell ((off - 0x3000) / 16))
  else if 0x4000 ≤ off ∧ off < 0x8000 then
    let u := s.windowUid ((off - 0x4000) / 0x1000)
    s.pageWrite u (s.pageFields u (off % 0x1000)).2 (off % 0x1000) w
  else if 0xC000 ≤ off ∧ off < 0xE000 then s.bar0Fields frzU tabFrz (off - 0xC000) w
  else s.bar0Fields bar0 bar0Tables off w
/-- A read shown to the host. -/
def hostRead (r : State × Nat) : State := { r.1 with rdata := [r.2] }

end Sys2Proof.Machine
end

