-- ==== Sys2Proof/Machine/Fire.lean ====
section
/-! DEFINITION. The events of the capture path: lines fired (R179 to R189, R224, R394), lines corrected and compared (R200, R254), encoder edges
(R170 to R173, R185), lanes (R164, R165), sensor temperature (R205) and the rotation's clock (R156). -/
namespace Sys2Proof.Machine
open R

/-! ### A line is fired (R179 to R194) -/

/-- A pending start takes the repeat boundary at tick f, where repeat `rep` begins: one more than 8 ticks after acceptance (R443); with ROPE, and on a member, that numbered R_c (R450), or the
next after the message (R451). -/
def State.startDue (s : State) (f rep : Nat) : Bool :=
  s.jobState == 3 && (match s.job.startTick, s.job.startRope with
    | some a, some r => decide (r ≤ rep ∧ a < f)
    | some a, none => decide ((if s.job.remote then a else a + 8) < f)
    | none, _ => false)
/-- A pending JOB_END takes the next repeat boundary after its acceptance (R447). -/
def State.endDue (s : State) (f : Nat) : Bool := s.reg devU Job.END_PENDING == 1 && (match s.job.endTick with | some a => decide (a < f) | none => false)
/-- The running job ends or changes at a repeat boundary of port p at tick f (R443, R447, R450). -/
def State.jobDue (s : State) (p f rep : Nat) : Bool := s.decider == some p && (s.startDue f rep || s.endDue f)
/-- X and the line number move on by one line, without a line (R187, R269): windows that reach it are cut there (R300). -/
def State.linePasses (s : State) (p f : Nat) : State :=
  let c := s.lc p
  let s := (s.lcAdvance p 1).windowsCut p c.nextLine 8
  s.modLc p (fun d => { d with nextLine := c.nextLine + 1, held := true, skipFrom := match d.skipFrom with | some k => some k | none => some (c.nextLine, f, c.repNo) })
/-- The repeat machine of a port that holds or waits to rejoin moves on without events: nothing is captured. -/
def State.repQuiet (s : State) (p n : Nat) (d : RepDecision) : State :=
  s.modLc p (fun c => { c with
    repNo := d.no, repFirst := n, next := none, mPrev := match d.missed with | some e => some e | none => c.mPrev })
/-- Lines skipped under R181 are reported when the next line is fired (R319). -/
def State.gapSkipped (s : State) (p n f cause : Nat) : State :=
  let w := (s.lc p).skipFrom
  let s := s.modLc p (fun c => { c with skipFrom := none, held := false })
  match w with
  | none => s
  | some (l, t, rep) =>
    if n ≤ l then s else
    let s := s.gap p cause 0 l (n - 1) (n - l) rep 0 0 (s.ropeAt t) (s.ropeAt f)
    s.windowsCut p l 8
/-- Flags of a line that are known at its fire (R172, R180, R184, R466). -/
def State.fireFlags (s : State) (p : Nat) (fast : Bool) : Nat :=
  let c := s.lc p
  let web := s.webMode p
  let w := orFlag 0 Ln.OVERSPEED fast
  let w := orFlag w Ln.VELOCITY_SETTLING (web && decide (0 < c.settle))
  let w := orFlag w Ln.ENCODER_FAULT (web && decide (0 < c.faultEdges))
  orFlag w Ln.ROPE_LOST (s.role == 2 && !s.aligned)
/-- The line clock records the fire of line n at tick f (R179, R180, R184). -/
def State.lcFired (s : State) (p n f : Nat) (fast : Bool) : State :=
  let u := lcU p
  let was := (s.lc p).overRun
  let s := s.lcAdvance p 1
  let s := s.modLc p (fun c => { c with
    nextLine := n + 1, fires := ((f, n) :: c.fires).take 4, lastFire := some f, settle := c.settle - 1, overRun := fast })
  let s := ((s.set u Lc.LINE_LO (lo32 n)).set u Lc.LINE_HI (hi32 n % 65536)).lcRegs p
  let s := if fast then s.bump u Lc.OVERSPEED_LINES else s
  if fast && !was then s.raise Ev.LC_OVERSPEED u (lo32 n) else s
/-- What a repeat boundary brings besides commits: the signal REPEAT, and comparison that waited for it (R242, R272, R276). -/
def State.repeatBegins (s : State) (p n : Nat) : State :=
  let s := s.signal { sig := 59, port := p, t := s.rope, line := n, frac := 0, pix := none, cls := 0, node := 0 }
  if (s.eb p).resumeAtRepeat then s.modEb p (fun e => { e with resumeLine := some n, resumeAtRepeat := false }) else s
/-- The first line of the lead port gives LAST_CHANGE (R449), and ends the JOB_START where one of this device has begun the job (R443, R446). -/
def State.firstLine (s : State) (p f : Nat) : State :=
  if s.job.lead != p || !s.job.changeDue then s else
  let d := f - s.job.lastS
  let sp := s.ropeAt s.job.lastS
  let s := ({ s with job := { s.job with changeDue := false } } : State).set devU Job.LAST_CHANGE (sat32 d)
  match s.works.find? (fun w => w.op == 0x64 && w.step == 2) with
  | none => s
  | some w => s.workEnd w St.OK [lo32 sp, hi32 sp, sat32 d]
/-- Line n of a job is fired at tick f, its repeat decision made. -/
def State.fireNumbered (s : State) (p n f : Nat) (d : Option RepDecision) (fast : Bool) : State :=
  let first := (s.lc p).fires == []
  let rb := d.isSome || first
  let s := s.gapSkipped p n f (if (s.lc p).held then 3 else 2)
  let s := match d with
    | some q => s.repBegin p n q
    | none => if first then s.modLc p (fun c => { c with repFirst := n }) else s
  let rep := (s.lc p).repNo
  let rank := if rb then 2 else 1
  let us := s.commitUids.filter (fun u => s.sourcePort u == some p)
  let s := s.boundary us rank rank n rep f
  let s := if rb then s.repeatBegins p n else s
  let c := s.lc p
  let flags := s.fireFlags p fast
  let s := s.lcFired p n f fast
  let lit := s.lampFire p f rep (n - c.repFirst) rb
  let s := lit.1
  let ch := s.chainFire p n
  let s := ch.1
  let fire : Fire := {
    line := n, tick := f, flags := orFlag flags Ln.LAMP_INVALID (lit.2 || ch.2), set := s.active, repNo := rep, repFirst := c.repFirst, meas := c.repMeas,
    resid := c.resid, repFlags := c.repFlags, phased := c.phased, temp := (s.port p).tempLast, strobeNom := strobeNominal s s.active p }
  let s := s.modRing p (fun r => { r with inFlight := r.inFlight ++ [n] })
  let s := s.portFire p fire
  let s := (s.lampSteady p n).chainBoundary p rank f false
  let s := (s.trigPlace p).pulseFire p n f
  let s := s.scanFired p n
  if first then s.firstLine p f else s
/-- A port that holds (R54), waits to rejoin (R31), or is held by STOP (R269) lets lines pass; at a repeat boundary it may start or go on. -/
def State.passOver (s : State) (p n f : Nat) (d : Option RepDecision) : State :=
  let x := s.port p
  if x.hold || x.rejoin then
    let rb := d.isSome || n == 0
    let no := match d with | some q => q.no | none => (s.lc p).repNo
    if rb && x.rejoin then (s.portStart p no 0 f true).fireNumbered p 0 f none false
    else if rb && s.ringU p == 0 then (s.holdEnds p no f).fireNumbered p 0 f none false
    else (match d with | some q => s.repQuiet p n q | none => s).linePasses p f
  else if d.isSome && !s.heldStop p then s.fireNumbered p n f d false
  else (match d with | some q => s.repBegin p n q | none => s).linePasses p f
/-- The line clock of port p reaches its next line at tick f. -/
def State.lineDue (s : State) (p f : Nat) (fast : Bool) : State :=
  let n := (s.lc p).nextLine
  let s := s.lcInputPlace p f n
  let d := s.repDecide p n
  let no := match d with | some q => q.no | none => (s.lc p).repNo
  let rb := d.isSome || (s.lc p).fires == []
  let x := s.port p
  if rb && s.jobDue p f no then
    let s := s.gapSkipped p n f (if (s.lc p).held then 3 else 2)
    { s with job := { s.job with at_ := some f, endOnly := !s.startDue f no } }.lcSilent p 1
  else if x.hold || x.rejoin || (s.webMode p && (s.heldStop p || (s.lc p).held)) then s.passOver p n f d
  else s.fireNumbered p n f d fast
/-- The port fires a line of its SHADING_CAPTURE (R224). -/
def State.captureFire (s : State) (p f : Nat) : State :=
  let n := (s.lc p).nextLine
  let lit := s.lampFire p f 0 0 false
  let s := lit.1
  let fire : Fire := { line := n, tick := f, flags := orFlag 0 Ln.LAMP_INVALID lit.2, set := s.active, capture := true, temp := (s.port p).tempLast, strobeNom := strobeNominal s s.active p }
  let s := (s.modLc p (fun c => { c with nextLine := n + 1 })).modPort p (fun x => { x with capFire := some (f + capPeriodOf s p) })
  s.portFire p fire
/-- The closing fire of a Belay: it begins no line and is not numbered (R394 step 2). -/
def State.belayClose (s : State) (p f : Nat) : State :=
  let s := s.closingMade p
  if (s.port p).fires.any (·.closing) then s
  else s.portFire p { line := (s.lc p).nextLine, tick := f, set := s.active, closing := true }
/-- LINE_FIRE: the next fire of port p, when its tick has come; the closing fire that a port makes after S is one (R133). -/
def State.lineFire (s : State) (p : Nat) : State :=
  if s.fenced (portU p) then s else
  match (s.port p).closeAt with
  | some f => if s.now < f then s else s.closeFires p f
  | none =>
  match (s.port p).capture, (s.port p).capFire with
  | some _, some f => if s.now < f then s else s.captureFire p f
  | some _, none => s
  | none, _ =>
    match s.closingDue p with
    | some f => if s.now < f then s else s.belayClose p f
    | none =>
      if !s.lcFires p then s else
      match s.lcDue p with
      | some (f, fast) => if s.now < f then s else s.lineDue p f fast
      | none => s

/-! ### A line leaves the pipeline, and is compared (R200, R222, R256) -/

/-- Errors of the correction banks met by a line: `ce` corrected, `ue` 1 in the active segment, 2 in the staged one (R222). -/
def State.bankErrors (s : State) (p ce ue : Nat) : State :=
  let u := pipeU p
  let s := if ce = 0 then s else s.bump u Pipe.ECC_CORRECTED ce
  if ue = 1 then s.fencePort p Fr.SHADING_ECC
  else if ue = 2 then
    let s := (s.set u Pipe.STAGED_OK 0).raise Ev.SHADING_ECC u 1
    if s.stagedPorts.contains p then s.stageLost 2 0 else s
  else s
/-- A line of a job has passed stages 1 to 7. -/
def State.lineOut (s : State) (p : Nat) (f : Fire) (rows : List (List Nat)) (srcs : List (Option Readout)) (flags1 : Nat) : State :=
  let flags := f.flags ||| flags1
  let s := s.staleRun p f.line flags
  let r := s.correct p f rows srcs flags
  let s := r.1
  let flags := orFlag r.2.2 Ln.PACE_CRITICAL (s.reg bar0 Pace.CRITICAL == 1)
  let s := s.lampGiveUp p (fun l => l + 1024 ≤ f.line)
  let s := s.lineEnters p f r.2.1 flags (s.lampWaits p f.line)
  let s := (s.markLine p f.line flags r.2.1).closeBlocks p
  let s := (s.lampDecide p).flushHeld p
  if s.webMode p then s else s.belayFill (s.act (lcU p) Lc.AXIS_SEL)
/-- LINE_CORRECTED: the oldest line read out whose exposure has ended leaves the pipeline. -/
def State.lineCorrected (s : State) (p ce ue : Nat) : State :=
  match s.lineReady p with
  | none => s
  | some (r, f) =>
    let s := s.bankErrors p ce ue
    if s.fenced (portU p) then s else
    let m := f.set
    let s := s.lineTake p m r f
    let st := s.lineStage1 p m f.line (s.port p).delay
    match (s.port p).capture with
    | some c =>
      let s := s.staleRun p f.line (f.flags ||| st.2.2)
      if c.kind = 3 then s.deltaLine p c f st.1 (f.flags ||| st.2.2) else s.capLine p c st.1 st.2.1 (f.flags ||| st.2.2) f.temp
    | none => s.lineOut p f st.1 st.2.1 st.2.2
/-- Every open blob closes as though no run of the next line had joined it (R260, R391). -/
def State.passBlobs (s : State) (p k : Nat) : State :=
  let s := (closeSort (s.eb p).blobs).foldl (fun s b => s.blobClose p k 0 b) s
  ((s.modEb p (fun e => { e with split := [] })).verdicts p k).ebRegs p k
/-- The oldest line that waits for Eyebright is compared by cluster k; `l` are the lines that wait after it. A STOP holds a table-mode scan (R268, R393); at
the end of a pass every open blob closes (R391). -/
def State.compareNext (s : State) (p k : Nat) (cl : CLine) (l : List CLine) (ecc : Bool) : State :=
  let held := s.heldStop p
  let s := (s.modEb p (fun e => { e with queue := l })).compareLine p k cl ecc
  let a := s.act (lcU p) Lc.AXIS_SEL
  let n := s.act (lcU p) Lc.REPEAT_LINES / 256
  let ret := !s.webMode p && s.act (axU a) Belay.PASS_RETURN == 1 && n != 0 && (cl.fire.line + 1) % n == 0
  let s := if ret && (s.eb p).blobs != [] then s.passBlobs p k else s
  if !held && s.heldStop p && !s.webMode p then s.belayCause a 2 p false else s
/-- LINE_COMPARED: the oldest line that waits, when one does and a cluster serves the port. `chk`: a lane of the port that compares has detected an internal fault on
this line, and is fenced (R242). -/
def State.lineCompared (s : State) (p : Nat) (ecc : Bool) (chk : Option Nat) : State :=
  match (s.eb p).queue, clusterOf s s.active p with
  | cl :: l, some k =>
    let s := s.compareNext p k cl l ecc
    match chk with
    | some i => if (lanesOf s s.active k p).contains i && (s.eb p).on then s.unitFence (clU k + i + 1) Fr.LANE_CHECK else s
    | none => s
  | _, _ => s
/-- BLOCK_IDLE_EXPIRY: no line for BLOCK_IDLE ticks (R314, R316). -/
def State.blockIdle (s : State) (p : Nat) : State :=
  match (s.ring p).blocks.getLast? with
  | none => s
  | some b =>
    if s.now < b.lastAt + s.act (portU p) Ring.BLOCK_IDLE then s
    else (((s.lampGiveUp p (fun _ => true)).endBlock p).closeBlocks p).flushHeld p

/-! ### Encoder inputs (R170 to R174, R185) -/

/-- How a change of the levels A and B counts (R170): none, up, or down. -/
def encStep (typ : Nat) (a b a' b' : Bool) : Option Bool :=
  let edgeA := a != a'
  let edgeB := b != b'
  if typ = 3 then (if edgeA && a' then some (!b') else none)
  else if typ = 2 then (if edgeA && a' then some (!b) else none)
  else if edgeA then some (a' != b)
  else if edgeB && typ == 0 then some (b' == a)
  else none
/-- A and B have changed together (R172): the counter keeps its value. -/
def State.encQuad (s : State) (i : Nat) : State :=
  let s := (s.bump encU Enc.QERR 1 i).raise Ev.ENC_FAULT encU (i + 4)
  let s := s.modEnc i (fun e => { e with qerrAt := 0 :: e.qerrAt })
  let ps := s.followers i
  let s := ps.foldl (fun (s : State) p => s.lcFault p) s
  if (s.enc i).qerrAt.length < 16 then s
  else ps.foldl (fun (s : State) p => s.fenceServing (lcU p) Fr.ENC_FAULT [p]) (s.modEnc i (fun e => { e with qerrAt := [] }))
/-- A counted edge (R171, R172): `up` its direction, `te` the tick of its crossing. -/
def State.encCount (s : State) (i : Nat) (up : Bool) (te : Nat) : State :=
  let e := s.enc i
  let rate := match e.lastEdge with | some t => decide (te < t + 40) | none => false
  let count := if up then e.count + 1 else e.count - 1
  let s := s.modEnc i (fun e => { e with count := count, zUp := e.zUp || up, zDown := e.zDown || !up, lastEdge := some te, qerrAt := (e.qerrAt.map (· + 1)).filter (fun n => decide (n < 1024)) })
  let s := ((s.set encU Enc.COUNT (low 32 count) i).set encU Enc.LAST_TIME (s.ropeAt te % 2 ^ 32) i).set encU Enc.DIR (b2n (!up)) i
  let s := (s.followers i).foldl (fun (s : State) p =>
    let down := s.act (lcU p) Lc.FWD_DOWN == 1
    if up != down then s.lcForward p (if down then -count else count) te else s.lcReverse p) s
  if !rate then s else
  let s := (s.set encU Enc.RATE_FAULT 1 i).raise Ev.ENC_FAULT encU (i + 12)
  (s.followers i).foldl (fun (s : State) p => s.lcFault p) s
/-- The filtered levels of A and B become a and b: the change counts, with the tick of its crossing, or moves nothing (R170). -/
def State.encAccept (s : State) (i : Nat) (a b : Bool) (te : Nat) : State :=
  let e := s.enc i
  let s := s.modEnc i (fun e => { e with a := a, b := b })
  match encStep (s.reg encU Enc.TYPE i) e.a e.b a b with
  | some up => s.encCount i up te
  | none => s
/-- A and B have both changed within one FILTER interval, or within one tick when FILTER is 0 (R172). Inputs of type 3 have no quadrature. -/
def State.encBoth (s : State) (i : Nat) (a b : Bool) (ga gb : Nat) : Bool :=
  let e := s.enc i
  s.reg encU Enc.TYPE i != 3 && e.a != a && e.b != b && decide (max ga gb - min ga gb < max 1 (s.reg encU Enc.FILTER i))
/-- ENCODER_EDGE: the balls A and B of an input have stood at levels a and b for ga and gb ticks. A level that has stood for less than FILTER ticks is a pulse
so far and is ignored (R171); one that has stood so long counts with the tick at which its input crossed, the older of the two first. -/
def State.encEdge (s : State) (i : Nat) (a b : Bool) (ga gb : Nat) : State :=
  let e := s.enc i
  let f := s.reg encU Enc.FILTER i
  if s.encBoth i a b ga gb then (if f ≤ min ga gb then (s.modEnc i (fun e => { e with a := a, b := b })).encQuad i else s)
  else
    let a := if f ≤ ga then a else e.a
    let b := if f ≤ gb then b else e.b
    if ga ≤ gb then (s.encAccept i e.a b (s.now - gb)).encAccept i a b (s.now - ga)
    else (s.encAccept i a e.b (s.now - ga)).encAccept i a b (s.now - gb)
/-- Z_EDGE: Z has risen, and has stood high for g ticks (R171, R173). -/
def State.encZ (s : State) (i g : Nat) : State :=
  if g < s.reg encU Enc.FILTER i then s else
  let cpr := s.reg encU Enc.CPR i
  let e := s.enc i
  let s := s.modEnc i (fun e => { e with zCount := some e.count, zUp := false, zDown := false })
  let other := if s.reg encU Enc.Z_DOWN i = 1 then e.zUp else e.zDown
  if cpr = 0 ∨ s.reg encU Enc.Z_EN i = 0 ∨ other ∨ s.reg encU Enc.DIR i != s.reg encU Enc.Z_DOWN i then s
  else match e.zCount with
    | none => s
    | some c => if (e.count - c).natAbs = cpr then s else (s.bump encU Enc.ZERR 1 i).raise Ev.ENC_FAULT encU (i + 8)
/-- WEB_STOPPED: no counted edge for STOP_TICKS (R185). -/
def State.webStopped (s : State) (p : Nat) : State :=
  let u := lcU p
  if !s.webMode p || s.reg u Lc.EST_STATE == 2 then s else
  match (s.enc (s.act u Lc.ENC_SEL)).lastEdge with
  | none => s
  | some t => if s.now < t + s.act u Lc.STOP_TICKS then s else (s.estClear p 2).raise Ev.WEB_STATE u 2
/-- EST_STATE is AXIS in table mode and starts afresh in web mode (R183, R195). -/
def State.estSync (s : State) (p : Nat) : State :=
  let e := s.reg (lcU p) Lc.EST_STATE
  if s.webMode p then (if e = 4 then s.estClear p 0 else s)
  else if e = 4 then s else s.estClear p 4

/-! ### Lanes (R164, R165) -/

/-- LANE_LINE_RECEIVED: the words of each lane as received, the arrival of the line and the measured clocks. -/
def State.laneReceived (s : State) (p : Nat) (words : List (List Nat)) (sol clk0 clk1 : Nat) : State :=
  if !(s.port p).started || vw s (s.port p).pgSet (portU p) Port.CAPTURE == 0 then s else s.laneLine p words sol clk0 clk1
/-- LATENCY_MAX_EXPIRY: no SOL has come in the span of the cycle that waits longest. -/
def State.latencyMax (s : State) (p : Nat) : State :=
  let m := (s.port p).pgSet
  match (s.port p).lineWait, (s.port p).cycle with
  | some (r, m), _ => if s.now < r.start + vw s m (rxU p) LaneRx.LATENCY_MAX then s else s.laneOld p (fun s => s.laneLate p)
  | none, none => s
  | none, some r =>
    if vw s m (portU p) Port.CAPTURE = 0 ∨ s.now < r.start + vw s m (rxU p) LaneRx.LATENCY_MAX then s else s.laneLate p
/-- A lane may gain lock (R164): four successive correct sequences, or the last 16 words seen were TRAIN_WORD. -/
def State.lockDue (s : State) (p j : Nat) (seen : List Nat) : Bool :=
  let last := (seen.drop (seen.length - 16)).map (laneWord s s.active p)
  decide (4 ≤ nth (s.port p).met j) || (last.length == 16 && last.all (fun w => w == s.act (rxU p) LaneRx.TRAIN_WORD % 2 ^ laneBits s s.active p))
/-- WORD_LOCK: lane j gains word lock, with the delays the receiver has found; `seen`: the words just received. On a lane that has lock the bit delay follows drift by one step, no
sooner than 256 words after the last. -/
def State.wordLock (s : State) (p j bit word : Nat) (seen : List Nat) : State :=
  let u := rxU p
  let old := s.reg u LaneRx.BIT_DELAY j
  if 16 ≤ j ∨ s.act (portU p) Port.CAPTURE = 0 ∨ !tbit (s.act u LaneRx.LANE_EN) j then s
  else if tbit (s.reg u LaneRx.LOCKED) j then
    if nth (s.port p).drift j < 256 ∨ bit = old then s
    else (s.modPort p (fun x => { x with drift := upd x.drift j (fun _ => 0) })).set u LaneRx.BIT_DELAY (if old < bit then old + 1 else old - 1) j
  else if !s.lockDue p j seen then s
  else
    let s := s.modPort p (fun x => { x with missed := upd x.missed j (fun _ => 0), drift := upd x.drift j (fun _ => 0) })
    let s := (s.set u LaneRx.BIT_DELAY (bit % 64) j).set u LaneRx.WORD_DELAY (word % 4) j
    s.set u LaneRx.LOCKED (setBit (s.reg u LaneRx.LOCKED) j true)

/-! ### Temperature and rotation (R156, R205, R591) -/

/-- T_L of a TSENSE code, in 1/16 °C (R591). -/
def tsense (useUv c : Nat) : Int := fdiv ((Int.ofNat ((c % 4096 * useUv + 2048) / 4096) - 400000) * 16 + 2500) 5000
/-- TSENSE_READING. -/
def State.tsenseReading (s : State) (p c : Nat) : State :=
  let u := pipeU p
  let t := tsense (s.reg calU CalRef.REF_USE_UV) c
  if -960 ≤ t ∧ t ≤ 2400 then (s.modPort p (fun x => { x with tempLast := some t })).set u Pipe.TEMP_BAD 0
  else if s.act u Pipe.TEMP_SRC = 2 then
    let s := if s.reg u Pipe.TEMP_BAD = 0 then s.raise Ev.TEMP_FAULT u (low 16 t) else s
    s.set u Pipe.TEMP_BAD 1
  else s
/-- TEMP_BAD is 0 unless TEMP_SRC is 2. -/
def State.tempSync (s : State) (p : Nat) : State :=
  if s.act (pipeU p) Pipe.TEMP_SRC = 2 ∨ s.reg (pipeU p) Pipe.TEMP_BAD = 0 then s else s.set (pipeU p) Pipe.TEMP_BAD 0
/-- RELIEF_DUE: the rotation's next relief (R156, R157). -/
def State.reliefDue (s : State) (p : Nat) : State :=
  let x := s.port p
  let n := (s.rotTaps p).length
  if s.reg (portU p) Port.ROT_EN = 0 ∨ s.act (portU p) Port.CAPTURE = 1 ∨ x.relief.isSome ∨ x.capture.isSome ∨ x.queueCal != [] ∨ n = 0 ∨
    (x.jobOn && !s.spareFree p) ∨ s.now < x.lastRelief + s.rotMs p / n * msTicks then s
  else match s.rotPick p with
    | none => s
    | some k =>
      (s.modPort p (fun x => { x with queueCal := [s.mkRelief p k [s.act (portU p) Tap.GAIN_CODE k]] })).reliefNext p
/-- A capture on port p has ended meanwhile: a calibration that waited for it goes on (R157). -/
def State.reliefWaits (s : State) (p : Nat) : State :=
  let r := s.reliefResume p
  if r.2 then r.1.fencePort p Fr.AFE_SUSPECT else r.1
/-- CALIBRATION_DONE: the two sums of R149; a port that has lost an enabled tap is fenced (R153). -/
def State.calDone (s : State) (p mLo mHi : Nat) : State :=
  let r := s.calibrationDone p mLo mHi
  if r.2 then r.1.fencePort p Fr.AFE_SUSPECT else r.1

end Sys2Proof.Machine
end

