-- ==== Sys2Proof/Machine/Queues.lean ====
section
/-! DEFINITION. Queues whose two pointer copies disagree (R321), and internal reads of an empty queue (R322). That a pair of pointers disagrees is an upset that the environment
brings (TJ_UPDATE, log entry 75); the next update of the queue finds it. The burst queue, the record queues, the command FIFOs and the reply FIFO find it in the operation that
updates them; the others are looked at after every command. -/
namespace Sys2Proof.Machine
open R

/-- A queue of code 2, 4, 5 or 8 has been updated since `before`. Code 8 stands for the queues of a unit: the readouts and the plane-delay store of a port, the lines that wait
for a cluster, the signals that wait for the trigger engine, the copies of a mover, the moves of an axis. -/
def State.queueMoved (s before : State) (q : Nat × Nat) : Bool :=
  let i := q.2
  match q.1 with
  | 2 => (s.ring i).wr != (before.ring i).wr || (s.ring i).rd != (before.ring i).rd
  | 4 => s.trig.windows.map (·.seq) != before.trig.windows.map (·.seq) || s.trig.closed.map (fun c => (c.seq, c.taken)) != before.trig.closed.map (fun c => (c.seq, c.taken))
  | 5 => (s.dma i).seg != (before.dma i).seg
  | 8 => match uClass i with
    | 1 => (s.port (uInst i)).ready != (before.port (uInst i)).ready || (s.port (uInst i)).delay.map (·.line) != (before.port (uInst i)).delay.map (·.line)
    | 2 => (s.servedBy i).any (fun p => (s.eb p).queue.map (·.fire.line) != (before.eb p).queue.map (·.fire.line))
    | 3 => s.trig.events != before.trig.events
    | 5 => s.moves i != before.moves i
    | 6 => (s.axis (uInst i)).queue != (before.axis (uInst i)).queue
    | _ => false
  | _ => false

/-- The stream ring of a port is emptied (code 2): GAP QUEUE_PTR names the lines from the oldest untransferred block on and is the first record of the ring, while a job stands
in it; the transfer in progress ends with ERROR; Eyebright and the windows meet the gap. -/
def State.ringLost (s : State) (p : Nat) : State :=
  let s := s.ptrFound 2 p (portU p)
  let s := match ringChan s s.active p with | some k => s.dmaError k | none => s
  let r := s.ring p
  let last := r.lastLine.getD 0
  let first := ((r.recs.find? (fun x => x.typ == 1 && decide (r.rd < x.off + x.size))).map (·.first)).getD last
  let n := (((r.hist ++ r.blocks).flatMap (fun b => b.lines.map (·.line))).filter (fun l => decide (first ≤ l) && r.recs.any (·.typ == 1))).length
  let s := (s.modRing p (fun r => { r with rd := r.wr, cm := r.wr, recs := [], blocks := [], hist := [] })).ringRegs p
  if !r.jobOpen then s else
  let s := s.gap p 5 2 first last n (s.repOf p first) 0 0 s.rope 0
  let s := ((s.modEb p (fun e => { e with queue := [] })).ebGapAt p first).stopEnds p
  match r.blocks.head? with
  | some b => s.windowsCut p b.first 8
  | none => s.windowsDone p
/-- The evidence pool is emptied (code 4): open windows are discarded, a transfer of it ends with ERROR, and every home port names its lost windows. -/
def State.poolLost (s : State) : State :=
  let s := s.ptrFound 4 0 trigU
  let s := match (List.range 64).find? (fun k => s.act (dmaU k) Dma.SRC_KIND == 2) with | some k => s.dmaError k | none => s
  let all := s.trig.windows.map (fun w => (w.seq, w.num, w.port)) ++ s.trig.closed.map (fun c => (c.seq, c.num, c.port))
  let s := (s.modTrig (fun t => { t with windows := [], closed := [], poolWr := 0 })).poolRegs
  (List.range 8).foldl (fun (s : State) p =>
    let mine := all.filter (fun x => x.2.2 == p)
    let num := fun (q : Option Nat) => ((mine.find? (fun x => some x.1 == q)).map (·.2.1)).getD 0
    if mine = [] || !(s.ring p).jobOpen then s
    else s.gap p 7 4 0 0 0 0 (num (mine.map (·.1)).min?) (num (mine.map (·.1)).max?) s.rope 0) s
/-- The queues of a DMA channel are emptied (code 5): a transfer in progress ends with ERROR, and the channel is fenced. -/
def State.chanLost (s : State) (k : Nat) : State := ((s.ptrFound 5 k (dmaU k)).dmaError k).dmaFence k Fr.QUEUE_PTR
/-- The queue of another unit is emptied (code 8) and the unit is fenced. Lines that wait for Eyebright leave it uninspected. -/
def State.unitQueueLost (s : State) (u : Nat) : State :=
  let s := s.ptrFound 8 u u
  let i := uInst u
  let s := match uClass u with
    | 1 => s.modPort i (fun x => { x with ready := [], delay := [] })
    | 2 => (s.servedBy u).foldl (fun (s : State) p => (s.eb p).queue.foldl (fun (s : State) (c : CLine) =>
        s.lineFlags p c.fire.line (fun l => { l with flags := orFlag l.flags Ln.UNINSPECTED true, ebDone := true })) (s.modEb p (fun e => { e with queue := [] }))) s
    | 3 => s.modTrig (fun t => { t with events := [] })
    | 5 => s.moverAbort u
    | 6 => s.modAxis i (fun a => { a with queue := [] })
    | _ => s
  s.unitFence u Fr.QUEUE_PTR
/-- An update has found the pointers of a queue to disagree (R321). -/
def State.queueLost (s : State) (q : Nat × Nat) : State :=
  match q.1 with
  | 2 => s.ringLost q.2
  | 4 => s.poolLost
  | 5 => s.chanLost q.2
  | 8 => s.unitQueueLost q.2
  | _ => s
/-- Queues that the command has updated and whose pointers disagree. -/
def State.queueCheck (s before : State) : State := s.skews.foldl (fun (s : State) q => if s.queueMoved before q then s.queueLost q else s) s
/-- An upset (log entries 75, 81): of the MRAM, from code 16 on; else the pointers of a queue disagree from now on, or, as code 9, a stage of unit `q.2` has read an empty queue, whose value it discards, and is fenced
(R322). -/
def State.upset (s : State) (q : Nat × Nat) : State :=
  if 16 ≤ q.1 then s.mramUpset q.1 q.2
  else if q.1 = 9 then (if s.powered q.2 then s.unitFence q.2 Fr.QUEUE_PTR else s)
  else if s.skews.contains q then s else { s with skews := s.skews ++ [q] }

end Sys2Proof.Machine
end

