-- ==== Sys2Proof/Machine/Settle.lean ====
section
/-! DEFINITION. What follows every command: the STATE of the units that only their registers and their port set to work (R20), sets that have come into force
and are taken up, the drain of a job (R51), and the values that other registers show. And the three ways in which a command meets the device: in any
condition, unless it is in reset, or only while it works. -/
namespace Sys2Proof.Machine
open R

/-- A unit that works or not, neither fenced, off, frozen nor stopping, shows a STATE. -/
def State.workSt (s : State) (u : Nat) (st : UState) : State :=
  match s.stOf u with
  | .off | .fenced | .frozen | .stopping => s
  | old => if old = st then s else s.setSt u st
/-- STATE of a line clock (R183, R199), of the pipeline (R205), of the lane receiver and of the channels of a port. -/
def State.portParts (s : State) (p : Nat) : State :=
  let x := s.port p
  let c := s.lc p
  let web := s.webMode p
  let waits : Bool := x.jobOn && (if web then s.reg (lcU p) Lc.EST_STATE == 0 else x.scanWait || c.belayHold)
  let s := s.workSt (lcU p) (if c.aborted || !x.started && !x.jobOn then .idle else if waits || !x.started then .waiting else .running)
  let s := s.workSt (pipeU p) (if s.reg (pipeU p) Pipe.TEMP_BAD == 1 then .degraded else if x.started then .running else .idle)
  let lanes : Bool := s.act (portU p) Port.CAPTURE == 1
  let s := s.workSt (rxU p) (if x.started && lanes then .running else .idle)
  (List.range 9).foldl (fun (s : State) k =>
    let used : Bool := x.started && !lanes && (tapsOn s s.active p).any (fun t => s.serving p t == k)
    let cal : Bool := match x.relief with | some r => r.meas == k && (r.phase == 1 || r.phase == 3) | none => false
    s.workSt (chanU p k) (if used || cal then .running else .idle)) s
/-- STATE of a cluster and its lanes (R272). -/
def State.clusterParts (s : State) (k : Nat) : State :=
  let u := clU k
  let works := fun (i : Nat) => s.act u Clus.EN i == 1 && (let p := s.act u Clus.PORT i; (s.port p).jobOn && (s.eb p).on)
  let spare := s.reg (u + 9) Lane.PHYS
  let s := (List.range 8).foldl (fun (s : State) i => s.workSt (u + i + 1) (if works i then .running else .idle)) s
  let s := s.workSt (u + 9) (if 0 < spare && works (spare - 1) then .running else .idle)
  let good := (List.range 8).foldl (fun (n : Nat) i => n + b2n (works i && s.stOf (u + i + 1) == .running) * 2 ^ i) 0
  let s := if s.reg u Clus.LANE_GOOD = good then s else s.set u Clus.LANE_GOOD good
  s.workSt u (if (List.range 8).any works then .running else .idle)
/-- STATE of the strings of a group and of the chain port. -/
def State.lightParts (s : State) : State :=
  let s := (List.range 8).foldl (fun (s : State) g => [1, 2, 3, 4, 5].foldl (fun (s : State) k =>
    let inn := b2n (match (s.lamp g).spareFor with | some j => k == j || k == 5 | none => false)
    let s := if s.reg (strU g k) Str.SPARE_IN = inn then s else s.set (strU g k) Str.SPARE_IN inn
    s.workSt (strU g k) (if s.lampOn g && s.roleOf g k != 0 then .running else .idle)) s) s
  s.workSt chainU (if s.chain.on && !s.chain.stopped then .running else .idle)
/-- A capture that holds the lamps of its port dark has begun or ended: what CONTINUOUS strings show follows (R224). -/
def State.capLights (s before : State) (g : Nat) : State := if s.lampHeld g = before.lampHeld g then s else s.lampLights g
/-- Sets that have come into force are taken up. `before`: the state before the command. -/
def State.takeUp (s before : State) : State :=
  let s := (List.range 8).foldl (fun (s : State) i => ((((s.axisTakes i).axisInputs i).lampSync i).lampIdle i).capLights before i) s
  let s := s.portsOn.foldl (fun (s : State) p =>
    let s := (s.estSync p).tempSync p
    if (s.port p).started then s else s.gainChange p before.active s.active) s
  s.chainSync.chainBegins
/-- A table-mode port that holds starts as soon as its ring is empty (R54). -/
def State.tableHolds (s : State) : State :=
  s.portsOn.foldl (fun (s : State) p => if (s.port p).hold && !s.webMode p && s.ringU p == 0 then s.holdEnds p 0 s.now else s) s
/-- Reliefs go on: the DAC takes the next point (R151), and where no capture runs what waited for its end starts (R157). -/
def State.reliefsGoOn (s : State) : State :=
  let s := s.portsOn.foldl (fun (s : State) p => if (s.port p).capture.isSome || s.fenced (portU p) then s else s.reliefWaits p) s
  s.dacRun
/-- Jobs and scans go on. -/
def State.jobsGoOn (s : State) : State :=
  let s := s.jobOwes.drainCheck.tableHolds
  let s := (List.range 8).foldl (fun (s : State) a => if s.belayState a = 0 then s else s.scanLeave a) s
  s.startWorkCheck
/-- KEEP_LINES and HIGH_LEVEL of a port, from the sets in force (R323). -/
def State.ringLevels (s : State) (p : Nat) : State :=
  let u := portU p
  let keep := keepLines s s.active p
  let s := if s.reg u Ring.KEEP_LINES = keep then s else s.set u Ring.KEEP_LINES keep
  let h := s.ringH p / 64
  if s.reg u Ring.HIGH_LEVEL = h then s else s.set u Ring.HIGH_LEVEL h
/-- Every unit's STATE and every value that a register derives. -/
def State.derive (s before : State) : State :=
  let s := s.portsOn.foldl (fun (s : State) p => ((s.portParts p).ringLevels p)) s
  let s := (([0, 1].foldl (fun (s : State) k => s.clusterParts k) s).lightParts).bwRegs
  let s := s.lampSignals.set trigU Trig.GPIO_IN s.trig.gpio
  ((s.ledgerStep before).seqWatch).reportChanged
/-- What follows a command goes on. -/
def State.goesOn (s before : State) : State :=
  let r := (s.takeUp before).abortFenced
  let r := r.jobsGoOn.reliefsGoOn.powerWork.queueCheck before
  r.dmaPump.derive before
/-- What the work that follows a command never touches stays as the command left it. -/
def State.keepsRest (r s : State) : State :=
  { r with
    part := s.part, now := s.now, frozen := s.frozen, d3hot := s.d3hot, commitNext := s.commitNext, cmdSeq := s.cmdSeq, urgentQ := s.urgentQ, encs := s.encs,
    vmot := s.vmot, slots := s.slots, pow := s.pow, sram := s.sram, rdata := s.rdata }
/-- What follows a command on a device that works. It reads no data out and starts no command, and it leaves the clock, the freeze, the link's power state,
the domains, the encoders, the recipe store, the shading SRAM and the numbering of packets and commits as they are. -/
def State.settle (s before : State) : State := (s.goesOn before).keepsRest s
/-- The device works: neither held in reset nor frozen. -/
def State.isLive (s : State) : Bool := !s.sys.inReset && !s.frozen

/-- What a command has started goes on, while the device works. `before`: the state before the command. -/
def State.after (r before : State) : State := if r.isLive then r.settle before else r

/-- The state that a command leaves, when `r` is what it has made of the device: the queue of waiting commands is not the command's, the part is what it is,
and the clock never runs back. -/
def State.ends (s : State) (at_ : Nat) (r : State) : State :=
  { r with pending := s.pending, part := s.part, now := max (s.advance at_).now r.now }
/-- A command acts in every condition of the device. -/
def State.always (s : State) (at_ : Nat) (f : State → State) : State := s.ends at_ (f (s.advance at_))
/-- A command acts unless the device is held in reset. -/
def State.onHost (s : State) (at_ : Nat) (f : State → State) : State :=
  s.always at_ (fun t => if t.sys.inReset then t else f t)
/-- The same, and what it starts goes on. -/
def State.onHostThen (s : State) (at_ : Nat) (f : State → State) : State :=
  s.onHost at_ (fun t => (f t).after t)
/-- What an event of the device's own leaves alone: the freeze, the link's power state, the numbering of packets, the URGENT FIFO and the data of the last
read. -/
def State.keepsHost (r s : State) : State :=
  { r with frozen := s.frozen, d3hot := s.d3hot, cmdSeq := s.cmdSeq, urgentQ := s.urgentQ, rdata := s.rdata }
/-- What a command packet or a write of the host leaves alone: the link's power state, the encoder inputs, the shading SRAM and the data of the last read. -/
def State.keepsPins (r s : State) : State :=
  { r with d3hot := s.d3hot, encs := s.encs, sram := s.sram, rdata := s.rdata }
/-- An event of the device acts only while the device works, and what it starts goes on. -/
def State.onCore (s : State) (at_ : Nat) (f : State → State) : State :=
  s.onHostThen at_ (fun t => if t.frozen then t else (f t).keepsHost t)
/-- The same for an event that may freeze the device or that starts a command packet. -/
def State.onSeq (s : State) (at_ : Nat) (f : State → State) : State :=
  s.onHostThen at_ (fun t => if t.frozen then t else (f t).keepsPins t)
/-- A command acts on a unit, one of `n` alike, only while the device works and the unit's domain is on. -/
def State.onUnit (s : State) (at_ idx n u : Nat) (f : State → State) : State :=
  s.onCore at_ (fun t => if idx < n && t.powered u && !fusedOff t.part u then f t else t)
/-- An access of the host through BAR0 or BAR2: none reaches a function in D3hot (R67). -/
def State.onBar (s : State) (at_ : Nat) (f : State → State) : State :=
  s.onHost at_ (fun t => if t.d3hot then t else f t)
/-- The same, and what it starts goes on. -/
def State.onBarThen (s : State) (at_ : Nat) (f : State → State) : State :=
  s.onHostThen at_ (fun t => if t.d3hot then t else (f t).keepsPins t)
/-- An edge on an input pin: a device that does not work only keeps the level (`g`). -/
def State.onPins (s : State) (at_ : Nat) (g f : State → State) : State :=
  s.always at_ (fun t => if !t.isLive then g t else ((f t).keepsHost t).after t)
/-- A packet whose words the host writes one after the other into a command window. -/
def State.packet (s : State) (at_ : Nat) (urgent : Bool) (op tag uid flags : Nat) (params : List Nat) (env : Option Nat) (fails : List Nat) : State :=
  s.onBarThen at_ (fun t => t.cmdWords urgent (pktWords op tag uid flags params) env fails)

/-! ### Commands that need a little more than one operation -/

/-- TIME_LO is read: TIME_HI is latched with it, and a 64-bit read shows both (R8, R10). -/
def State.timeLoRead (s : State) (wide : Bool) : State :=
  let r := s.bar0Read 0x500
  { r.1 with rdata := if wide then [r.2, hi32 s.rope] else [r.2] }
/-- The level of a GPIO input on its pin. -/
def State.gpioLevel (s : State) (k : Nat) (level : Bool) : State := s.modTrig (fun t => { t with gpio := setBit t.gpio k level })
/-- TRIGGER_SLOT: a trigger may freeze the device (R295). -/
def State.triggerSlot (s : State) : State :=
  let r := s.trigSlot
  if r.2 then r.1.freeze 2 else r.1
/-- AXIS_UPDATE: the update at the last multiple of 16 ticks, once (R349). -/
def State.axisTick (s : State) (a : Nat) : State :=
  let u := s.now / 16 * 16
  if u ≤ (s.axis a).upd then s else ((s.axisUpdate a u).scanUpdate a u).axisAfter a
/-- AXIS_INPUT_DEBOUNCED: an input has held its new level for DEBOUNCE (R378). -/
def State.axisInputCounts (s : State) (a k : Nat) : State :=
  match s.axisDebounced a k with
  | (s, some (p, true)) => (s.driftEdge a k p).axisAfter a
  | (s, _) => s.axisAfter a
/-- INDEX_EDGE (R378). -/
def State.axisIndexEdge (s : State) (a : Nat) : State :=
  if !tbit (s.act (axU a) Axis.IN_EN) 3 then s else
  let pos := (s.axis a).pos
  ((s.axisIndex a).driftEdge a 3 pos).axisAfter a
/-- AXn_FAULT_N has been active for 1 µs (R364): the axis is driven. -/
def State.axisDriverFault (s : State) (a : Nat) : State :=
  if s.act (axU a) Axis.MODE = 0 then s else (s.axisFault a 5).axisAfter a
/-- The interval oscillators have been read; write timing follows them (R476). -/
def State.wckTrack (s : State) (osc : List Nat) : State := { s with memS := { s.memS with wck := osc } }

end Sys2Proof.Machine
end

