-- ==== Sys2Proof/Machine/Access.lean ====
section
/-! DEFINITION. Rows by which the host reaches the device: command windows, the reply FIFO, registers, BAR2, and the PCIe function (chapter 02). -/
namespace Sys2Proof.Machine

/-- COMMAND_WORD_WRITE (R79): a word for a command window; byte enables not all set make an overflow (R82). `env`: where a command that the word completes
meets an uncorrectable memory error; `fails`: the lanes whose self-test it finds failed. -/
def execCommandWordWrite (t : Nat) (urgent : Bool) (w be : Nat) (env : Option Nat) (fails : List Nat) (s : State) : Host.Outcome State Fault Refusal :=
  .next (s.onBarThen t (fun r => r.cmdWord urgent w (be % 16 == 15) env fails))
/-- RESYNC_URGENT (R82): RESYNC_URGENT is written with 1. -/
def execResyncUrgent (t : Nat) (s : State) : Host.Outcome State Fault Refusal :=
  .next (s.onBar t (fun r => r.resync true))
/-- RESYNC_NORMAL (R82): RESYNC_NORMAL is written with 1. -/
def execResyncNormal (t : Nat) (s : State) : Host.Outcome State Fault Refusal :=
  .next (s.onBar t (fun r => r.resync false))
/-- NORMAL_PACKET_START (R83): the next NORMAL packet starts, when the sequencer or the hardware can take one (R83, R87, R91). -/
def execNormalPacketStart (t : Nat) (env : Option Nat) (fails : List Nat) (s : State) : Host.Outcome State Fault Refusal :=
  .next (s.onSeq t (fun r => r.normalStart env fails))
/-- REPLY_POP (R92): REPLY_POP is read, in a 64-bit read with REPLY_FLAGS beside it. -/
def execReplyPop (t : Nat) (wide : Bool) (s : State) : Host.Outcome State Fault Refusal :=
  .next (s.onBar t (fun r => r.replyPop wide))
/-- RES_TAG_READ (R71): RES_TAG of the unit in window n is read. -/
def execResTagRead (t n : Nat) (s : State) : Host.Outcome State Fault Refusal :=
  .next (s.onBar t (fun r => if 4 ≤ n then r else hostRead (r.pageRead (r.windowUid n) 0xF00)))
/-- TIME_LO_READ (R68): TIME_LO is read, in a 64-bit read with TIME_HI beside it. -/
def execTimeLoRead (t : Nat) (wide : Bool) (s : State) : Host.Outcome State Fault Refusal :=
  .next (s.onBar t (fun r => r.timeLoRead wide))
/-- RC_READ (R9): a 32-bit read of BAR0; RC fields of the word are cleared after it. An offset with a row of its own acts as that row. -/
def execRcRead (t off : Nat) (s : State) : Host.Outcome State Fault Refusal :=
  .next (s.onBar t (fun r => hostRead (r.bar0Read off)))
/-- REGISTER_WRITE (R42): a write to BAR0 with its byte enables. An offset with a row of its own acts as that row. -/
def execRegisterWrite (t off w be : Nat) (s : State) : Host.Outcome State Fault Refusal :=
  .next (s.onBarThen t (fun r => r.bar0Write off w be))
/-- EVENT_RING_ENABLE (R96): the word with ENABLE is written. -/
def execEventRingEnable (t w : Nat) (s : State) : Host.Outcome State Fault Refusal :=
  .next (s.onBar t (fun r => r.evtEnable w))
/-- EVT_RD_WRITE (R97): EVT_RD is written. -/
def execEvtRdWrite (t w : Nat) (s : State) : Host.Outcome State Fault Refusal :=
  .next (s.onBar t (fun r => r.evtRd w))
/-- EVENT_HOLDOFF_EXPIRY (R100): the hold-off of vector v ends. -/
def execEventHoldoffExpiry (t v : Nat) (s : State) : Host.Outcome State Fault Refusal :=
  .next (s.onHost t (fun r => r.holdoffEnds v))
/-- SEQ_WEDGED (R108): 250 ms have passed without a heartbeat (`beat`) or without a reply. -/
def execSeqWedged (t : Nat) (beat : Bool) (s : State) : Host.Outcome State Fault Refusal :=
  .next (s.onHostThen t (fun r => r.seqWedged beat))
/-- SUPPLY_FAIL_CLEAR (R39): SUPPLY_FAIL is written with 1. -/
def execSupplyFailClear (t : Nat) (s : State) : Host.Outcome State Fault Refusal :=
  .next (s.onBar t (fun r => r.supplyFailClear))
/-- MIN_CLEAR (R39): MIN_CLEAR is written with 1. -/
def execMinClear (t : Nat) (s : State) : Host.Outcome State Fault Refusal :=
  .next (s.onBar t (fun r => r.minClear))
/-- BAR2_READ (R72): a read through BAR2. -/
def execBar2Read (t off len : Nat) (env : Option Nat) (s : State) : Host.Outcome State Fault Refusal :=
  .next (s.onBar t (fun r => r.bar2Read off len env))
/-- BAR2_WRITE (R73): a write through BAR2. -/
def execBar2Write (t off : Nat) (bytes : List Nat) (s : State) : Host.Outcome State Fault Refusal :=
  .next (s.onBarThen t (fun r => r.bar2Write off bytes))
/-- FUNCTION_LEVEL_RESET (R66): a Function Level Reset. -/
def execFunctionLevelReset (t : Nat) (s : State) : Host.Outcome State Fault Refusal :=
  .next (s.onHostThen t (fun r => r.flr))
/-- PERST_N (R536): PERST_N is asserted. -/
def execPerstN (t : Nat) (s : State) : Host.Outcome State Fault Refusal :=
  .next (s.onHostThen t (fun r => r.perst))
/-- D3HOT_ENTRY (R67): the function enters D3hot. -/
def execD3hotEntry (t : Nat) (s : State) : Host.Outcome State Fault Refusal :=
  .next (s.onHost t (fun r => r.d3Enter))
/-- D0_RETURN (R67): the function returns to D0; `cfg`: the configuration writes of the host that go with it. -/
def execD0Return (t : Nat) (s : State) (cfg : List (CfgReg × Nat) := []) : Host.Outcome State Fault Refusal :=
  .next (s.onHostThen t (fun r => r.d0Return cfg))
/-- LINK_RETRAIN (R64): the link has trained at a rate and a width; `cfg`: the configuration writes of the host that follow. -/
def execLinkRetrain (t rate width : Nat) (s : State) (cfg : List (CfgReg × Nat) := []) : Host.Outcome State Fault Refusal :=
  .next (s.onHost t (fun r => (r.linkTrain rate width).cfgWrites cfg))

end Sys2Proof.Machine
end

