-- ==== Sys2Proof/Machine/Imaging.lean ====
section
/-! DEFINITION. Rows of the ports: lines, front ends, placement, correction and Eyebright (chapters 03 to 07). -/
namespace Sys2Proof.Machine

/-- LINE_FIRE (R179): the next line of port p, when its tick has come. -/
def execLineFire (t p : Nat) (s : State) : Host.Outcome State Fault Refusal :=
  .next (s.onUnit t p 8 (portU p) (fun r => r.lineFire p))
/-- PG_STEP (R115): the next step of the pattern generator, with the converter codes of the nine channels. -/
def execPgStep (t p : Nat) (codes : List Nat) (s : State) : Host.Outcome State Fault Refusal :=
  .next (s.onUnit t p 8 (portU p) (fun r => r.pgStep p codes))
/-- EXPOSURE_START (R125): the exposure of the next line begins, when its instant has come. -/
def execExposureStart (t p : Nat) (s : State) : Host.Outcome State Fault Refusal :=
  .next (s.onUnit t p 8 (portU p) (fun r => r.exposureStart p))
/-- EXPOSURE_END (R125): the open exposure ends, when its instant has come. -/
def execExposureEnd (t p : Nat) (s : State) : Host.Outcome State Fault Refusal :=
  .next (s.onUnit t p 8 (portU p) (fun r => r.exposureEnd p))
/-- LANE_LINE_RECEIVED (R165): a line has come in: the words of each lane as received, with their synchronising sequences (sync framing) or those sampled while LV was
high, and when and at which rates it came. -/
def execLaneLineReceived (t p : Nat) (words : List (List Nat)) (came : Arrival) (s : State) : Host.Outcome State Fault Refusal :=
  .next (s.onUnit t p 8 (portU p) (fun r => r.laneReceived p words came.sol came.clk0 came.clk1))
/-- LINE_CORRECTED (R200): the oldest line read out leaves the pipeline; `ce`: entries corrected, `ue`: 1 an uncorrectable entry in the active segment, 2
in the staged one. -/
def execLineCorrected (t p ce ue : Nat) (s : State) : Host.Outcome State Fault Refusal :=
  .next (s.onUnit t p 8 (portU p) (fun r => r.lineCorrected p ce ue))
/-- BLOCK_IDLE_EXPIRY (R314): BLOCK_IDLE has passed without a line. -/
def execBlockIdleExpiry (t p : Nat) (s : State) : Host.Outcome State Fault Refusal :=
  .next (s.onUnit t p 8 (portU p) (fun r => r.blockIdle p))
/-- TSENSE_READING (R205): a reading of TSENSE, as a 12-bit code. -/
def execTsenseReading (t p code : Nat) (s : State) : Host.Outcome State Fault Refusal :=
  .next (s.onUnit t p 8 (portU p) (fun r => r.tsenseReading p code))
/-- RELIEF_DUE (R156): the next relief of the rotation, when it is due. -/
def execReliefDue (t p : Nat) (s : State) : Host.Outcome State Fault Refusal :=
  .next (s.onUnit t p 8 (portU p) (fun r => r.reliefDue p))
/-- CALIBRATION_DONE (R149): a calibration has given its two sums. -/
def execCalibrationDone (t p mLo mHi : Nat) (s : State) : Host.Outcome State Fault Refusal :=
  .next (s.onUnit t p 8 (portU p) (fun r => r.calDone p mLo mHi))
/-- ENCODER_EDGE (R171): A and B of input i stand at a and b, and have done so for ga and gb ticks. A device that does not work only keeps the levels. -/
def execEncoderEdge (t i : Nat) (a b : Bool) (s : State) (ga gb : Nat := 64) : Host.Outcome State Fault Refusal :=
  .next (s.onPins t (fun r => if 4 ≤ i then r else r.modEnc i (fun e => { e with a := a, b := b })) (fun r => if 4 ≤ i then r else r.encEdge i a b ga gb))
/-- Z_EDGE (R173): a rising edge of Z of input i, which has stood high for g ticks. -/
def execZEdge (t i : Nat) (s : State) (g : Nat := 64) : Host.Outcome State Fault Refusal :=
  .next (s.onCore t (fun r => if 4 ≤ i then r else r.encZ i g))
/-- WEB_STOPPED (R185): STOP_TICKS have passed without a counted edge. -/
def execWebStopped (t p : Nat) (s : State) : Host.Outcome State Fault Refusal :=
  .next (s.onUnit t p 8 (lcU p) (fun r => r.webStopped p))
/-- LINE_COMPARED (R254): the oldest line that waits is compared; `ecc`: a reference fetch met an uncorrectable error; `chk`: a lane that has detected an internal
fault meanwhile (R242). -/
def execLineCompared (t p : Nat) (ecc : Bool) (s : State) (chk : Option Nat := none) : Host.Outcome State Fault Refusal :=
  .next (s.onUnit t p 8 (portU p) (fun r => r.lineCompared p ecc chk))
/-- PG_LOAD (R121): PG_LOAD as a packet. -/
def execPgLoad (t : Nat) (urgent : Bool) (tag uid flags : Nat) (params : List Nat) (env : Option Nat) (s : State) : Host.Outcome State Fault Refusal :=
  .next (s.packet t urgent 0x20 tag uid flags params env [])
/-- AFE_CALIBRATE (R159): AFE_CALIBRATE as a packet. -/
def execAfeCalibrate (t : Nat) (urgent : Bool) (tag uid flags : Nat) (params : List Nat) (env : Option Nat) (s : State) : Host.Outcome State Fault Refusal :=
  .next (s.packet t urgent 0x21 tag uid flags params env [])
/-- REF_TRACE (R148): REF_TRACE as a packet. -/
def execRefTrace (t : Nat) (urgent : Bool) (tag uid flags : Nat) (params : List Nat) (env : Option Nat) (s : State) : Host.Outcome State Fault Refusal :=
  .next (s.packet t urgent 0x22 tag uid flags params env [])
/-- SHADING_CAPTURE (R224): SHADING_CAPTURE as a packet. -/
def execShadingCapture (t : Nat) (urgent : Bool) (tag uid flags : Nat) (params : List Nat) (env : Option Nat) (s : State) : Host.Outcome State Fault Refusal :=
  .next (s.packet t urgent 0x23 tag uid flags params env [])
/-- CAPTURE_ATTEMPT_END (R227): the two captures of an attempt are compared. -/
def execCaptureAttemptEnd (t p : Nat) (s : State) : Host.Outcome State Fault Refusal :=
  .next (s.onUnit t p 8 (portU p) (fun r => r.capAttempt p))
/-- LUT_LOAD (R223): LUT_LOAD as a packet. -/
def execLutLoad (t : Nat) (urgent : Bool) (tag uid flags : Nat) (params : List Nat) (env : Option Nat) (s : State) : Host.Outcome State Fault Refusal :=
  .next (s.packet t urgent 0x24 tag uid flags params env [])
/-- EB_RELEASE (R566): EB_RELEASE as a packet. -/
def execEbRelease (t : Nat) (urgent : Bool) (tag uid flags : Nat) (params : List Nat) (env : Option Nat) (s : State) : Host.Outcome State Fault Refusal :=
  .next (s.packet t urgent 0x28 tag uid flags params env [])
/-- WORD_LOCK (R164): a lane gains word lock, with the delays its receiver has found, or its bit delay follows drift; `seen`: the words just received. -/
def execWordLock (t p lane bit word : Nat) (s : State) (seen : List Nat := []) : Host.Outcome State Fault Refusal :=
  .next (s.onUnit t p 8 (portU p) (fun r => r.wordLock p lane bit word seen))
/-- LATENCY_MAX_EXPIRY (R165): LATENCY_MAX has passed since the cycle start without a line. -/
def execLatencyMaxExpiry (t p : Nat) (s : State) : Host.Outcome State Fault Refusal :=
  .next (s.onUnit t p 8 (portU p) (fun r => r.latencyMax p))

end Sys2Proof.Machine
end

