-- ==== Sys2Proof/Machine/Jobs.lean ====
section
/-! DEFINITION. Rows of recipes and jobs (chapter 13). -/
namespace Sys2Proof.Machine

/-- JOB_BOUNDARY (R445): the sample point of a job boundary. -/
def execJobBoundary (t : Nat) (s : State) : Host.Outcome State Fault Refusal :=
  .next (s.onCore t (fun r => r.jobBoundary))
/-- NEW_JOB_START (R52): the drain is complete and the next job starts. -/
def execNewJobStart (t : Nat) (s : State) : Host.Outcome State Fault Refusal :=
  .next (s.onCore t (fun r => r.newJobStart))
/-- STAGING_DONE (R438): staging has done what it can; `ues`: addresses of uncorrectable errors that it met. -/
def execStagingDone (t : Nat) (ues : List Nat) (s : State) : Host.Outcome State Fault Refusal :=
  .next (s.onCore t (fun r => r.stagingDone ues))
/-- RECIPE_LOAD (R432): RECIPE_LOAD as a packet. -/
def execRecipeLoad (t : Nat) (urgent : Bool) (tag uid flags : Nat) (params : List Nat) (env : Option Nat) (s : State) : Host.Outcome State Fault Refusal :=
  .next (s.packet t urgent 0x60 tag uid flags params env [])
/-- RECIPE_INFO (R431): RECIPE_INFO as a packet. -/
def execRecipeInfo (t : Nat) (urgent : Bool) (tag uid flags : Nat) (params : List Nat) (env : Option Nat) (s : State) : Host.Outcome State Fault Refusal :=
  .next (s.packet t urgent 0x61 tag uid flags params env [])
/-- JOB_STAGE (R438): JOB_STAGE as a packet. -/
def execJobStage (t : Nat) (urgent : Bool) (tag uid flags : Nat) (params : List Nat) (env : Option Nat) (s : State) : Host.Outcome State Fault Refusal :=
  .next (s.packet t urgent 0x62 tag uid flags params env [])
/-- JOB_UNSTAGE (R442): JOB_UNSTAGE as a packet. -/
def execJobUnstage (t : Nat) (urgent : Bool) (tag uid flags : Nat) (params : List Nat) (env : Option Nat) (s : State) : Host.Outcome State Fault Refusal :=
  .next (s.packet t urgent 0x63 tag uid flags params env [])
/-- JOB_START (R443): JOB_START as a packet. -/
def execJobStart (t : Nat) (urgent : Bool) (tag uid flags : Nat) (params : List Nat) (env : Option Nat) (s : State) : Host.Outcome State Fault Refusal :=
  .next (s.packet t urgent 0x64 tag uid flags params env [])
/-- JOB_END (R447): JOB_END as a packet. -/
def execJobEnd (t : Nat) (urgent : Bool) (tag uid flags : Nat) (params : List Nat) (env : Option Nat) (s : State) : Host.Outcome State Fault Refusal :=
  .next (s.packet t urgent 0x65 tag uid flags params env [])

end Sys2Proof.Machine
end

