-- ==== Sys2Proof/Machine/Light.lean ====
section
/-! DEFINITION. Rows of the lamp groups, the chain port and Harebell (chapter 12). -/
namespace Sys2Proof.Machine

/-- STROBE_START (R410): the strobe of the next line begins, when its instant has come. -/
def execStrobeStart (t g : Nat) (s : State) : Host.Outcome State Fault Refusal :=
  .next (s.onUnit t g 8 (lampU g) (fun r => r.strobeStart g))
/-- STROBE_END (R410): the strobe or the diagnosis pulse ends. -/
def execStrobeEnd (t g : Nat) (s : State) : Host.Outcome State Fault Refusal :=
  .next (s.onUnit t g 8 (lampU g) (fun r => r.strobeEnd g))
/-- OVP_TRIP (R413): the flyback comparator of slot k trips in a lit pulse. -/
def execOvpTrip (t g k : Nat) (s : State) : Host.Outcome State Fault Refusal :=
  .next (s.onUnit t g 8 (lampU g) (fun r => r.ovpTrip g k))
/-- LAMP_MEASUREMENT (R413): the voltage (mV) and current (µA) of the last 800 lit ticks of slot k. In a SENSE run the two operands are the sums of a calibration. The last operand has no
part: the patch mean of a DELTA run comes from the lines captured (R418). -/
def execLampMeasurement (t g k mv ua _mean : Nat) (s : State) : Host.Outcome State Fault Refusal :=
  .next (s.onUnit t g 8 (lampU g) (fun r => r.lampMeasure g k mv ua))
/-- CONTINUOUS_MEASURE (R413): a CONTINUOUS string is measured. -/
def execContinuousMeasure (t g k mv ua : Nat) (s : State) : Host.Outcome State Fault Refusal :=
  .next (s.onUnit t g 8 (lampU g) (fun r => r.lampContinuous g k mv ua))
/-- DIAG_PULSE (R414): a due diagnosis pulse begins at its instant. -/
def execDiagPulse (t g : Nat) (s : State) : Host.Outcome State Fault Refusal :=
  .next (s.onUnit t g 8 (lampU g) (fun r => r.diagPulse g))
/-- LAMP_RELIGHT (R417): the group is relit with the spare at the boundary found. -/
def execLampRelight (t g : Nat) (s : State) : Host.Outcome State Fault Refusal :=
  .next (s.onUnit t g 8 (lampU g) (fun r => r.lampRelight g))
/-- CHAIN_LATCH (R423): CHAIN_LAT pulses, when a latch is due. -/
def execChainLatch (t : Nat) (s : State) : Host.Outcome State Fault Refusal :=
  .next (s.onUnit t 0 1 (chainU) (fun r => r.chainLatch))
/-- CHAIN_SHIFT_DONE (R424): a shift ends; `ret`: the bits that came back, `count`: the clocks until the marker returned. -/
def execChainShiftDone (t ret count : Nat) (s : State) : Host.Outcome State Fault Refusal :=
  .next (s.onUnit t 0 1 (chainU) (fun r => r.chainShiftDone ret count))
/-- CHAIN_RESTART (R424): CHAIN_RESTART is written with 1. -/
def execChainRestart (t : Nat) (s : State) : Host.Outcome State Fault Refusal :=
  .next (s.onBarThen t (fun r => if r.windowOk chainU then r.chainRestart else r))
/-- HAREBELL_TICK (R425): engine e computes the brightness of its targets. -/
def execHarebellTick (t e : Nat) (s : State) : Host.Outcome State Fault Refusal :=
  .next (s.onUnit t e 4 (hareU e) (fun r => r.hareTick e))
/-- LAMP_CAL (R409): LAMP_CAL as a packet. -/
def execLampCal (t : Nat) (urgent : Bool) (tag uid flags : Nat) (params : List Nat) (env : Option Nat) (s : State) : Host.Outcome State Fault Refusal :=
  .next (s.packet t urgent 0x50 tag uid flags params env [])
/-- CHAIN_LOAD (R572): CHAIN_LOAD as a packet. -/
def execChainLoad (t : Nat) (urgent : Bool) (tag uid flags : Nat) (params : List Nat) (env : Option Nat) (s : State) : Host.Outcome State Fault Refusal :=
  .next (s.packet t urgent 0x51 tag uid flags params env [])
/-- BUCK_SWITCH_ON_TIMEOUT (R413): the buck of slot k has not reached its current within 100 µs. -/
def execBuckSwitchOnTimeout (t g k : Nat) (s : State) : Host.Outcome State Fault Refusal :=
  .next (s.onUnit t g 8 (lampU g) (fun r => r.buckTimeout g k))

end Sys2Proof.Machine
end

