-- ==== Sys2Proof/Machine/Messages.lean ====
section
/-! DEFINITION. Rows of the Rope (chapter 14). -/
namespace Sys2Proof.Machine

/-- PITCH_SYMBOL_LOCK (R459): pitch k (0 to 3 downstream, 4 upstream) gains symbol lock. -/
def execPitchSymbolLock (t k : Nat) (s : State) : Host.Outcome State Fault Refusal :=
  .next (s.onHostThen t (fun r => r.pitchLock k true))
/-- PITCH_LOCK_LOSS (R471): pitch k has lost symbol lock for 1 µs. -/
def execPitchLockLoss (t k : Nat) (s : State) : Host.Outcome State Fault Refusal :=
  .next (s.onHostThen t (fun r => r.pitchLock k false))
/-- LINK_RETRY (R459): a failed pitch tries again. -/
def execLinkRetry (t k : Nat) (s : State) : Host.Outcome State Fault Refusal :=
  .next (s.onUnit t 0 1 (ropeU) (fun r => r.linkRetry k))
/-- DELAY_EXCHANGE (R460): an answer of the delay exchange, as (t4 − t1) − (t3 − t2). -/
def execDelayExchange (t k : Nat) (d : Int) (s : State) : Host.Outcome State Fault Refusal :=
  .next (s.onUnit t 0 1 (ropeU) (fun r => r.delayExchange k d))
/-- ROPE_ACK (R462): an acknowledgement (`ok`) or a negative one. -/
def execRopeAck (t k lseq : Nat) (ok : Bool) (s : State) : Host.Outcome State Fault Refusal :=
  .next (s.onUnit t 0 1 (ropeU) (fun r => r.ropeAck k lseq ok))
/-- ROPE_ACK_TIMEOUT (R462): no acknowledgement within 2 µs. -/
def execRopeAckTimeout (t k lseq : Nat) (s : State) : Host.Outcome State Fault Refusal :=
  .next (s.onUnit t 0 1 (ropeU) (fun r => r.ropeAckTimeout k lseq))
/-- TIME_SEND (R464): TIME falls due. -/
def execTimeSend (t : Nat) (s : State) : Host.Outcome State Fault Refusal :=
  .next (s.onUnit t 0 1 (ropeU) (fun r => r.timeSend))
/-- TIME (R464): a TIME message; `crc`: its CRC is good. -/
def execTime (t : Nat) (crc : Bool) (at64 delay : Nat) (alignedUp : Bool) (depth : Nat) (s : State) : Host.Outcome State Fault Refusal :=
  .next (s.onUnit t 0 1 (ropeU) (fun r => r.received 4 crc (fun x => x.timeMsg at64 delay alignedUp depth)))
/-- TIME_TIMEOUT (R465): no TIME for 4 ms. -/
def execTimeTimeout (t : Nat) (s : State) : Host.Outcome State Fault Refusal :=
  .next (s.onUnit t 0 1 (ropeU) (fun r => r.timeTimeout))
/-- ARM (R468): an ARM message on pitch k. -/
def execArm (t k : Nat) (crc : Bool) (src on lo hi : Nat) (s : State) : Host.Outcome State Fault Refusal :=
  .next (s.onUnit t 0 1 (ropeU) (fun r => r.received k crc (fun x => x.rxArm k src on lo hi)))
/-- FIRE (R468): a FIRE message on pitch k. -/
def execFire (t k : Nat) (crc : Bool) (src lo hi : Nat) (s : State) : Host.Outcome State Fault Refusal :=
  .next (s.onUnit t 0 1 (ropeU) (fun r => r.received k crc (fun x => x.rxFire k src lo hi)))
/-- JOB (R450): a JOB message on pitch k. -/
def execJob (t k : Nat) (crc : Bool) (src rc id : Nat) (s : State) : Host.Outcome State Fault Refusal :=
  .next (s.onUnit t 0 1 (ropeU) (fun r => r.received k crc (fun x => x.rxJob k src rc id)))
/-- MARK (R468): a MARK message on pitch k. -/
def execMark (t k : Nat) (crc : Bool) (src dst data lo hi : Nat) (s : State) : Host.Outcome State Fault Refusal :=
  .next (s.onUnit t 0 1 (ropeU) (fun r => r.received k crc (fun x => x.rxMark k src dst data lo hi)))
/-- MARK_SRC_READ (R468): MARK_SRC is read. -/
def execMarkSrcRead (t : Nat) (s : State) : Host.Outcome State Fault Refusal :=
  .next (s.onBar t (fun r => if r.windowOk ropeU then r.markPop else { r with rdata := [0] }))
/-- REPORT (R469): a STATUS REPORT on pitch k. -/
def execReport (t k : Nat) (crc : Bool) (st worst count members : Nat) (s : State) : Host.Outcome State Fault Refusal :=
  .next (s.onUnit t 0 1 (ropeU) (fun r => r.received k crc (fun x => x.reportMsg k st worst count members)))
/-- REPORT_TIMER (R469): a REPORT falls due. -/
def execReportTimer (t : Nat) (s : State) : Host.Outcome State Fault Refusal :=
  .next (s.onUnit t 0 1 (ropeU) (fun r => r.reportTimer))
/-- JOIN (R469): a STATUS JOIN, from below or as the answer from above. -/
def execJoin (t k : Nat) (crc : Bool) (src node role refused reason : Nat) (s : State) : Host.Outcome State Fault Refusal :=
  .next (s.onUnit t 0 1 (ropeU) (fun r => r.received k crc (fun x => x.rxJoin k src node role refused reason)))
/-- STATUS_ABORT (R470): a STATUS ABORT on pitch k. -/
def execStatusAbort (t k : Nat) (crc : Bool) (purge tag : Nat) (s : State) : Host.Outcome State Fault Refusal :=
  .next (s.onUnit t 0 1 (ropeU) (fun r => r.received k crc (fun x => x.rxStop k purge tag false [])))
/-- STATUS_RESET (R470): a STATUS RESET on pitch k; `fails`: the lanes that fail the self-test of R241. -/
def execStatusReset (t k : Nat) (crc : Bool) (tag : Nat) (fails : List Nat) (s : State) : Host.Outcome State Fault Refusal :=
  .next (s.onUnit t 0 1 (ropeU) (fun r => r.received k crc (fun x => x.rxStop k 0 tag true fails)))
/-- DONE (R470): a STATUS DONE on pitch k. -/
def execDone (t k : Nat) (crc : Bool) (tag : Nat) (s : State) : Host.Outcome State Fault Refusal :=
  .next (s.onUnit t 0 1 (ropeU) (fun r => r.received k crc (fun x => x.rxDone k tag)))
/-- LOST (R471): a STATUS LOST on pitch k. -/
def execLost (t k : Nat) (crc : Bool) (src : Nat) (s : State) : Host.Outcome State Fault Refusal :=
  .next (s.onUnit t 0 1 (ropeU) (fun r => r.received k crc (fun x => x.rxLost k src)))
/-- JOB_REPLY (R468): a STATUS JOB_REPLY on pitch k. -/
def execJobReply (t k : Nat) (crc : Bool) (src status id : Nat) (s : State) : Host.Outcome State Fault Refusal :=
  .next (s.onUnit t 0 1 (ropeU) (fun r => r.received k crc (fun x => x.rxJobReply k src status id)))
/-- ROPE_MARK (R468): ROPE_MARK as a packet. -/
def execRopeMark (t : Nat) (urgent : Bool) (tag uid flags : Nat) (params : List Nat) (env : Option Nat) (s : State) : Host.Outcome State Fault Refusal :=
  .next (s.packet t urgent 0x70 tag uid flags params env [])

end Sys2Proof.Machine
end

