-- ==== Sys2Proof/Machine/Motion.lean ====
section
/-! DEFINITION. Rows of the axes and of Belay (chapters 10 and 11). -/
namespace Sys2Proof.Machine

/-- AXIS_UPDATE (R349): the update of axis a at the last multiple of 16 ticks, once. -/
def execAxisUpdate (t a : Nat) (s : State) : Host.Outcome State Fault Refusal :=
  .next (s.onUnit t a 8 (axU a) (fun r => r.axisTick a))
/-- PWM_PERIOD (R367): a PWM period begins; `cycle`: the back-EMF of an electrical cycle that has just ended, in µV. -/
def execPwmPeriod (t a : Nat) (cycle : Option Nat) (s : State) : Host.Outcome State Fault Refusal :=
  .next (s.onUnit t a 8 (axU a) (fun r => (r.pwmPeriod a r.now cycle).axisAfter a))
/-- VMOT_SAMPLE (R370): the two motor supplies are measured, in mV. -/
def execVmotSample (t mv0 mv1 : Nat) (s : State) : Host.Outcome State Fault Refusal :=
  .next (s.onUnit t 0 1 (axU 0) (fun r => [0, 1, 2, 3, 4, 5, 6, 7].foldl (fun (r : State) a => r.axisAfter a) (r.vmotSample mv0 mv1)))
/-- AXIS_INPUT_TRANSITION (R378): a raw transition of an axis input (0 LIMP, 1 LIMN, 2 HOME, 3 INDEX). A device that does not work only keeps the level. -/
def execAxisInputTransition (t a k : Nat) (level : Bool) (s : State) : Host.Outcome State Fault Refusal :=
  .next (s.onPins t (fun r => if 8 ≤ a then r else r.axisLevel a k level) (fun r => if 8 ≤ a then r else if !r.powered (axU a) then r.axisLevel a k level else r.axisRaw a k level))
/-- AXIS_INPUT_DEBOUNCED (R378): an axis input has held its new level for DEBOUNCE. -/
def execAxisInputDebounced (t a k : Nat) (s : State) : Host.Outcome State Fault Refusal :=
  .next (s.onUnit t a 8 (axU a) (fun r => r.axisInputCounts a k))
/-- INDEX_EDGE (R378): a rising active edge of INDEX. -/
def execIndexEdge (t a : Nat) (s : State) : Host.Outcome State Fault Refusal :=
  .next (s.onUnit t a 8 (axU a) (fun r => r.axisIndexEdge a))
/-- DRIVER_FAULT (R364): AXn_FAULT_N has been active for 1 µs. -/
def execDriverFault (t a : Nat) (s : State) : Host.Outcome State Fault Refusal :=
  .next (s.onUnit t a 8 (axU a) (fun r => r.axisDriverFault a))
/-- IDENTIFY_PHASE_DONE (R376): a measurement phase of AXIS_IDENTIFY ends with a value. -/
def execIdentifyPhaseDone (t a val : Nat) (s : State) : Host.Outcome State Fault Refusal :=
  .next (s.onUnit t a 8 (axU a) (fun r => r.identPhase a val))
/-- SPEEDWELL_EVAL (R392): Speedwell evaluates. -/
def execSpeedwellEval (t a : Nat) (s : State) : Host.Outcome State Fault Refusal :=
  .next (s.onUnit t a 8 (axU a) (fun r => r.speedwell a))
/-- BELAY_PARK_MAX (R400): a park has lasted PARK_MAX. -/
def execBelayParkMax (t a : Nat) (s : State) : Host.Outcome State Fault Refusal :=
  .next (s.onUnit t a 8 (axU a) (fun r => r.parkMax a))
/-- AXIS_MOVE (R353): AXIS_MOVE as a packet. -/
def execAxisMove (t : Nat) (urgent : Bool) (tag uid flags : Nat) (params : List Nat) (env : Option Nat) (s : State) : Host.Outcome State Fault Refusal :=
  .next (s.packet t urgent 0x40 tag uid flags params env [])
/-- AXIS_LINEAR (R359): AXIS_LINEAR as a packet. -/
def execAxisLinear (t : Nat) (urgent : Bool) (tag uid flags : Nat) (params : List Nat) (env : Option Nat) (s : State) : Host.Outcome State Fault Refusal :=
  .next (s.packet t urgent 0x41 tag uid flags params env [])
/-- AXIS_STOP (R361): AXIS_STOP as a packet. -/
def execAxisStop (t : Nat) (urgent : Bool) (tag uid flags : Nat) (params : List Nat) (env : Option Nat) (s : State) : Host.Outcome State Fault Refusal :=
  .next (s.packet t urgent 0x42 tag uid flags params env [])
/-- AXIS_RESUME (R362): AXIS_RESUME as a packet. -/
def execAxisResume (t : Nat) (urgent : Bool) (tag uid flags : Nat) (params : List Nat) (env : Option Nat) (s : State) : Host.Outcome State Fault Refusal :=
  .next (s.packet t urgent 0x43 tag uid flags params env [])
/-- AXIS_SET_POSITION (R571): AXIS_SET_POSITION as a packet. -/
def execAxisSetPosition (t : Nat) (urgent : Bool) (tag uid flags : Nat) (params : List Nat) (env : Option Nat) (s : State) : Host.Outcome State Fault Refusal :=
  .next (s.packet t urgent 0x44 tag uid flags params env [])
/-- AXIS_IDENTIFY (R376): AXIS_IDENTIFY as a packet. -/
def execAxisIdentify (t : Nat) (urgent : Bool) (tag uid flags : Nat) (params : List Nat) (env : Option Nat) (s : State) : Host.Outcome State Fault Refusal :=
  .next (s.packet t urgent 0x45 tag uid flags params env [])
/-- AXIS_HOME (R379): AXIS_HOME as a packet. -/
def execAxisHome (t : Nat) (urgent : Bool) (tag uid flags : Nat) (params : List Nat) (env : Option Nat) (s : State) : Host.Outcome State Fault Refusal :=
  .next (s.packet t urgent 0x46 tag uid flags params env [])

end Sys2Proof.Machine
end

