-- ==== Sys2Proof/Machine/Sideband.lean ====
section
/-! DEFINITION. Rows of SMBus and JTAG (chapters 16, 17 and 19). -/
namespace Sys2Proof.Machine
open R

/-- SMB_STATUS (R599): the SMBus command STATUS. -/
def execSmbStatus (t : Nat) (s : State) : Host.Outcome State Fault Refusal :=
  .next (s.always t (fun r => r.shows [r.smbStatus]))
/-- SMB_TEMP (R599): the SMBus command TEMP. -/
def execSmbTemp (t : Nat) (s : State) : Host.Outcome State Fault Refusal :=
  .next (s.always t (fun r => r.shows [r.reg devU Th.TJ]))
/-- SMB_POWER (R599): the SMBus command POWER. -/
def execSmbPower (t : Nat) (s : State) : Host.Outcome State Fault Refusal :=
  .next (s.always t (fun r => r.shows [r.reg devU Pd.PD_STAT]))
/-- SMB_IDENTITY (R599): the SMBus command IDENTITY. -/
def execSmbIdentity (t : Nat) (s : State) : Host.Outcome State Fault Refusal :=
  .next (s.always t (fun r => r.shows (r.part.word :: r.part.serials)))
/-- SMB_VCORE (R599): the SMBus command VCORE. -/
def execSmbVcore (t : Nat) (s : State) : Host.Outcome State Fault Refusal :=
  .next (s.always t (fun r => r.shows [r.reg devU Th.VCORE_READ]))
/-- DEVICE_RESET (R600): the SMBus command DEVICE_RESET with a byte; start-up finds what it finds. -/
def execDeviceReset (t v : Nat) (u : StartUp) (s : State) : Host.Outcome State Fault Refusal :=
  .next (s.always t (fun r => r.smbReset v u))
/-- EXTEST (R598): EXTEST with the bits shifted in. -/
def execExtest (t bits : Nat) (s : State) : Host.Outcome State Fault Refusal :=
  .next (s.always t (fun r => r.bscan 0 bits))
/-- IDCODE (R598): IDCODE. -/
def execIdcode (t : Nat) (s : State) : Host.Outcome State Fault Refusal :=
  .next (s.always t (fun r => (r.jtag 1).shows [r.part.idcode]))
/-- SAMPLE_PRELOAD (R598): SAMPLE/PRELOAD with the bits shifted in. -/
def execSamplePreload (t bits : Nat) (s : State) : Host.Outcome State Fault Refusal :=
  .next (s.always t (fun r => r.bscan 2 bits))
/-- EXTEST_PULSE (R598): EXTEST_PULSE with the bits shifted in. -/
def execExtestPulse (t bits : Nat) (s : State) : Host.Outcome State Fault Refusal :=
  .next (s.always t (fun r => r.bscan 3 bits))
/-- EXTEST_TRAIN (R598): EXTEST_TRAIN with the bits shifted in. -/
def execExtestTrain (t bits : Nat) (s : State) : Host.Outcome State Fault Refusal :=
  .next (s.always t (fun r => r.bscan 4 bits))
/-- CHALLENGE (R518): CHALLENGE. -/
def execChallenge (t : Nat) (s : State) : Host.Outcome State Fault Refusal :=
  .next (s.always t (fun r => r.jtagChallenge))
/-- UNLOCK (R519): UNLOCK with a scope and the bytes of a signature. -/
def execUnlock (t scope : Nat) (sig : List Nat) (s : State) : Host.Outcome State Fault Refusal :=
  .next (s.always t (fun r => (r.jtag 0x21).jtagUnlock scope sig))
/-- FREEZE_READ (R549): FREEZE_READ with its selection. -/
def execFreezeRead (t sel : Nat) (s : State) : Host.Outcome State Fault Refusal :=
  .next (s.always t (fun r => r.jtagFreezeRead sel))
/-- SCAN_STATE (R598): SCAN_STATE with its selection. -/
def execScanState (t sel : Nat) (s : State) : Host.Outcome State Fault Refusal :=
  .next (s.always t (fun r => r.jtagScanState sel))
/-- BYPASS (R598): BYPASS, or any code that is not defined. -/
def execBypass (t _code : Nat) (s : State) : Host.Outcome State Fault Refusal :=
  .next (s.always t (fun r => (r.jtag 0xFF).shows []))

end Sys2Proof.Machine
end

