-- ==== Sys2Proof/Machine/Transfers.lean ====
section
/-! DEFINITION. Rows of the DMA channels and the movers (chapter 09). -/
namespace Sys2Proof.Machine

/-- DOORBELL (R329): DOORBELL of channel k is written. -/
def execDoorbell (t k : Nat) (s : State) : Host.Outcome State Fault Refusal :=
  .next (s.onBarThen t (fun r => if 64 ≤ k || r.frozen || !r.powered (dmaU k) then r else r.dmaDoorbell k))
/-- DESCRIPTOR_READ_DONE (R329): a descriptor read (eight words) or a link-word read (two words) completes. -/
def execDescriptorReadDone (t k : Nat) (ws : List Nat) (s : State) : Host.Outcome State Fault Refusal :=
  .next (s.onUnit t k 64 (dmaU k) (fun r => r.dmaDescDone k ws))
/-- DESC_READ_TIMEOUT (R339): a descriptor read has failed (`error`), or 10 ms have passed. -/
def execDescReadTimeout (t k : Nat) (error : Bool) (s : State) : Host.Outcome State Fault Refusal :=
  .next (s.onUnit t k 64 (dmaU k) (fun r => r.dmaDescFail k error))
/-- FLUSH_TICKS_EXPIRY (R332): committed data reach the age FLUSH_TICKS; the engine begins what is ready. -/
def execFlushTicksExpiry (t k : Nat) (s : State) : Host.Outcome State Fault Refusal :=
  .next (s.onUnit t k 64 (dmaU k) (fun r => r.dmaServe (k / 16)))
/-- BARRIER_READ_DONE (R334): the zero-length read of a barrier completes. -/
def execBarrierReadDone (t k : Nat) (s : State) : Host.Outcome State Fault Refusal :=
  .next (s.onUnit t k 64 (dmaU k) (fun r => r.dmaBarrierDone k))
/-- DMA_TRANSFER_END (R335): the last data write of a transfer has been sent. -/
def execDmaTransferEnd (t k : Nat) (s : State) : Host.Outcome State Fault Refusal :=
  .next (s.onUnit t k 64 (dmaU k) (fun r => r.dmaTransferEnd k))
/-- MOVER_COPY_DONE (R341): the running copy of mover i ends. -/
def execMoverCopyDone (t i : Nat) (s : State) : Host.Outcome State Fault Refusal :=
  .next (s.onUnit t i 8 (movU i) (fun r => r.moverDone (movU i)))
/-- DMA_START (R327): DMA_START as a packet. -/
def execDmaStart (t : Nat) (urgent : Bool) (tag uid flags : Nat) (params : List Nat) (env : Option Nat) (s : State) : Host.Outcome State Fault Refusal :=
  .next (s.packet t urgent 0x38 tag uid flags params env [])
/-- MOVE (R341): MOVE as a packet. -/
def execMove (t : Nat) (urgent : Bool) (tag uid flags : Nat) (params : List Nat) (env : Option Nat) (s : State) : Host.Outcome State Fault Refusal :=
  .next (s.packet t urgent 0x39 tag uid flags params env [])

end Sys2Proof.Machine
end

