-- ==== Sys2Proof/Machine/Triggers.lean ====
section
/-! DEFINITION. Rows of the trigger engine (chapter 08). -/
namespace Sys2Proof.Machine

/-- MARK_REPORT (R191): the oldest crossing of MARK_COND is reported to the line clock of port p. -/
def execMarkReport (t p : Nat) (s : State) : Host.Outcome State Fault Refusal :=
  .next (s.onUnit t p 8 (lcU p) (fun r => r.markReport p))
/-- GPIO_EDGE (R277): GPIO input k has stood at a level for g ticks. A device that does not work only keeps the level. -/
def execGpioEdge (t k : Nat) (level : Bool) (s : State) (g : Nat := 64) : Host.Outcome State Fault Refusal :=
  .next (s.onPins t (fun r => if 32 ≤ k then r else r.gpioLevel k level) (fun r => if 32 ≤ k then r else r.gpioEdge k level g))
/-- SPLICE (R277): the splice input has held its new level. -/
def execSplice (t : Nat) (s : State) : Host.Outcome State Fault Refusal :=
  .next (s.onUnit t 0 1 (trigU) (fun r => r.splice))
/-- TRIGGER_SLOT (R278): the conditions are evaluated in the present slot; a trigger may freeze the device (R295). -/
def execTriggerSlot (t : Nat) (s : State) : Host.Outcome State Fault Refusal :=
  .next (s.onSeq t (fun r => if r.powered trigU then r.triggerSlot else r))
/-- PLACE_WAIT_EXPIRY (R286): PLACE_WAIT has passed without a fire. -/
def execPlaceWaitExpiry (t : Nat) (s : State) : Host.Outcome State Fault Refusal :=
  .next (s.onUnit t 0 1 (trigU) (fun r => r.placeExpiry))
/-- HOLD_EXPIRY (R293): the time hold-off of condition c ends. -/
def execHoldExpiry (t c : Nat) (s : State) : Host.Outcome State Fault Refusal :=
  .next (s.onUnit t c 32 (trigU) (fun r => r.holdExpiry c))
/-- A_OUT_PULSE_START (R294): pulses whose start has come begin. -/
def execAOutPulseStart (t : Nat) (s : State) : Host.Outcome State Fault Refusal :=
  .next (s.onUnit t 0 1 (trigU) (fun r => r.pulseStart))
/-- A_OUT_PULSE_END (R294): pulses end. -/
def execAOutPulseEnd (t : Nat) (s : State) : Host.Outcome State Fault Refusal :=
  .next (s.onUnit t 0 1 (trigU) (fun r => r.pulseEnd))
/-- ARM_AT (R281): Rope time reaches AT. -/
def execArmAt (t : Nat) (s : State) : Host.Outcome State Fault Refusal :=
  .next (s.onUnit t 0 1 (trigU) (fun r => r.armDue))
/-- SOFT_FIRE (R283): SOFT_FIRE is written with 1. -/
def execSoftFire (t : Nat) (s : State) : Host.Outcome State Fault Refusal :=
  .next (s.onBarThen t (fun r => if r.windowOk trigU then r.softFire else r))
/-- TRIG_ARM (R281): TRIG_ARM as a packet. -/
def execTrigArm (t : Nat) (urgent : Bool) (tag uid flags : Nat) (params : List Nat) (env : Option Nat) (s : State) : Host.Outcome State Fault Refusal :=
  .next (s.packet t urgent 0x30 tag uid flags params env [])

end Sys2Proof.Machine
end

