-- ==== Sys2Proof/Machine/Trust.lean ====
section
/-! DEFINITION. Rows of security (chapter 16). -/
namespace Sys2Proof.Machine

/-- ID_CERT (R505): ID_CERT as a packet. -/
def execIdCert (t : Nat) (urgent : Bool) (tag uid flags : Nat) (params : List Nat) (env : Option Nat) (s : State) : Host.Outcome State Fault Refusal :=
  .next (s.packet t urgent 0x80 tag uid flags params env [])
/-- ATTEST (R506): ATTEST as a packet. -/
def execAttest (t : Nat) (urgent : Bool) (tag uid flags : Nat) (params : List Nat) (env : Option Nat) (s : State) : Host.Outcome State Fault Refusal :=
  .next (s.packet t urgent 0x81 tag uid flags params env [])
/-- AUTH_CHALLENGE (R509): AUTH_CHALLENGE as a packet. -/
def execAuthChallenge (t : Nat) (urgent : Bool) (tag uid flags : Nat) (params : List Nat) (env : Option Nat) (s : State) : Host.Outcome State Fault Refusal :=
  .next (s.packet t urgent 0x82 tag uid flags params env [])
/-- POLICY_SET (R510): POLICY_SET as a packet. -/
def execPolicySet (t : Nat) (urgent : Bool) (tag uid flags : Nat) (params : List Nat) (env : Option Nat) (s : State) : Host.Outcome State Fault Refusal :=
  .next (s.packet t urgent 0x83 tag uid flags params env [])
/-- KEY_INSTALL (R511): KEY_INSTALL as a packet. -/
def execKeyInstall (t : Nat) (urgent : Bool) (tag uid flags : Nat) (params : List Nat) (env : Option Nat) (s : State) : Host.Outcome State Fault Refusal :=
  .next (s.packet t urgent 0x84 tag uid flags params env [])
/-- KEY_REVOKE (R511): KEY_REVOKE as a packet. -/
def execKeyRevoke (t : Nat) (urgent : Bool) (tag uid flags : Nat) (params : List Nat) (env : Option Nat) (s : State) : Host.Outcome State Fault Refusal :=
  .next (s.packet t urgent 0x85 tag uid flags params env [])
/-- OWNER_FUSE (R496): OWNER_FUSE as a packet. -/
def execOwnerFuse (t : Nat) (urgent : Bool) (tag uid flags : Nat) (params : List Nat) (env : Option Nat) (s : State) : Host.Outcome State Fault Refusal :=
  .next (s.packet t urgent 0x86 tag uid flags params env [])
/-- FW_UPDATE (R502): FW_UPDATE as a packet. -/
def execFwUpdate (t : Nat) (urgent : Bool) (tag uid flags : Nat) (params : List Nat) (env : Option Nat) (s : State) : Host.Outcome State Fault Refusal :=
  .next (s.packet t urgent 0x87 tag uid flags params env [])
/-- FW_ACCEPT (R503): FW_ACCEPT as a packet. -/
def execFwAccept (t : Nat) (urgent : Bool) (tag uid flags : Nat) (params : List Nat) (env : Option Nat) (s : State) : Host.Outcome State Fault Refusal :=
  .next (s.packet t urgent 0x88 tag uid flags params env [])
/-- DEBUG_UNLOCK (R519): DEBUG_UNLOCK as a packet. -/
def execDebugUnlock (t : Nat) (urgent : Bool) (tag uid flags : Nat) (params : List Nat) (env : Option Nat) (s : State) : Host.Outcome State Fault Refusal :=
  .next (s.packet t urgent 0x89 tag uid flags params env [])
/-- DEBUG_RELOCK (R519): DEBUG_RELOCK as a packet. -/
def execDebugRelock (t : Nat) (urgent : Bool) (tag uid flags : Nat) (params : List Nat) (env : Option Nat) (s : State) : Host.Outcome State Fault Refusal :=
  .next (s.packet t urgent 0x8A tag uid flags params env [])
/-- AUDIT_EXPORT (R517): AUDIT_EXPORT as a packet. -/
def execAuditExport (t : Nat) (urgent : Bool) (tag uid flags : Nat) (params : List Nat) (env : Option Nat) (s : State) : Host.Outcome State Fault Refusal :=
  .next (s.packet t urgent 0x8B tag uid flags params env [])
/-- BUNDLE_EXPORT (R521): BUNDLE_EXPORT as a packet. -/
def execBundleExport (t : Nat) (urgent : Bool) (tag uid flags : Nat) (params : List Nat) (env : Option Nat) (s : State) : Host.Outcome State Fault Refusal :=
  .next (s.packet t urgent 0x8C tag uid flags params env [])
/-- BUNDLE_IMPORT (R522): BUNDLE_IMPORT as a packet. -/
def execBundleImport (t : Nat) (urgent : Bool) (tag uid flags : Nat) (params : List Nat) (env : Option Nat) (s : State) : Host.Outcome State Fault Refusal :=
  .next (s.packet t urgent 0x8D tag uid flags params env [])
/-- CHALLENGE_LAPSE (R509): the latest owner challenge has stood for 600 s. -/
def execChallengeLapse (t : Nat) (s : State) : Host.Outcome State Fault Refusal :=
  .next (s.onHost t (fun r => r.challengeLapse))
/-- FIRMWARE_READY (R107): the boot ROM has started the firmware, or has found none. -/
def execFirmwareReady (t : Nat) (s : State) : Host.Outcome State Fault Refusal :=
  .next (s.onCore t (fun r => r.firmwareReady))
/-- LONG_WORK_END (R84): sequencer-driven work of an opcode ends; `env`: where it met an uncorrectable memory error. -/
def execLongWorkEnd (t op : Nat) (env : Option Nat) (s : State) : Host.Outcome State Fault Refusal :=
  .next (s.onCore t (fun r => r.longWorkEnd op env))

end Sys2Proof.Machine
end

