-- ==== Sys2Proof/Machine/Units.lean ====
section
/-! DEFINITION. Rows of the addressing and state of units, of abort, freeze and status, of power domains, pace and the time base (chapters 01, 02 and 17). -/
namespace Sys2Proof.Machine

/-- ABORT (R104): ABORT as a packet. -/
def execAbort (t : Nat) (urgent : Bool) (tag uid flags : Nat) (params : List Nat) (env : Option Nat) (s : State) : Host.Outcome State Fault Refusal :=
  .next (s.packet t urgent 0x01 tag uid flags params env [])
/-- ABORT_COMPLETION (R22): the waiting members of a unit or group have stopped. -/
def execAbortCompletion (t uid : Nat) (s : State) : Host.Outcome State Fault Refusal :=
  .next (s.onCore t (fun r => r.abortCompletes uid))
/-- ABORT_LATE (R23): a member has not stopped within its bound. -/
def execAbortLate (t u : Nat) (s : State) : Host.Outcome State Fault Refusal :=
  .next (s.onCore t (fun r => r.abortLate u))
/-- RESET_UNIT (R106): RESET_UNIT as a packet; `fails`: the lanes that fail the self-test of R241. -/
def execResetUnit (t : Nat) (urgent : Bool) (tag uid flags : Nat) (params : List Nat) (env : Option Nat) (fails : List Nat) (s : State) : Host.Outcome State Fault Refusal :=
  .next (s.packet t urgent 0x02 tag uid flags params env fails)
/-- FREEZE (R543): FREEZE as a packet. -/
def execFreeze (t : Nat) (urgent : Bool) (tag uid flags : Nat) (params : List Nat) (env : Option Nat) (s : State) : Host.Outcome State Fault Refusal :=
  .next (s.packet t urgent 0x03 tag uid flags params env [])
/-- THAW (R550): THAW as a packet. -/
def execThaw (t : Nat) (urgent : Bool) (tag uid flags : Nat) (params : List Nat) (env : Option Nat) (s : State) : Host.Outcome State Fault Refusal :=
  .next (s.packet t urgent 0x04 tag uid flags params env [])
/-- GET_STATUS (R18): GET_STATUS as a packet. -/
def execGetStatus (t : Nat) (urgent : Bool) (tag uid flags : Nat) (params : List Nat) (env : Option Nat) (s : State) : Host.Outcome State Fault Refusal :=
  .next (s.packet t urgent 0x05 tag uid flags params env [])
/-- COMMIT (R42): COMMIT as a packet. -/
def execCommit (t : Nat) (urgent : Bool) (tag uid flags : Nat) (params : List Nat) (env : Option Nat) (s : State) : Host.Outcome State Fault Refusal :=
  .next (s.packet t urgent 0x10 tag uid flags params env [])
/-- UNIT_WRITE (R562): UNIT_WRITE as a packet. -/
def execUnitWrite (t : Nat) (urgent : Bool) (tag uid flags : Nat) (params : List Nat) (env : Option Nat) (s : State) : Host.Outcome State Fault Refusal :=
  .next (s.packet t urgent 0x11 tag uid flags params env [])
/-- POWER_SET (R527): POWER_SET as a packet. -/
def execPowerSet (t : Nat) (urgent : Bool) (tag uid flags : Nat) (params : List Nat) (env : Option Nat) (s : State) : Host.Outcome State Fault Refusal :=
  .next (s.packet t urgent 0x90 tag uid flags params env [])
/-- DOMAIN_READY (R529): domain d has loaded its records and tested its units, with what the tests found. -/
def execDomainReady (t d : Nat) (o : Outcomes) (s : State) : Host.Outcome State Fault Refusal :=
  .next (s.onCore t (fun r => r.domainReady d o))
/-- PACE_UPDATE (R36, R37): the pace monitor has timed the paths: of each running path its unit and its capacity in samples per second, and of each idle path the
same of its replica; `ack`: the regulator acknowledges a request. -/
def execPaceUpdate (t : Nat) (running replicas : List (Nat × Nat)) (ack : Bool) (s : State) : Host.Outcome State Fault Refusal :=
  .next (s.onCore t (fun r => r.paceUpdate (running ++ replicas) ack))
/-- VOUT_READBACK (R583): READ_VOUT gives a voltage, or is not acknowledged. -/
def execVoutReadback (t mv : Nat) (ack : Bool) (s : State) : Host.Outcome State Fault Refusal :=
  .next (s.onCore t (fun r => r.voutReadback mv ack))
/-- PMB_ALERT (R583): PMB_ALERT_N goes low. -/
def execPmbAlert (t : Nat) (s : State) : Host.Outcome State Fault Refusal :=
  .next (s.onCore t (fun r => r.pmbAlert))
/-- TIMEBASE_UNLOCK (R34): the time base loses lock. -/
def execTimebaseUnlock (t : Nat) (s : State) : Host.Outcome State Fault Refusal :=
  .next (s.onCore t (fun r => r.timebaseUnlock))
/-- TIMEBASE_RELOCK (R35): the time base regains lock. -/
def execTimebaseRelock (t : Nat) (s : State) : Host.Outcome State Fault Refusal :=
  .next (s.onCore t (fun r => r.timebaseRelock))

end Sys2Proof.Machine
end

