-- ==== Sys2Proof/Machine/Upkeep.lean ====
section
/-! DEFINITION. Rows of memory, MRAM, temperature, reset, the freeze pin and the logs (chapters 15 and 17). -/
namespace Sys2Proof.Machine

/-- SCRUB_PASS (R480): a scrub pass ends; addresses of corrected and of uncorrectable errors. -/
def execScrubPass (t : Nat) (ce ue : List Nat) (s : State) : Host.Outcome State Fault Refusal :=
  .next (s.onCore t (fun r => r.scrubPass ce ue))
/-- PAGE_RETIRE_DONE (R481): the oldest retirement copy ends. -/
def execPageRetireDone (t : Nat) (s : State) : Host.Outcome State Fault Refusal :=
  .next (s.onCore t (fun r => r.retireDone))
/-- WCK_TRACKING (R476): the interval oscillators are read; write timing follows them. -/
def execWckTracking (t : Nat) (osc : List Nat) (s : State) : Host.Outcome State Fault Refusal :=
  .next (s.onHost t (fun r => r.wckTrack osc))
/-- TJ_UPDATE (R584): a reading of Tj, in sixteenths of a degree, also while the device is frozen, because PD0 keeps running (R543, R599). On a device that works, the upsets of queue
pointers since the last reading come with it (R321, R322, log entry 75). -/
def execTjUpdate (t : Nat) (tj : Int) (s : State) (upsets : List (Nat × Nat) := []) : Host.Outcome State Fault Refusal :=
  .next (s.onHostThen t (fun r => if r.frozen then r.tjUpdate tj else (upsets.foldl (fun (r : State) q => r.upset q) (r.tjUpdate tj)).keepsHost r))
/-- THERMTRIP (R586): Tj reaches the trip point. -/
def execThermtrip (t : Nat) (tj : Int) (s : State) : Host.Outcome State Fault Refusal :=
  .next (s.always t (fun r => r.thermTrip tj))
/-- PORESET_N_FALL (R541): PORESET_N goes low. -/
def execPoresetNFall (t : Nat) (s : State) : Host.Outcome State Fault Refusal :=
  .next (s.always t (fun r => r.poresetFall))
/-- PORESET_N_RISE (R537): PORESET_N rises; start-up runs to READY with what it finds. -/
def execPoresetNRise (t : Nat) (u : StartUp) (s : State) : Host.Outcome State Fault Refusal :=
  .next (s.always t (fun r => r.poresetRise u))
/-- FREEZE_N_FALL (R542): FREEZE_N has fallen. -/
def execFreezeNFall (t : Nat) (s : State) : Host.Outcome State Fault Refusal :=
  .next (s.always t (fun r => r.freezePin))
/-- FREEZE_N_RISE (R544): FREEZE_N is released. -/
def execFreezeNRise (t : Nat) (s : State) : Host.Outcome State Fault Refusal :=
  .next (s.always t (fun r => r.pinSet false))
/-- BOOT_RECOVER (R500): BOOT_RECOVER is written. -/
def execBootRecover (t v : Nat) (s : State) : Host.Outcome State Fault Refusal :=
  .next (s.onBarThen t (fun r => if r.windowOk secU then r.bootRecover (v / 64) else r))
/-- MEM_RETIRE (R481): MEM_RETIRE as a packet. -/
def execMemRetire (t : Nat) (urgent : Bool) (tag uid flags : Nat) (params : List Nat) (env : Option Nat) (s : State) : Host.Outcome State Fault Refusal :=
  .next (s.packet t urgent 0x78 tag uid flags params env [])
/-- SPARE_LEDGER (R490): SPARE_LEDGER as a packet. -/
def execSpareLedger (t : Nat) (urgent : Bool) (tag uid flags : Nat) (params : List Nat) (env : Option Nat) (s : State) : Host.Outcome State Fault Refusal :=
  .next (s.packet t urgent 0x79 tag uid flags params env [])
/-- LOG_READ (R575): LOG_READ as a packet. -/
def execLogRead (t : Nat) (urgent : Bool) (tag uid flags : Nat) (params : List Nat) (env : Option Nat) (s : State) : Host.Outcome State Fault Refusal :=
  .next (s.packet t urgent 0x7A tag uid flags params env [])

end Sys2Proof.Machine
end

