-- ==== Sys2Proof/Machine/Dispatch.lean ====
section
/-! DEFINITION. Which meaning each row of the opcode table has: one arm per constructor of Instr. -/
namespace Sys2Proof.Machine

def exec (i : Instr) (s : State) : Host.Outcome State Fault Refusal :=
  match i with
  | .commandWordWrite t urgent w be env fails => Sys2Proof.Machine.execCommandWordWrite t urgent w be env fails s
  | .resyncUrgent t => Sys2Proof.Machine.execResyncUrgent t s
  | .resyncNormal t => Sys2Proof.Machine.execResyncNormal t s
  | .normalPacketStart t env fails => Sys2Proof.Machine.execNormalPacketStart t env fails s
  | .replyPop t wide => Sys2Proof.Machine.execReplyPop t wide s
  | .resTagRead t n => Sys2Proof.Machine.execResTagRead t n s
  | .timeLoRead t wide => Sys2Proof.Machine.execTimeLoRead t wide s
  | .rcRead t off => Sys2Proof.Machine.execRcRead t off s
  | .registerWrite t off w be => Sys2Proof.Machine.execRegisterWrite t off w be s
  | .eventRingEnable t w => Sys2Proof.Machine.execEventRingEnable t w s
  | .evtRdWrite t w => Sys2Proof.Machine.execEvtRdWrite t w s
  | .eventHoldoffExpiry t v => Sys2Proof.Machine.execEventHoldoffExpiry t v s
  | .seqWedged t beat => Sys2Proof.Machine.execSeqWedged t beat s
  | .supplyFailClear t => Sys2Proof.Machine.execSupplyFailClear t s
  | .minClear t => Sys2Proof.Machine.execMinClear t s
  | .bar2Read t off len env => Sys2Proof.Machine.execBar2Read t off len env s
  | .bar2Write t off bytes => Sys2Proof.Machine.execBar2Write t off bytes s
  | .functionLevelReset t => Sys2Proof.Machine.execFunctionLevelReset t s
  | .perstN t => Sys2Proof.Machine.execPerstN t s
  | .d3hotEntry t => Sys2Proof.Machine.execD3hotEntry t s
  | .d0Return t cfg => Sys2Proof.Machine.execD0Return t s cfg
  | .linkRetrain t rate width cfg => Sys2Proof.Machine.execLinkRetrain t rate width s cfg
  | .abort t urgent tag uid flags params env => Sys2Proof.Machine.execAbort t urgent tag uid flags params env s
  | .abortCompletion t uid => Sys2Proof.Machine.execAbortCompletion t uid s
  | .abortLate t u => Sys2Proof.Machine.execAbortLate t u s
  | .resetUnit t urgent tag uid flags params env fails => Sys2Proof.Machine.execResetUnit t urgent tag uid flags params env fails s
  | .freeze t urgent tag uid flags params env => Sys2Proof.Machine.execFreeze t urgent tag uid flags params env s
  | .thaw t urgent tag uid flags params env => Sys2Proof.Machine.execThaw t urgent tag uid flags params env s
  | .getStatus t urgent tag uid flags params env => Sys2Proof.Machine.execGetStatus t urgent tag uid flags params env s
  | .commit t urgent tag uid flags params env => Sys2Proof.Machine.execCommit t urgent tag uid flags params env s
  | .unitWrite t urgent tag uid flags params env => Sys2Proof.Machine.execUnitWrite t urgent tag uid flags params env s
  | .powerSet t urgent tag uid flags params env => Sys2Proof.Machine.execPowerSet t urgent tag uid flags params env s
  | .domainReady t d o => Sys2Proof.Machine.execDomainReady t d o s
  | .paceUpdate t running replicas ack => Sys2Proof.Machine.execPaceUpdate t running replicas ack s
  | .voutReadback t mv ack => Sys2Proof.Machine.execVoutReadback t mv ack s
  | .pmbAlert t => Sys2Proof.Machine.execPmbAlert t s
  | .timebaseUnlock t => Sys2Proof.Machine.execTimebaseUnlock t s
  | .timebaseRelock t => Sys2Proof.Machine.execTimebaseRelock t s
  | .lineFire t p => Sys2Proof.Machine.execLineFire t p s
  | .pgStep t p codes => Sys2Proof.Machine.execPgStep t p codes s
  | .exposureStart t p => Sys2Proof.Machine.execExposureStart t p s
  | .exposureEnd t p => Sys2Proof.Machine.execExposureEnd t p s
  | .laneLineReceived t p words came => Sys2Proof.Machine.execLaneLineReceived t p words came s
  | .lineCorrected t p ce ue => Sys2Proof.Machine.execLineCorrected t p ce ue s
  | .blockIdleExpiry t p => Sys2Proof.Machine.execBlockIdleExpiry t p s
  | .tsenseReading t p code => Sys2Proof.Machine.execTsenseReading t p code s
  | .reliefDue t p => Sys2Proof.Machine.execReliefDue t p s
  | .calibrationDone t p mLo mHi => Sys2Proof.Machine.execCalibrationDone t p mLo mHi s
  | .encoderEdge t k a b ga gb => Sys2Proof.Machine.execEncoderEdge t k a b s ga gb
  | .zEdge t k g => Sys2Proof.Machine.execZEdge t k s g
  | .webStopped t p => Sys2Proof.Machine.execWebStopped t p s
  | .markReport t p => Sys2Proof.Machine.execMarkReport t p s
  | .gpioEdge t k level g => Sys2Proof.Machine.execGpioEdge t k level s g
  | .splice t => Sys2Proof.Machine.execSplice t s
  | .lineCompared t p ecc chk => Sys2Proof.Machine.execLineCompared t p ecc s chk
  | .triggerSlot t => Sys2Proof.Machine.execTriggerSlot t s
  | .placeWaitExpiry t => Sys2Proof.Machine.execPlaceWaitExpiry t s
  | .holdExpiry t c => Sys2Proof.Machine.execHoldExpiry t c s
  | .aOutPulseStart t => Sys2Proof.Machine.execAOutPulseStart t s
  | .aOutPulseEnd t => Sys2Proof.Machine.execAOutPulseEnd t s
  | .armAt t => Sys2Proof.Machine.execArmAt t s
  | .softFire t => Sys2Proof.Machine.execSoftFire t s
  | .doorbell t k => Sys2Proof.Machine.execDoorbell t k s
  | .descriptorReadDone t k ws => Sys2Proof.Machine.execDescriptorReadDone t k ws s
  | .descReadTimeout t k error => Sys2Proof.Machine.execDescReadTimeout t k error s
  | .flushTicksExpiry t k => Sys2Proof.Machine.execFlushTicksExpiry t k s
  | .barrierReadDone t k => Sys2Proof.Machine.execBarrierReadDone t k s
  | .dmaTransferEnd t k => Sys2Proof.Machine.execDmaTransferEnd t k s
  | .moverCopyDone t k => Sys2Proof.Machine.execMoverCopyDone t k s
  | .axisUpdate t a => Sys2Proof.Machine.execAxisUpdate t a s
  | .pwmPeriod t a cycle => Sys2Proof.Machine.execPwmPeriod t a cycle s
  | .vmotSample t mv0 mv1 => Sys2Proof.Machine.execVmotSample t mv0 mv1 s
  | .axisInputTransition t a k level => Sys2Proof.Machine.execAxisInputTransition t a k level s
  | .axisInputDebounced t a k => Sys2Proof.Machine.execAxisInputDebounced t a k s
  | .indexEdge t a => Sys2Proof.Machine.execIndexEdge t a s
  | .driverFault t a => Sys2Proof.Machine.execDriverFault t a s
  | .identifyPhaseDone t a val => Sys2Proof.Machine.execIdentifyPhaseDone t a val s
  | .speedwellEval t a => Sys2Proof.Machine.execSpeedwellEval t a s
  | .belayParkMax t a => Sys2Proof.Machine.execBelayParkMax t a s
  | .strobeStart t g => Sys2Proof.Machine.execStrobeStart t g s
  | .strobeEnd t g => Sys2Proof.Machine.execStrobeEnd t g s
  | .ovpTrip t g k => Sys2Proof.Machine.execOvpTrip t g k s
  | .lampMeasurement t g k mv ua mean => Sys2Proof.Machine.execLampMeasurement t g k mv ua mean s
  | .continuousMeasure t g k mv ua => Sys2Proof.Machine.execContinuousMeasure t g k mv ua s
  | .diagPulse t g => Sys2Proof.Machine.execDiagPulse t g s
  | .lampRelight t g => Sys2Proof.Machine.execLampRelight t g s
  | .chainLatch t => Sys2Proof.Machine.execChainLatch t s
  | .chainShiftDone t ret count => Sys2Proof.Machine.execChainShiftDone t ret count s
  | .chainRestart t => Sys2Proof.Machine.execChainRestart t s
  | .harebellTick t e => Sys2Proof.Machine.execHarebellTick t e s
  | .jobBoundary t => Sys2Proof.Machine.execJobBoundary t s
  | .newJobStart t => Sys2Proof.Machine.execNewJobStart t s
  | .stagingDone t ues => Sys2Proof.Machine.execStagingDone t ues s
  | .pitchSymbolLock t k => Sys2Proof.Machine.execPitchSymbolLock t k s
  | .pitchLockLoss t k => Sys2Proof.Machine.execPitchLockLoss t k s
  | .linkRetry t k => Sys2Proof.Machine.execLinkRetry t k s
  | .delayExchange t k d => Sys2Proof.Machine.execDelayExchange t k d s
  | .ropeAck t k lseq ok => Sys2Proof.Machine.execRopeAck t k lseq ok s
  | .ropeAckTimeout t k lseq => Sys2Proof.Machine.execRopeAckTimeout t k lseq s
  | .timeSend t => Sys2Proof.Machine.execTimeSend t s
  | .time t crc at64 delay alignedUp depth => Sys2Proof.Machine.execTime t crc at64 delay alignedUp depth s
  | .timeTimeout t => Sys2Proof.Machine.execTimeTimeout t s
  | .arm t k crc src on lo hi => Sys2Proof.Machine.execArm t k crc src on lo hi s
  | .fire t k crc src lo hi => Sys2Proof.Machine.execFire t k crc src lo hi s
  | .job t k crc src rc id => Sys2Proof.Machine.execJob t k crc src rc id s
  | .mark t k crc src dst data lo hi => Sys2Proof.Machine.execMark t k crc src dst data lo hi s
  | .markSrcRead t => Sys2Proof.Machine.execMarkSrcRead t s
  | .report t k crc st worst count members => Sys2Proof.Machine.execReport t k crc st worst count members s
  | .reportTimer t => Sys2Proof.Machine.execReportTimer t s
  | .join t k crc src node role refused reason => Sys2Proof.Machine.execJoin t k crc src node role refused reason s
  | .statusAbort t k crc purge tag => Sys2Proof.Machine.execStatusAbort t k crc purge tag s
  | .statusReset t k crc tag fails => Sys2Proof.Machine.execStatusReset t k crc tag fails s
  | .done t k crc tag => Sys2Proof.Machine.execDone t k crc tag s
  | .lost t k crc src => Sys2Proof.Machine.execLost t k crc src s
  | .jobReply t k crc src status id => Sys2Proof.Machine.execJobReply t k crc src status id s
  | .scrubPass t ce ue => Sys2Proof.Machine.execScrubPass t ce ue s
  | .pageRetireDone t => Sys2Proof.Machine.execPageRetireDone t s
  | .wckTracking t osc => Sys2Proof.Machine.execWckTracking t osc s
  | .tjUpdate t tj upsets => Sys2Proof.Machine.execTjUpdate t tj s upsets
  | .thermtrip t tj => Sys2Proof.Machine.execThermtrip t tj s
  | .poresetNFall t => Sys2Proof.Machine.execPoresetNFall t s
  | .poresetNRise t u => Sys2Proof.Machine.execPoresetNRise t u s
  | .freezeNFall t => Sys2Proof.Machine.execFreezeNFall t s
  | .freezeNRise t => Sys2Proof.Machine.execFreezeNRise t s
  | .bootRecover t v => Sys2Proof.Machine.execBootRecover t v s
  | .pgLoad t urgent tag uid flags params env => Sys2Proof.Machine.execPgLoad t urgent tag uid flags params env s
  | .afeCalibrate t urgent tag uid flags params env => Sys2Proof.Machine.execAfeCalibrate t urgent tag uid flags params env s
  | .refTrace t urgent tag uid flags params env => Sys2Proof.Machine.execRefTrace t urgent tag uid flags params env s
  | .shadingCapture t urgent tag uid flags params env => Sys2Proof.Machine.execShadingCapture t urgent tag uid flags params env s
  | .captureAttemptEnd t p => Sys2Proof.Machine.execCaptureAttemptEnd t p s
  | .lutLoad t urgent tag uid flags params env => Sys2Proof.Machine.execLutLoad t urgent tag uid flags params env s
  | .ebRelease t urgent tag uid flags params env => Sys2Proof.Machine.execEbRelease t urgent tag uid flags params env s
  | .trigArm t urgent tag uid flags params env => Sys2Proof.Machine.execTrigArm t urgent tag uid flags params env s
  | .dmaStart t urgent tag uid flags params env => Sys2Proof.Machine.execDmaStart t urgent tag uid flags params env s
  | .move t urgent tag uid flags params env => Sys2Proof.Machine.execMove t urgent tag uid flags params env s
  | .axisMove t urgent tag uid flags params env => Sys2Proof.Machine.execAxisMove t urgent tag uid flags params env s
  | .axisLinear t urgent tag uid flags params env => Sys2Proof.Machine.execAxisLinear t urgent tag uid flags params env s
  | .axisStop t urgent tag uid flags params env => Sys2Proof.Machine.execAxisStop t urgent tag uid flags params env s
  | .axisResume t urgent tag uid flags params env => Sys2Proof.Machine.execAxisResume t urgent tag uid flags params env s
  | .axisSetPosition t urgent tag uid flags params env => Sys2Proof.Machine.execAxisSetPosition t urgent tag uid flags params env s
  | .axisIdentify t urgent tag uid flags params env => Sys2Proof.Machine.execAxisIdentify t urgent tag uid flags params env s
  | .axisHome t urgent tag uid flags params env => Sys2Proof.Machine.execAxisHome t urgent tag uid flags params env s
  | .lampCal t urgent tag uid flags params env => Sys2Proof.Machine.execLampCal t urgent tag uid flags params env s
  | .chainLoad t urgent tag uid flags params env => Sys2Proof.Machine.execChainLoad t urgent tag uid flags params env s
  | .recipeLoad t urgent tag uid flags params env => Sys2Proof.Machine.execRecipeLoad t urgent tag uid flags params env s
  | .recipeInfo t urgent tag uid flags params env => Sys2Proof.Machine.execRecipeInfo t urgent tag uid flags params env s
  | .jobStage t urgent tag uid flags params env => Sys2Proof.Machine.execJobStage t urgent tag uid flags params env s
  | .jobUnstage t urgent tag uid flags params env => Sys2Proof.Machine.execJobUnstage t urgent tag uid flags params env s
  | .jobStart t urgent tag uid flags params env => Sys2Proof.Machine.execJobStart t urgent tag uid flags params env s
  | .jobEnd t urgent tag uid flags params env => Sys2Proof.Machine.execJobEnd t urgent tag uid flags params env s
  | .ropeMark t urgent tag uid flags params env => Sys2Proof.Machine.execRopeMark t urgent tag uid flags params env s
  | .memRetire t urgent tag uid flags params env => Sys2Proof.Machine.execMemRetire t urgent tag uid flags params env s
  | .spareLedger t urgent tag uid flags params env => Sys2Proof.Machine.execSpareLedger t urgent tag uid flags params env s
  | .logRead t urgent tag uid flags params env => Sys2Proof.Machine.execLogRead t urgent tag uid flags params env s
  | .idCert t urgent tag uid flags params env => Sys2Proof.Machine.execIdCert t urgent tag uid flags params env s
  | .attest t urgent tag uid flags params env => Sys2Proof.Machine.execAttest t urgent tag uid flags params env s
  | .authChallenge t urgent tag uid flags params env => Sys2Proof.Machine.execAuthChallenge t urgent tag uid flags params env s
  | .policySet t urgent tag uid flags params env => Sys2Proof.Machine.execPolicySet t urgent tag uid flags params env s
  | .keyInstall t urgent tag uid flags params env => Sys2Proof.Machine.execKeyInstall t urgent tag uid flags params env s
  | .keyRevoke t urgent tag uid flags params env => Sys2Proof.Machine.execKeyRevoke t urgent tag uid flags params env s
  | .ownerFuse t urgent tag uid flags params env => Sys2Proof.Machine.execOwnerFuse t urgent tag uid flags params env s
  | .fwUpdate t urgent tag uid flags params env => Sys2Proof.Machine.execFwUpdate t urgent tag uid flags params env s
  | .fwAccept t urgent tag uid flags params env => Sys2Proof.Machine.execFwAccept t urgent tag uid flags params env s
  | .debugUnlock t urgent tag uid flags params env => Sys2Proof.Machine.execDebugUnlock t urgent tag uid flags params env s
  | .debugRelock t urgent tag uid flags params env => Sys2Proof.Machine.execDebugRelock t urgent tag uid flags params env s
  | .auditExport t urgent tag uid flags params env => Sys2Proof.Machine.execAuditExport t urgent tag uid flags params env s
  | .bundleExport t urgent tag uid flags params env => Sys2Proof.Machine.execBundleExport t urgent tag uid flags params env s
  | .bundleImport t urgent tag uid flags params env => Sys2Proof.Machine.execBundleImport t urgent tag uid flags params env s
  | .smbStatus t => Sys2Proof.Machine.execSmbStatus t s
  | .smbTemp t => Sys2Proof.Machine.execSmbTemp t s
  | .smbPower t => Sys2Proof.Machine.execSmbPower t s
  | .smbIdentity t => Sys2Proof.Machine.execSmbIdentity t s
  | .smbVcore t => Sys2Proof.Machine.execSmbVcore t s
  | .deviceReset t v u => Sys2Proof.Machine.execDeviceReset t v u s
  | .extest t bits => Sys2Proof.Machine.execExtest t bits s
  | .idcode t => Sys2Proof.Machine.execIdcode t s
  | .samplePreload t bits => Sys2Proof.Machine.execSamplePreload t bits s
  | .extestPulse t bits => Sys2Proof.Machine.execExtestPulse t bits s
  | .extestTrain t bits => Sys2Proof.Machine.execExtestTrain t bits s
  | .challenge t => Sys2Proof.Machine.execChallenge t s
  | .unlock t scope sig => Sys2Proof.Machine.execUnlock t scope sig s
  | .freezeRead t sel => Sys2Proof.Machine.execFreezeRead t sel s
  | .scanState t sel => Sys2Proof.Machine.execScanState t sel s
  | .bypass t code => Sys2Proof.Machine.execBypass t code s
  | .wordLock t p lane bit word seen => Sys2Proof.Machine.execWordLock t p lane bit word s seen
  | .latencyMaxExpiry t p => Sys2Proof.Machine.execLatencyMaxExpiry t p s
  | .buckSwitchOnTimeout t g k => Sys2Proof.Machine.execBuckSwitchOnTimeout t g k s
  | .challengeLapse t => Sys2Proof.Machine.execChallengeLapse t s
  | .firmwareReady t => Sys2Proof.Machine.execFirmwareReady t s
  | .longWorkEnd t op env => Sys2Proof.Machine.execLongWorkEnd t op env s

end Sys2Proof.Machine
end

