-- ==== Sys2Proof/WellFormed.lean ====
section
/-! DEFINITION. Which commands can arrive: every operand within the width or the count that the spec gives it. The meanings are total and do not rely on it; what a
command does with an operand out of range is nothing that can happen at the device's pins. -/
namespace Sys2Proof

/-- A single bit. -/
def Ok.bit (n : Nat) : Bool := n < 2
/-- One of four: an encoder input, a unit window, an indicating engine, a role. -/
def Ok.four (n : Nat) : Bool := n < 4
/-- One of eight: a port, an axis, a lamp group, a mover. -/
def Ok.eight (n : Nat) : Bool := n < 8
/-- One of sixteen: a digital lane, a link sequence number, a depth. -/
def Ok.sixteen (n : Nat) : Bool := n < 16
/-- One of 32: a GPIO input, a trigger condition. -/
def Ok.thirtyTwo (n : Nat) : Bool := n < 32
/-- One of 64: a DMA channel, an interrupt vector, an eye position. -/
def Ok.sixtyFour (n : Nat) : Bool := n < 64
/-- Eight bits. -/
def Ok.byte (n : Nat) : Bool := n < 256
/-- A 12-bit code. -/
def Ok.code12 (n : Nat) : Bool := n < 4096
/-- Sixteen bits. -/
def Ok.u16 (n : Nat) : Bool := n < 2 ^ 16
/-- A word. -/
def Ok.u32 (n : Nat) : Bool := n < 2 ^ 32
/-- Two words. -/
def Ok.u64 (n : Nat) : Bool := n < 2 ^ 64
/-- Byte enables of a word. -/
def Ok.enables (n : Nat) : Bool := n < 16
/-- A node of the Rope (R456). -/
def Ok.node (n : Nat) : Bool := n < 2 ^ 18
/-- The TAG of a STATUS ABORT or RESET with its SRC above it: bits 15 to 0, and 33 to 16 (R461, R469; log entry 89). -/
def Ok.tagSrc (n : Nat) : Bool := n < 2 ^ 34
/-- A pitch: four downstream, one upstream. -/
def Ok.pitch (n : Nat) : Bool := n ≤ 4
/-- A string of a lamp group: four and the spare. -/
def Ok.slot (n : Nat) : Bool := 1 ≤ n && n ≤ 5
/-- LIMP, LIMN or HOME (R378); INDEX is not debounced. -/
def Ok.axisInput (n : Nat) : Bool := n < 3
/-- A power domain. -/
def Ok.domain (n : Nat) : Bool := n < 24
/-- No uncorrectable entry, one of the active segment, one of the staged segment. -/
def Ok.ue (n : Nat) : Bool := n ≤ 2
/-- A PCIe rate (R61). -/
def Ok.rate (n : Nat) : Bool := 1 ≤ n && n ≤ 5
/-- A PCIe width (R61, R62). -/
def Ok.width (n : Nat) : Bool := [1, 2, 4, 8, 16].contains n
/-- A word of BAR0, of 64 KiB. -/
def Ok.bar0 (n : Nat) : Bool := n % 4 = 0 && n < 2 ^ 16
/-- A temperature in sixteenths of a degree, between absolute zero and the width of TJ. -/
def Ok.temp (n : Int) : Bool := -4370 ≤ n && n < 32768
/-- An LPDDR5X address, in at most 32 GiB. -/
def Ok.addrN (n : Nat) : Bool := n < 2 ^ 35
/-- Where an uncorrectable memory error lies, if one is met. -/
def Ok.addr (a : Option Nat) : Bool := match a with | some n => Ok.addrN n | none => true
/-- A lane of a cluster, if one is named. -/
def Ok.lane (a : Option Nat) : Bool := match a with | some n => Ok.eight n | none => true
/-- A queue of R321, as code 9 a unit (R322), or an upset of the MRAM (R488) or of the LPDDR5X (R479). -/
def Ok.upset (q : Nat × Nat) : Bool :=
  match q.1 with
  | 1 | 2 | 3 => Ok.eight q.2
  | 4 | 7 => q.2 == 0
  | 5 => Ok.sixtyFour q.2
  | 6 => q.2 < 2
  | 8 | 9 => Ok.u16 q.2
  | 16 | 20 => Ok.u32 q.2
  | 17 => q.2 == 0
  | 21 => q.2 < 2 ^ 20 && q.2 % 4 < 3
  | 22 => Ok.u32 q.2
  | 23 | 24 => Ok.addrN q.2
  | 18 => q.2 < 2 ^ 14
  | 19 => q.2 % 2 ^ 24 < 2 ^ 14 && Ok.u16 (q.2 / 2 ^ 24)
  | _ => false
/-- Addresses of memory errors. -/
def Ok.addrs (l : List Nat) : Bool := l.all Ok.addrN
/-- UIDs. -/
def Ok.uids (l : List Nat) : Bool := l.all Ok.u16
/-- Words. -/
def Ok.words (l : List Nat) : Bool := l.all Ok.u32
/-- Bytes. -/
def Ok.bytes (l : List Nat) : Bool := l.all Ok.byte
/-- The parameter words of a packet: COUNT has eight bits (R75). -/
def Ok.params (l : List Nat) : Bool := l.length < 256 && l.all Ok.u32
/-- A range of BAR2, of 4 GiB. -/
def Ok.bar2 (off len : Nat) : Bool := off + len ≤ 2 ^ 32
/-- Converter codes of the nine channels of a port. -/
def Ok.codes (l : List Nat) : Bool := l.length ≤ 9 && l.all Ok.u16
/-- Words of the sixteen lanes of a port. -/
def Ok.lanes (l : List (List Nat)) : Bool := l.length ≤ 16 && l.all (fun ws => ws.all Ok.u16)
/-- A descriptor of eight words, or its link of two (R328, R329). -/
def Ok.descriptor (l : List Nat) : Bool := (l.length == 8 || l.length == 2) && l.all Ok.u32
/-- What self-tests find. -/
def Ok.outcomes (o : Outcomes) : Bool := Ok.uids o.lanes && Ok.uids o.queues && o.cals.all (fun c => Ok.u16 c.1 && c.2.all (fun x => Ok.u32 x.1 && Ok.u32 x.2))
/-- What start-up finds. -/
def Ok.startUp (u : StartUp) : Bool := u.flash.all (fun c => Ok.byte c.2) && u.train ≤ 3 && u.mram.all (fun x => decide (x.1 < 2 ^ 14) && decide (x.2.2.getD 0 < 2 ^ 16)) && Ok.outcomes u.found

/-- Every operand is one that can arrive. -/
def Instr.wf : Instr → Bool
  | .commandWordWrite _ _ w be env fails => Ok.u32 w && Ok.enables be && Ok.addr env && Ok.uids fails
  | .resyncUrgent _ => true
  | .resyncNormal _ => true
  | .normalPacketStart _ env fails => Ok.addr env && Ok.uids fails
  | .replyPop _ _ => true
  | .resTagRead _ n => Ok.four n
  | .timeLoRead _ _ => true
  | .rcRead _ off => Ok.bar0 off
  | .registerWrite _ off w be => Ok.bar0 off && Ok.u32 w && Ok.enables be
  | .eventRingEnable _ w => Ok.u32 w
  | .evtRdWrite _ w => Ok.u32 w
  | .eventHoldoffExpiry _ v => Ok.sixtyFour v
  | .seqWedged _ _ => true
  | .supplyFailClear _ => true
  | .minClear _ => true
  | .bar2Read _ off len env => Ok.bar2 off len && Ok.addr env
  | .bar2Write _ off bytes => Ok.bar2 off bytes.length && Ok.bytes bytes
  | .functionLevelReset _ => true
  | .perstN _ => true
  | .d3hotEntry _ => true
  | .d0Return _ cfg => cfg.all (fun x => Ok.u32 x.2)
  | .linkRetrain _ rate width cfg => Ok.rate rate && Ok.width width && cfg.all (fun x => Ok.u32 x.2)
  | .abort _ _ tag uid flags params env => Ok.u16 tag && Ok.u16 uid && Ok.u16 flags && Ok.params params && Ok.addr env
  | .abortCompletion _ uid => Ok.u16 uid
  | .abortLate _ u => Ok.u16 u
  | .resetUnit _ _ tag uid flags params env fails => Ok.u16 tag && Ok.u16 uid && Ok.u16 flags && Ok.params params && Ok.addr env && Ok.uids fails
  | .freeze _ _ tag uid flags params env => Ok.u16 tag && Ok.u16 uid && Ok.u16 flags && Ok.params params && Ok.addr env
  | .thaw _ _ tag uid flags params env => Ok.u16 tag && Ok.u16 uid && Ok.u16 flags && Ok.params params && Ok.addr env
  | .getStatus _ _ tag uid flags params env => Ok.u16 tag && Ok.u16 uid && Ok.u16 flags && Ok.params params && Ok.addr env
  | .commit _ _ tag uid flags params env => Ok.u16 tag && Ok.u16 uid && Ok.u16 flags && Ok.params params && Ok.addr env
  | .unitWrite _ _ tag uid flags params env => Ok.u16 tag && Ok.u16 uid && Ok.u16 flags && Ok.params params && Ok.addr env
  | .powerSet _ _ tag uid flags params env => Ok.u16 tag && Ok.u16 uid && Ok.u16 flags && Ok.params params && Ok.addr env
  | .domainReady _ d o => Ok.domain d && Ok.outcomes o
  | .paceUpdate _ running replicas _ => (running ++ replicas).all (fun x => Ok.u16 x.1)
  | .voutReadback _ mv _ => Ok.u16 mv
  | .pmbAlert _ => true
  | .timebaseUnlock _ => true
  | .timebaseRelock _ => true
  | .lineFire _ p => Ok.eight p
  | .pgStep _ p codes => Ok.eight p && Ok.codes codes
  | .exposureStart _ p => Ok.eight p
  | .exposureEnd _ p => Ok.eight p
  | .laneLineReceived _ p words _ => Ok.eight p && Ok.lanes words
  | .lineCorrected _ p _ ue => Ok.eight p && Ok.ue ue
  | .blockIdleExpiry _ p => Ok.eight p
  | .tsenseReading _ p code => Ok.eight p && Ok.code12 code
  | .reliefDue _ p => Ok.eight p
  | .calibrationDone _ p mLo mHi => Ok.eight p && Ok.u32 mLo && Ok.u32 mHi
  | .encoderEdge _ i _ _ _ _ => Ok.four i
  | .zEdge _ i _ => Ok.four i
  | .webStopped _ p => Ok.eight p
  | .markReport _ p => Ok.eight p
  | .gpioEdge _ k _ _ => Ok.thirtyTwo k
  | .splice _ => true
  | .lineCompared _ p _ chk => Ok.eight p && Ok.lane chk
  | .triggerSlot _ => true
  | .placeWaitExpiry _ => true
  | .holdExpiry _ c => Ok.thirtyTwo c
  | .aOutPulseStart _ => true
  | .aOutPulseEnd _ => true
  | .armAt _ => true
  | .softFire _ => true
  | .doorbell _ k => Ok.sixtyFour k
  | .descriptorReadDone _ k ws => Ok.sixtyFour k && Ok.descriptor ws
  | .descReadTimeout _ k _ => Ok.sixtyFour k
  | .flushTicksExpiry _ k => Ok.sixtyFour k
  | .barrierReadDone _ k => Ok.sixtyFour k
  | .dmaTransferEnd _ k => Ok.sixtyFour k
  | .moverCopyDone _ i => Ok.eight i
  | .axisUpdate _ a => Ok.eight a
  | .pwmPeriod _ a _ => Ok.eight a
  | .vmotSample _ mv0 mv1 => Ok.u16 mv0 && Ok.u16 mv1
  | .axisInputTransition _ a k _ => Ok.eight a && Ok.four k
  | .axisInputDebounced _ a k => Ok.eight a && Ok.axisInput k
  | .indexEdge _ a => Ok.eight a
  | .driverFault _ a => Ok.eight a
  | .identifyPhaseDone _ a val => Ok.eight a && Ok.u32 val
  | .speedwellEval _ a => Ok.eight a
  | .belayParkMax _ a => Ok.eight a
  | .strobeStart _ g => Ok.eight g
  | .strobeEnd _ g => Ok.eight g
  | .ovpTrip _ g k => Ok.eight g && Ok.slot k
  | .lampMeasurement _ g k mv ua mean => Ok.eight g && Ok.slot k && Ok.u16 mv && Ok.u32 ua && Ok.u32 mean
  | .continuousMeasure _ g k mv ua => Ok.eight g && Ok.slot k && Ok.u16 mv && Ok.u32 ua
  | .diagPulse _ g => Ok.eight g
  | .lampRelight _ g => Ok.eight g
  | .chainLatch _ => true
  | .chainShiftDone _ _ _ => true
  | .chainRestart _ => true
  | .harebellTick _ e => Ok.four e
  | .jobBoundary _ => true
  | .newJobStart _ => true
  | .stagingDone _ ues => Ok.addrs ues
  | .pitchSymbolLock _ k => Ok.pitch k
  | .pitchLockLoss _ k => Ok.pitch k
  | .linkRetry _ k => Ok.pitch k
  | .delayExchange _ k _ => Ok.pitch k
  | .ropeAck _ k lseq _ => Ok.pitch k && Ok.sixteen lseq
  | .ropeAckTimeout _ k lseq => Ok.pitch k && Ok.sixteen lseq
  | .timeSend _ => true
  | .time _ _ at64 delay _ depth => Ok.u64 at64 && Ok.u32 delay && Ok.sixteen depth
  | .timeTimeout _ => true
  | .arm _ k _ src on lo hi => Ok.pitch k && Ok.node src && Ok.bit on && Ok.u32 lo && Ok.u32 hi
  | .fire _ k _ src lo hi => Ok.pitch k && Ok.node src && Ok.u32 lo && Ok.u32 hi
  | .job _ k _ src rc id => Ok.pitch k && Ok.node src && Ok.u32 rc && Ok.u32 id
  | .mark _ k _ src dst data lo hi => Ok.pitch k && Ok.node src && Ok.node dst && Ok.u32 data && Ok.u32 lo && Ok.u32 hi
  | .markSrcRead _ => true
  | .report _ k _ st worst count members => Ok.pitch k && Ok.eight st && Ok.node worst && Ok.u32 count && Ok.u32 members
  | .reportTimer _ => true
  | .join _ k _ src node role refused reason => Ok.pitch k && Ok.node src && Ok.node node && Ok.four role && Ok.bit refused && Ok.eight reason
  | .statusAbort _ k _ purge tag => Ok.pitch k && Ok.bit purge && Ok.tagSrc tag
  | .statusReset _ k _ tag fails => Ok.pitch k && Ok.tagSrc tag && Ok.uids fails
  | .done _ k _ tag => Ok.pitch k && Ok.u16 tag
  | .lost _ k _ src => Ok.pitch k && Ok.node src
  | .jobReply _ k _ src status id => Ok.pitch k && Ok.node src && Ok.u16 status && Ok.u32 id
  | .scrubPass _ ce ue => Ok.addrs ce && Ok.addrs ue
  | .pageRetireDone _ => true
  | .wckTracking _ osc => Ok.words osc
  | .tjUpdate _ tj upsets => Ok.temp tj && upsets.all Ok.upset
  | .thermtrip _ tj => Ok.temp tj
  | .poresetNFall _ => true
  | .poresetNRise _ u => Ok.startUp u
  | .freezeNFall _ => true
  | .freezeNRise _ => true
  | .bootRecover _ v => Ok.u32 v
  | .pgLoad _ _ tag uid flags params env => Ok.u16 tag && Ok.u16 uid && Ok.u16 flags && Ok.params params && Ok.addr env
  | .afeCalibrate _ _ tag uid flags params env => Ok.u16 tag && Ok.u16 uid && Ok.u16 flags && Ok.params params && Ok.addr env
  | .refTrace _ _ tag uid flags params env => Ok.u16 tag && Ok.u16 uid && Ok.u16 flags && Ok.params params && Ok.addr env
  | .shadingCapture _ _ tag uid flags params env => Ok.u16 tag && Ok.u16 uid && Ok.u16 flags && Ok.params params && Ok.addr env
  | .captureAttemptEnd _ p => Ok.eight p
  | .lutLoad _ _ tag uid flags params env => Ok.u16 tag && Ok.u16 uid && Ok.u16 flags && Ok.params params && Ok.addr env
  | .ebRelease _ _ tag uid flags params env => Ok.u16 tag && Ok.u16 uid && Ok.u16 flags && Ok.params params && Ok.addr env
  | .trigArm _ _ tag uid flags params env => Ok.u16 tag && Ok.u16 uid && Ok.u16 flags && Ok.params params && Ok.addr env
  | .dmaStart _ _ tag uid flags params env => Ok.u16 tag && Ok.u16 uid && Ok.u16 flags && Ok.params params && Ok.addr env
  | .move _ _ tag uid flags params env => Ok.u16 tag && Ok.u16 uid && Ok.u16 flags && Ok.params params && Ok.addr env
  | .axisMove _ _ tag uid flags params env => Ok.u16 tag && Ok.u16 uid && Ok.u16 flags && Ok.params params && Ok.addr env
  | .axisLinear _ _ tag uid flags params env => Ok.u16 tag && Ok.u16 uid && Ok.u16 flags && Ok.params params && Ok.addr env
  | .axisStop _ _ tag uid flags params env => Ok.u16 tag && Ok.u16 uid && Ok.u16 flags && Ok.params params && Ok.addr env
  | .axisResume _ _ tag uid flags params env => Ok.u16 tag && Ok.u16 uid && Ok.u16 flags && Ok.params params && Ok.addr env
  | .axisSetPosition _ _ tag uid flags params env => Ok.u16 tag && Ok.u16 uid && Ok.u16 flags && Ok.params params && Ok.addr env
  | .axisIdentify _ _ tag uid flags params env => Ok.u16 tag && Ok.u16 uid && Ok.u16 flags && Ok.params params && Ok.addr env
  | .axisHome _ _ tag uid flags params env => Ok.u16 tag && Ok.u16 uid && Ok.u16 flags && Ok.params params && Ok.addr env
  | .lampCal _ _ tag uid flags params env => Ok.u16 tag && Ok.u16 uid && Ok.u16 flags && Ok.params params && Ok.addr env
  | .chainLoad _ _ tag uid flags params env => Ok.u16 tag && Ok.u16 uid && Ok.u16 flags && Ok.params params && Ok.addr env
  | .recipeLoad _ _ tag uid flags params env => Ok.u16 tag && Ok.u16 uid && Ok.u16 flags && Ok.params params && Ok.addr env
  | .recipeInfo _ _ tag uid flags params env => Ok.u16 tag && Ok.u16 uid && Ok.u16 flags && Ok.params params && Ok.addr env
  | .jobStage _ _ tag uid flags params env => Ok.u16 tag && Ok.u16 uid && Ok.u16 flags && Ok.params params && Ok.addr env
  | .jobUnstage _ _ tag uid flags params env => Ok.u16 tag && Ok.u16 uid && Ok.u16 flags && Ok.params params && Ok.addr env
  | .jobStart _ _ tag uid flags params env => Ok.u16 tag && Ok.u16 uid && Ok.u16 flags && Ok.params params && Ok.addr env
  | .jobEnd _ _ tag uid flags params env => Ok.u16 tag && Ok.u16 uid && Ok.u16 flags && Ok.params params && Ok.addr env
  | .ropeMark _ _ tag uid flags params env => Ok.u16 tag && Ok.u16 uid && Ok.u16 flags && Ok.params params && Ok.addr env
  | .memRetire _ _ tag uid flags params env => Ok.u16 tag && Ok.u16 uid && Ok.u16 flags && Ok.params params && Ok.addr env
  | .spareLedger _ _ tag uid flags params env => Ok.u16 tag && Ok.u16 uid && Ok.u16 flags && Ok.params params && Ok.addr env
  | .logRead _ _ tag uid flags params env => Ok.u16 tag && Ok.u16 uid && Ok.u16 flags && Ok.params params && Ok.addr env
  | .idCert _ _ tag uid flags params env => Ok.u16 tag && Ok.u16 uid && Ok.u16 flags && Ok.params params && Ok.addr env
  | .attest _ _ tag uid flags params env => Ok.u16 tag && Ok.u16 uid && Ok.u16 flags && Ok.params params && Ok.addr env
  | .authChallenge _ _ tag uid flags params env => Ok.u16 tag && Ok.u16 uid && Ok.u16 flags && Ok.params params && Ok.addr env
  | .policySet _ _ tag uid flags params env => Ok.u16 tag && Ok.u16 uid && Ok.u16 flags && Ok.params params && Ok.addr env
  | .keyInstall _ _ tag uid flags params env => Ok.u16 tag && Ok.u16 uid && Ok.u16 flags && Ok.params params && Ok.addr env
  | .keyRevoke _ _ tag uid flags params env => Ok.u16 tag && Ok.u16 uid && Ok.u16 flags && Ok.params params && Ok.addr env
  | .ownerFuse _ _ tag uid flags params env => Ok.u16 tag && Ok.u16 uid && Ok.u16 flags && Ok.params params && Ok.addr env
  | .fwUpdate _ _ tag uid flags params env => Ok.u16 tag && Ok.u16 uid && Ok.u16 flags && Ok.params params && Ok.addr env
  | .fwAccept _ _ tag uid flags params env => Ok.u16 tag && Ok.u16 uid && Ok.u16 flags && Ok.params params && Ok.addr env
  | .debugUnlock _ _ tag uid flags params env => Ok.u16 tag && Ok.u16 uid && Ok.u16 flags && Ok.params params && Ok.addr env
  | .debugRelock _ _ tag uid flags params env => Ok.u16 tag && Ok.u16 uid && Ok.u16 flags && Ok.params params && Ok.addr env
  | .auditExport _ _ tag uid flags params env => Ok.u16 tag && Ok.u16 uid && Ok.u16 flags && Ok.params params && Ok.addr env
  | .bundleExport _ _ tag uid flags params env => Ok.u16 tag && Ok.u16 uid && Ok.u16 flags && Ok.params params && Ok.addr env
  | .bundleImport _ _ tag uid flags params env => Ok.u16 tag && Ok.u16 uid && Ok.u16 flags && Ok.params params && Ok.addr env
  | .smbStatus _ => true
  | .smbTemp _ => true
  | .smbPower _ => true
  | .smbIdentity _ => true
  | .smbVcore _ => true
  | .deviceReset _ v u => Ok.byte v && Ok.startUp u
  | .extest _ _ => true
  | .idcode _ => true
  | .samplePreload _ _ => true
  | .extestPulse _ _ => true
  | .extestTrain _ _ => true
  | .challenge _ => true
  | .unlock _ scope sig => Ok.u32 scope && Ok.bytes sig
  | .freezeRead _ sel => Ok.u32 sel
  | .scanState _ sel => Ok.u32 sel
  | .bypass _ code => Ok.byte code
  | .wordLock _ p lane bit word _ => Ok.eight p && Ok.sixteen lane && Ok.sixtyFour bit && Ok.four word
  | .latencyMaxExpiry _ p => Ok.eight p
  | .buckSwitchOnTimeout _ g k => Ok.eight g && Ok.slot k
  | .challengeLapse _ => true
  | .firmwareReady _ => true
  | .longWorkEnd _ op env => Ok.byte op && Ok.addr env

/-- The instant at which a command happens, in ticks. -/
def Instr.at_ : Instr → Nat
  | .commandWordWrite t _ _ _ _ _ => t
  | .resyncUrgent t => t
  | .resyncNormal t => t
  | .normalPacketStart t _ _ => t
  | .replyPop t _ => t
  | .resTagRead t _ => t
  | .timeLoRead t _ => t
  | .rcRead t _ => t
  | .registerWrite t _ _ _ => t
  | .eventRingEnable t _ => t
  | .evtRdWrite t _ => t
  | .eventHoldoffExpiry t _ => t
  | .seqWedged t _ => t
  | .supplyFailClear t => t
  | .minClear t => t
  | .bar2Read t _ _ _ => t
  | .bar2Write t _ _ => t
  | .functionLevelReset t => t
  | .perstN t => t
  | .d3hotEntry t => t
  | .d0Return t _ => t
  | .linkRetrain t _ _ _ => t
  | .abort t _ _ _ _ _ _ => t
  | .abortCompletion t _ => t
  | .abortLate t _ => t
  | .resetUnit t _ _ _ _ _ _ _ => t
  | .freeze t _ _ _ _ _ _ => t
  | .thaw t _ _ _ _ _ _ => t
  | .getStatus t _ _ _ _ _ _ => t
  | .commit t _ _ _ _ _ _ => t
  | .unitWrite t _ _ _ _ _ _ => t
  | .powerSet t _ _ _ _ _ _ => t
  | .domainReady t _ _ => t
  | .paceUpdate t _ _ _ => t
  | .voutReadback t _ _ => t
  | .pmbAlert t => t
  | .timebaseUnlock t => t
  | .timebaseRelock t => t
  | .lineFire t _ => t
  | .pgStep t _ _ => t
  | .exposureStart t _ => t
  | .exposureEnd t _ => t
  | .laneLineReceived t _ _ _ => t
  | .lineCorrected t _ _ _ => t
  | .blockIdleExpiry t _ => t
  | .tsenseReading t _ _ => t
  | .reliefDue t _ => t
  | .calibrationDone t _ _ _ => t
  | .encoderEdge t _ _ _ _ _ => t
  | .zEdge t _ _ => t
  | .webStopped t _ => t
  | .markReport t _ => t
  | .gpioEdge t _ _ _ => t
  | .splice t => t
  | .lineCompared t _ _ _ => t
  | .triggerSlot t => t
  | .placeWaitExpiry t => t
  | .holdExpiry t _ => t
  | .aOutPulseStart t => t
  | .aOutPulseEnd t => t
  | .armAt t => t
  | .softFire t => t
  | .doorbell t _ => t
  | .descriptorReadDone t _ _ => t
  | .descReadTimeout t _ _ => t
  | .flushTicksExpiry t _ => t
  | .barrierReadDone t _ => t
  | .dmaTransferEnd t _ => t
  | .moverCopyDone t _ => t
  | .axisUpdate t _ => t
  | .pwmPeriod t _ _ => t
  | .vmotSample t _ _ => t
  | .axisInputTransition t _ _ _ => t
  | .axisInputDebounced t _ _ => t
  | .indexEdge t _ => t
  | .driverFault t _ => t
  | .identifyPhaseDone t _ _ => t
  | .speedwellEval t _ => t
  | .belayParkMax t _ => t
  | .strobeStart t _ => t
  | .strobeEnd t _ => t
  | .ovpTrip t _ _ => t
  | .lampMeasurement t _ _ _ _ _ => t
  | .continuousMeasure t _ _ _ _ => t
  | .diagPulse t _ => t
  | .lampRelight t _ => t
  | .chainLatch t => t
  | .chainShiftDone t _ _ => t
  | .chainRestart t => t
  | .harebellTick t _ => t
  | .jobBoundary t => t
  | .newJobStart t => t
  | .stagingDone t _ => t
  | .pitchSymbolLock t _ => t
  | .pitchLockLoss t _ => t
  | .linkRetry t _ => t
  | .delayExchange t _ _ => t
  | .ropeAck t _ _ _ => t
  | .ropeAckTimeout t _ _ => t
  | .timeSend t => t
  | .time t _ _ _ _ _ => t
  | .timeTimeout t => t
  | .arm t _ _ _ _ _ _ => t
  | .fire t _ _ _ _ _ => t
  | .job t _ _ _ _ _ => t
  | .mark t _ _ _ _ _ _ _ => t
  | .markSrcRead t => t
  | .report t _ _ _ _ _ _ => t
  | .reportTimer t => t
  | .join t _ _ _ _ _ _ _ => t
  | .statusAbort t _ _ _ _ => t
  | .statusReset t _ _ _ _ => t
  | .done t _ _ _ => t
  | .lost t _ _ _ => t
  | .jobReply t _ _ _ _ _ => t
  | .scrubPass t _ _ => t
  | .pageRetireDone t => t
  | .wckTracking t _ => t
  | .tjUpdate t _ _ => t
  | .thermtrip t _ => t
  | .poresetNFall t => t
  | .poresetNRise t _ => t
  | .freezeNFall t => t
  | .freezeNRise t => t
  | .bootRecover t _ => t
  | .pgLoad t _ _ _ _ _ _ => t
  | .afeCalibrate t _ _ _ _ _ _ => t
  | .refTrace t _ _ _ _ _ _ => t
  | .shadingCapture t _ _ _ _ _ _ => t
  | .captureAttemptEnd t _ => t
  | .lutLoad t _ _ _ _ _ _ => t
  | .ebRelease t _ _ _ _ _ _ => t
  | .trigArm t _ _ _ _ _ _ => t
  | .dmaStart t _ _ _ _ _ _ => t
  | .move t _ _ _ _ _ _ => t
  | .axisMove t _ _ _ _ _ _ => t
  | .axisLinear t _ _ _ _ _ _ => t
  | .axisStop t _ _ _ _ _ _ => t
  | .axisResume t _ _ _ _ _ _ => t
  | .axisSetPosition t _ _ _ _ _ _ => t
  | .axisIdentify t _ _ _ _ _ _ => t
  | .axisHome t _ _ _ _ _ _ => t
  | .lampCal t _ _ _ _ _ _ => t
  | .chainLoad t _ _ _ _ _ _ => t
  | .recipeLoad t _ _ _ _ _ _ => t
  | .recipeInfo t _ _ _ _ _ _ => t
  | .jobStage t _ _ _ _ _ _ => t
  | .jobUnstage t _ _ _ _ _ _ => t
  | .jobStart t _ _ _ _ _ _ => t
  | .jobEnd t _ _ _ _ _ _ => t
  | .ropeMark t _ _ _ _ _ _ => t
  | .memRetire t _ _ _ _ _ _ => t
  | .spareLedger t _ _ _ _ _ _ => t
  | .logRead t _ _ _ _ _ _ => t
  | .idCert t _ _ _ _ _ _ => t
  | .attest t _ _ _ _ _ _ => t
  | .authChallenge t _ _ _ _ _ _ => t
  | .policySet t _ _ _ _ _ _ => t
  | .keyInstall t _ _ _ _ _ _ => t
  | .keyRevoke t _ _ _ _ _ _ => t
  | .ownerFuse t _ _ _ _ _ _ => t
  | .fwUpdate t _ _ _ _ _ _ => t
  | .fwAccept t _ _ _ _ _ _ => t
  | .debugUnlock t _ _ _ _ _ _ => t
  | .debugRelock t _ _ _ _ _ _ => t
  | .auditExport t _ _ _ _ _ _ => t
  | .bundleExport t _ _ _ _ _ _ => t
  | .bundleImport t _ _ _ _ _ _ => t
  | .smbStatus t => t
  | .smbTemp t => t
  | .smbPower t => t
  | .smbIdentity t => t
  | .smbVcore t => t
  | .deviceReset t _ _ => t
  | .extest t _ => t
  | .idcode t => t
  | .samplePreload t _ => t
  | .extestPulse t _ => t
  | .extestTrain t _ => t
  | .challenge t => t
  | .unlock t _ _ => t
  | .freezeRead t _ => t
  | .scanState t _ => t
  | .bypass t _ => t
  | .wordLock t _ _ _ _ _ => t
  | .latencyMaxExpiry t _ => t
  | .buckSwitchOnTimeout t _ _ => t
  | .challengeLapse t => t
  | .firmwareReady t => t
  | .longWorkEnd t _ _ => t

end Sys2Proof
end

