-- ==== Sys2Proof/Safety.lean ====
section
/-! DEFINITION. The words in which statements speak of the device: which commands and units the device serves, what state a command leaves once its own effect
is known, and what a safe run is. -/
namespace Sys2Proof.Machine
open R

/-! ### Which commands meet a device that serves them -/

/-- Unit u is at work on a device that works: not in reset, not frozen, its domain on, not fused off. -/
def State.serves (s : State) (u : Nat) : Bool := s.isLive && s.powered u && !fusedOff s.part u
/-- An access of the host reaches the device: it is not in reset, and the function is not in D3hot (R67). -/
def State.reached (s : State) : Bool := !s.sys.inReset && !s.d3hot

/-- How a command meets the device. -/
inductive Reach where
  /-- In every condition of the device. -/
  | always
  /-- On an input pin: a device that does not work only keeps the level. -/
  | pins
  /-- Unless the device is in reset. -/
  | host
  /-- Through BAR0 or BAR2 without starting anything: not in reset, not in D3hot. -/
  | reads
  /-- Through BAR0 or BAR2, and what it starts goes on. -/
  | writes
  /-- By an event of the device: not in reset, not frozen. -/
  | event
  /-- By an event that may freeze the device or start a packet. -/
  | seqEvent
  deriving DecidableEq, Repr
/-- How each command meets the device. -/
def reachOf : Instr → Reach
  | .commandWordWrite .. => .writes
  | .resyncUrgent .. => .reads
  | .resyncNormal .. => .reads
  | .normalPacketStart .. => .seqEvent
  | .replyPop .. => .reads
  | .resTagRead .. => .reads
  | .timeLoRead .. => .reads
  | .rcRead .. => .reads
  | .registerWrite .. => .writes
  | .eventRingEnable .. => .reads
  | .evtRdWrite .. => .reads
  | .eventHoldoffExpiry .. => .host
  | .seqWedged .. => .host
  | .supplyFailClear .. => .reads
  | .minClear .. => .reads
  | .bar2Read .. => .reads
  | .bar2Write .. => .writes
  | .functionLevelReset .. => .host
  | .perstN .. => .host
  | .d3hotEntry .. => .host
  | .d0Return .. => .host
  | .linkRetrain .. => .host
  | .abort .. => .writes
  | .abortCompletion .. => .event
  | .abortLate .. => .event
  | .resetUnit .. => .writes
  | .freeze .. => .writes
  | .thaw .. => .writes
  | .getStatus .. => .writes
  | .commit .. => .writes
  | .unitWrite .. => .writes
  | .powerSet .. => .writes
  | .domainReady .. => .event
  | .paceUpdate .. => .event
  | .voutReadback .. => .event
  | .pmbAlert .. => .event
  | .timebaseUnlock .. => .event
  | .timebaseRelock .. => .event
  | .lineFire .. => .event
  | .pgStep .. => .event
  | .exposureStart .. => .event
  | .exposureEnd .. => .event
  | .laneLineReceived .. => .event
  | .lineCorrected .. => .event
  | .blockIdleExpiry .. => .event
  | .tsenseReading .. => .event
  | .reliefDue .. => .event
  | .calibrationDone .. => .event
  | .encoderEdge .. => .pins
  | .zEdge .. => .event
  | .webStopped .. => .event
  | .markReport .. => .event
  | .gpioEdge .. => .pins
  | .splice .. => .event
  | .lineCompared .. => .event
  | .triggerSlot .. => .seqEvent
  | .placeWaitExpiry .. => .event
  | .holdExpiry .. => .event
  | .aOutPulseStart .. => .event
  | .aOutPulseEnd .. => .event
  | .armAt .. => .event
  | .softFire .. => .writes
  | .doorbell .. => .writes
  | .descriptorReadDone .. => .event
  | .descReadTimeout .. => .event
  | .flushTicksExpiry .. => .event
  | .barrierReadDone .. => .event
  | .dmaTransferEnd .. => .event
  | .moverCopyDone .. => .event
  | .axisUpdate .. => .event
  | .pwmPeriod .. => .event
  | .vmotSample .. => .event
  | .axisInputTransition .. => .pins
  | .axisInputDebounced .. => .event
  | .indexEdge .. => .event
  | .driverFault .. => .event
  | .identifyPhaseDone .. => .event
  | .speedwellEval .. => .event
  | .belayParkMax .. => .event
  | .strobeStart .. => .event
  | .strobeEnd .. => .event
  | .ovpTrip .. => .event
  | .lampMeasurement .. => .event
  | .continuousMeasure .. => .event
  | .diagPulse .. => .event
  | .lampRelight .. => .event
  | .chainLatch .. => .event
  | .chainShiftDone .. => .event
  | .chainRestart .. => .writes
  | .harebellTick .. => .event
  | .jobBoundary .. => .event
  | .newJobStart .. => .event
  | .stagingDone .. => .event
  | .pitchSymbolLock .. => .host
  | .pitchLockLoss .. => .host
  | .linkRetry .. => .event
  | .delayExchange .. => .event
  | .ropeAck .. => .event
  | .ropeAckTimeout .. => .event
  | .timeSend .. => .event
  | .time .. => .event
  | .timeTimeout .. => .event
  | .arm .. => .event
  | .fire .. => .event
  | .job .. => .event
  | .mark .. => .event
  | .markSrcRead .. => .reads
  | .report .. => .event
  | .reportTimer .. => .event
  | .join .. => .event
  | .statusAbort .. => .event
  | .statusReset .. => .event
  | .done .. => .event
  | .lost .. => .event
  | .jobReply .. => .event
  | .scrubPass .. => .event
  | .pageRetireDone .. => .event
  | .wckTracking .. => .host
  | .tjUpdate .. => .host
  | .thermtrip .. => .always
  | .poresetNFall .. => .always
  | .poresetNRise .. => .always
  | .freezeNFall .. => .always
  | .freezeNRise .. => .always
  | .bootRecover .. => .writes
  | .pgLoad .. => .writes
  | .afeCalibrate .. => .writes
  | .refTrace .. => .writes
  | .shadingCapture .. => .writes
  | .captureAttemptEnd .. => .event
  | .lutLoad .. => .writes
  | .ebRelease .. => .writes
  | .trigArm .. => .writes
  | .dmaStart .. => .writes
  | .move .. => .writes
  | .axisMove .. => .writes
  | .axisLinear .. => .writes
  | .axisStop .. => .writes
  | .axisResume .. => .writes
  | .axisSetPosition .. => .writes
  | .axisIdentify .. => .writes
  | .axisHome .. => .writes
  | .lampCal .. => .writes
  | .chainLoad .. => .writes
  | .recipeLoad .. => .writes
  | .recipeInfo .. => .writes
  | .jobStage .. => .writes
  | .jobUnstage .. => .writes
  | .jobStart .. => .writes
  | .jobEnd .. => .writes
  | .ropeMark .. => .writes
  | .memRetire .. => .writes
  | .spareLedger .. => .writes
  | .logRead .. => .writes
  | .idCert .. => .writes
  | .attest .. => .writes
  | .authChallenge .. => .writes
  | .policySet .. => .writes
  | .keyInstall .. => .writes
  | .keyRevoke .. => .writes
  | .ownerFuse .. => .writes
  | .fwUpdate .. => .writes
  | .fwAccept .. => .writes
  | .debugUnlock .. => .writes
  | .debugRelock .. => .writes
  | .auditExport .. => .writes
  | .bundleExport .. => .writes
  | .bundleImport .. => .writes
  | .smbStatus .. => .always
  | .smbTemp .. => .always
  | .smbPower .. => .always
  | .smbIdentity .. => .always
  | .smbVcore .. => .always
  | .deviceReset .. => .always
  | .extest .. => .always
  | .idcode .. => .always
  | .samplePreload .. => .always
  | .extestPulse .. => .always
  | .extestTrain .. => .always
  | .challenge .. => .always
  | .unlock .. => .always
  | .freezeRead .. => .always
  | .scanState .. => .always
  | .bypass .. => .always
  | .wordLock .. => .event
  | .latencyMaxExpiry .. => .event
  | .buckSwitchOnTimeout .. => .event
  | .challengeLapse .. => .host
  | .firmwareReady .. => .event
  | .longWorkEnd .. => .event

/-! ### The state a command leaves -/

/-- An event of the device has made `r` of the state at instant t, and what it has started goes on. -/
def State.went (s : State) (t : Nat) (r : State) : State :=
  let a := s.advance t
  s.ends t ((r.keepsHost a).after a)
/-- The same for a write of the host, a packet, or an event that may freeze the device. -/
def State.ran (s : State) (t : Nat) (r : State) : State :=
  let a := s.advance t
  s.ends t ((r.keepsPins a).after a)
/-- The same for a command that may change anything. -/
def State.did (s : State) (t : Nat) (r : State) : State := s.ends t (r.after (s.advance t))

/-! ### Packets -/

/-- A packet that the host writes whole, one word after the other, at an instant: `env` and `fails` as in its row. -/
structure Sent where
  at_ : Nat
  urgent : Bool
  op : Op
  tag : Nat
  uid : Nat
  flags : Nat
  params : List Nat
  env : Option Nat
  fails : List Nat
  deriving DecidableEq, Repr
/-- The row of the table that writes it. -/
def Sent.row (x : Sent) : Instr :=
  match x.op with
  | .abort => .abort x.at_ x.urgent x.tag x.uid x.flags x.params x.env
  | .resetUnit => .resetUnit x.at_ x.urgent x.tag x.uid x.flags x.params x.env x.fails
  | .freeze => .freeze x.at_ x.urgent x.tag x.uid x.flags x.params x.env
  | .thaw => .thaw x.at_ x.urgent x.tag x.uid x.flags x.params x.env
  | .getStatus => .getStatus x.at_ x.urgent x.tag x.uid x.flags x.params x.env
  | .commit => .commit x.at_ x.urgent x.tag x.uid x.flags x.params x.env
  | .unitWrite => .unitWrite x.at_ x.urgent x.tag x.uid x.flags x.params x.env
  | .pgLoad => .pgLoad x.at_ x.urgent x.tag x.uid x.flags x.params x.env
  | .afeCalibrate => .afeCalibrate x.at_ x.urgent x.tag x.uid x.flags x.params x.env
  | .refTrace => .refTrace x.at_ x.urgent x.tag x.uid x.flags x.params x.env
  | .shadingCapture => .shadingCapture x.at_ x.urgent x.tag x.uid x.flags x.params x.env
  | .lutLoad => .lutLoad x.at_ x.urgent x.tag x.uid x.flags x.params x.env
  | .ebRelease => .ebRelease x.at_ x.urgent x.tag x.uid x.flags x.params x.env
  | .trigArm => .trigArm x.at_ x.urgent x.tag x.uid x.flags x.params x.env
  | .dmaStart => .dmaStart x.at_ x.urgent x.tag x.uid x.flags x.params x.env
  | .move => .move x.at_ x.urgent x.tag x.uid x.flags x.params x.env
  | .axisMove => .axisMove x.at_ x.urgent x.tag x.uid x.flags x.params x.env
  | .axisLinear => .axisLinear x.at_ x.urgent x.tag x.uid x.flags x.params x.env
  | .axisStop => .axisStop x.at_ x.urgent x.tag x.uid x.flags x.params x.env
  | .axisResume => .axisResume x.at_ x.urgent x.tag x.uid x.flags x.params x.env
  | .axisSetPosition => .axisSetPosition x.at_ x.urgent x.tag x.uid x.flags x.params x.env
  | .axisIdentify => .axisIdentify x.at_ x.urgent x.tag x.uid x.flags x.params x.env
  | .axisHome => .axisHome x.at_ x.urgent x.tag x.uid x.flags x.params x.env
  | .lampCal => .lampCal x.at_ x.urgent x.tag x.uid x.flags x.params x.env
  | .chainLoad => .chainLoad x.at_ x.urgent x.tag x.uid x.flags x.params x.env
  | .recipeLoad => .recipeLoad x.at_ x.urgent x.tag x.uid x.flags x.params x.env
  | .recipeInfo => .recipeInfo x.at_ x.urgent x.tag x.uid x.flags x.params x.env
  | .jobStage => .jobStage x.at_ x.urgent x.tag x.uid x.flags x.params x.env
  | .jobUnstage => .jobUnstage x.at_ x.urgent x.tag x.uid x.flags x.params x.env
  | .jobStart => .jobStart x.at_ x.urgent x.tag x.uid x.flags x.params x.env
  | .jobEnd => .jobEnd x.at_ x.urgent x.tag x.uid x.flags x.params x.env
  | .ropeMark => .ropeMark x.at_ x.urgent x.tag x.uid x.flags x.params x.env
  | .memRetire => .memRetire x.at_ x.urgent x.tag x.uid x.flags x.params x.env
  | .spareLedger => .spareLedger x.at_ x.urgent x.tag x.uid x.flags x.params x.env
  | .logRead => .logRead x.at_ x.urgent x.tag x.uid x.flags x.params x.env
  | .idCert => .idCert x.at_ x.urgent x.tag x.uid x.flags x.params x.env
  | .attest => .attest x.at_ x.urgent x.tag x.uid x.flags x.params x.env
  | .authChallenge => .authChallenge x.at_ x.urgent x.tag x.uid x.flags x.params x.env
  | .policySet => .policySet x.at_ x.urgent x.tag x.uid x.flags x.params x.env
  | .keyInstall => .keyInstall x.at_ x.urgent x.tag x.uid x.flags x.params x.env
  | .keyRevoke => .keyRevoke x.at_ x.urgent x.tag x.uid x.flags x.params x.env
  | .ownerFuse => .ownerFuse x.at_ x.urgent x.tag x.uid x.flags x.params x.env
  | .fwUpdate => .fwUpdate x.at_ x.urgent x.tag x.uid x.flags x.params x.env
  | .fwAccept => .fwAccept x.at_ x.urgent x.tag x.uid x.flags x.params x.env
  | .debugUnlock => .debugUnlock x.at_ x.urgent x.tag x.uid x.flags x.params x.env
  | .debugRelock => .debugRelock x.at_ x.urgent x.tag x.uid x.flags x.params x.env
  | .auditExport => .auditExport x.at_ x.urgent x.tag x.uid x.flags x.params x.env
  | .bundleExport => .bundleExport x.at_ x.urgent x.tag x.uid x.flags x.params x.env
  | .bundleImport => .bundleImport x.at_ x.urgent x.tag x.uid x.flags x.params x.env
  | .powerSet => .powerSet x.at_ x.urgent x.tag x.uid x.flags x.params x.env
/-- Its words. -/
def Sent.words (x : Sent) : List Nat := pktWords x.op.code x.tag x.uid x.flags x.params
/-- The state in which the packet is executed: its words are in, it has its number, and nothing waits before it (R79, R80). -/
def Sent.before (x : Sent) (s : State) : State :=
  let a := (s.advance x.at_).cmdWords x.urgent x.words.dropLast x.env x.fails
  let b := a.takeIn x.urgent (pktOf x.urgent x.words a.nextSeq)
  if x.urgent then b else { b with normalQ := { b.normalQ with waiting := [] } }
/-- The packet as the device holds it. -/
def Sent.pkt (x : Sent) (s : State) : Pkt := pktOf x.urgent x.words (x.before s).cmdSeq
/-- The device takes a packet of opcode op and n parameters at once: the host reaches it, no packet stands half written or waits in the FIFO, the FIFO has not overflowed
and its pointers agree, and NORMAL serves the opcode (R78 to R83, R321). -/
def State.admits (s : State) (urgent : Bool) (op n : Nat) : Bool :=
  let q := if urgent then s.urgentQ else s.normalQ
  s.reached && n ≤ 255 && q.part == [] && q.waiting == [] && !q.ovf && !s.skewed 6 (if urgent then 0 else 1) && (urgent || s.normalServes op)
/-- The packet is taken at once, its parameters are 32-bit words, and steps 1 to 6 of R555 find nothing against its command. -/
def Sent.taken (x : Sent) (s : State) : Bool :=
  (s.advance x.at_).admits x.urgent x.op.code x.params.length && x.params.all (· < 2 ^ 32) && decide ((x.before s).pktCheck (x.pkt s) = .inl x.op)
/-- The state after the packet when its command has answered `r`. -/
def Sent.answered (x : Sent) (s : State) (r : Answer) : State :=
  s.ran x.at_ ((((if r.2.1 = St.OK then r.1.tagged x.op (x.pkt s) else r.1)).answer (x.pkt s) r.2.1 r.2.2).cmdRegs)

/-! ### What every step keeps -/

/-- The device is part p, and its clock has reached t0: the words of the identity block read as the part fixes them (R68), and what is fused off is OFF (R3). -/
def State.holds (s : State) (p : Part) (t0 : Nat) : Prop :=
  s.part = p ∧ t0 ≤ s.now ∧ (∀ f i, f.acc ≠ .wo → f.reset = .part → s.bar0Field f i = resetOf p bar0 f i) ∧
    (∀ u, fusedOff p u = true → s.stOf u = .off)

/-! ### Runs -/

/-- A step has answered a next state: the device has neither faulted nor refused the command. -/
def goesOn (o : Host.Outcome State Fault Refusal) : Bool :=
  match o with
  | .next _ => true
  | _ => false
/-- A run of n steps from s is safe: none of its steps faults or is refused. -/
def safeRun (s : State) : Nat → Bool
  | 0 => true
  | n + 1 =>
    match step s with
    | .next r => safeRun r n
    | _ => false

end Sys2Proof.Machine
end

