-- ==== Sys2Proof/Certificates/Slice0/Obligations.lean ====
section
/-! DEFINITION. What is claimed of the device, from the numbered rules of the spec. `went`, `ran` and `did` are the state that a command leaves, given what it has
made of the state at its instant (Sys2Proof/Safety.lean). -/
open Sys2Proof Sys2Proof.Machine Sys2Proof.Machine.R

/-! ### Ports: lines, generators and exposures (chapters 03 and 05) -/

/-- LINE_FIRE completes on a port that serves and is not fenced, when the tick f of its next fire has come: with a closing fire of a job boundary still to come it makes that
closing fire (R133); else, in a shading capture, it fires the capture's next line (R224); else it makes the closing fire of a Belay that is due (R394); else the
line clock takes its next line (R179). -/
def Obligations.Lines_fire_when_due : Prop :=
  ∀ (s : State) (t p f : Nat), p < 8 → (s.advance t).serves (portU p) = true → (s.advance t).fenced (portU p) = false → f ≤ (s.advance t).now →
    let a := s.advance t
    ((a.port p).closeAt = some f → exec (.lineFire t p) s = .next (s.went t (a.closeFires p f))) ∧
    ((a.port p).closeAt = none → (a.port p).capture.isSome = true → (a.port p).capFire = some f →
      exec (.lineFire t p) s = .next (s.went t (a.captureFire p f))) ∧
    ((a.port p).closeAt = none → (a.port p).capture = none → a.closingDue p = some f →
      exec (.lineFire t p) s = .next (s.went t (a.belayClose p f))) ∧
    (∀ fast, (a.port p).closeAt = none → (a.port p).capture = none → a.closingDue p = none → a.lcFires p = true → a.lcDue p = some (f, fast) →
      exec (.lineFire t p) s = .next (s.went t (a.lineDue p f fast)))

/-- PG_STEP completes on a port that serves whose next step's tick d has come: the step that follows the present one, with the loop counters of R117, begins at d (R115); where
that step is a WAIT_LINE and a fire waits, the fire is consumed as it begins (R116); where the set that governs that fire selects the other bank, step 0 of that bank
runs in place of the WAIT_LINE (R135). -/
def Obligations.Generator_steps_when_due : Prop :=
  ∀ (s : State) (t p d : Nat) (codes : List Nat), p < 8 → (s.advance t).serves (portU p) = true → (s.advance t).pgDue p = some d → d ≤ (s.advance t).now →
    let a := s.advance t
    let x := (a.port p).pgNext.1
    let i := (a.port p).pgNext.2
    let b := a.modPort p (fun _ => x)
    let wait := ((x.prog x.bank).getD i ⟨0, 0, 0, 9, false, false⟩).ctrl = 5
    ((¬ wait ∨ x.pend = none) → exec (.pgStep t p codes) s = .next (s.went t ((b.pgBegin p i d codes).pgRegs p))) ∧
    (∀ line f, wait → x.pend = some (line, f) → vw b (b.cycleSet p line) (portU p) Port.BANK = x.bank →
      exec (.pgStep t p codes) s = .next (s.went t (((b.pgBegin p i d codes).pgConsume p line f d codes).pgRegs p))) ∧
    (∀ line f, wait → x.pend = some (line, f) → vw b (b.cycleSet p line) (portU p) Port.BANK ≠ x.bank →
      exec (.pgStep t p codes) s = .next (s.went t (((b.modPort p (fun y => { y with step := i, arrive := d })).pgConsume p line f d codes).pgRegs p)))

/-- EXPOSURE_START and EXPOSURE_END complete on a port that serves. The exposure of the next line begins at its start ts, and is open, where neither a later fire nor a predicted
end lies at or before ts, or only a later fire after it; one whose next fire te lies at or before ts is closed as empty (R125, R126). The open exposure ends EXP_TIME
after its start, or at the next fire where that is earlier; with neither a next fire nor a predicted end it ends EXP_TIME after its start (R125). -/
def Obligations.Exposures_open_and_close : Prop :=
  ∀ (s : State) (t p te : Nat) (f : Fire), p < 8 → (s.advance t).serves (portU p) = true →
    let a := s.advance t
    (∀ ts moved, a.expNext p = some (f, ts, moved) → ts ≤ a.now →
      let b := a.modFire p f.line (fun g => { g with ts := ts, moved := moved })
      (b.nextFire p f.line = none → b.predictedEnd p (vw b f.set (portU p) Port.EXP_GAP_MIN) = none →
        exec (.exposureStart t p) s = .next (s.went t (b.modPort p (fun x => { x with openLine := some f.line, expLevel := true })))) ∧
      (b.nextFire p f.line = some te → ts < te →
        exec (.exposureStart t p) s = .next (s.went t (b.modPort p (fun x => { x with openLine := some f.line, expLevel := true })))) ∧
      (b.nextFire p f.line = some te → te ≤ ts →
        exec (.exposureStart t p) s = .next (s.went t (b.expEnd p { f with ts := ts, moved := moved } te true)))) ∧
    ((a.port p).openLine.bind (a.fireOf p) = some f → a.nextFire p f.line = some te → min (f.ts + vw a f.set (portU p) Port.EXP_TIME) te ≤ a.now →
      exec (.exposureEnd t p) s = .next (s.went t (a.expEnd p f (min (f.ts + vw a f.set (portU p) Port.EXP_TIME) te)
        (min (f.ts + vw a f.set (portU p) Port.EXP_TIME) te ≤ f.ts)))) ∧
    ((a.port p).openLine.bind (a.fireOf p) = some f → a.nextFire p f.line = none → a.predictedEnd p (vw a f.set (portU p) Port.EXP_GAP_MIN) = none →
      f.ts + vw a f.set (portU p) Port.EXP_TIME ≤ a.now →
      exec (.exposureEnd t p) s = .next (s.went t (a.expEnd p f (f.ts + vw a f.set (portU p) Port.EXP_TIME) (f.ts + vw a f.set (portU p) Port.EXP_TIME ≤ f.ts))))

/-- LANE_LINE_RECEIVED, WORD_LOCK and LATENCY_MAX_EXPIRY complete on a port that serves and captures from lanes. A lane line goes to the present readout cycle (R162, R163, R165). A
lane without lock that has met four successive sequences, or last saw sixteen training words, gets its bit and word delays and lock; a lane with lock whose drift count has
reached 256 words moves its bit delay one step towards the delay reported (R164). A cycle whose LATENCY_MAX has passed without a line is closed with every enabled
lane late, the one that waits longest first (R165, R167). -/
def Obligations.Lanes_receive_lock_and_miss : Prop :=
  ∀ (s : State) (t p : Nat), p < 8 → (s.advance t).serves (portU p) = true →
    let a := s.advance t
    (∀ words sol clk0 clk1, (a.port p).started = true → vw a (a.port p).pgSet (portU p) Port.CAPTURE = 1 →
      exec (.laneLineReceived t p words ⟨sol, clk0, clk1⟩) s = .next (s.went t (a.laneLine p words sol clk0 clk1))) ∧
    (∀ lane bit word seen, lane < 16 → a.act (portU p) Port.CAPTURE ≠ 0 → tbit (a.act (rxU p) LaneRx.LANE_EN) lane = true →
      let b := ((a.modPort p (fun x => { x with missed := upd x.missed lane (fun _ => 0), drift := upd x.drift lane (fun _ => 0) })).set (rxU p) LaneRx.BIT_DELAY
        (bit % 64) lane).set (rxU p) LaneRx.WORD_DELAY (word % 4) lane
      let old := a.reg (rxU p) LaneRx.BIT_DELAY lane
      (tbit (a.reg (rxU p) LaneRx.LOCKED) lane = false → a.lockDue p lane seen = true →
        exec (.wordLock t p lane bit word seen) s = .next (s.went t (b.set (rxU p) LaneRx.LOCKED (setBit (b.reg (rxU p) LaneRx.LOCKED) lane true)))) ∧
      (tbit (a.reg (rxU p) LaneRx.LOCKED) lane = true → 256 ≤ nth (a.port p).drift lane → bit ≠ old →
        exec (.wordLock t p lane bit word seen) s = .next (s.went t ((a.modPort p (fun x => { x with drift := upd x.drift lane (fun _ => 0) })).set (rxU p)
          LaneRx.BIT_DELAY (if old < bit then old + 1 else old - 1) lane)))) ∧
    (∀ r m, (a.port p).lineWait = some (r, m) → r.start + vw a m (rxU p) LaneRx.LATENCY_MAX ≤ a.now →
      exec (.latencyMaxExpiry t p) s = .next (s.went t (a.laneOld p (fun x => x.laneLate p)))) ∧
    (∀ c, (a.port p).lineWait = none → (a.port p).cycle = some c → vw a (a.port p).pgSet (portU p) Port.CAPTURE ≠ 0 →
      c.start + vw a (a.port p).pgSet (rxU p) LaneRx.LATENCY_MAX ≤ a.now →
      exec (.latencyMaxExpiry t p) s = .next (s.went t (a.laneLate p)))

/-- LINE_CORRECTED, LINE_COMPARED, CAPTURE_ATTEMPT_END and BLOCK_IDLE_EXPIRY complete on a port that serves. The oldest line read out, its port not fenced by an error of its
banks, leaves the pipeline, or is summed in a shading capture, or read for a DELTA run, its staleness told (R155, R200, R225, R226, R418); the oldest line that waits is compared by the port's cluster, and a lane that meanwhile
detected an internal fault is fenced (R242, R254); a complete second capture is judged (R227); the open block of a port that saw no line for BLOCK_IDLE ticks ends (R314). -/
def Obligations.Lines_are_corrected_and_compared : Prop :=
  ∀ (s : State) (t p : Nat), p < 8 → (s.advance t).serves (portU p) = true →
    let a := s.advance t
    (∀ ce ue r f, a.lineReady p = some (r, f) → (a.bankErrors p ce ue).fenced (portU p) = false →
      let b := (a.bankErrors p ce ue).lineTake p f.set r f
      let st := b.lineStage1 p f.set f.line (b.port p).delay
      ((b.port p).capture = none → exec (.lineCorrected t p ce ue) s = .next (s.went t (b.lineOut p f st.1 st.2.1 st.2.2))) ∧
      (∀ c, (b.port p).capture = some c →
        let x := b.staleRun p f.line (f.flags ||| st.2.2)
        (c.kind ≠ 3 → exec (.lineCorrected t p ce ue) s = .next (s.went t (x.capLine p c st.1 st.2.1 (f.flags ||| st.2.2) f.temp))) ∧
        (c.kind = 3 → exec (.lineCorrected t p ce ue) s = .next (s.went t (x.deltaLine p c f st.1 (f.flags ||| st.2.2)))))) ∧
    (∀ ecc cl l k, (a.eb p).queue = cl :: l → clusterOf a a.active p = some k →
      let b := a.compareNext p k cl l ecc
      exec (.lineCompared t p ecc none) s = .next (s.went t b) ∧
      (∀ i, (lanesOf b b.active k p).contains i = true → (b.eb p).on = true →
        exec (.lineCompared t p ecc (some i)) s = .next (s.went t (b.unitFence (clU k + i + 1) Fr.LANE_CHECK)))) ∧
    (∀ c, (a.port p).capture = some c → c.phase = 3 → exec (.captureAttemptEnd t p) s = .next (s.went t (a.capJudge p c))) ∧
    (∀ b, (a.ring p).blocks.getLast? = some b → b.lastAt + a.act (portU p) Ring.BLOCK_IDLE ≤ a.now →
      exec (.blockIdleExpiry t p) s = .next (s.went t ((((a.lampGiveUp p (fun _ => true)).endBlock p).closeBlocks p).flushHeld p)))

/-- TSENSE_READING, RELIEF_DUE and CALIBRATION_DONE complete on a port that serves. A reading of TSENSE within -60 to 150 degrees is the temperature and clears TEMP_BAD; one above
it, where the pipeline uses the sensor, sets TEMP_BAD and raises EV_TEMP_FAULT if TEMP_BAD was 0 (R205). The rotation's relief begins when its share of ROT_PERIOD has
passed (R156). The sums of the first calibration of an attempt give its first coefficients; those of the second, where they agree, end the attempt as accepted (R149,
R150). -/
def Obligations.Front_ends_are_read_and_calibrated : Prop :=
  ∀ (s : State) (t p : Nat), p < 8 → (s.advance t).serves (portU p) = true →
    let a := s.advance t
    (∀ code, let c := tsense (a.reg calU CalRef.REF_USE_UV) code
      (-960 ≤ c → c ≤ 2400 →
        exec (.tsenseReading t p code) s = .next (s.went t ((a.modPort p (fun x => { x with tempLast := some c })).set (pipeU p) Pipe.TEMP_BAD 0))) ∧
      (2400 < c → a.act (pipeU p) Pipe.TEMP_SRC = 2 → a.reg (pipeU p) Pipe.TEMP_BAD = 0 →
        exec (.tsenseReading t p code) s = .next (s.went t ((a.raise Ev.TEMP_FAULT (pipeU p) (low 16 c)).set (pipeU p) Pipe.TEMP_BAD 1)))) ∧
    (∀ k, a.reg (portU p) Port.ROT_EN = 1 → a.act (portU p) Port.CAPTURE = 0 → (a.port p).relief = none → (a.port p).capture = none → (a.port p).queueCal = [] →
      a.rotTaps p ≠ [] → ((a.port p).jobOn = true → a.spareFree p = true) →
      (a.port p).lastRelief + a.rotMs p / (a.rotTaps p).length * msTicks ≤ a.now → a.rotPick p = some k →
      exec (.reliefDue t p) s = .next (s.went t
        ((a.modPort p (fun x => { x with queueCal := [a.mkRelief p k [a.act (portU p) Tap.GAIN_CODE k]] })).reliefNext p))) ∧
    (let b := a.dacRun
      ∀ r mLo mHi, (b.port p).relief = some r → r.phase = 1 ∨ r.phase = 3 → 2 ≤ r.points → r.wait = none →
      (r.first = none → exec (.calibrationDone t p mLo mHi) s =
        .next (s.went t (b.modPort p (fun x => { x with relief := some { r with first := some (calResult mLo mHi), points := 0, reqAt := b.now } })))) ∧
      (∀ r1 ok, r.first = some r1 → (b.port p).capture = none → attempt r1 (calResult mLo mHi) = some ok →
        exec (.calibrationDone t p mLo mHi) s = .next (s.went t (b.attemptOk p r ok b.now))))

/-- ENCODER_EDGE completes on a device that works. A change of one of A and B that counts by the type of the input (R170), and has stood for FILTER ticks as the other level has (R171),
moves the counter of its input by one, up or down, keeps its tick as that of the last edge, and changes nothing else of the inputs but what is kept for Z and for
quadrature errors; levels that have not stood for FILTER ticks change no input at all. -/
def Obligations.Encoder_edges_count : Prop :=
  ∀ (s : State) (t i ga gb : Nat) (a b : Bool), i < 4 → (s.advance t).isLive = true →
    let x := s.advance t
    let e := x.enc i
    let typ := x.reg encU Enc.TYPE i
    (∀ up, x.reg encU Enc.FILTER i ≤ ga → x.reg encU Enc.FILTER i ≤ gb → e.a = a ∨ e.b = b → encStep typ e.a e.b a b = some up →
      ∃ r, exec (.encoderEdge t i a b ga gb) s = .next r ∧
        r.encs = upd x.encs i (fun y => { y with
          a := a, b := b, count := if up then e.count + 1 else e.count - 1, zUp := e.zUp || up, zDown := e.zDown || !up,
          lastEdge := some (x.now - (if e.a = a then gb else ga)), qerrAt := (e.qerrAt.map (· + 1)).filter (fun n => decide (n < 1024)) })) ∧
    (ga < x.reg encU Enc.FILTER i → gb < x.reg encU Enc.FILTER i → ∃ r, exec (.encoderEdge t i a b ga gb) s = .next r ∧ r.encs = x.encs)

/-- ENCODER_EDGE and Z_EDGE complete on a device that works, WEB_STOPPED on a line clock that serves. ENCODER_EDGE: A and B both changed within one FILTER interval is a quadrature error,
which moves no counter (R171, R172). Z_EDGE: Z that has stood for FILTER ticks keeps the count of its edge, whatever came before it; in the forward travel of Z_DOWN, with CPR
and Z_EN not 0, a distance other than CPR from the last Z counts in ZERR and raises EV_ENC_FAULT with detail i + 8; a shorter pulse is ignored (R171, R173). WEB_STOPPED: a web
without a counted edge for STOP_TICKS clears the estimator to state 2 and raises EV_WEB_STATE with 2 (R185). -/
def Obligations.Encoder_faults_and_stops : Prop :=
  ∀ (s : State) (t i p ga gb g : Nat) (a b : Bool), i < 4 → (s.advance t).isLive = true →
    let x := s.advance t
    let e := x.enc i
    let z := x.modEnc i (fun e => { e with zCount := some e.count, zUp := false, zDown := false })
    (x.reg encU Enc.TYPE i ≠ 3 → e.a ≠ a → e.b ≠ b → max ga gb - min ga gb < max 1 (x.reg encU Enc.FILTER i) → x.reg encU Enc.FILTER i ≤ min ga gb →
      exec (.encoderEdge t i a b ga gb) s = .next (s.went t ((x.modEnc i (fun e => { e with a := a, b := b })).encQuad i))) ∧
    (x.reg encU Enc.FILTER i ≤ g →
      ∃ r, exec (.zEdge t i g) s = .next r ∧ r.encs = upd x.encs i (fun e => { e with zCount := some e.count, zUp := false, zDown := false })) ∧
    (∀ c, x.reg encU Enc.FILTER i ≤ g → x.reg encU Enc.CPR i ≠ 0 → x.reg encU Enc.Z_EN i ≠ 0 → x.reg encU Enc.DIR i = x.reg encU Enc.Z_DOWN i →
      (if x.reg encU Enc.Z_DOWN i = 1 then e.zUp else e.zDown) = false → e.zCount = some c → (e.count - c).natAbs ≠ x.reg encU Enc.CPR i →
      exec (.zEdge t i g) s = .next (s.went t ((z.bump encU Enc.ZERR 1 i).raise Ev.ENC_FAULT encU (i + 8)))) ∧
    (g < x.reg encU Enc.FILTER i → exec (.zEdge t i g) s = .next (s.went t x)) ∧
    (∀ l, p < 8 → x.serves (lcU p) = true → x.webMode p = true → x.reg (lcU p) Lc.EST_STATE ≠ 2 → (x.enc (x.act (lcU p) Lc.ENC_SEL)).lastEdge = some l →
      l + x.act (lcU p) Lc.STOP_TICKS ≤ x.now → exec (.webStopped t p) s = .next (s.went t ((x.estClear p 2).raise Ev.WEB_STATE (lcU p) 2)))

/-! ### Triggers (chapter 08) -/

/-- Eight rows complete on a trigger engine that serves (MARK_REPORT also needs its line clock to serve). MARK_REPORT: the oldest report of a port reaches its line clock (R191).
SPLICE: an input that has held its level for SPLICE_MIN signals a splice with the Rope time of its edge (R277). PLACE_WAIT_EXPIRY: the one trigger that waits,
PLACE_WAIT old, on a port whose job's records are open and which is not fenced, is written on the last line (R286). HOLD_EXPIRY: the condition shows whether it is armed
again (R293). A_OUT_PULSE_START: the one pulse whose start has come begins, and lengthens one that is active on its pin (R294). A_OUT_PULSE_END: pulses whose end has come
are over (R294). ARM_AT: the arming instant arms or disarms (R281). SOFT_FIRE: signals 63 at the present Rope time (R283). -/
def Obligations.Trigger_inputs_and_outputs_act : Prop :=
  ∀ (s : State) (t : Nat), (s.advance t).serves trigU = true →
    let a := s.advance t
    (∀ p r, p < 8 → a.serves (lcU p) = true → a.trig.reports.find? (fun x => x.1 == p) = some r →
      exec (.markReport t p) s = .next (s.went t ((a.modTrig (fun x => { x with reports := x.reports.erase r })).lcMark p r.2))) ∧
    (∀ d, a.trig.spliceT = some d → d + a.act trigU Trig.SPLICE_MIN * 16 ≤ a.now →
      exec (.splice t) s = .next (s.went t ((a.modTrig (fun x => { x with spliceT := none })).signal
        { sig := 56, port := 0, t := a.ropeAt d, line := 0, frac := 0, pix := none, cls := 0, node := 0 }))) ∧
    (∀ w, a.trig.waiting = [w] → w.t + a.act trigU Trig.PLACE_WAIT ≤ a.now → a.trigNext w.t = false → a.fenced (portU w.port) = false →
      (a.ring w.port).jobOpen = true → exec (.placeWaitExpiry t) s = .next (s.went t (a.trigLast w))) ∧
    (∀ c, c < 32 → exec (.holdExpiry t c) s = .next (s.went t (a.condRegs c))) ∧
    (∀ q, a.trig.pulses.filter (fun x => match x.startAt with | some d => d ≤ a.now | none => false) = [q] →
      exec (.aOutPulseStart t) s = .next (s.went t (a.modTrig (fun x => { x with
        pulses := x.pulses.erase q, active := x.active.filter (fun y => y.1 != q.gpio) ++ [(q.gpio, ((x.active.filter (fun y => y.1 == q.gpio)).map (·.2.1)).foldl max (q.startAt.getD 0 + q.width), q.low)] })))) ∧
    (exec (.aOutPulseEnd t) s = .next (s.went t (a.modTrig (fun x => { x with active := x.active.filter (fun y => a.now < y.2.1) })))) ∧
    (∀ d on, a.trig.armAt = some (d, on) → d ≤ a.rope → exec (.armAt t) s = .next (s.went t (a.armNow on false))) ∧
    (a.reached = true →
      exec (.softFire t) s = .next (s.ran t (a.signal { sig := 63, port := 0, t := a.rope, line := 0, frac := 0, pix := none, cls := 0, node := 0 })))

/-- TRIGGER_SLOT completes on a trigger engine that serves and is not fenced: a slot not yet done, the one whose inputs have all passed GPIO_FILTER, is evaluated, and freezes the device with source 2 where one of its triggers asks for it
(R278, R295); a slot that is done is not evaluated again. GPIO_EDGE completes in every condition: on a device that works a new level of GPIO input k that has stood for
GPIO_FILTER ticks is kept, with the Rope time of its edge (R277), and one that has not stood so long is ignored; a device that does not work keeps the level alone. -/
def Obligations.Trigger_slots_and_gpio_edges : Prop :=
  (∀ (s : State) (t : Nat), (s.advance t).serves trigU = true → (s.advance t).fenced trigU = false →
    let a := s.advance t
    (a.trig.lastSlotDone ≠ some a.slotDue →
      exec (.triggerSlot t) s = .next (s.ran t (if a.trigSlot.2 = true then a.trigSlot.1.freeze 2 else a.trigSlot.1))) ∧
    (a.trig.lastSlotDone = some a.slotDue → exec (.triggerSlot t) s = .next (s.ran t a))) ∧
  (∀ (s : State) (t k g : Nat) (level : Bool), k < 32 →
    let a := s.advance t
    (a.isLive = true → a.reg trigU Trig.GPIO_FILTER ≤ g → tbit a.trig.gpio k ≠ level →
      ∃ r, exec (.gpioEdge t k level g) s = .next (s.went t r) ∧ r.trig.gpio = setBit a.trig.gpio k level ∧
        r.trig.levelT = a.trig.levelT ++ [(k, a.ropeAt (a.now - g))]) ∧
    (a.isLive = true → g < a.reg trigU Trig.GPIO_FILTER → exec (.gpioEdge t k level g) s = .next (s.went t a)) ∧
    (a.isLive = false → exec (.gpioEdge t k level g) s = .next (s.ends t (a.modTrig (fun x => { x with gpio := setBit x.gpio k level })))))

/-! ### DMA channels and movers (chapter 09) -/

/-- Six rows of a DMA channel that serves, on a function in D0, and MOVER_COPY_DONE on a mover that serves, complete. DOORBELL: starts a channel that has ended with a read of the link
word of its last descriptor, keeps one more such read where one is under way, and is counted otherwise (R329). DESCRIPTOR_READ_DONE: a sound descriptor joins its segment; the last one of a segment makes it ready, any
other leads on to the next read (R329). DESC_READ_TIMEOUT: a read that failed, or lasted 10 ms, fences the channel with reason DESC_READ, and one that lasted 10 ms sets the completion timeout in AER (R61, R339). FLUSH_TICKS_EXPIRY: on an
engine without a transfer the only ready channel is served (R331, R332). BARRIER_READ_DONE: the transfer that waited for it ends (R334). DMA_TRANSFER_END: the data are
delivered, and the transfer ends, or waits for its barrier (R334, R335). MOVER_COPY_DONE: where no copy of the device's own runs on the mover, the running copy writes its LEN bytes, read from LPDDR5X or, with flag 8, from the
SRAM, at DST, BYTES counts its units, and the work ends with ST_OK and their number; with ECC on, every byte of LPDDR5X reads as after that write (R341). -/
def Obligations.Channels_and_movers_run : Prop :=
  (∀ (s : State) (t k : Nat), k < 64 → (s.advance t).serves (dmaU k) = true → (s.advance t).d3hot = false →
    let a := s.advance t
    ((a.dma k).st = 2 → (a.dma k).reading = none →
      exec (.doorbell t k) s = .next (s.ran t (a.dmaTo k (fun d => { d with reading := some (d.cur, true, a.now) })))) ∧
    ((a.dma k).st = 2 → (a.dma k).reading ≠ none → exec (.doorbell t k) s = .next (s.ran t (a.modDma k (fun d => { d with more := d.more + 1 })))) ∧
    ((a.dma k).st ≠ 2 → exec (.doorbell t k) s = .next (s.ran t (a.bump (dmaU k) Dma.DB_IGNORED))) ∧
    (∀ p w0 w1 w2 w3 w4 w5 w6 w7 since, (a.dma k).reading = some (p, false, since) → w2 / 2 ^ 24 = 0 → w3 / 4 = 0 → (linkOfWords w4 w5).1 = false → w2 % 2 ^ 24 ≠ 0 →
      w1 * 2 ^ 32 + w0 + w2 % 2 ^ 24 ≤ 2 ^ 64 → (a.dma k).seg.length < 64 →
      (((a.dma k).seg.map (·.len)).foldl (· + ·) 0) + w2 % 2 ^ 24 ≤ a.act (dmaU k) Dma.CHUNK * 65536 →
      let x : Desc := {
        at_ := p, addr := w1 * 2 ^ 32 + w0, len := w2 % 2 ^ 24, segEnd := tbit w3 0, barrier := tbit w3 1, eoc := (linkOfWords w4 w5).2.1,
        link := (linkOfWords w4 w5).2.2 }
      ((x.segEnd || x.eoc) = true → exec (.descriptorReadDone t k [w0, w1, w2, w3, w4, w5, w6, w7]) s =
        .next (s.went t (a.dmaTo k (fun d => { d with seg := (a.dma k).seg ++ [x], segOk := true, reading := none })))) ∧
      ((x.segEnd || x.eoc) = false → exec (.descriptorReadDone t k [w0, w1, w2, w3, w4, w5, w6, w7]) s =
        .next (s.went t (a.dmaTo k (fun d => { d with seg := (a.dma k).seg ++ [x], cur := x.link, reading := some (x.link, false, a.now) }))))) ∧
    (∀ x error, (a.dma k).reading = some x → (a.dma k).kept = none → error = true ∨ x.2.2 + 16000000 ≤ a.now →
      exec (.descReadTimeout t k error) s = .next (s.went t ((if error then a else a.aerTimeout).dmaFence k Fr.DESC_READ))) ∧
    (∀ n, (∀ j, j < 16 → (a.dma (k / 16 * 16 + j)).inXfer = false ∧ (a.dma (k / 16 * 16 + j)).waitBarrier = false) → a.dmaReady k = some n →
      (∀ j, j < 16 → k / 16 * 16 + j ≠ k → a.dmaReady (k / 16 * 16 + j) = none) →
      let b := ((List.range 16).map (k / 16 * 16 + ·)).foldl (fun (r : State) j => r.modDma j (fun d => { d with last := j == k })) a
      exec (.flushTicksExpiry t k) s = .next (s.went t (b.dmaTo k (fun d => { d with
        inXfer := true, bytes := n, xferWin := if b.act (dmaU k) Dma.SRC_KIND = 2 then b.poolNext.map (·.seq) else none })))) ∧
    ((a.dma k).waitBarrier = true → (a.dma k).st ≠ 3 → exec (.barrierReadDone t k) s = .next (s.went t (a.dmaFinish k))) ∧
    ((a.dma k).inXfer = true → (a.dma k).waitBarrier = false → (a.dma k).st ≠ 3 →
      ((a.dma k).seg.any (·.barrier) = true →
        exec (.dmaTransferEnd t k) s = .next (s.went t ((a.dmaData k (a.dma k).bytes).dmaTo k (fun d => { d with waitBarrier := true })))) ∧
      ((a.dma k).seg.any (·.barrier) = false →
        exec (.dmaTransferEnd t k) s = .next (s.went t ((a.dmaData k (a.dma k).bytes).dmaFinish k))))) ∧
  (∀ (s : State) (t i : Nat) (w : Work) (l : List Work), i < 8 → (s.advance t).serves (movU i) = true → (s.advance t).moves (movU i) = w :: l →
    ((s.advance t).ownMoves (movU i)).find? (fun x => x.2.2 == 0) = none →
    let a : State := { s.advance t with memS := { (s.advance t).memS with own := (s.advance t).memS.own.map (fun x => if x.1 = movU i then (movU i, x.2.1, x.2.2 - 1) else x) } }
    let src := nth w.params 1 * 2 ^ 32 + nth w.params 0
    let dst := nth w.params 3 * 2 ^ 32 + nth w.params 2
    let len := nth w.params 4
    (tbit w.flags 8 = true → exec (.moverCopyDone t i) s = .next (s.went t
      ((((a.dramWrite dst (Machine.Mem.read a.sram src len)).bump (movU i) Mover.BYTES (len / 64)).workEnd w St.OK [len / 64]).moverRegs (movU i)))) ∧
    (tbit w.flags 8 = false → a.eccOn = false → exec (.moverCopyDone t i) s = .next (s.went t
      ((((a.dramWrite dst (Machine.Mem.read a.dram src len)).bump (movU i) Mover.BYTES (len / 64)).workEnd w St.OK [len / 64]).moverRegs (movU i)))) ∧
    (tbit w.flags 8 = false → a.eccOn = true → ∃ r, exec (.moverCopyDone t i) s = .next (s.went t r) ∧ ∀ x, Machine.Mem.get r.dram x =
      Machine.Mem.get (Machine.Mem.write a.dram dst (Machine.Mem.read a.dram src len)) x))

/-! ### Axes, Belay and Speedwell (chapters 10 and 11) -/

/-- Seven rows of a serving axis complete. AXIS_UPDATE: the update of the last multiple of 16 ticks is made if it has not been made, and is not made again (R349). PWM_PERIOD: on a
closed-loop axis that is enabled, driven and due for its next period, the period begins (R367, R374). VMOT_SAMPLE: each of the two motor supplies keeps its last four samples, the newest
first (R370). DRIVER_FAULT: a driver fault of an axis whose MODE is not 0 is fault 5 (R364). SPEEDWELL_EVAL: an axis that serves ports is evaluated when 16,000 ticks have passed
since the last evaluation (R392). BELAY_PARK_MAX: a park that has lasted PARK_MAX, and of which this was not told, raises EV_BELAY_PARK_MAX with its length in ms (R400). -/
def Obligations.Axes_update_drive_and_park : Prop :=
  (∀ (s : State) (t k : Nat), k < 8 → (s.advance t).serves (axU k) = true →
    let a := s.advance t
    ((a.axis k).upd < a.now / 16 * 16 →
      exec (.axisUpdate t k) s = .next (s.went t (((a.axisUpdate k (a.now / 16 * 16)).scanUpdate k (a.now / 16 * 16)).axisAfter k))) ∧
    (a.now / 16 * 16 ≤ (a.axis k).upd → exec (.axisUpdate t k) s = .next (s.went t a)) ∧
    (∀ cycle, a.act (axU k) Axis.MODE = 1 → (a.axis k).enabled = true → (a.axis k).off = false → (a.axis k).pwmAt ≤ a.now →
      exec (.pwmPeriod t k cycle) s = .next (s.went t ((a.pwmPeriod k a.now cycle).axisAfter k))) ∧
    (a.act (axU k) Axis.MODE ≠ 0 → exec (.driverFault t k) s = .next (s.went t ((a.axisFault k 5).axisAfter k))) ∧
    (a.boundPorts k ≠ [] → (a.belay k).evalAt + 16000 ≤ a.now → exec (.speedwellEval t k) s = .next (s.went t (a.swEval k))) ∧
    (a.belayState k = 4 → (a.belay k).parkMax = false → (a.belay k).parkFrom + a.act (axU k) Belay.PARK_MAX * 1600000 ≤ a.now →
      exec (.belayParkMax t k) s = .next (s.went t ((a.modBelay k (fun b => { b with parkMax := true })).raise Ev.BELAY_PARK_MAX (axU k)
        (sat32 ((a.now - (a.belay k).parkFrom) / 1600000)))))) ∧
  (∀ (s : State) (t mv0 mv1 : Nat), (s.advance t).serves (axU 0) = true →
    ∃ r, exec (.vmotSample t mv0 mv1) s = .next r ∧
      r.vmot = [(mv0 :: (s.advance t).vmot.getD 0 []).take 4, (mv1 :: (s.advance t).vmot.getD 1 []).take 4])

/-- AXIS_INPUT_TRANSITION completes in every condition, AXIS_INPUT_DEBOUNCED, INDEX_EDGE and IDENTIFY_PHASE_DONE on an axis that serves. AXIS_INPUT_TRANSITION: a raw transition is kept with
its instant, and on an enabled input counts towards chatter; a device that does not work only keeps the level (R378). AXIS_INPUT_DEBOUNCED: a level that has held for DEBOUNCE counts,
and where it is active it is also the drift check's edge (R378, R401). INDEX_EDGE: an enabled INDEX latches (R378). IDENTIFY_PHASE_DONE: the first value of a phase that measures
at rest is kept (R376). -/
def Obligations.Axis_inputs_count : Prop :=
  ∀ (s : State) (t k j : Nat) (level : Bool), k < 8 → j < 4 →
    let a := s.advance t
    (a.isLive = true → a.powered (axU k) = true → ((a.axis k).inputs.getD j {}).raw ≠ level → tbit (a.act (axU k) Axis.IN_EN) j = true →
      exec (.axisInputTransition t k j level) s = .next (s.went t ((a.axisLevel k j level).axisChatter k j))) ∧
    (a.isLive = true → a.powered (axU k) = true → ((a.axis k).inputs.getD j {}).raw ≠ level → tbit (a.act (axU k) Axis.IN_EN) j = false →
      exec (.axisInputTransition t k j level) s = .next (s.went t (a.axisLevel k j level))) ∧
    (a.isLive = false → exec (.axisInputTransition t k j level) s = .next (s.ends t (a.axisLevel k j level))) ∧
    (∀ d pos, a.serves (axU k) = true → ((a.axis k).inputs.getD j {}).pend = some (d, pos) → d + a.act (axU k) Axis.DEBOUNCE * 1600 ≤ a.now →
      ((a.axisDebounced k j).2 = some (pos, true) →
        exec (.axisInputDebounced t k j) s = .next (s.went t (((a.axisDebounced k j).1.driftEdge k j pos).axisAfter k))) ∧
      ((a.axisDebounced k j).2 = some (pos, false) → exec (.axisInputDebounced t k j) s = .next (s.went t ((a.axisDebounced k j).1.axisAfter k))) ∧
      ((a.axisDebounced k j).2 = some (pos, true) ∨ (a.axisDebounced k j).2 = some (pos, false))) ∧
    (a.serves (axU k) = true → tbit (a.act (axU k) Axis.IN_EN) 3 = true →
      exec (.indexEdge t k) s = .next (s.went t (((a.axisIndex k).driftEdge k 3 (a.axis k).pos).axisAfter k))) ∧
    (∀ i val, a.serves (axU k) = true → (a.axis k).ident = some i → i.back = false → i.first = none → i.phase < 2 → i.tries < 4 →
      exec (.identifyPhaseDone t k val) s = .next (s.went t
        (({ a with draw := a.draw + 1 } : State).modAxis k (fun x => { x with ident := some { i with first := some val } }))))

/-! ### Light (chapter 12) -/

/-- Eight rows complete on a lamp group that serves. STROBE_START: the strobe of the next line begins at its start where the group may light, and has length 0 where it is off (R410).
STROBE_END: a strobe ends STROBE_LEN after its start while its window is open, a diagnosis pulse after 3,200 ticks (R410, R414). OVP_TRIP: a trip in the first 320 ticks of a strobe, or of the lit part of an
INDICATOR's period, that lasts 80 ticks or more, and at any time in a CONTINUOUS string, is fault 1 of the slot (R413, R416). BUCK_SWITCH_ON_TIMEOUT: a buck on for 100 µs, not measured since, is fault 4. DIAG_PULSE: a due
pulse lights the ILLUM strings and is counted (R414). LAMP_RELIGHT: a group is relit with its spare at the boundary found, or, without a port, 200 µs after the detection (R417).
LAMP_MEASUREMENT: a measurement of a LAMP_CAL run goes to the run, any other, and one of a string that a DELTA run lights, to the last
pulse where that lasted 2,400 ticks or more (R409, R413, R418). CONTINUOUS_MEASURE: a lit CONTINUOUS string is judged when 1 ms
has passed (R413). -/
def Obligations.Lamps_pulse_and_are_measured : Prop :=
  (∀ (s : State) (t g k : Nat), g < 8 → (s.advance t).serves (lampU g) = true →
    let a := s.advance t
    (∀ p f d, a.strobeNext g = some (p, f, d) → d ≤ a.now → (a.lamp g).strobe = none →
      let b := a.modLamp g (fun l => { l with next := f.tick + 1 })
      ((∀ e, (lampWindow b p f).2 = some e → d < e) → b.lampOn g = true → b.reg (lampU g) Lamp.DARK ≠ 1 → b.capDark p = false →
        (b.port p).jobOn = true ∨ (b.port p).capture.isSome = true →
        exec (.strobeStart t g) s = .next (s.went t (((b.slotsAs g [1]).foldl (fun (r : State) j => if r.slotOk g j then
          (r.setLit g j true).modStr g j (fun x => { x with buckOn := x.buckOn.orElse (fun _ => some r.now) }) else r) b).modLamp g
            (fun l => { l with strobe := some (f.line, d) })))) ∧
      (b.lampOn g = false → exec (.strobeStart t g) s = .next (s.went t (b.strobeMeas g p f.line 0)))) ∧
    (∀ line d p f, (a.lamp g).strobe = some (line, d) → a.lampPort g = some p → a.fireOf p line = some f → (lampWindow a p f).2 = none →
      vw a f.set (lampU g) Lamp.STROBE_LEN ≠ 0 → d + vw a f.set (lampU g) Lamp.STROBE_LEN ≤ a.now →
      let m := vw a f.set (lampU g) Lamp.STROBE_LEN
      exec (.strobeEnd t g) s = .next (s.went t (([1, 2, 3, 4, 5].foldl (fun (r : State) j =>
        if (r.str g j).lit ∧ r.roleOf g j = 1 then r.pulseDone g j (some line) d m else r) (a.strobeMeas g p line m)).modLamp g (fun l => { l with strobe := none })))) ∧
    (∀ d, (a.lamp g).strobe = none → (a.lamp g).diag = some d → d + 3200 ≤ a.now →
      exec (.strobeEnd t g) s = .next (s.went t (([1, 2, 3, 4, 5].foldl (fun (r : State) j =>
        if (r.str g j).lit ∧ r.roleOf g j = 1 then r.pulseDone g j none d 3200 else r) a).modLamp g (fun l => { l with diag := none })))) ∧
    (∀ line d p, (a.str g k).lit = true → a.roleOf g k = 1 → (a.lamp g).calAt = none → (a.lamp g).strobe = some (line, d) → a.lampPort g = some p → a.now ≤ d + 320 →
      80 ≤ a.strobeSpan g p line d → exec (.ovpTrip t g k) s = .next (s.went t (a.lampFault g k 1 d (some line)))) ∧
    ((a.str g k).lit = true → a.roleOf g k = 3 → (a.lamp g).calAt = none → a.now % 65536 < (a.str g k).duty → a.now % 65536 ≤ 320 → 80 ≤ (a.str g k).duty →
      exec (.ovpTrip t g k) s = .next (s.went t (a.lampFault g k 1 (a.now / 65536 * 65536) none))) ∧
    ((a.str g k).lit = true → a.roleOf g k = 2 → (a.lamp g).calAt = none → exec (.ovpTrip t g k) s = .next (s.went t (a.lampFault g k 1 (a.str g k).measAt none))) ∧
    (∀ d, (a.str g k).buckOn = some d → (a.str g k).measAt ≤ d → d + 160000 ≤ a.now →
      exec (.buckSwitchOnTimeout t g k) s = .next (s.went t (a.lampFault g k 4 d none))) ∧
    (∀ p te d, a.lampPort g = some p → (a.lamp g).diagDue = true → (a.lamp g).strobe = none → (a.lamp g).diag = none → a.lampOn g = true →
      a.reg (lampU g) Lamp.DARK ≠ 1 → a.capDark p = false → (a.port p).jobOn = true → a.act (portU p) Port.SHUTTER = 1 → (a.port p).lastTe = some te →
      (a.port p).openLine = none → te + 160 ≤ a.now → a.lcDue p = some d → te + 3520 ≤ d.1 + a.act (portU p) Port.EXP_DELAY →
      exec (.diagPulse t g) s = .next (s.went t ((((a.slotsAs g [1]).foldl (fun (r : State) j => if r.slotOk g j then r.setLit g j true else r) a).modLamp g
        (fun l => { l with diag := some (te + 160), diagDue := false, diagRow := none })).bump (lampU g) Lamp.DIAG_PULSES))) ∧
    (∀ j rep, a.reg (lampU g) Lamp.RELIGHT_PENDING = 1 → (a.lamp g).faultSlot = some j →
      ((∃ p tk, a.lampPort g = some p ∧ (a.lamp g).relit = some (tk, rep)) ∨
        (a.lampPort g = none ∧ (a.lamp g).relit = none ∧ rep = 0 ∧ (a.lamp g).detected + 320000 ≤ a.now)) →
      let b := (((a.set (lampU g) Lamp.DARK 0).set (lampU g) Lamp.RELIGHT_PENDING 0).set (lampU g) Lamp.SPARE_USED 1).modLamp g (fun l => { l with
        spareFor := some j, spareSp := spareSetpoint (a.act (strU g j) Str.SETPOINT) (a.reg (strU g j) Str.SPARE_DELTA), relit := none, faultSlot := none })
      exec (.lampRelight t g) s = .next (s.went t
        ((((b.raise Ev.LAMP_SPARE_IN (lampU g) (j + rep % 2 ^ 24 * 256)).audit 7 (strU g j) (leBytes 4 (strU g 5))).lampLights g).lampRefresh g)))) ∧
  (∀ (s : State) (t g k mv ua mean : Nat), g < 8 → (s.advance t).serves (lampU g) = true →
    let a := s.advance t
    (∀ w, a.workOf 0x50 (lampU g) = some w → nth w.params 0 ≠ 2 → exec (.lampMeasurement t g k mv ua mean) s = .next (s.went t (a.lampCalMeasure g w mv ua))) ∧
    (∀ line d len, a.workOf 0x50 (lampU g) = none ∨ (∃ w, a.workOf 0x50 (lampU g) = some w ∧ nth w.params 0 = 2) → (a.str g k).pulse = some (line, d, len) →
      (2400 ≤ len → k ≠ 5 ∨ (a.lamp g).delta = none → exec (.lampMeasurement t g k mv ua mean) s = .next (s.went t (a.measured g k mv (a.senseUa g k ua) d line))) ∧
      (len < 2400 → exec (.lampMeasurement t g k mv ua mean) s = .next (s.went t a))) ∧
    (k ≠ 5 ∨ (a.lamp g).delta = none → a.roleOf g k = 2 → (a.str g k).lit = true → (a.str g k).measAt + 1600000 ≤ a.now →
      exec (.continuousMeasure t g k mv ua) s = .next (s.went t (a.measured g k mv (a.senseUa g k ua) (a.str g k).measAt none))))

/-- CHAIN_LATCH, CHAIN_SHIFT_DONE and CHAIN_RESTART complete on a chain port that serves, HAREBELL_TICK on an engine that serves and is not fenced. CHAIN_LATCH: a due latch, while no shift
runs or is to come, counts in FRAMES, shows the frame that was shifted and takes the image loaded last, and the next shift begins 64 ticks later, with the end of its pulse (R422, R423). CHAIN_SHIFT_DONE: the marker gives LEN_MEASURED; where that is
the chain's length the first frame is shifted, else LEN_FAULT stops the chain; a frame that comes back whole ends the run of mismatches (R424). CHAIN_RESTART: with CHAIN_EN 1 it
sends a marker, unless the chain port is fenced (R26, R424). HAREBELL_TICK: an engine that neither runs nor indicates, and drives no strings, has brightness 0 on all its targets (R425). -/
def Obligations.Chain_latches_and_shifts : Prop :=
  ∀ (s : State) (t : Nat), (s.advance t).serves chainU = true →
    let a := s.advance t
    (∀ d, a.chain.on = true → a.chain.stopped = false → a.chain.due = some d → d ≤ a.now → a.chain.shift = none → a.chain.begin_ = none →
      let b := a.bump chainU Chain.FRAMES
      exec (.chainLatch t) s = .next (s.went t (b.modChain (fun c => { c with
        due := none, lastLatch := d, latched := some c.frame, image := c.loaded.getD c.image, loaded := none, begin_ := some (d + 64) })))) ∧
    (∀ d ret count, a.chain.begin_ = none → a.chain.shift = some d → d + chainN a a.active * chainTb a a.active ≤ a.now → a.chain.marker = true →
      let b := (a.set chainU Chain.LEN_MEASURED count).modChain (fun c => { c with shift := none, marker := false })
      (count = chainN a a.active → exec (.chainShiftDone t ret count) s = .next (s.went t b.chainShift)) ∧
      (count ≠ chainN a a.active → exec (.chainShiftDone t ret count) s = .next (s.went t ((b.set chainU Chain.LEN_FAULT 1).chainStop 4)))) ∧
    (∀ d f ret count, a.chain.begin_ = none → a.chain.shift = some d → d + chainN a a.active * chainTb a a.active ≤ a.now → a.chain.marker = false → a.chain.latched = some f →
      ret % 2 ^ chainN a a.active = f % 2 ^ chainN a a.active →
      exec (.chainShiftDone t ret count) s = .next (s.went t (((a.modChain (fun c => { c with shift := none })).modChain (fun c => { c with bad := 0, pend := [] })).lampDecide
        (a.act chainU Chain.CHAIN_PORT)))) ∧
    (a.reached = true → a.act chainU Chain.CHAIN_EN = 1 → a.fenced chainU = false → exec (.chainRestart t) s = .next (s.ran t (a.set chainU Chain.CHAIN_RESTART 0).chainMarker)) ∧
    (∀ e, e < 4 → a.chain.begin_ = none → a.serves (hareU e) = true → a.fenced (hareU e) = false → (a.hare e).last + 1600000 ≤ a.now → (a.hare e).ind = none → (a.hare e).run = none →
      a.reg (hareU e) Hare.TARGET_STR ≠ 1 →
      exec (.harebellTick t e) s = .next (s.went t ((a.modHare e (fun x => { x with
        last := a.now, outs := List.replicate (min 4096 (a.reg (hareU e) Hare.COUNT)) (gammaOf (a.reg (hareU e) Hare.GAMMA) 0) })).hareState e)))

/-! ### The host interface (chapter 02) -/

/-- COMMAND_WORD_WRITE, RESYNC_URGENT and RESYNC_NORMAL complete where the host reaches the device. COMMAND_WORD_WRITE: while OVF stands the word is dropped (R82); where the pointers of the
FIFO disagree it is emptied (R321); byte enables not all set, and a word for which NORMAL has no room, drop the packet under assembly, set OVF and raise EV_CMD_OVERFLOW
(R82); any other word joins the packet under assembly, and the last word of a packet makes the device accept it (R79, R80). RESYNC_URGENT and RESYNC_NORMAL drop
the words under assembly of their FIFO and clear its OVF (R82). -/
def Obligations.Command_windows_assemble_packets : Prop :=
  ∀ (s : State) (t w be : Nat) (env : Option Nat) (fails : List Nat), (s.advance t).reached = true → be < 16 →
    let a := s.advance t
    (a.urgentQ.ovf = true → exec (.commandWordWrite t true w be env fails) s = .next (s.ran t a)) ∧
    (a.normalQ.ovf = true → exec (.commandWordWrite t false w be env fails) s = .next (s.ran t a)) ∧
    (a.urgentQ.ovf = false → a.skewed 6 0 = true → exec (.commandWordWrite t true w be env fails) s = .next (s.ran t (a.cmdLost true))) ∧
    (a.normalQ.ovf = false → a.skewed 6 1 = true → exec (.commandWordWrite t false w be env fails) s = .next (s.ran t (a.cmdLost false))) ∧
    (a.urgentQ.ovf = false → a.skewed 6 0 = false → be ≠ 15 → exec (.commandWordWrite t true w be env fails) s =
      .next (s.ran t (({ a with urgentQ := { a.urgentQ with part := [], ovf := true } } : State).raise Ev.CMD_OVERFLOW devU 1).cmdRegs)) ∧
    (a.normalQ.ovf = false → a.skewed 6 1 = false → be ≠ 15 ∨ 2048 ≤ a.normalQ.used → exec (.commandWordWrite t false w be env fails) s =
      .next (s.ran t (({ a with normalQ := { a.normalQ with part := [], ovf := true } } : State).raise Ev.CMD_OVERFLOW devU 2).cmdRegs)) ∧
    (a.urgentQ.ovf = false → a.skewed 6 0 = false → be = 15 →
      (a.urgentQ.used < 256 → whole (a.urgentQ.part ++ [w % 2 ^ 32]) = false → exec (.commandWordWrite t true w be env fails) s =
        .next (s.ran t ({ a with urgentQ := { a.urgentQ with part := a.urgentQ.part ++ [w % 2 ^ 32] } } : State).cmdRegs)) ∧
      (whole (a.urgentQ.part ++ [w % 2 ^ 32]) = true → exec (.commandWordWrite t true w be env fails) s =
        .next (s.ran t (a.accept true (a.urgentQ.part ++ [w % 2 ^ 32]) env fails)))) ∧
    (a.normalQ.ovf = false → a.skewed 6 1 = false → be = 15 → a.normalQ.used < 2048 →
      (whole (a.normalQ.part ++ [w % 2 ^ 32]) = false → exec (.commandWordWrite t false w be env fails) s =
        .next (s.ran t ({ a with normalQ := { a.normalQ with part := a.normalQ.part ++ [w % 2 ^ 32] } } : State).cmdRegs)) ∧
      (whole (a.normalQ.part ++ [w % 2 ^ 32]) = true → exec (.commandWordWrite t false w be env fails) s =
        .next (s.ran t (a.accept false (a.normalQ.part ++ [w % 2 ^ 32]) env fails)))) ∧
    (exec (.resyncUrgent t) s = .next (s.ends t ({ a with urgentQ := { a.urgentQ with part := [], ovf := false } } : State).cmdRegs)) ∧
    (exec (.resyncNormal t) s = .next (s.ends t ({ a with normalQ := { a.normalQ with part := [], ovf := false } } : State).cmdRegs))

/-- NORMAL_PACKET_START completes on a device that works: where NORMAL serves the opcode at its head and its pointers agree, the packet at the head leaves the FIFO and is executed; where it
does not serve it, nothing starts (R78, R83). A NORMAL packet that is accepted behind others waits in its order (R83). -/
def Obligations.Normal_packets_start_in_order : Prop :=
  ∀ (s : State) (t : Nat) (env : Option Nat) (fails : List Nat) (k : Pkt) (rest : List Pkt), (s.advance t).isLive = true →
    (s.advance t).normalQ.waiting = k :: rest →
    ((s.advance t).normalServes k.op = true → (s.advance t).skewed 6 1 = false → exec (.normalPacketStart t env fails) s =
      .next (s.ran t (({ s.advance t with normalQ := { (s.advance t).normalQ with waiting := rest } } : State).execPkt k env fails).cmdRegs)) ∧
    ((s.advance t).normalServes k.op = false → exec (.normalPacketStart t env fails) s = .next (s.ran t (s.advance t))) ∧
    (∀ ws, ((s.advance t).accept false ws env fails).normalQ.waiting = k :: rest ++ [pktOf false ws (s.advance t).nextSeq])

/-- REPLY_POP and MARK_SRC_READ complete where the host reaches the device. REPLY_POP, its pointers in agreement and no reply held: it takes the oldest word of the reply FIFO, with LENGTH at
the first word of a reply, and the bytes of LPDDR5X and of host memory stay; an empty FIFO gives the last word again and sets UNDERRUN; a 64-bit read pops the same (R92). MARK_SRC_READ, on a
Rope unit that a window shows: it takes the oldest MARK, shows its source, VALID and its data, and clears MSG_DROPPED; without a MARK, VALID reads 0 (R468). -/
def Obligations.Reads_that_pop : Prop :=
  (∀ (s : State) (t : Nat), (s.advance t).reached = true → s.reply.held = [] → s.skewed 7 0 = false →
    (∀ w first l, s.reply.words = (w, first) :: l → ∃ r, exec (.replyPop t false) s = .next r ∧ r.rdata = [w] ∧ r.reply.words = l ∧ r.reply.length = first ∧
      r.reply.underrun = false ∧ (∀ x, Machine.Mem.get r.dram x = Machine.Mem.get s.dram x) ∧ (∀ x, Machine.Mem.get r.host x = Machine.Mem.get s.host x)) ∧
    (s.reply.words = [] → ∃ r, exec (.replyPop t false) s = .next r ∧ r.rdata = [s.reply.last] ∧ r.reply.words = [] ∧ r.reply.underrun = true ∧
      (∀ x, Machine.Mem.get r.dram x = Machine.Mem.get s.dram x) ∧ (∀ x, Machine.Mem.get r.host x = Machine.Mem.get s.host x)) ∧
    (∀ w first l, s.reply.words = (w, first) :: l → ∃ r hi, exec (.replyPop t true) s = .next r ∧ r.rdata = [w, hi] ∧ r.reply.words = l)) ∧
  (∀ (s : State) (t : Nat), (s.advance t).reached = true → (s.advance t).windowOk ropeU = true →
    (∀ src data at64 l, s.ropeS.marks = (src, data, at64) :: l → ∃ r, exec (.markSrcRead t) s = .next r ∧
      r.rdata = [src % 2 ^ 18 + b2n s.ropeS.dropped * 2 ^ 30 + 2 ^ 31] ∧ r.ropeS.marks = l ∧ r.ropeS.dropped = false ∧ r.reg ropeU Rope.MARK_DATA = data % 2 ^ 32) ∧
    (s.ropeS.marks = [] → ∃ r, exec (.markSrcRead t) s = .next r ∧ r.rdata = [b2n s.ropeS.dropped * 2 ^ 30] ∧ r.ropeS.dropped = false))

/-- TIME_LO_READ, RES_TAG_READ and RC_READ complete where the host reaches the device. TIME_LO_READ answers the low word of Rope time, and a 64-bit read both words (R8, R10). RES_TAG_READ, through a
window whose page has a result group, answers RES_TAG and clears VALID and OVERWRITTEN (R71). RC_READ answers the word at an offset below 1000H that has no rule of its own, the
heartbeat at 110H and the UID of a window at 180H to 18CH, and 0 in the command windows and at an offset that is no multiple of 4 (R9, R69, R70). None of the three changes the set in force, the open
sets, the state of a unit, a FIFO, the event log, work in progress or a byte of memory. -/
def Obligations.Reads_answer_and_keep_the_device : Prop :=
  ∀ (s : State) (t n off : Nat) (wide : Bool), (s.advance t).reached = true → n < 4 →
    let a := s.advance t
    let keeps (r : State) := r.active = s.active ∧ r.shadow = s.shadow ∧ r.openSets = s.openSets ∧ r.units = s.units ∧ r.reply = s.reply ∧ r.urgentQ = s.urgentQ ∧
      r.normalQ = s.normalQ ∧ r.evt = s.evt ∧ r.works = s.works ∧ r.dram = s.dram ∧ r.sram = s.sram ∧ r.host = s.host
    (∃ r, exec (.timeLoRead t wide) s = .next r ∧ r.rdata = (if wide then [lo32 a.rope, hi32 a.rope] else [lo32 a.rope]) ∧ keeps r) ∧
    (a.windowOk (a.windowUid n) = true → (pageOf (a.windowUid n)).any (fun f => f.name == "RES_DATA") = true →
      ∃ r, exec (.resTagRead t n) s = .next r ∧ r.rdata = [(a.pageNow (a.windowUid n)).pageWord (a.windowUid n) 0xF00] ∧
        r.reg (a.windowUid n) Res.VALID = 0 ∧ r.reg (a.windowUid n) Res.OVERWRITTEN = 0 ∧ keeps r) ∧
    (off % 4 = 0 → off < 0x1000 → off ≠ 0x110 → off ≠ 0x118 → off ≠ 0x11C → off < 0x180 ∨ 0x190 ≤ off → off ≠ 0x500 →
      ∃ r, exec (.rcRead t off) s = .next r ∧ r.rdata = [a.bar0Word off] ∧ keeps r) ∧
    (∃ r, exec (.rcRead t 0x110) s = .next r ∧ r.rdata = [a.heartbeat] ∧ keeps r) ∧
    (∃ r, exec (.rcRead t (0x180 + 4 * n)) s = .next r ∧ r.rdata = [a.windowUid n + b2n (!uidOk (a.windowUid n)) * 2 ^ 31] ∧ keeps r) ∧
    (off % 4 ≠ 0 ∨ 0x1000 ≤ off ∧ off < 0x3000 → ∃ r, exec (.rcRead t off) s = .next r ∧ r.rdata = [0] ∧ keeps r)

/-- REGISTER_WRITE completes where the host reaches the device: a write with all byte enables of a word of the page that window n shows is a write of that page (R42, R70); a write with some of
them, of a word of a page, and a write at an offset beyond BAR0 or no multiple of 4 change nothing (R69). -/
def Obligations.Register_writes_take_whole_words : Prop :=
  ∀ (s : State) (t n off w be : Nat), (s.advance t).reached = true → n < 4 → off < 0x1000 → off % 4 = 0 →
    let a := s.advance t
    (exec (.registerWrite t (0x4000 + 0x1000 * n + off) w 15) s = .next (s.ran t (a.pageWrite (a.windowUid n) (a.pageFields (a.windowUid n) off).2 off w))) ∧
    (be % 16 ≠ 15 → exec (.registerWrite t (0x4000 + 0x1000 * n + off) w be) s = .next (s.ran t a)) ∧
    (exec (.registerWrite t (0x10000 + off) w be) s = .next (s.ran t a)) ∧
    (exec (.registerWrite t (0x4000 + off + 1) w be) s = .next (s.ran t a))

/-- Six rows complete. EVENT_RING_ENABLE: 0 stops the ring and keeps the positions; 1, on a device that is READY, starts a stopped ring at position 0 with phase 1, and an entry for lost events comes
first (R96, R97). EVT_RD_WRITE: a position between EVT_RD and EVT_WR is taken, any other sets RD_ERR (R97). EVENT_HOLDOFF_EXPIRY: the end of a hold-off in which events came sends the
vector's message (R100). SUPPLY_FAIL_CLEAR and MIN_CLEAR: SUPPLY_FAIL becomes 0, and MIN_HEADROOM the present headroom (R39). SEQ_WEDGED: 250 ms without a reply while a NORMAL packet
waits raise EV_SEQ_WEDGED, unless it has been raised and the heartbeat or NORMAL_DONE has not moved since (R108). -/
def Obligations.Event_ring_and_watches : Prop :=
  (∀ (s : State) (t w : Nat), (s.advance t).reached = true →
    let a := s.advance t
    let rd := a.reg bar0 Evt.EVT_RD
    let span := (a.reg bar0 Evt.EVT_WR + 4096 - rd) % 4096
    let b := ((((a.set bar0 Evt.HOLDOFF (bits w 25 16)).set bar0 Evt.ENABLE 1).set bar0 Evt.EVT_WR 0).set bar0 Evt.EVT_RD 0).set bar0 Evt.WR_PHASE 1
    (tbit w 0 = false → exec (.eventRingEnable t w) s = .next (s.ends t ((a.set bar0 Evt.HOLDOFF (bits w 25 16)).set bar0 Evt.ENABLE 0))) ∧
    (tbit w 0 = true → (a.set bar0 Evt.HOLDOFF (bits w 25 16)).ready = true → (a.set bar0 Evt.HOLDOFF (bits w 25 16)).reg bar0 Evt.ENABLE = 0 →
      b.evtLostEntry.evt.deferred = [] → exec (.eventRingEnable t w) s = .next (s.ends t
        { b.evtLostEntry with evt := { b.evtLostEntry.evt with deferred := [] } })) ∧
    (tbit w 31 = false → (w % 4096 + 4096 - rd) % 4096 ≤ span → exec (.evtRdWrite t w) s = .next (s.ends t (a.set bar0 Evt.EVT_RD (w % 4096)).evtLostEntry)) ∧
    (tbit w 31 = false → span < (w % 4096 + 4096 - rd) % 4096 → exec (.evtRdWrite t w) s = .next (s.ends t (a.set bar0 Evt.RD_ERR 1)))) ∧
  (∀ (s : State) (t v : Nat), (s.advance t).reached = true →
    let a := s.advance t
    (∀ h, a.evt.hold.find? (fun x => x.1 == v) = some h → h.2.1 ≤ a.now → h.2.2 = true →
      exec (.eventHoldoffExpiry t v) s = .next (s.ends t (({ a with evt := { a.evt with hold := a.evt.hold.filter (fun x => x.1 != v) } } : State).msixSend v))) ∧
    (exec (.supplyFailClear t) s = .next (s.ends t (a.set bar0 Pace.SUPPLY_FAIL 0))) ∧
    (exec (.minClear t) s = .next (s.ends t (a.set bar0 Pace.MIN_HEADROOM (a.reg bar0 Pace.HEADROOM)))) ∧
    (a.normalQ.waiting ≠ [] → a.sys.done = a.reg bar0 Cmd.NORMAL_DONE → a.sys.doneAt + 400000000 ≤ a.now →
      (a.sys.wedged = none ∨ (∃ h n, a.sys.wedged = some (h, n) ∧ h ≠ a.heartbeat ∧ n ≠ a.reg bar0 Cmd.NORMAL_DONE) → exec (.seqWedged t false) s =
        .next (s.did t (({ a with sys := { a.sys with wedged := some (a.heartbeat, a.reg bar0 Cmd.NORMAL_DONE) } } : State).raise Ev.SEQ_WEDGED secU a.heartbeat))) ∧
      (∀ h n, a.sys.wedged = some (h, n) → h = a.heartbeat ∨ n = a.reg bar0 Cmd.NORMAL_DONE → exec (.seqWedged t false) s = .next (s.did t a))))

/-- R72, R73, R479: BAR2 reads the bytes of LPDDR5X at APERTURE_BASE × 2^30 plus the offset; a read that meets an uncorrectable error carries no data and reports it. A write changes these
bytes and no other, where WRITE_EN is 1 and the device owns none of them. What is denied, because memory does not work, the range leaves the fitted memory, WRITE_EN is 0 or the device owns a
byte of it, counts in DENIED, raises EV_APERTURE_DENIED with the offset, reads as FFH and changes no byte. -/
def Obligations.Bar2_reads_and_writes_memory : Prop :=
  ∀ (s : State) (t off len : Nat) (env : Option Nat) (bs : List Nat), (s.advance t).reached = true →
    let a := s.advance t
    let lo := a.bar2Addr off
    let denied (r : State) := (r.bump bar0 Tim.DENIED).raise Ev.APERTURE_DENIED memU off
    (lo = a.reg bar0 Tim.APERTURE_BASE * 2 ^ 30 + off) ∧
    (a.dramUp = true → lo + len ≤ a.fitted → a.readError lo len env = none →
      exec (.bar2Read t off len env) s = .next (s.ends t { a with rdata := Machine.Mem.read a.dram lo len })) ∧
    (∀ e, a.dramUp = true → lo + len ≤ a.fitted → a.readError lo len env = some e → exec (.bar2Read t off len env) s = .next (s.ends t (({ a with rdata := [] } : State).memUE e))) ∧
    (a.dramUp = false ∨ a.fitted < lo + len → exec (.bar2Read t off len env) s = .next (s.ends t (denied { a with rdata := List.replicate len 0xFF }))) ∧
    (a.dramUp = true → lo + bs.length ≤ a.fitted → a.reg bar0 Tim.WRITE_EN = 1 → (∀ y, lo ≤ y → y < lo + bs.length → a.deviceOwned y = false) → bs ≠ [] →
      exec (.bar2Write t off bs) s = .next (s.ran t ((a.dramWrite lo bs).refTouched off lo bs.length)) ∧
      (∀ x, x < lo ∨ lo + bs.length ≤ x → Machine.Mem.get ((a.dramWrite lo bs).refTouched off lo bs.length).dram x = Machine.Mem.get s.dram x) ∧
      (∀ i, i < bs.length → (Machine.Mem.get ((a.dramWrite lo bs).refTouched off lo bs.length).dram (lo + i)).toNat = nth bs i % 256)) ∧
    (bs ≠ [] → a.dramUp = false ∨ a.fitted < lo + bs.length ∨ a.reg bar0 Tim.WRITE_EN = 0 ∨ (∃ y, lo ≤ y ∧ y < lo + bs.length ∧ a.deviceOwned y = true) →
      exec (.bar2Write t off bs) s = .next (s.ran t (denied a)) ∧ (denied a).dram = s.dram) ∧
    (exec (.bar2Write t off []) s = .next (s.ran t a))

/-- Five rows complete unless the device is in reset. FUNCTION_LEVEL_RESET: the device aborts 0x0000 in silence, unless it is frozen, the blocks of the host interface and the configuration space take
their reset values, and the function is in D0 (R66; D0 is PRESUMED, log entry 70). PERST_N: the same, and the link is down (R536). D3HOT_ENTRY: the function is in D3hot (R67). D0_RETURN: a function in D3hot is in D0, an
entry for lost events comes first, the channels go on, and the configuration writes follow (R67). LINK_RETRAIN: the link shows its rate and width, and raises EV_LINK_CHANGE where they
change; the configuration writes follow (R64). -/
def Obligations.Function_resets_and_power_states : Prop :=
  ∀ (s : State) (t rate width : Nat) (cfg : List (CfgReg × Nat)), (s.advance t).sys.inReset = false →
    let a := s.advance t
    let reset : State := { (if a.frozen then a else a.abortQuiet).blocksReset with d3hot := false }
    (exec (.functionLevelReset t) s = .next (s.did t reset)) ∧
    (exec (.perstN t) s = .next (s.did t (((reset.set bar0 Tim.RATE 0).set bar0 Tim.WIDTH 0).set bar0 Tim.DEGRADED 0))) ∧
    (exec (.d3hotEntry t) s = .next (s.ends t { a with d3hot := true })) ∧
    (a.d3hot = true → exec (.d0Return t cfg) s = .next (s.did t
      (((List.range 64).foldl (fun (r : State) k => r.dmaBack k) ({ a with d3hot := false } : State).evtLostEntry).cfgWrites cfg))) ∧
    (let b := ((a.set bar0 Tim.RATE rate).set bar0 Tim.WIDTH width).set bar0 Tim.DEGRADED (b2n (rate != 0 && (width < 4 || rate < 3)));
      (b.linkStat ≠ a.linkStat → exec (.linkRetrain t rate width cfg) s = .next (s.ends t ((b.raise Ev.LINK_CHANGE devU b.linkStat).cfgWrites cfg))) ∧
      (b.linkStat = a.linkStat → exec (.linkRetrain t rate width cfg) s = .next (s.ends t (b.cfgWrites cfg))))

/-! ### Units, domains, pace and the time base (chapters 01, 02 and 17) -/

/-- ABORT_COMPLETION, ABORT_LATE and DOMAIN_READY complete on a device that works. ABORT_COMPLETION: the one member that aborts wait for, if it lies in the unit named and can complete,
does so, and an abort with no member left is over (R22). ABORT_LATE: a member whose bound has passed leaves its aborts, is noted as late and is fenced with ABORT_LATE (R23). DOMAIN_READY: a
domain that was coming up has its units at work (R529). -/
def Obligations.Aborts_complete_and_domains_come_up : Prop :=
  ∀ (s : State) (t u : Nat), (s.advance t).isLive = true →
    let a := s.advance t
    (∀ w, ((a.aborts.flatMap (·.waiting)).map (·.1)).eraseDups = [w] → within w u = true → a.canComplete w = true →
      exec (.abortCompletion t u) s = .next (s.went t (a.abortDone w).abortsSettle)) ∧
    (a.aborts.any (fun x => x.waiting.any (fun w => w.1 == u && decide (w.2 ≤ a.now))) = true →
      exec (.abortLate t u) s = .next (s.went t (((({ a with
        aborts := a.aborts.map (fun x => if x.waiting.any (fun w => w.1 == u) then { x with late := x.late ++ [u] } else x) } : State).abortLeaves u).unitFence u
          Fr.ABORT_LATE).abortsSettle))) ∧
    (∀ o, a.pow.coming.contains u = true → exec (.domainReady t u o) s = .next (s.went t
      (({ a with pow := { a.pow with coming := a.pow.coming.filter (· != u) } } : State).domainUp u o)))

/-- Five rows complete on a device that works. PACE_UPDATE: the least headroom of the paths measured, with its unit, is shown, and is 255 while no path has demand (R37); where a
request may be made, a headroom below 8 asks for 5 mV more up to 900 mV, and one that has been 20 or more for a second for 5 mV less down to 750 mV (R39). VOUT_READBACK: 2 ms after a request
the voltage read is shown; one more than 10 mV off, or no acknowledge, is a supply failure (R39, R583). PMB_ALERT: STATUS_WORD is read and the faults are cleared (R583). TIMEBASE_UNLOCK: the units of R34
are fenced, and EV_TIMEBASE_UNLOCK is raised with 0. TIMEBASE_RELOCK: it is raised with 1 (R35). -/
def Obligations.Pace_supply_and_time_base : Prop :=
  ∀ (s : State) (t : Nat) (running replicas : List (Nat × Nat)) (ack : Bool), (s.advance t).isLive = true →
    let a := s.advance t
    let paths := running ++ replicas
    let h := (a.paceMin paths).1
    let b := a.paceShow h (a.paceMin paths).2
    ((∀ x, x ∈ paths → a.paceDemand x.1 = none) → h = 255) ∧
    (b.mayRequest = false → exec (.paceUpdate t running replicas ack) s = .next (s.went t b)) ∧
    (h < 8 → b.mayRequest = true → b.vcoreNow < 900 →
      exec (.paceUpdate t running replicas ack) s = .next (s.went t (b.supplyRequest (min 900 (b.vcoreNow + 5)) ack))) ∧
    (∀ d, 8 ≤ h → b.mayRequest = true → 750 < b.vcoreNow → b.sys.paceHigh = some d → d + 1600000000 ≤ b.now →
      exec (.paceUpdate t running replicas ack) s = .next (s.went t (b.supplyRequest (max 750 (b.vcoreNow - 5)) ack))) ∧
    (∀ d want mv, a.sys.vreq = some (d, want) → d + 3200000 ≤ a.now →
      let c := ({ a with sys := { a.sys with vreq := none } } : State).pmbSend [0x8B]
      (ack = false → exec (.voutReadback t mv ack) s = .next (s.went t c.supplyFail)) ∧
      (ack = true → want + 10 < mv ∨ mv + 10 < want → exec (.voutReadback t mv ack) s = .next (s.went t (c.set devU Th.VCORE_READ mv).supplyFail)) ∧
      (ack = true → mv ≤ want + 10 → want ≤ mv + 10 → exec (.voutReadback t mv ack) s = .next (s.went t (c.set devU Th.VCORE_READ mv)))) ∧
    (exec (.pmbAlert t) s = .next (s.went t { a with sys := { a.sys with pmb := [0x03] :: [0x79] :: a.sys.pmb } })) ∧
    (a.sys.unlocked = false → exec (.timebaseUnlock t) s = .next (s.went t
      (unlockUnits.foldl (fun (r : State) v => r.unitFence v Fr.TIME_BASE_UNLOCK) (({ a with sys := { a.sys with unlocked := true } } : State).raise Ev.TIMEBASE_UNLOCK devU 0)))) ∧
    (a.sys.unlocked = true → exec (.timebaseRelock t) s =
      .next (s.went t (({ a with sys := { a.sys with unlocked := false } } : State).raise Ev.TIMEBASE_UNLOCK devU 1)))

/-! ### Jobs (chapter 13) -/

/-- JOB_BOUNDARY, STAGING_DONE and NEW_JOB_START complete on a device that works. JOB_BOUNDARY: at the sample point of a boundary the drain begins, JOB_STATE 4, and the running ports not fenced make
or await their closing fires (R133, R445); where the job that would start there has lost its staged reference or shading set it is lost, and no drain begins (R442, R445); without a sample point, or in a
drain, nothing happens. STAGING_DONE: the staging of a slot that no longer holds a recipe ends with ST_NO_RECIPE, and that of a recipe whose image has changed with ST_RECIPE_DIGEST, its record no longer
loaded (R438); staging whose steps and reliefs are over ends with ST_OK and JOB_STATE 2, unless a drain keeps it, and with LOAD_NOW the start goes on from there, where its conditions hold (R438, R443, R444);
one whose reliefs still run waits. NEW_JOB_START: when the drain of a boundary is complete and a job starts there, no queued start is left, the new lead port leads, and the recipe's record counts one more use,
with the time, the JOB_ID and the firmware version of this one (R52, R446); before that, or where none starts, nothing starts. -/
def Obligations.Job_boundaries_and_starts : Prop :=
  (∀ (s : State) (t : Nat) (ues : List Nat), (s.advance t).isLive = true →
    let a := s.advance t
    (a.job.at_ = none ∨ a.jobState = 4 → exec (.jobBoundary t) s = .next (s.went t a)) ∧
    (∀ sp, a.job.at_ = some sp → a.jobState ≠ 4 →
      ((a.job.startTick = none ∨ a.job.endOnly = true ∨ a.stageMissing = none) →
        let b : State := { ((a.set devU Job.JOB_STATE 4).set devU Job.END_PENDING 0).set devU Job.DUE_REPEAT 0xFFFFFFFF with
          job := { a.job with starts := a.job.startTick.isSome && !a.job.endOnly, lastS := sp, endTick := none } }
        exec (.jobBoundary t) s = .next (s.went t (b.portsRunning.foldl (fun (r : State) p => if r.fenced (portU p) then r else r.closingFire p sp) b))) ∧
      (∀ cause, a.job.startTick.isSome = true → a.job.endOnly = false → a.stageMissing = some cause →
        exec (.jobBoundary t) s = .next (s.went t (({ a with job := { a.job with at_ := none } } : State).stageLost cause 0)))) ∧
    (a.stagingWork = none → exec (.stagingDone t ues) s = .next (s.went t a)) ∧
    (∀ w, a.stagingWork = some w → w.step = 0 → w.op = 0x62 →
      (a.slotRec (nth w.params 0 % 1024) = none → (a.stageFail w St.NO_RECIPE [nth w.params 0 % 1024]).stagingWork = none →
        exec (.stagingDone t ues) s = .next (s.went t (a.stageFail w St.NO_RECIPE [nth w.params 0 % 1024]))) ∧
      (∀ x, a.slotRec (nth w.params 0 % 1024) = some x → a.stageRead (slotBaseR (nth w.params 0 % 1024)) x.length ues = none →
        slotDigest a.dram (slotBaseR (nth w.params 0 % 1024)) x.length ≠ x.digest →
        let r := (a.modSlot (nth w.params 0 % 1024) (fun y => { y with loaded := false })).stageFail w St.RECIPE_DIGEST [nth w.params 0 % 1024]
        r.stagingWork = none → exec (.stagingDone t ues) s = .next (s.went t r))) ∧
    (∀ w, a.stagingWork = some w → w.step = 1 →
      (a.stageReliefs = true → exec (.stagingDone t ues) s = .next (s.went t a)) ∧
      (a.stageReliefs = false →
        let b := if a.jobState = 4 then a else a.set devU Job.JOB_STATE 2
        (w.op = 0x62 → exec (.stagingDone t ues) s = .next (s.went t (b.workEnd w St.OK [b.reg devU Job.STAGE_SEQ]))) ∧
        (w.op ≠ 0x62 → a.jobState ≠ 4 → a.reg devU Job.END_PENDING = 0 →
          let c : State := { b with works := b.works.map (fun x => if x = w then { w with step := 3 } else x) }
          c.scopeBusy c.job.scope = false → c.startRefuse c.stagedPorts = none →
          exec (.stagingDone t ues) s = .next (s.went t (c.startGo (nth w.params 0 % 1024) (nth w.params 0) (nth w.params 1) (tbit w.flags 9))))))) ∧
  (∀ (s : State) (t : Nat), (s.advance t).isLive = true →
    let a := s.advance t
    (a.jobState = 4 → a.job.starts = true → a.drainDone = true →
      ∃ r fw, exec (.newJobStart t) s = .next (s.went t r) ∧ r.job.startTick = none ∧ r.job.starts = false ∧ r.job.remote = false ∧ r.job.lead = a.job.newLead ∧
        r.slots = putSlot a.slots a.job.startSlot ((a.slotRec a.job.startSlot).map (fun x => { x with
          uses := min (x.uses + 1) 0xFFFFFFFF, lastTime := a.ropeAt a.job.lastS, lastJobId := a.job.startId, lastFw := fw }))) ∧
    (a.jobState ≠ 4 ∨ a.job.starts = false ∨ a.drainDone = false → exec (.newJobStart t) s = .next (s.went t a)))

/-! ### The Rope (chapter 14) -/

/-- Six rows complete. PITCH_SYMBOL_LOCK: a pitch that locks begins its link-up (R459). PITCH_LOCK_LOSS: one that loses lock breaks (R471). On a Rope unit that serves, LINK_RETRY: a failed
link-up is tried again when it is due (R459). DELAY_EXCHANGE: sixteen answers give DELAY, and the pitch joins, where they lie within 4; they are taken again, at most four times, where they do
not (R460). ROPE_ACK: an acknowledged message is no longer kept and what waits behind it goes out; a negative answer sends it again, and after three times takes the pitch down (R462).
ROPE_ACK_TIMEOUT: no answer for 2 µs sends it again (R462). -/
def Obligations.Pitches_link_and_acknowledge : Prop :=
  (∀ (s : State) (t k : Nat) (d : Int), k < 5 →
    let a := s.advance t
    (a.sys.inReset = false → exec (.pitchSymbolLock t k) s = .next (s.did t ((a.modPitch k (fun x => { x with locked := true })).linkUp k))) ∧
    (a.sys.inReset = false → exec (.pitchLockLoss t k) s = .next (s.did t ((a.modPitch k (fun x => { x with locked := false })).pitchBreak k))) ∧
    (a.serves ropeU = true → a.linkSt k < 2 → (a.pitch k).retryAt ≤ a.now →
      exec (.linkRetry t k) s = .next (s.went t (((a.setLink k 0 0).pitchClear k).linkUp k))) ∧
    (a.serves ropeU = true → k < 4 → a.linkSt k = 1 → (a.pitch k).phase = 2 →
      ((a.pitch k).exch.length < 15 → exec (.delayExchange t k d) s = .next (s.went t (a.modPitch k (fun x => { x with exch := (a.pitch k).exch ++ [d] })))) ∧
      ((a.pitch k).exch.length = 15 → (((a.pitch k).exch ++ [d]).max?.getD 0) - (((a.pitch k).exch ++ [d]).min?.getD 0) ≤ 4 →
        exec (.delayExchange t k d) s = .next (s.went t ((a.set ropeU Rope.DELAY (pitchDelay ((a.pitch k).exch ++ [d])) k).childJoined k))) ∧
      ((a.pitch k).exch.length = 15 → 4 < (((a.pitch k).exch ++ [d]).max?.getD 0) - (((a.pitch k).exch ++ [d]).min?.getD 0) → (a.pitch k).reps < 4 →
        exec (.delayExchange t k d) s = .next (s.went t (a.modPitch k (fun x => { x with exch := [], reps := x.reps + 1 })))))) ∧
  (∀ (s : State) (t k q : Nat) (m : RSent), (s.advance t).serves ropeU = true → ((s.advance t).pitch k).unacked.find? (fun y => y.lseq == q) = some m →
    let a := s.advance t
    let again := ((a.bump ropeU Rope.RETRIES).modRope (fun r => { r with sent := (k, m.msg.words m.lseq) :: r.sent })).modPitch k
      (fun x => { x with unacked := x.unacked.map (fun y => if y.lseq = m.lseq then { y with tries := y.tries + 1, at_ := a.now } else y) })
    (exec (.ropeAck t k q true) s = .next (s.went t ((a.modPitch k (fun x => { x with unacked := x.unacked.filter (fun y => y.lseq != q) })).pump k))) ∧
    (m.tries < 3 → exec (.ropeAck t k q false) s = .next (s.went t again)) ∧
    (3 ≤ m.tries → exec (.ropeAck t k q false) s = .next (s.went t (a.pitchBreak k))) ∧
    (m.tries < 3 → m.at_ + 3200 ≤ a.now → exec (.ropeAckTimeout t k q) s = .next (s.went t again)) ∧
    (m.at_ + 3200 > a.now → exec (.ropeAckTimeout t k q) s = .next (s.went t a)))

/-- TIME_SEND, TIME, TIME_TIMEOUT and REPORT_TIMER complete on a Rope unit that serves. TIME_SEND: TIME goes down every pitch when its millisecond comes, and the next one is due with the next
(R464). TIME: one with a good CRC on a pitch that is up is followed as a member follows it, one with a bad CRC is counted (R464, R465). TIME_TIMEOUT: 4 ms without it end the slew and the
alignment (R465). REPORT_TIMER: a member that is joined sends its REPORT when its millisecond comes (R469). -/
def Obligations.Rope_time_is_sent_and_followed : Prop :=
  ∀ (s : State) (t : Nat), (s.advance t).serves ropeU = true →
    let a := s.advance t
    (a.ropeS.timeNext ≤ a.now → a.role ≠ 0 → a.fenced ropeU = false →
      let b := a.modRope (fun r => { r with timeNext := a.now / 1600000 * 1600000 + 1600000 })
      exec (.timeSend t) s = .next (s.went t (b.downs.foldl (fun (r : State) k => r.sendTime k) b))) ∧
    (∀ at64 delay up depth, a.linkSt 4 = 2 → a.role = 2 →
      exec (.time t true at64 delay up depth) s = .next (s.went t (a.timeMsg at64 delay up depth)) ∧
      exec (.time t false at64 delay up depth) s = .next (s.went t (a.bump ropeU Rope.CRC_ERRORS))) ∧
    (a.role = 2 → a.ropeS.lastTime + 6400000 ≤ a.now →
      exec (.timeTimeout t) s = .next (s.went t (({ a with ropeT := { a.ropeT with slew := 0 } } : State).setAligned false))) ∧
    (a.ropeS.reportNext ≤ a.now → a.role = 2 → a.linkSt 4 = 2 →
      exec (.reportTimer t) s = .next (s.went t (a.modRope (fun r => { r with reportNext := a.now / 1600000 * 1600000 + 1600000 })).sendReport))

/-- Eleven rows complete on a Rope unit that serves. ARM, JOB, LOST, STATUS_ABORT and STATUS_RESET from the pitch above, when it is up, act as their types say, the last two with the tag in
the low 16 bits of their operand and the node where they arose above it (R450, R461, R468, R470, R471);
REPORT, DONE and JOB_REPLY from a pitch below that is up (R468 to R470); FIRE and MARK from any pitch that is up, FIRE forwarded both ways with its Rope time signalled (R468); JOIN from a pitch that is up or
linking up (R459). A FIRE with a bad CRC is counted in CRC_ERRORS and has no other effect of its own, and one on a pitch that is down has none at all (R461, R462). -/
def Obligations.Rope_messages_are_received : Prop :=
  ∀ (s : State) (t k src x y z w : Nat), (s.advance t).serves ropeU = true → k < 5 →
    let a := s.advance t
    (a.linkSt 4 = 2 → k = 4 →
      exec (.arm t k true src x y z) s = .next (s.went t (a.rxArm 4 src x y z)) ∧ exec (.job t k true src x y) s = .next (s.went t (a.rxJob 4 src x y)) ∧
      exec (.lost t k true src) s = .next (s.went t ((a.setAligned false).ropeFlood { typ := 6, up := false, src := src, dst := allNodes, pay := [5] } 4 false true)) ∧
      exec (.statusAbort t k true x y) s = .next (s.went t (a.abortBegin
        { uid := 0, waiting := [], tag := y % 65536, seq := a.cmdSeq, flags := x % 2 * 4, urgent := true, reset := false, rope := true, src := y / 65536 % 2 ^ 18, fails := [] })) ∧
      (∀ fails, exec (.statusReset t k true y fails) s = .next (s.went t (a.abortBegin
        { uid := 0, waiting := [], tag := y % 65536, seq := a.cmdSeq, flags := 0, urgent := true, reset := true, rope := true, src := y / 65536 % 2 ^ 18, fails := fails })))) ∧
    (a.linkSt k = 2 → k < 4 →
      exec (.report t k true x y z w) s = .next (s.went t (a.reportMsg k x y z w)) ∧ exec (.done t k true x) s = .next (s.went t (a.rxDone k x)) ∧
      exec (.jobReply t k true src x y) s = .next (s.went t (a.rxJobReply k src x y))) ∧
    (a.linkSt k = 2 →
      exec (.fire t k true src y z) s = .next (s.went t ((a.ropeFlood { typ := 2, up := false, src := src, dst := allNodes, pay := [y, z] } k true true).signal
        { sig := 57, port := 0, t := z * 2 ^ 32 + y, line := 0, frac := 0, pix := none, cls := 0, node := src })) ∧
      exec (.mark t k true src x y z w) s = .next (s.went t (a.rxMark k src x y z w))) ∧
    (a.linkSt k = 1 ∨ a.linkSt k = 2 → exec (.join t k true src x y z w) s = .next (s.went t (a.rxJoin k src x y z w))) ∧
    (a.linkSt k = 1 ∨ a.linkSt k = 2 → exec (.fire t k false src y z) s = .next (s.went t (a.bump ropeU Rope.CRC_ERRORS))) ∧
    (a.linkSt k = 0 → exec (.fire t k true src y z) s = .next (s.went t a))

/-! ### Memory, temperature, reset and freeze (chapters 15 and 17) -/

/-- Four rows complete on a device that works, and WCK_TRACKING. SCRUB_PASS: with SCRUB_HOURS not 0 a pass meets the uncorrectable error that it found in fitted memory and is counted in SCRUB_PASSES
(R480). PAGE_RETIRE_DONE: the oldest copy ends, and its page stands in the table at the next page of the reserve (R481). WCK_TRACKING: the oscillators read are kept for write timing
(R476). TJ_UPDATE: the reading is shown, with its peak, WARN at the threshold and ABOVE_RATE above the limit of the rate in force (R584, R585); upsets of queue pointers reported with it
stand from then on (R321, log entry 75). On a frozen device TJ_UPDATE shows the reading too, since PD0 keeps running, and nothing else happens (R543). -/
def Obligations.Memory_upkeep_and_temperature : Prop :=
  (∀ (s : State) (t : Nat), (s.advance t).isLive = true →
    let a := s.advance t
    (a.reg memU R.Mem.SCRUB_HOURS ≠ 0 → exec (.scrubPass t [] []) s = .next (s.went t (a.bump memU R.Mem.SCRUB_PASSES))) ∧
    (∀ e, a.reg memU R.Mem.SCRUB_HOURS ≠ 0 → e < a.fitted → exec (.scrubPass t [] [e]) s = .next (s.went t ((a.memUE e).bump memU R.Mem.SCRUB_PASSES))) ∧
    (∀ page rest, a.memS.copies = page :: rest → a.reserveUsed < a.reservePages → ∃ r, exec (.pageRetireDone t) s = .next (s.went t r) ∧
      r.memS.retired = a.memS.retired ++ [(page, a.reserveBase * 256 + a.reserveUsed)] ∧ r.memS.copies = rest) ∧
    (∀ osc, exec (.wckTracking t osc) s = .next (s.ends t { a with memS := { a.memS with wck := osc } })) ∧
    (∀ tj : Int, ∃ r, exec (.tjUpdate t tj []) s = .next (s.went t r) ∧ r.reg devU Th.TJ = low 16 tj ∧
      r.reg devU Th.TJ_PEAK = low 16 (max tj (sgn 16 (a.reg devU Th.TJ_PEAK))) ∧ r.reg devU Th.WARN = b2n (decide (sgn 16 (a.reg devU Th.TJ_WARN) ≤ tj)) ∧
      r.reg devU Th.ABOVE_RATE = b2n (decide ((if a.part.grade = 2 ∧ a.hotRate then (2000 : Int) else 1680) < tj))) ∧
    (∀ (tj : Int) (ups : List (Nat × Nat)), exec (.tjUpdate t tj ups) s = .next (s.went t (ups.foldl (fun (r : State) q => r.upset q) (a.tjUpdate tj))))) ∧
  (∀ (s : State) (t : Nat) (tj : Int) (ups : List (Nat × Nat)), (s.advance t).frozen = true → (s.advance t).sys.inReset = false →
    exec (.tjUpdate t tj ups) s = .next (s.ends t ((s.advance t).tjUpdate tj)))

/-- Six rows complete in every condition, BOOT_RECOVER where the host reaches the security unit's page. PORESET_N_FALL, and THERMTRIP with Tj at the trip point, put the device in reset: no work, no commit
and no packet is left, RAM is empty; the event and audit logs, the recipe slots, the owner key and the part are kept (R541, R586). PORESET_N_RISE starts a device that has not tripped, and does nothing to one
that has (R537, R586). FREEZE_N_FALL freezes a device that is READY, from this instant, and is only noted by one that is not (R542). FREEZE_N_RISE shows the pin high (R544). BOOT_RECOVER:
while no firmware runs the boot ROM starts on the address written, and while it runs the write has no effect (R500). -/
def Obligations.Resets_and_the_freeze_pin : Prop :=
  (∀ (s : State) (t : Nat) (tj : Int) (u : StartUp),
    let a := s.advance t
    (∃ r, exec (.poresetNFall t) s = .next r ∧ r.sys.inReset = true ∧ r.sys.tripped = false ∧ r.works = [] ∧ r.commits = [] ∧ r.urgentQ = {} ∧ r.normalQ = {} ∧
      r.dram = [] ∧ r.sram = [] ∧ r.evt.log = a.evt.log ∧ r.sec.audit = a.sec.audit ∧ r.sec.ownerHash = a.sec.ownerHash ∧ r.part = s.part ∧ r.pending = s.pending ∧
      r.slots.map (·.1) = s.slots.map (·.1)) ∧
    ((if a.part.grade = 2 then (2160 : Int) else 1920) ≤ tj → a.sys.inReset = false →
      ∃ r, exec (.thermtrip t tj) s = .next r ∧ r.sys.inReset = true ∧ r.sys.tripped = true ∧ r.works = [] ∧ r.evt.log = a.evt.log) ∧
    (a.sys.inReset = true → a.sys.tripped = false →
      exec (.poresetNRise t u) s = .next (s.ends t (((a.startBoot u).startUnits u).startReady u))) ∧
    (a.sys.tripped = true → exec (.poresetNRise t u) s = .next (s.ends t a))) ∧
  (∀ (s : State) (t v : Nat),
    let a := s.advance t
    let b := ({ a with pow := { a.pow with pinLow := true } } : State).set frzU Frz.PIN_LOW 1
    (b.ready = true → b.frozen = false → ∃ r, exec (.freezeNFall t) s = .next r ∧ r.frozen = true ∧ r.pow.pinLow = true ∧ r.pow.haltAt = a.now) ∧
    (b.ready = false → exec (.freezeNFall t) s = .next (s.ends t b)) ∧
    (exec (.freezeNRise t) s = .next (s.ends t (({ a with pow := { a.pow with pinLow := false } } : State).set frzU Frz.PIN_LOW 0))) ∧
    (a.reached = true → a.windowOk secU = true → a.reg bar0 Cmd.SEQ_RUNNING ≠ 1 →
      exec (.bootRecover t v) s = .next (s.ran t { a with sec := { a.sec with booting := some (some (v / 64 * 64)) } })) ∧
    (a.reached = true → a.windowOk secU = true → a.reg bar0 Cmd.SEQ_RUNNING = 1 → exec (.bootRecover t v) s = .next (s.ran t a)))

/-! ### Security and the sideband (chapters 16 and 19) -/

/-- CHALLENGE_LAPSE completes unless the device is in reset, FIRMWARE_READY and LONG_WORK_END on a device that works. CHALLENGE_LAPSE: an owner challenge is gone 600 s after its issue and not before
(R509). FIRMWARE_READY: the boot ROM ends; where it has found firmware it answers the resets that waited for it (R107, R499). LONG_WORK_END: the work of ATTEST, AUDIT_EXPORT, BUNDLE_EXPORT,
BUNDLE_IMPORT and FW_UPDATE ends as the command says (R84). -/
def Obligations.Security_events_act : Prop :=
  ∀ (s : State) (t : Nat),
    let a := s.advance t
    (∀ x d, a.sys.inReset = false → a.sec.challenge = some (x, d) → d + 960000000000 ≤ a.now →
      exec (.challengeLapse t) s = .next (s.ends t { a with sec := { a.sec with challenge := none } })) ∧
    (∀ x d, a.sys.inReset = false → a.sec.challenge = some (x, d) → a.now < d + 960000000000 → exec (.challengeLapse t) s = .next (s.ends t a)) ∧
    (a.isLive = true → a.bootEnds.reg bar0 Cmd.SEQ_RUNNING = 1 → exec (.firmwareReady t) s = .next (s.went t
      ((a.bootEnds.aborts.filter (·.boot)).foldl (fun (r : State) x => r.abortReply x) { a.bootEnds with aborts := a.bootEnds.aborts.filter (fun x => !x.boot) }))) ∧
    (a.isLive = true → a.bootEnds.reg bar0 Cmd.SEQ_RUNNING = 0 → exec (.firmwareReady t) s = .next (s.went t a.bootEnds)) ∧
    (∀ w env, a.isLive = true →
      (a.workOf 0x81 secU = some w → exec (.longWorkEnd t 0x81 env) s = .next (s.went t (a.attestEnd w))) ∧
      (a.workOf 0x8B secU = some w → exec (.longWorkEnd t 0x8B env) s = .next (s.went t (a.auditExportEnd w))) ∧
      (a.workOf 0x8C secU = some w → exec (.longWorkEnd t 0x8C env) s = .next (s.went t (a.bundleExportEnd w))) ∧
      (a.workOf 0x8D secU = some w → exec (.longWorkEnd t 0x8D env) s = .next (s.went t (a.bundleImportEnd w env))) ∧
      (a.workOf 0x87 secU = some w → exec (.longWorkEnd t 0x87 env) s = .next (s.went t (a.fwUpdateEnd w env))))

/-- Sixteen rows complete in every condition of the device. SMB_STATUS, SMB_TEMP, SMB_POWER, SMB_IDENTITY and SMB_VCORE answer and change nothing else (R599). DEVICE_RESET with A5H resets a device that is out
of reset and starts it again, any other byte does nothing (R600). IDCODE and BYPASS answer (R598). EXTEST, SAMPLE_PRELOAD, EXTEST_PULSE and EXTEST_TRAIN keep the bits shifted in and show a
captured value that no rule fixes (R598). CHALLENGE shifts out SERIAL and a fresh nonce, which is the challenge that stands (R518). UNLOCK with a good signature opens its scope (R519).
FREEZE_READ and SCAN_STATE answer where the debug policy leaves them open, and FREEZE_READ acts as BYPASS where it is closed (R549, R598). -/
def Obligations.Sideband_answers : Prop :=
  (∀ (s : State) (t v : Nat) (u : StartUp),
    let a := s.advance t
    (exec (.smbStatus t) s = .next (s.ends t { a with rdata := [a.reg devU Pd.READY + b2n a.frozen * 2 + a.reg bar0 Cmd.SEQ_RUNNING * 4 + a.reg devU Th.WARN * 8 +
      a.reg devU Th.ABOVE_RATE * 16 + a.reg devU Pd.START_FAIL * 256] })) ∧
    (exec (.smbTemp t) s = .next (s.ends t { a with rdata := [a.reg devU Th.TJ] })) ∧ (exec (.smbPower t) s = .next (s.ends t { a with rdata := [a.reg devU Pd.PD_STAT] })) ∧
    (exec (.smbIdentity t) s = .next (s.ends t { a with
      rdata := [s.part.part % 2 ^ 16 + s.part.grade % 16 * 2 ^ 16 + s.part.siliconRev % 256 * 2 ^ 20, nth s.part.serial 0, nth s.part.serial 1, nth s.part.serial 2,
        nth s.part.serial 3] })) ∧
    (exec (.smbVcore t) s = .next (s.ends t { a with rdata := [a.reg devU Th.VCORE_READ] })) ∧
    (v % 256 = 0xA5 → a.sys.inReset = false → exec (.deviceReset t v u) s = .next (s.ends t (a.deviceReset.poresetRise u))) ∧
    (v % 256 ≠ 0xA5 → exec (.deviceReset t v u) s = .next (s.ends t a))) ∧
  (∀ (s : State) (t x code : Nat),
    let a := s.advance t
    (exec (.idcode t) s = .next (s.ends t { a with
      sys := { a.sys with jtagIr := 1, extest := false }, rdata := [s.part.siliconRev % 16 * 2 ^ 28 + s.part.part % 2 ^ 16 * 2 ^ 12 + 0x2D3 * 2 + 1] })) ∧
    (exec (.bypass t code) s = .next (s.ends t { a with sys := { a.sys with jtagIr := 0xFF, extest := false }, rdata := [] })) ∧
    (∃ w, exec (.extest t x) s = .next (s.ends t { a with sys := { a.sys with jtagIr := 0, extest := true, bscan := x }, rdata := [w], draw := a.draw + 1 }) ∧
      exec (.samplePreload t x) s = .next (s.ends t { a with sys := { a.sys with jtagIr := 2, extest := false, bscan := x }, rdata := [w], draw := a.draw + 1 }) ∧
      exec (.extestPulse t x) s = .next (s.ends t { a with sys := { a.sys with jtagIr := 3, extest := true, bscan := x }, rdata := [w], draw := a.draw + 1 }) ∧
      exec (.extestTrain t x) s = .next (s.ends t { a with sys := { a.sys with jtagIr := 4, extest := true, bscan := x }, rdata := [w], draw := a.draw + 1 })) ∧
    (∃ r ws, exec (.challenge t) s = .next r ∧ r.rdata = (List.range 4).map (nth s.part.serial) ++ ws ∧ ws.length = 16 ∧
      r.sec.challenge = some (wordBytes ws, a.now)) ∧
    (a.debugClosed 1 = false → exec (.freezeRead t x) s = .next (s.ends t { a with
      sys := { a.sys with jtagIr := 0x30, extest := false },
      rdata := (List.range 1024).map (fun i => if a.readoutOk then a.bankWordAt (x % 65536) (bits x 23 16) i else 0) })) ∧
    (a.debugClosed 1 = true → exec (.freezeRead t x) s = .next (s.ends t { a with sys := { a.sys with jtagIr := 0xFF, extest := false }, rdata := [] })) ∧
    (a.debugClosed 2 = false → uidOk (x % 65536) = true → exec (.scanState t x) s = .next (s.ends t { a with
      sys := { a.sys with jtagIr := 0x31, extest := false }, rdata := a.statusBlock (x % 65536) })) ∧
    (∀ scope sig nonce r, scope = 1 ∨ scope = 2 → (a.jtag 0x21).ownerAuth 0 [scope] sig = (r, .inr nonce) →
      exec (.unlock t scope sig) s = .next (s.ends t (r.debugOpen scope nonce true))))

/-! ### Packets (chapters 02 and 18). `x o` is the packet of command o, `b o` the state in which it is executed, `k o` the packet as the device holds it. -/

/-- Five rows complete when their packet is taken. ABORT and RESET_UNIT begin an abort of the unit or group that answers for itself (R104, R106). FREEZE freezes a device that is not frozen, with source 1
(R543, R560). THAW resumes a frozen device whose pin is high and answers the length of the freeze; while the pin is low it is answered with ST_FROZEN (R544, R545). GET_STATUS answers the eight words of the status
block (R18, R560). -/
def Obligations.Urgent_packets_complete : Prop :=
  ∀ (s : State) (t : Nat) (urgent : Bool) (tag uid flags : Nat) (params : List Nat) (env : Option Nat) (fails : List Nat),
    let x (o : Op) : Sent := ⟨t, urgent, o, tag, uid, flags, params, env, if o = .resetUnit then fails else []⟩
    let b (o : Op) := (x o).before s
    let k (o : Op) := (x o).pkt s
    ((x .abort).taken s = true → exec (.abort t urgent tag uid flags params env) s =
      .next (s.ran t (((b .abort).tagged .abort (k .abort)).cmdAbort (k .abort) false []).cmdRegs)) ∧
    ((x .resetUnit).taken s = true → exec (.resetUnit t urgent tag uid flags params env fails) s =
      .next (s.ran t (((b .resetUnit).tagged .resetUnit (k .resetUnit)).cmdAbort (k .resetUnit) true fails).cmdRegs)) ∧
    ((x .freeze).taken s = true → (b .freeze).frozen = false → ∃ r, exec (.freeze t urgent tag uid flags params env) s =
      .next ((x .freeze).answered s (r, St.OK, [r.reg frzU Frz.FRZ_TIME_LO])) ∧ r = (b .freeze).freeze 1 ∧ r.frozen = true ∧ r.pow.haltAt = (b .freeze).now) ∧
    ((x .thaw).taken s = true → (b .thaw).frozen = true → (b .thaw).pow.pinLow = false → ∃ r, exec (.thaw t urgent tag uid flags params env) s =
      .next ((x .thaw).answered s (r, St.OK, [lo32 r.frzLen, hi32 r.frzLen])) ∧ r = (b .thaw).thawGo ∧ r.frozen = false) ∧
    ((x .thaw).taken s = true → (b .thaw).frozen = true → (b .thaw).pow.pinLow = true → exec (.thaw t urgent tag uid flags params env) s =
      .next ((x .thaw).answered s (b .thaw, St.FROZEN, [0]))) ∧
    ((x .getStatus).taken s = true → exec (.getStatus t urgent tag uid flags params env) s =
      .next ((x .getStatus).answered s (b .getStatus, St.OK, (b .getStatus).statusBlock (k .getStatus).uid)))

/-- COMMIT and UNIT_WRITE complete when their packet is taken. COMMIT: one that finds room in every queue, no staged unit, and sets that pass their checks takes the next number and answers it, and the sets
that it queues are open no more (R42, R44, R45, R561). UNIT_WRITE: its words each writable, it writes them in their order and answers 0; with flag 8 what it answers is what a COMMIT of its unit answers then, which the first
clause gives, and for a unit that COMMIT does not take the words are written and the answer is that refusal (R562). -/
def Obligations.Set_packets_complete : Prop :=
  ∀ (s : State) (t : Nat) (urgent : Bool) (tag uid flags : Nat) (params : List Nat) (env : Option Nat),
    let x (o : Op) : Sent := ⟨t, urgent, o, tag, uid, flags, params, env, []⟩
    let b (o : Op) := (x o).before s
    let k (o : Op) := (x o).pkt s
    ((x .commit).taken s = true →
      let a := b .commit
      let u := (k .commit).uid
      let q := a.queueing u
      (∀ v, v ∈ q → (a.commits.filter (fun c => c.uid == v)).length < 4) → (∀ v, v = u ∨ v ∈ q → a.job.scope.contains v = false) →
      setChecks a (a.prospect []) (a.prospect (q.map (fun v => (v, a.snapOf v)))) q = none →
      ∃ r, exec (.commit t urgent tag uid flags params env) s = .next ((x .commit).answered s (r, St.OK, [a.commitNext])) ∧
        r.commitNext = (if 0xFFFF ≤ a.commitNext then 1 else a.commitNext + 1) ∧ r.openSets = a.openSets.filter (fun o => !q.contains o.1)) ∧
    ((x .unitWrite).taken s = true → (k .unitWrite).flag 8 = false →
      (∀ j, j < params.length / 2 → (b .unitWrite).entryBad (k .unitWrite).uid (nth params (2 * j)) (nth params (2 * j + 1)) = false) →
      exec (.unitWrite t urgent tag uid flags params env) s = .next ((x .unitWrite).answered s
        ((List.range (params.length / 2)).foldl (fun (r : State) j =>
          r.pageWrite (k .unitWrite).uid (bits (nth params (2 * j)) 14 12) (nth params (2 * j) % 4096) (nth params (2 * j + 1))) (b .unitWrite), St.OK, [0]))) ∧
    ((x .unitWrite).taken s = true → (k .unitWrite).flag 8 = true → Op.commit.takes (k .unitWrite).uid = true →
      (∀ j, j < params.length / 2 → (b .unitWrite).entryBad (k .unitWrite).uid (nth params (2 * j)) (nth params (2 * j + 1)) = false) →
      exec (.unitWrite t urgent tag uid flags params env) s = .next ((x .unitWrite).answered s
        (((List.range (params.length / 2)).foldl (fun (r : State) j =>
          r.pageWrite (k .unitWrite).uid (bits (nth params (2 * j)) 14 12) (nth params (2 * j) % 4096) (nth params (2 * j + 1))) (b .unitWrite)).cmdCommit (k .unitWrite).uid false))) ∧
    ((x .unitWrite).taken s = true → (k .unitWrite).flag 8 = true → Op.commit.takes (k .unitWrite).uid = false →
      (∀ j, j < params.length / 2 → (b .unitWrite).entryBad (k .unitWrite).uid (nth params (2 * j)) (nth params (2 * j + 1)) = false) →
      exec (.unitWrite t urgent tag uid flags params env) s = .next ((x .unitWrite).answered s
        ((List.range (params.length / 2)).foldl (fun (r : State) j =>
          r.pageWrite (k .unitWrite).uid (bits (nth params (2 * j)) 14 12) (nth params (2 * j) % 4096) (nth params (2 * j + 1))) (b .unitWrite), St.UNSUPPORTED, [(k .unitWrite).uid])))

/-- Six rows complete when their packet is taken. PG_LOAD: a sound program of an aligned range in memory, for a bank neither running nor selected by a pending commit, is put into the bank (R121, R564).
REF_TRACE: a value within 0.2 % of the trim becomes the reference, with its record; flag 8 takes the trim again (R148). LUT_LOAD: the planes named, of an aligned range, for a port that no pending start waits for, are staged in their order,
the other planes stay as they were staged, and nothing in force changes (R223). EB_RELEASE ends the hold of every port named that a STOP holds and answers those ports (R269, R566). AFE_CALIBRATE, when no channel named lacks its spare, starts its work on the channels named,
where no work of this kind stands that has no channel left and no other calibration waits to be taken up; on an idle port the first of the channels is taken up at once and the others wait their turn (R157, R159). SHADING_CAPTURE of a
port that runs neither a job nor a capture, its parameters and conditions in order, starts its work (R224, R564). -/
def Obligations.Port_packets_complete : Prop :=
  (∀ (s : State) (t : Nat) (urgent : Bool) (tag uid flags : Nat) (params : List Nat) (env : Option Nat),
    let x (o : Op) : Sent := ⟨t, urgent, o, tag, uid, flags, params, env, []⟩
    let b (o : Op) := (x o).before s
    let k (o : Op) := (x o).pkt s
    ((x .pgLoad).taken s = true →
      let a := b .pgLoad
      let p := uInst (k .pgLoad).uid
      let base := (k .pgLoad).addr 0
      let n := (k .pgLoad).p 2 % 8192
      let bank := bits ((k .pgLoad).p 2) 16 16
      let prog := (List.range n).map (fun i => stepAt a.dram (base + 8 * i))
      base % 8 = 0 → a.inDram base (8 * n) = true → ((k .pgLoad).p 2 &&& 0xFFFEE000) = 0 → 1 ≤ n → n ≤ 4096 → ((a.port p).started && (a.port p).bank == bank) = false →
      a.commits.any (fun c => c.uid == portU p && vw a c.snap (portU p) Port.BANK == bank) = false → a.readError base (8 * n) env = none →
      progFail prog ((List.range n).map (fun i => 2 ^ 26 ≤ Machine.Mem.rd32 a.dram (base + 8 * i + 4))) = none →
      exec (.pgLoad t urgent tag uid flags params env) s = .next ((x .pgLoad).answered s (a.bankPut p bank prog, St.OK, []))) ∧
    ((x .refTrace).taken s = true → (k .refTrace).flag 8 = false →
      let a := b .refTrace
      let v := (k .refTrace).p 0
      (Int.ofNat v - Int.ofNat a.part.refTrimUv).natAbs * 500 ≤ a.part.refTrimUv →
      ∃ r : State, exec (.refTrace t urgent tag uid flags params env) s = .next ((x .refTrace).answered s (r.raise Ev.REF_TRACE calU v, St.OK, [v])) ∧
        r.reg calU CalRef.REF_TRACE_UV = v % 2 ^ CalRef.REF_TRACE_UV.width ∧ r.reg calU CalRef.REF_USE_UV = v % 2 ^ CalRef.REF_USE_UV.width ∧
        r.memS.trace = some ((k .refTrace).p 1, a.rope)) ∧
    ((x .refTrace).taken s = true → (k .refTrace).flag 8 = true →
      ∃ r : State, exec (.refTrace t urgent tag uid flags params env) s =
        .next ((x .refTrace).answered s (r.raise Ev.REF_TRACE calU s.part.refTrimUv, St.OK, [s.part.refTrimUv])) ∧
        r.reg calU CalRef.REF_TRACE_UV = 0 ∧ r.memS.trace = none) ∧
    ((x .lutLoad).taken s = true →
      let a := b .lutLoad
      let p := uInst (k .lutLoad).uid
      let base := (k .lutLoad).addr 0
      let mask := (k .lutLoad).p 2
      let len := 4096 * ([0, 1, 2, 3].filter (tbit mask)).length
      base % 64 = 0 → a.inDram base len = true → mask ≠ 0 → mask < 16 → (a.jobState == 3 && a.stagedPorts.contains (uInst (k .lutLoad).uid)) = false →
      a.readError base len env = none →
      ∃ r, exec (.lutLoad t urgent tag uid flags params env) s = .next ((x .lutLoad).answered s (r, St.OK, [])) ∧ r.works = a.works ∧ r.dram = a.dram ∧ r.active = a.active ∧
        (∀ j, j ≠ p → r.port j = a.port j) ∧ (r.port p).lutActive = (a.port p).lutActive ∧
        (∀ q n i, ([0, 1, 2, 3].filter (tbit mask))[n]? = some q → i < 4096 → p < 8 →
          lutOf (r.port p).lutStaged q i = (Machine.Mem.get a.dram (base + 4096 * n + i)).toNat) ∧
        (∀ q i, q < 4 → tbit mask q = false → i < 4096 → p < 8 → lutOf (r.port p).lutStaged q i = lutOf (a.port p).lutStaged q i)) ∧
    ((x .ebRelease).taken s = true →
      let ps := (if uInst (k .ebRelease).uid = 15 then (b .ebRelease).portsOn else [uInst (k .ebRelease).uid]).filter (b .ebRelease).heldStop
      exec (.ebRelease t urgent tag uid flags params env) s = .next ((x .ebRelease).answered s
        (ps.foldl (fun (r : State) p => ([0, 1].foldl (fun (r : State) c => r.setC (clU c) p Ctx.HELD_STOP 0 0) r).portRefresh p) (b .ebRelease), St.OK,
          [ps.foldl (fun (m : Nat) p => m + 2 ^ p) 0])))) ∧
  (∀ (s : State) (t : Nat) (urgent : Bool) (tag uid flags : Nat) (params : List Nat) (env : Option Nat),
    let x (o : Op) : Sent := ⟨t, urgent, o, tag, uid, flags, params, env, []⟩
    let b (o : Op) := (x o).before s
    let k (o : Op) := (x o).pkt s
    ((x .afeCalibrate).taken s = true →
      let a := b .afeCalibrate
      let u := (k .afeCalibrate).uid
      (∀ p c, p < 8 → c ∈ a.calTargets u p → a.needsSpare p c = false) →
      ∃ r, exec (.afeCalibrate t urgent tag uid flags params env) s = .next ((x .afeCalibrate).answered s (r, St.OK, [])) ∧
        (∀ p c l, p < 8 → uInst u = p → a.powered (portU p) = true → a.calTargets u p = c :: l →
          (∀ w, w ∈ a.works → w.op = 0x21 → ∃ q, q < 8 ∧ nth w.data (4 * q) ≠ 0) → (a.port p).relief ≠ none ∨ (a.port p).capture ≠ none ∨ (a.port p).queueCal = [] →
          (∃ w, w ∈ r.works ∧ w.op = (k .afeCalibrate).op ∧ w.uid = u ∧ w.tag = (k .afeCalibrate).tag ∧ nth w.data (4 * p) = (c :: l).foldl (fun (m : Nat) y => m + 2 ^ y.1) 0) ∧
          ((a.port p).jobOn = false → (a.port p).relief = none → (a.port p).capture = none → (a.port p).queueCal = [] →
            (∃ z, (r.port p).relief = some z ∧ z.chan = c.1 ∧ z.phase = 3 ∧ z.inPlace = true ∧ z.reqAt = a.now) ∧ (r.port p).queueCal.length = l.length))) ∧
    ((x .shadingCapture).taken s = true →
      let a := b .shadingCapture
      let p := uInst (k .shadingCapture).uid
      let p0 := (k .shadingCapture).p 0
      (a.port p).jobOn = false → (a.port p).capture = none → capParams (k .shadingCapture) = none →
      (a.act (portU p) Port.SHUTTER = 1 ∨ a.act (portU p) Port.LINE_PERIOD_MIN ≤ a.act (portU p) Port.NOMINAL_PERIOD) →
      (p0 % 4 ≠ 2 ∨ a.act (pipeU p) Pipe.TEMP_SRC ≠ 0) → (p0 % 4 = 0 ∨ tbit (hdr a.dram (slotBase (bits p0 15 8)) 0) 24 = true) →
      a.readError (slotBase (bits p0 15 8)) 256 env = none →
      ∃ r, exec (.shadingCapture t urgent tag uid flags params env) s = .next ((x .shadingCapture).answered s (r, St.OK, [])) ∧
        r.works = a.works ++ [{ uid := (k .shadingCapture).uid, op := 0x23, tag := (k .shadingCapture).tag, params := params, flags := (k .shadingCapture).flags, data := [] }]))

/-- Three rows complete when their packet is taken. TRIG_ARM, armed by the host, arms or disarms at once, or with flag 8 at a time to come; armed over the Rope, at the leader, it is sent and answered (R281, R282, R567).
DMA_START of a stopped channel with a chain and a status address sends it to its chain and clears its counts (R327). MOVE of an aligned range inside the memory, whose destination the device does not own, with room in its mover's
queue, starts its work (R341). -/
def Obligations.Trigger_and_transfer_packets_complete : Prop :=
  ∀ (s : State) (t : Nat) (urgent : Bool) (tag uid flags : Nat) (params : List Nat) (env : Option Nat),
    let x (o : Op) : Sent := ⟨t, urgent, o, tag, uid, flags, params, env, []⟩
    let b (o : Op) := (x o).before s
    let k (o : Op) := (x o).pkt s
    ((x .trigArm).taken s = true → (k .trigArm).p 0 < 2 → (b .trigArm).reg trigU Trig.ARM_SRC ≠ 1 →
      ((k .trigArm).flag 8 = false → (k .trigArm).p 1 = 0 → (k .trigArm).p 2 = 0 → ∃ r, exec (.trigArm t urgent tag uid flags params env) s =
        .next ((x .trigArm).answered s (r, St.OK, [r.reg trigU Trig.STATE])) ∧ r = (b .trigArm).armNow (tbit ((k .trigArm).p 0) 0) false) ∧
      ((k .trigArm).flag 8 = true → (b .trigArm).rope < (k .trigArm).p 2 * 2 ^ 32 + (k .trigArm).p 1 →
        ∃ r, exec (.trigArm t urgent tag uid flags params env) s = .next ((x .trigArm).answered s (r, St.OK, [r.reg trigU Trig.STATE])) ∧
          r.trig.armAt = some ((k .trigArm).p 2 * 2 ^ 32 + (k .trigArm).p 1, tbit ((k .trigArm).p 0) 0) ∧ r.trig.armed = (b .trigArm).trig.armed)) ∧
    ((x .trigArm).taken s = true → (k .trigArm).p 0 < 2 → (b .trigArm).reg trigU Trig.ARM_SRC = 1 → (b .trigArm).role = 1 → ((k .trigArm).flag 8 = false → (k .trigArm).p 1 = 0 ∧ (k .trigArm).p 2 = 0) →
      ∃ r m, exec (.trigArm t urgent tag uid flags params env) s = .next ((x .trigArm).answered s (r, St.OK, [r.reg trigU Trig.STATE])) ∧
        r.ropeS.lastArm = some m ∧ m.typ = 1 ∧ m.src = (b .trigArm).node ∧ nth m.pay 0 = b2n (tbit ((k .trigArm).p 0) 0)) ∧
    ((x .dmaStart).taken s = true →
      let a := b .dmaStart
      let c := uInst (k .dmaStart).uid * 16 + uSub (k .dmaStart).uid - 1
      let chain := a.reg (dmaU c) Dma.CHAIN_HI * 2 ^ 32 + a.reg (dmaU c) Dma.CHAIN_LO * 32
      (a.dma c).st = 0 → chain ≠ 0 → a.reg (dmaU c) Dma.STATUS_HI * 2 ^ 32 + a.reg (dmaU c) Dma.STATUS_LO * 32 ≠ 0 →
      exec (.dmaStart t urgent tag uid flags params env) s = .next ((x .dmaStart).answered s
        ((((((a.set (dmaU c) Dma.XFER_SEQ 0).set (dmaU c) Dma.BYTES_LO 0).set (dmaU c) Dma.BYTES_HI 0).modDma c DmaSt.clear).dmaGo c chain), St.OK, []))) ∧
    ((x .move).taken s = true →
      let a := b .move
      let u := (k .move).uid
      let src := (k .move).p 1 * 2 ^ 32 + (k .move).p 0
      let dst := (k .move).p 3 * 2 ^ 32 + (k .move).p 2
      let len := (k .move).p 4
      src % 64 = 0 → dst % 64 = 0 → len % 64 = 0 → len ≠ 0 → (if tbit (k .move).flags 8 then src + len ≤ 2 ^ 23 else src + len ≤ a.fitted) → dst + len ≤ a.fitted →
      a.ownedRange dst len = false → (a.moves u).length < 4 →
      exec (.move t urgent tag uid flags params env) s = .next ((x .move).answered s ((a.workStart (k .move) u []).moverRegs u, St.OK, [])))

/-- Four rows complete when their packet is taken. AXIS_MOVE: a move within its limits joins the queue of its axis, or with REPLACE, where no link holds the axis, takes the place of all its moves: from rest, blended from the
speed that the axis has where it can still stop, or after a stop at the old deceleration (R353, R358, R571). AXIS_LINEAR: moves within their limits link their axes (R359, R570). AXIS_STOP stops its axis, or every axis that is
powered (R361, R571). AXIS_RESUME brings back the move that a stop has kept, of an axis that is not fenced, that no scan owns and no link holds (R362), and of an axis that a scan owns ends the hold of the host (R399). -/
def Obligations.Axis_moves_complete : Prop :=
  ∀ (s : State) (t : Nat) (urgent : Bool) (tag uid flags : Nat) (params : List Nat) (env : Option Nat),
    let x (o : Op) : Sent := ⟨t, urgent, o, tag, uid, flags, params, env, []⟩
    let b (o : Op) := (x o).before s
    let k (o : Op) := (x o).pkt s
    ((x .axisMove).taken s = true →
      let a := b .axisMove
      let q := k .axisMove
      let i := uInst q.uid
      let m : AxMove := {
        target := sgn 40 (low 40 ((if !q.flag 8 then 0 else if q.flag 9 then (a.axis i).whole else (a.axis i).endOf) + q.pos 0)), speed := q.p 2, accel := q.p 3, decel := q.p 4,
        jerk := q.p 5, tag := q.tag, notify := q.flag 0 }
      q.p 1 < 256 → 1 ≤ m.speed → m.speed ≤ a.act (axU i) Axis.VMAX → 1 ≤ m.accel → m.accel ≤ a.act (axU i) Axis.AMAX → 1 ≤ m.decel →
      m.decel ≤ a.act (axU i) Axis.AMAX → a.moveRefuse i m (q.flag 9) = none →
      (q.flag 9 = false → ∃ r, exec (.axisMove t urgent tag uid flags params env) s = .next ((x .axisMove).answered s (r, St.OK, [(r.axis i).queue.length])) ∧
        r = (a.modAxis i (fun y => { y with queue := y.queue ++ [m] })).axisRegs i) ∧
      (q.flag 9 = true → a.linkOf i = none → (a.axis i).prof.v = 0 → ∃ r, exec (.axisMove t urgent tag uid flags params env) s =
        .next ((x .axisMove).answered s (r, St.OK, [(r.axis i).queue.length])) ∧
        r = ((a.modAxis i (fun y => { y with queue := [], kept := none, replaced := true })).modAxis i
          (fun y => { y with gen := 0, move := none, after := 0, queue := [m] })).axisRegs i) ∧
      (q.flag 9 = true → a.linkOf i = none → (a.axis i).prof.v ≠ 0 →
        let c := a.modAxis i (fun y => { y with queue := [], kept := none, replaced := true })
        let reaches : Bool := Int.ofNat (brakeDist (a.axis i).prof.v 0 (convA m.decel)) ≤ (m.target * ustep - (a.axis i).pos) * (a.axis i).dir * 2 ^ 16
        let dec := if (a.axis i).gen = 2 then (a.axis i).stopDec else match (a.axis i).move with | some o => convA o.decel | none => convA m.decel
        let set := RegMap.ofUid c.active (axU i)
        ∃ r, exec (.axisMove t urgent tag uid flags params env) s = .next ((x .axisMove).answered s (r, St.OK, [(r.axis i).queue.length])) ∧
          (reaches = true → r = (c.modAxis i (fun y => { y with gen := 1, after := 0, move := some m, prof := { v := (a.axis i).prof.v }, set := set })).axisRegs i) ∧
          (reaches = false → r = (c.modAxis i (fun y => { (y.brake dec 1) with move := some m, set := set })).axisRegs i))) ∧
    ((x .axisLinear).taken s = true →
      let a := b .axisLinear
      let q := k .axisLinear
      let ms := a.linearMoves q
      let v (f : Field) := a.act (axU (a.linearLongest ms)) f
      q.params.length = 5 + 2 * q.axes.length → q.p 0 < 256 → 2 ≤ q.axes.length → 1 ≤ q.p 1 → q.p 1 ≤ v Axis.VMAX → 1 ≤ q.p 2 → q.p 2 ≤ v Axis.AMAX → 1 ≤ q.p 3 → q.p 3 ≤ v Axis.AMAX →
      (∀ j, j < q.axes.length → q.p (6 + 2 * j) < 256) → (∀ m, m ∈ ms → a.moveRefuse m.1 m.2 false = none) →
      ∃ r, exec (.axisLinear t urgent tag uid flags params env) s = .next ((x .axisLinear).answered s (r, St.OK, [0])) ∧
        r.links = a.links ++ [{ id := a.linkId, members := ms.map (fun y => (y.1, 0, 0)), dmax := 0, speed := q.p 1, accel := q.p 2, decel := q.p 3, jerk := q.p 4 }]) ∧
    ((x .axisStop).taken s = true → uInst (k .axisStop).uid < 8 → (b .axisStop).powered (axU (uInst (k .axisStop).uid)) = true →
      ∃ r, exec (.axisStop t urgent tag uid flags params env) s = .next ((x .axisStop).answered s (r, St.OK, [r.reg (k .axisStop).uid Axis.REMAIN_LO])) ∧
        r = (b .axisStop).cmdAxisStop (uInst (k .axisStop).uid) ((k .axisStop).flag 8)) ∧
    ((x .axisStop).taken s = true → uInst (k .axisStop).uid = 15 →
      exec (.axisStop t urgent tag uid flags params env) s = .next ((x .axisStop).answered s
        (([0, 1, 2, 3, 4, 5, 6, 7].filter (fun i => (b .axisStop).powered (axU i))).foldl (fun (r : State) i => r.cmdAxisStop i ((k .axisStop).flag 8)) (b .axisStop), St.OK, [0]))) ∧
    (∀ m, (x .axisResume).taken s = true →
      let a := b .axisResume
      let i := uInst (k .axisResume).uid
      a.owned i = false → a.fenced (axU i) = false → (a.axis i).kept = some m → (a.axis i).keptEpoch = a.reg (axU i) Axis.POS_EPOCH → a.limitAt i (m.target - (a.axis i).whole) = none → m.link = 0 → a.linkOf i = none →
      a.softOk i m.target = true →
      exec (.axisResume t urgent tag uid flags params env) s = .next ((x .axisResume).answered s
        ((a.modAxis i (fun y => { y with kept := none, queue := m :: y.queue })).axisRegs i, St.OK, [0]))) ∧
    ((x .axisResume).taken s = true →
      let a := b .axisResume
      let u := axU (uInst (k .axisResume).uid)
      a.owned (uInst (k .axisResume).uid) = true → tbit (a.reg u Belay.CAUSES) 2 = true →
      exec (.axisResume t urgent tag uid flags params env) s = .next ((x .axisResume).answered s
        (a.set u Belay.CAUSES (setBit (a.reg u Belay.CAUSES) 2 false), St.OK, [0])))

/-- Three rows complete when their packet is taken, on a resting axis that no scan owns. AXIS_SET_POSITION gives it its position at the next update (R365). AXIS_IDENTIFY of an axis in mode 1 with no move kept starts its
first measurement, and with flag 8 forgets what was measured (R376, R377). AXIS_HOME with its parameters in their limits starts the sequence it names (R379, R380, R571). -/
def Obligations.Axis_positions_complete : Prop :=
  ∀ (s : State) (t : Nat) (urgent : Bool) (tag uid flags : Nat) (params : List Nat) (env : Option Nat),
    let x (o : Op) : Sent := ⟨t, urgent, o, tag, uid, flags, params, env, []⟩
    let b (o : Op) := (x o).before s
    let k (o : Op) := (x o).pkt s
    ((x .axisSetPosition).taken s = true →
      let a := b .axisSetPosition
      let i := uInst (k .axisSetPosition).uid
      a.reg (axU i) Axis.MOTION = 0 → a.owned i = false → (k .axisSetPosition).p 1 < 256 →
      ∃ r, exec (.axisSetPosition t urgent tag uid flags params env) s = .next ((x .axisSetPosition).answered s (r, St.OK, [r.reg (axU i) Axis.POS_EPOCH])) ∧
        r = (((a.modAxis i (fun y => { y with setPos := some ((k .axisSetPosition).pos 0), kept := none, queue := [] })).epochStep i).set (axU i)
          Axis.REF_UNVERIFIED 0).axisRegs i) ∧
    ((x .axisIdentify).taken s = true →
      let a := b .axisIdentify
      let q := k .axisIdentify
      let i := uInst q.uid
      a.reg (axU i) Axis.MOTION = 0 → (a.axis i).kept = none → a.act (axU i) Axis.MODE = 1 → a.owned i = false →
      (q.flag 8 = true → exec (.axisIdentify t urgent tag uid flags params env) s =
        .next ((x .axisIdentify).answered s ((a.set (axU i) Axis.ID_VALID 0).set (axU i) Axis.UNIDENTIFIED 1, St.OK, [0]))) ∧
      (q.flag 8 = false → 10240 ≤ q.p 0 → q.p 0 ≤ 1024000 → 51200 ≤ q.p 1 → exec (.axisIdentify t urgent tag uid flags params env) s =
        .next ((x .axisIdentify).answered s (((((a.epochStep i).workStart q (axU i) []).modAxis i (fun y => { y with
          ident := some { speed := q.p 0, dist := q.p 1, start := y.whole, since := a.now },
          set := RegMap.ofUid ((a.epochStep i).workStart q (axU i) []).active (axU i) })).axisRegs i), St.OK, [0])))) ∧
    ((x .axisHome).taken s = true →
      let a := b .axisHome
      let q := k .axisHome
      let i := uInst q.uid
      let n := q.p 0 % 8
      a.reg (axU i) Axis.MOTION = 0 → a.owned i = false → (n = 4 → a.act (axU i) Axis.MODE ≠ 2 ∧ a.reg (axU i) Axis.ID_VALID = 1) → 1 ≤ n → n ≤ 6 → q.p 0 < 32 →
      (n ≤ 3 → tbit (a.act (axU i) Axis.IN_EN) q.home.switch = true) → (n = 2 ∨ n = 5 → tbit (a.act (axU i) Axis.IN_EN) 3 = true) →
      1 ≤ q.p 1 → q.p 1 ≤ a.act (axU i) Axis.VMAX → 1 ≤ q.p 2 → q.p 2 ≤ a.act (axU i) Axis.VMAX → q.p 2 ≤ q.p 1 → 1 ≤ q.p 3 → q.p 3 ≤ a.act (axU i) Axis.AMAX →
      1 ≤ q.p 5 → q.p 7 < 256 → (if n = 4 then 1 ≤ q.p 8 ∧ q.p 8 ≤ a.act (axU i) Axis.I_RUN else q.p 8 = 0) →
      let c := ((a.epochStep i).workStart q (axU i) []).modAxis i (fun y => { y with
        kept := none, queue := [], home := some q.home, prof := {}, set := RegMap.ofUid ((a.epochStep i).workStart q (axU i) []).active (axU i) })
      exec (.axisHome t urgent tag uid flags params env) s = .next ((x .axisHome).answered s ((if n = 6 then c else c.homeNext i 8).axisRegs i, St.OK, [0])))

/-- LAMP_CAL and CHAIN_LOAD complete when their packet is taken. LAMP_CAL of a group whose port runs no job starts on the slots of its kind, and with kind 1 lights the first of
them; kind 2 asks for a white target and a port that captures nothing, and captures lines there (R85, R409, R418, R572). CHAIN_LOAD of a
frame of the chain's length keeps it for the next latch, carried by a mover (R422, R341, R572). -/
def Obligations.Light_packets_complete : Prop :=
  ∀ (s : State) (t : Nat) (urgent : Bool) (tag uid flags : Nat) (params : List Nat) (env : Option Nat),
    let x (o : Op) : Sent := ⟨t, urgent, o, tag, uid, flags, params, env, []⟩
    let b (o : Op) := (x o).before s
    let k (o : Op) := (x o).pkt s
    ((x .lampCal).taken s = true →
      let a := b .lampCal
      let q := k .lampCal
      let g := uInst q.uid
      let c := (a.workStart q (lampU g) (a.calSlots g (q.p 0))).modLamp g (fun l => { l with strs := l.strs.map (fun y => { y with sums := [] }) })
      (∀ p, a.lampPort g = some p → (a.port p).jobOn = false) →
      (q.p 0 = 0 → exec (.lampCal t urgent tag uid flags params env) s = .next ((x .lampCal).answered s (c, St.OK, [0]))) ∧
      (∀ k l, q.p 0 = 1 → a.calSlots g 1 = k :: l → exec (.lampCal t urgent tag uid flags params env) s = .next ((x .lampCal).answered s
        (((c.setLit g k true).modStr g k (fun y => { y with buckOn := y.buckOn.orElse (fun _ => some c.now) })).modLamp g (fun l => { l with calAt := some c.now }), St.OK, [0])))) ∧
    ((x .lampCal).taken s = true →
      let a := b .lampCal
      let q := k .lampCal
      let g := uInst q.uid
      ∀ p, q.p 0 = 2 → a.lampPort g = some p → (a.port p).jobOn = false → (a.port p).capture = none → a.act (pipeU p) Pipe.WT_SRC ≠ 0 →
      let c := ((a.workStart q (lampU g) (a.calSlots g 2)).modLamp g (fun l => { l with strs := l.strs.map (fun y => { y with sums := [] }) })).deltaCapture g
      ∀ k l, a.calSlots g 2 = k :: l → exec (.lampCal t urgent tag uid flags params env) s = .next ((x .lampCal).answered s
        ((c.modLamp g (fun l => { l with only := some k, delta := some k })).lampLights g, St.OK, [0]))) ∧
    ((x .chainLoad).taken s = true →
      let a := b .chainLoad
      let base := (k .chainLoad).p 1 * 2 ^ 32 + (k .chainLoad).p 0
      let len := 64 * cdiv (chainN a a.active) 512
      base % 64 = 0 → (k .chainLoad).p 2 = len → a.inDram base len = true →
      exec (.chainLoad t urgent tag uid flags params env) s = .next ((x .chainLoad).answered s
        ((a.modChain (fun c => { c with loaded := some (ofLe (Machine.Mem.read a.dram base len)) })).moverTake len, St.OK, [0])))

/-- RECIPE_LOAD and RECIPE_INFO complete when their packet is taken. RECIPE_LOAD of a sound record from memory without error, into a slot that is neither active nor staged and holds no record, makes the slot's
record with its length, level and digest and no use, and answers 1 and 0; with flag 8 it clears the slot (R432). RECIPE_INFO answers the words of a slot (R431, R574). -/
def Obligations.Recipe_packets_complete : Prop :=
  ∀ (s : State) (t : Nat) (urgent : Bool) (tag uid flags : Nat) (params : List Nat) (env : Option Nat),
    let x (o : Op) : Sent := ⟨t, urgent, o, tag, uid, flags, params, env, []⟩
    let b (o : Op) := (x o).before s
    let k (o : Op) := (x o).pkt s
    ((x .recipeLoad).taken s = true →
      let a := b .recipeLoad
      let q := k .recipeLoad
      let base := q.p 1 * 2 ^ 32 + q.p 0
      q.p 3 < 1024 → a.slotInUse (q.p 3) = false →
      (q.flag 8 = true → ∃ r, exec (.recipeLoad t urgent tag uid flags params env) s = .next ((x .recipeLoad).answered s (r, St.OK, [0, 0])) ∧ r.slots = putSlot a.slots (q.p 3) none) ∧
      (∀ y, q.flag 8 = false → base % 64 = 0 → q.p 2 % 64 = 0 → a.inDram base (min 65536 (max 256 (q.p 2))) = true → a.readError base (q.p 2) env = none →
        a.recChecks base (q.p 2) = .inr y → a.slotRec (q.p 3) = none →
        ∃ r, exec (.recipeLoad t urgent tag uid flags params env) s = .next ((x .recipeLoad).answered s (r, St.OK, [1, 0])) ∧
          (∃ z, r.slotRec (q.p 3) = some z ∧ z.loaded = true ∧ z.length = q.p 2 ∧ z.level = y.level ∧ z.digest = recDigest a.dram base y ∧ z.uses = 0))) ∧
    ((x .recipeInfo).taken s = true → (k .recipeInfo).p 0 < 1024 →
      exec (.recipeInfo t urgent tag uid flags params env) s =
        .next ((x .recipeInfo).answered s (b .recipeInfo, St.OK, slotWords ((b .recipeInfo).slotRec ((k .recipeInfo).p 0)))))

/-- Four rows complete when their packet is taken. JOB_STAGE of a good slot with nothing staged begins the staging (R438). JOB_UNSTAGE withdraws what is staged or being staged and answers the slot, or 0xFFFFFFFF where
nothing is staged (R439, R574). JOB_START of the staged slot, no port of it fenced, the link not degraded, no long work on its units and none of them stopping for an abort, pends; with LOAD_NOW it begins the staging of its slot
under the same conditions, after what is staged is withdrawn (R62, R85, R105, R443, R574).
JOB_END ends the running job at the next boundary, or with flag 8 at once; a start that waits ends as aborted first (R447, R448). -/
def Obligations.Job_packets_complete : Prop :=
  ∀ (s : State) (t : Nat) (urgent : Bool) (tag uid flags : Nat) (params : List Nat) (env : Option Nat),
    let x (o : Op) : Sent := ⟨t, urgent, o, tag, uid, flags, params, env, []⟩
    let b (o : Op) := (x o).before s
    let k (o : Op) := (x o).pkt s
    ((x .jobStage).taken s = true →
      let a := b .jobStage
      (k .jobStage).p 0 < 1024 → a.noStageBank = false → a.jobState = 0 → a.stageRefuse ((k .jobStage).p 0) = none →
      exec (.jobStage t urgent tag uid flags params env) s = .next ((x .jobStage).answered s
        (((a.workStart (k .jobStage) devU []).set devU Job.JOB_STATE 1).set devU Job.STAGED_SLOT ((k .jobStage).p 0), St.OK, []))) ∧
    ((x .jobUnstage).taken s = true → (b .jobUnstage).jobState = 1 ∨ (b .jobUnstage).jobState = 2 →
      exec (.jobUnstage t urgent tag uid flags params env) s = .next ((x .jobUnstage).answered s
        (((b .jobUnstage).stagingEnds St.ABORTED [(k .jobUnstage).seq]).stageWithdraw, St.OK, [(b .jobUnstage).reg devU Job.STAGED_SLOT]))) ∧
    ((x .jobUnstage).taken s = true → (b .jobUnstage).jobState = 0 →
      exec (.jobUnstage t urgent tag uid flags params env) s = .next ((x .jobUnstage).answered s (b .jobUnstage, St.OK, [0xFFFFFFFF]))) ∧
    ((x .jobStart).taken s = true →
      let a := b .jobStart
      let q := k .jobStart
      bits (q.p 0) 15 10 = 0 → q.p 0 / 2 ^ 24 = 0 → (if q.flag 9 then 1 ≤ bits (q.p 0) 23 16 ∧ a.role = 1 else bits (q.p 0) 23 16 = 0) → a.reg devU Job.END_PENDING = 0 →
      (q.flag 8 = false → a.jobState = 2 → a.reg devU Job.STAGED_SLOT = q.p 0 % 1024 → a.startRefuse (a.scopePorts a.job.scope) = none →
        a.scopeBusy a.job.scope = false → a.job.scope.any a.aborting = false →
        exec (.jobStart t urgent tag uid flags params env) s = .next ((x .jobStart).answered s
          ((a.workStart q devU []).startGo (q.p 0 % 1024) (q.p 0) (q.p 1) (q.flag 9), St.OK, []))) ∧
      (q.flag 8 = true → a.noStageBank = false → a.jobState = 0 ∨ a.jobState = 2 → a.startRefuse (a.scopePorts (a.slotScope (q.p 0 % 1024))) = none →
        a.scopeBusy (a.slotScope (q.p 0 % 1024)) = false → (a.slotScope (q.p 0 % 1024)).any a.aborting = false →
        exec (.jobStart t urgent tag uid flags params env) s = .next ((x .jobStart).answered s ((if a.jobState = 2 then a.stageWithdraw else a).stageBegin q (q.p 0 % 1024), St.OK, [])))) ∧
    ((x .jobEnd).taken s = true →
      let a := b .jobEnd
      a.reg devU Job.ACTIVE_VALID = 1 → a.reg devU Job.END_PENDING = 0 → a.jobState ≠ 4 →
      let w := (if a.jobState = 3 then (a.startEnds St.ABORTED).set devU Job.JOB_STATE 2 else a).workStart (k .jobEnd) devU []
      let c : State := { w with job := { w.job with endTick := some w.now, at_ := if (k .jobEnd).flag 8 then some w.now else w.job.at_ } }
      exec (.jobEnd t urgent tag uid flags params env) s = .next ((x .jobEnd).answered s (c.set devU Job.END_PENDING (if (k .jobEnd).flag 8 then 0 else 1), St.OK, [])))

/-- Five rows complete when their packet is taken. ROPE_MARK of a joined node with room in every pitch goes both ways (R468). MEM_RETIRE of a fitted page below the reserve that is not retired, while the reserve has room, puts it
in the table; flag 8 clears the table at the next start-up and answers the pages used (R481, R575). SPARE_LEDGER answers 21 entries (R490). LOG_READ answers the entries asked for, the newest first (R98, R575). POWER_SET turns
domains on and off, where the part, the dependencies and the work of the domains allow it (R527, R563). -/
def Obligations.Device_packets_complete : Prop :=
  ∀ (s : State) (t : Nat) (urgent : Bool) (tag uid flags : Nat) (params : List Nat) (env : Option Nat),
    let x (o : Op) : Sent := ⟨t, urgent, o, tag, uid, flags, params, env, []⟩
    let b (o : Op) := (x o).before s
    let k (o : Op) := (x o).pkt s
    ((x .ropeMark).taken s = true →
      let a := b .ropeMark
      (k .ropeMark).p 0 < 2 ^ 18 → a.role ≠ 0 → a.reg ropeU Rope.UP_STATE = 2 →
      (∀ p, p < 5 → ((a.pitch p).wait.filter (fun m => m.typ == 5)).length < 16) →
      exec (.ropeMark t urgent tag uid flags params env) s = .next ((x .ropeMark).answered s
        (a.ropeFlood { typ := 5, up := false, src := a.node, dst := (k .ropeMark).p 0, pay := [(k .ropeMark).p 1, lo32 a.rope, hi32 a.rope] } 5 true true, St.OK, []))) ∧
    ((x .memRetire).taken s = true →
      let a := b .memRetire
      let base := (k .memRetire).addr 0
      ((k .memRetire).flag 8 = false → a.inDram base 1 = true → base < a.reserveBase * 2 ^ 20 → a.pageRetired (base / 4096) = false → a.memS.copies = [] →
        a.reserveUsed < a.reservePages →
        ∃ r, exec (.memRetire t urgent tag uid flags params env) s = .next ((x .memRetire).answered s (r, St.OK, [r.reserveUsed])) ∧
          r.memS.retired = a.memS.retired ++ [(base / 4096, a.reserveBase * 256 + a.reserveUsed)]) ∧
      ((k .memRetire).flag 8 = true → ∃ r, exec (.memRetire t urgent tag uid flags params env) s =
        .next ((x .memRetire).answered s (r, St.OK, [a.reserveUsed])) ∧ r.memS.clear = true)) ∧
    ((x .spareLedger).taken s = true → exec (.spareLedger t urgent tag uid flags params env) s = .next ((x .spareLedger).answered s
      ({ b .spareLedger with draw := (b .spareLedger).draw + 21 }, St.OK, 21 :: (List.range 21).flatMap (b .spareLedger).poolWords))) ∧
    ((x .logRead).taken s = true → 1 ≤ (k .logRead).p 1 → (k .logRead).p 1 ≤ 126 →
      let es := ((b .logRead).evt.log.drop ((k .logRead).p 0)).take ((k .logRead).p 1)
      exec (.logRead t urgent tag uid flags params env) s = .next ((x .logRead).answered s (b .logRead, St.OK, es.length :: es.flatMap eventWords))) ∧
    ((x .powerSet).taken s = true →
      let a := b .powerSet
      let on := (k .powerSet).p 0
      let off := (k .powerSet).p 1
      let stat := a.reg devU Pd.PD_STAT
      let next := (List.range 24).foldl (fun (m : Nat) d => m + b2n ((tbit stat d || tbit on d) && !tbit off d) * 2 ^ d) 0
      on < 2 ^ 24 → off < 2 ^ 24 → (on &&& off) = 0 → tbit on 14 = tbit on 15 → tbit off 14 = tbit off 15 →
      (∀ d, d < 24 → tbit on d = true ∨ tbit off d = true → d ≠ 0 ∧ d ≠ 13 ∧ d ≠ 16 ∧ d ≠ 17) →
      (a.part.part = 0x8140 → ∀ d, 5 ≤ d → d ≤ 8 → tbit on d = false) → powerDep next on = none →
      (∀ d, d ∈ maskBits off → tbit stat d = true → a.mayGoOff d = true) →
      let ups := (maskBits on).filter (fun d => !tbit stat d)
      let c := ups.foldl (fun (r : State) d => r.powerOn d)
        (((maskBits off).filter (fun d => tbit stat d)).reverse.foldl (fun (r : State) d => r.powerOff d) (a.workStart (k .powerSet) devU ups))
      let e := if (k .powerSet).flag 8 then c.set devU Pd.PD_BOOT (c.reg devU Pd.PD_STAT) else c
      exec (.powerSet t urgent tag uid flags params env) s = .next ((x .powerSet).answered s (e.raise Ev.POWER_CHANGE devU (e.reg devU Pd.PD_STAT), St.OK, [])))

/-- Nine rows complete when their packet is taken. On a device that is not LOCKED POLICY_SET sets the policy unsigned (R510), and KEY_INSTALL and KEY_REVOKE change a recipe key unsigned (R511); on a LOCKED one each of the three
does so with a good owner signature (R509). OWNER_FUSE fuses the owner key that the running image carries, once (R496, R577). AUTH_CHALLENGE answers a fresh nonce, which is the challenge that stands (R509). FW_ACCEPT answers
the counter, and ends a trial (R503). DEBUG_UNLOCK opens its scope to a good owner signature, and DEBUG_RELOCK closes it (R519). -/
def Obligations.Owner_packets_complete : Prop :=
  ∀ (s : State) (t : Nat) (urgent : Bool) (tag uid flags : Nat) (params : List Nat) (env : Option Nat),
    let x (o : Op) : Sent := ⟨t, urgent, o, tag, uid, flags, params, env, []⟩
    let b (o : Op) := (x o).before s
    let k (o : Op) := (x o).pkt s
    ((x .policySet).taken s = true →
      let a := b .policySet
      let v := (k .policySet).p 0
      a.locked = false → (tbit v 31 = true → a.sec.ownerHash ≠ []) → v % 2 ^ 31 < 4 →
      ∃ r, exec (.policySet t urgent tag uid flags params env) s = .next ((x .policySet).answered s (r, St.OK, [v])) ∧
        r = (a.set secU Sec.POLICY v).audit 3 secU (leBytes 4 (a.reg secU Sec.POLICY) ++ leBytes 4 v)) ∧
    ((x .policySet).taken s = true →
      ∀ r nonce, (b .policySet).locked = true →
      (b .policySet).ownerAuth (k .policySet).op ((k .policySet).params.take 1) (paramBytes (k .policySet).params 1 132) = (r, .inr nonce) →
      (tbit ((k .policySet).p 0) 31 = true → r.sec.ownerHash ≠ []) → (k .policySet).p 0 % 2 ^ 31 < 4 → params.length = 34 →
      exec (.policySet t urgent tag uid flags params env) s = .next ((x .policySet).answered s
        ((r.set secU Sec.POLICY ((k .policySet).p 0)).audit 3 secU (leBytes 4 (r.reg secU Sec.POLICY) ++ leBytes 4 ((k .policySet).p 0)), St.OK, [(k .policySet).p 0]))) ∧
    ((x .keyInstall).taken s = true →
      let a := b .keyInstall
      let key := paramBytes (k .keyInstall).params 1 136
      a.locked = false → (k .keyInstall).p 0 < 4 → keyOk (key.take 133) = true → (key.drop 133).all (· == 0) = true →
      exec (.keyInstall t urgent tag uid flags params env) s = .next ((x .keyInstall).answered s (a.keyChange ((k .keyInstall).p 0) (key.take 133) false))) ∧
    ((x .keyInstall).taken s = true →
      let key := paramBytes (k .keyInstall).params 1 136
      ∀ r nonce, (b .keyInstall).locked = true → params.length = 68 →
      (b .keyInstall).ownerAuth (k .keyInstall).op ((k .keyInstall).params.take 35) (paramBytes (k .keyInstall).params 35 132) = (r, .inr nonce) →
      (k .keyInstall).p 0 < 4 → keyOk (key.take 133) = true → (key.drop 133).all (· == 0) = true →
      exec (.keyInstall t urgent tag uid flags params env) s = .next ((x .keyInstall).answered s (r.keyChange ((k .keyInstall).p 0) (key.take 133) false))) ∧
    ((x .keyRevoke).taken s = true → (b .keyRevoke).locked = false → (k .keyRevoke).p 0 < 4 →
      exec (.keyRevoke t urgent tag uid flags params env) s = .next ((x .keyRevoke).answered s ((b .keyRevoke).keyChange ((k .keyRevoke).p 0) [] true))) ∧
    ((x .keyRevoke).taken s = true → ∀ r nonce, (b .keyRevoke).locked = true → params.length = 34 → (k .keyRevoke).p 0 < 4 →
      (b .keyRevoke).ownerAuth (k .keyRevoke).op ((k .keyRevoke).params.take 1) (paramBytes (k .keyRevoke).params 1 132) = (r, .inr nonce) →
      exec (.keyRevoke t urgent tag uid flags params env) s = .next ((x .keyRevoke).answered s (r.keyChange ((k .keyRevoke).p 0) [] true))) ∧
    ((x .ownerFuse).taken s = true →
      let a := b .ownerFuse
      let key := paramBytes (k .ownerFuse).params 0 136
      a.sec.ownerHash = [] → keyOk (key.take 133) = true → key.take 133 = a.sec.ownerPub → (key.drop 133).all (· == 0) = true → (k .ownerFuse).p 34 = 0x4F574E52 →
      ∃ r, exec (.ownerFuse t urgent tag uid flags params env) s = .next ((x .ownerFuse).answered s (r, St.OK, [0])) ∧ r.sec.ownerHash = sha512 (key.take 133)) ∧
    ((x .authChallenge).taken s = true → ∃ ws r, exec (.authChallenge t urgent tag uid flags params env) s = .next ((x .authChallenge).answered s (r, St.OK, ws)) ∧
      ws.length = 16 ∧ r.sec.challenge = some (wordBytes ws, (b .authChallenge).now)) ∧
    ((x .fwAccept).taken s = true →
      let a := b .fwAccept
      (a.reg secU Sec.TRIAL = 0 → exec (.fwAccept t urgent tag uid flags params env) s = .next ((x .fwAccept).answered s (a, St.OK, [a.reg secU Sec.COUNTER]))) ∧
      (a.reg secU Sec.TRIAL ≠ 0 → ∃ r, exec (.fwAccept t urgent tag uid flags params env) s = .next ((x .fwAccept).answered s (r, St.OK, [r.reg secU Sec.COUNTER])) ∧
        r.sec.bootSlot = a.reg secU Sec.BOOT_SLOT ∧ r.sec.bootTrial = false)) ∧
    ((x .debugUnlock).taken s = true → ∀ r nonce, params.length = 34 → (k .debugUnlock).p 0 = 1 ∨ (k .debugUnlock).p 0 = 2 →
      (b .debugUnlock).ownerAuth (k .debugUnlock).op ((k .debugUnlock).params.take 1) (paramBytes (k .debugUnlock).params 1 132) = (r, .inr nonce) →
      exec (.debugUnlock t urgent tag uid flags params env) s = .next ((x .debugUnlock).answered s
        (r.debugOpen ((k .debugUnlock).p 0) nonce false, St.OK, [(k .debugUnlock).p 0]))) ∧
    ((x .debugRelock).taken s = true →
      ∃ r, exec (.debugRelock t urgent tag uid flags params env) s = .next ((x .debugRelock).answered s (r, St.OK, [0])) ∧ r.sec.scope = 0)

/-- Six rows complete when their packet is taken and their buffers are in order. ID_CERT writes the certificate chain to the host's buffer, nothing outside the 8,192 bytes of it, and answers its length (R505). ATTEST starts with
the body of its report (R506). AUDIT_EXPORT of entries that the log holds starts with its last entry fixed (R517). BUNDLE_EXPORT starts with the body of its bundle, BUNDLE_IMPORT and FW_UPDATE start on their images (R521, R522, R502). -/
def Obligations.Trust_packets_complete : Prop :=
  ∀ (s : State) (t : Nat) (urgent : Bool) (tag uid flags : Nat) (params : List Nat) (env : Option Nat),
    let x (o : Op) : Sent := ⟨t, urgent, o, tag, uid, flags, params, env, []⟩
    let b (o : Op) := (x o).before s
    let k (o : Op) := (x o).pkt s
    ((x .idCert).taken s = true → (k .idCert).addr 0 % 64 = 0 → 8192 ≤ (k .idCert).p 2 →
      exec (.idCert t urgent tag uid flags params env) s = .next ((x .idCert).answered s
        ({ b .idCert with host := Machine.Mem.write (b .idCert).host ((k .idCert).addr 0) certChain }, St.OK, [certChain.length])) ∧
      (∀ y, y < (k .idCert).addr 0 ∨ (k .idCert).addr 0 + 8192 ≤ y →
        Machine.Mem.get (Machine.Mem.write (b .idCert).host ((k .idCert).addr 0) certChain) y = Machine.Mem.get (b .idCert).host y)) ∧
    ((x .attest).taken s = true → (k .attest).addr 16 % 64 = 0 →
      exec (.attest t urgent tag uid flags params env) s = .next ((x .attest).answered s
        ((b .attest).workStart (k .attest) secU ((b .attest).attestBody (paramBytes (k .attest).params 0 64)), St.OK, []))) ∧
    ((x .auditExport).taken s = true →
      let a := b .auditExport
      let first := (k .auditExport).p 0
      let n := (k .auditExport).p 1
      let next := a.reg secU Sec.AUDIT_SEQ
      a.auditOldest ≤ first → first < next → 1 ≤ n → n ≤ 4096 → (k .auditExport).addr 18 % 64 = 0 → 128 * n + 512 ≤ (k .auditExport).p 20 →
      exec (.auditExport t urgent tag uid flags params env) s = .next ((x .auditExport).answered s
        (a.workStart (k .auditExport) secU (min (first + n - 1) (next - 1) :: a.auditTake first (min (first + n - 1) (next - 1))), St.OK, []))) ∧
    ((x .bundleExport).taken s = true → (k .bundleExport).addr 4 % 64 = 0 → 131072 ≤ (k .bundleExport).p 6 →
      exec (.bundleExport t urgent tag uid flags params env) s = .next ((x .bundleExport).answered s
        ((b .bundleExport).workStart (k .bundleExport) secU ((b .bundleExport).bundleBody (paramBytes (k .bundleExport).params 0 16)), St.OK, []))) ∧
    ((x .bundleImport).taken s = true → (k .bundleImport).addr 0 % 64 = 0 → (b .bundleImport).inDram ((k .bundleImport).addr 0) ((k .bundleImport).p 2) = true →
      (k .bundleImport).p 2 ≤ 131072 →
      exec (.bundleImport t urgent tag uid flags params env) s = .next ((x .bundleImport).answered s ((b .bundleImport).workStart (k .bundleImport) secU [], St.OK, []))) ∧
    ((x .fwUpdate).taken s = true → (k .fwUpdate).addr 0 % 64 = 0 → (b .fwUpdate).inDram ((k .fwUpdate).addr 0) 0x308 = true →
      exec (.fwUpdate t urgent tag uid flags params env) s = .next ((x .fwUpdate).answered s ((b .fwUpdate).workStart (k .fwUpdate) secU [], St.OK, [])))

/-! ### The device as a whole -/

/-- A step runs the command at the front of the queue on the device with the queue's rest; on an empty queue the block idles (log entry 17). -/
def Obligations.Step_runs_the_front_command : Prop :=
  (∀ (s : State) (c : Instr) (rest : List Instr), step { s with pending := c :: rest } = exec c { s with pending := rest }) ∧
  (∀ s : State, s.pending = [] → step s = .next s)

/-- R42, R80, R96, R535: after reset every register field of every page shows the value of its Reset column (the value that the part or the log gives where the table
gives none: log entries 1, 2, 3), no set is open and none pends, the next commit is number 1 and the next packet number 1, the FIFOs, the reply FIFO and the rings are
empty, no unit works, and the device is held in reset. -/
def Obligations.Reset_leaves_the_reset_values : Prop :=
  (∀ u ctx f i, State.reset.regC u ctx f i = resetOf Part.default u f i ∧ State.reset.actC u ctx f i = resetOf Part.default u f i ∧
    State.reset.sh u ctx f i = resetOf Part.default u f i) ∧
  State.reset.openSets = [] ∧ State.reset.commits = [] ∧ State.reset.commitNumber.2 = 1 ∧ State.reset.nextSeq = 1 ∧
  State.reset.urgentQ = {} ∧ State.reset.normalQ = {} ∧ State.reset.reply.words = [] ∧ State.reset.aborts = [] ∧ State.reset.works = [] ∧
  State.reset.sys.inReset = true ∧ State.reset.frozen = false ∧ State.reset.d3hot = false ∧ State.reset.pending = [] ∧
  (∀ u, State.reset.working u = false) ∧ (∀ a, Machine.Mem.get State.reset.dram a = 0#8)

/-- The queue drains: as many steps as commands wait always go on, leave no command waiting, do not turn the clock back, and keep the part. No command stops the device. -/
def Obligations.Queue_drains_without_a_stop : Prop :=
  ∀ s : State, ∃ r : State, Sys2Proof.core.run s.pending.length s = .next r ∧ r.pending = [] ∧ s.now ≤ r.now ∧ r.part = s.part ∧
    (∀ n, safeRun s n = true)

/-- R4, R8, R68: no command changes what the part fixes, the words of the identity block go on reading so, and the time base never runs back. -/
def Obligations.Part_and_clock_hold_in_every_step : Prop :=
  ∀ (p : Part) (t0 : Nat) (s r : State), s.holds p t0 → step s = .next r → r.holds p t0 ∧ s.now ≤ r.now

/-- The same holds at reset, of the part that log entry 1 names. -/
def Obligations.Part_and_clock_hold_at_reset : Prop := State.reset.holds Part.default 0

/-- R66, R67, R87, R541, R543: a device in reset is reached by none but the rows of pins and resets; a function in D3hot by no access of the host; a frozen device has no
events of its own. What does not reach the device changes nothing but the time. -/
def Obligations.Commands_reach_the_device_by_their_kind : Prop :=
  ∀ (c : Instr) (s : State),
    let a := s.advance c.at_
    (a.sys.inReset = true → reachOf c ≠ .always → reachOf c ≠ .pins → exec c s = .next (s.ends c.at_ a)) ∧
    (a.frozen = true → reachOf c = .event ∨ reachOf c = .seqEvent → exec c s = .next (s.ends c.at_ a)) ∧
    (a.d3hot = true → reachOf c = .reads → exec c s = .next (s.ends c.at_ a)) ∧
    (a.d3hot = true → a.sys.inReset = false → reachOf c = .writes → exec c s = .next (s.ran c.at_ a))

/-- Whole-machine frame: an event of the device never freezes or thaws it, changes neither the link's power state nor the packet numbers, the URGENT FIFO or the data of
the last read; a packet or a write of the host never touches the encoder inputs, the shading SRAM in use, or the link's power state; and no command of any kind but those
that act in every condition ends a reset. -/
def Obligations.Rows_leave_what_is_not_theirs : Prop :=
  ∀ (c : Instr) (s r : State), exec c s = .next r →
    (reachOf c = .event → r.frozen = s.frozen ∧ r.d3hot = s.d3hot ∧ r.cmdSeq = s.cmdSeq ∧ r.urgentQ = s.urgentQ ∧ r.rdata = s.rdata) ∧
    (reachOf c = .writes ∨ reachOf c = .seqEvent → r.d3hot = s.d3hot ∧ r.encs = s.encs ∧ r.sram = s.sram ∧ r.rdata = s.rdata) ∧
    (reachOf c ≠ .always → s.sys.inReset = true → r.sys.inReset = true)

/-! ### Packets and replies -/

/-- R80, R83, R86, R555: a packet that the device takes is checked first: where steps 1 to 6 refuse it, it is answered with the first failing check and nothing else
happens; where they pass, its command runs once, in the state in which the packet has its number, and its answer is written (ABORT and RESET_UNIT answer for themselves
when they are complete). -/
def Obligations.Packets_are_checked_then_run : Prop :=
  ∀ (x : Sent) (s : State), (s.advance x.at_).admits x.urgent x.op.code x.params.length = true → x.params.all (· < 2 ^ 32) = true → (x.op = .resetUnit ∨ x.fails = []) →
    (∀ r, (x.before s).pktCheck (x.pkt s) = .inr r → exec x.row s = .next (s.ran x.at_ (((x.before s).answer (x.pkt s) r.1 r.2).cmdRegs))) ∧
    ((x.before s).pktCheck (x.pkt s) = .inl x.op → x.op ≠ .abort → x.op ≠ .resetUnit →
      exec x.row s = .next (x.answered s ((x.before s).runOp x.op (x.pkt s) x.env))) ∧
    ((x.pkt s).seq = (s.advance x.at_).nextSeq ∧ (x.pkt s).params = x.params ∧ (x.pkt s).tag = x.tag % 65536 ∧ (x.pkt s).op = x.op.code)

/-- R75, R76, R79, R559: the words of a packet give the packet back, with every tag, UID, flag and parameter; the packet is whole with its last word and not before; and
the opcode of every command is that command's in the opcode map. -/
def Obligations.Packet_words_give_the_packet_back : Prop :=
  ∀ (urgent : Bool) (o : Op) (tag uid flags seq : Nat) (params : List Nat), tag < 65536 → uid < 65536 → flags < 65536 → params.length ≤ 255 →
    let ws := pktWords o.code tag uid flags params
    pktOf urgent ws seq = { op := o.code, tag := tag, uid := uid, flags := flags, params := params, seq := seq, urgent := urgent } ∧
    opOf o.code = some o ∧ whole ws = true ∧ (∀ n, n < ws.length → whole (ws.take n) = false) ∧
    (∀ o', opOf o'.code = opOf o.code → o' = o)

/-- R90, R91: a NORMAL reply is written when none is held before it and it leaves 64 of the 2,048 words free; otherwise it is held behind the others, nothing of it is seen, and no NORMAL packet starts; once a
read of REPLY_POP makes room it is written behind what stands there. An URGENT reply that does not fit in the whole FIFO is dropped: LOST counts it, and EV_CMD_OVERFLOW with detail 4 is the last
event of the log where that source is recorded; one that fits is written. (The pointers of the FIFO agree: R321.) -/
def Obligations.Replies_leave_room_for_urgent : Prop :=
  ∀ (s : State) (k : Pkt) (status : Nat) (results : List Nat), (tbit k.flags 1 && status == St.OK) = false → s.skewed 7 0 = false →
    let ws := replyWords k.urgent status k.tag k.seq results
    let marked := ws.zipIdx.map (fun (x : Nat × Nat) => (x.1, x.2 == 0))
    let r := s.answer k status results
    (k.urgent = false → s.reply.held = [] → s.reply.words.length + ws.length + 64 ≤ 2048 → r.reply.words = s.reply.words ++ marked ∧ r.reply.held = []) ∧
    (k.urgent = false → s.reply.held ≠ [] ∨ 2048 < s.reply.words.length + ws.length + 64 → r = { s with reply := { s.reply with held := s.reply.held ++ [ws] } } ∧
      (∀ op, r.normalServes op = false) ∧ (∀ t env fails, (r.advance t).isLive = true → exec (.normalPacketStart t env fails) r = .next (r.ran t (r.advance t))) ∧
      (∀ w l, s.reply.held = [] → s.reply.words = w :: l → l.length + ws.length + 64 ≤ 2048 → (r.replyPop false).reply.words = l ++ marked ∧ (r.replyPop false).reply.held = []) ∧
      (∀ w l, s.reply.held = [] → s.reply.words = w :: l → 2048 < l.length + ws.length + 64 → (r.replyPop false).reply.words = l ∧ (r.replyPop false).reply.held = [ws])) ∧
    (k.urgent = true → s.reply.words.length + ws.length ≤ 2048 → r.reply.words = s.reply.words ++ marked) ∧
    (k.urgent = true → 2048 < s.reply.words.length + ws.length → r.reply = s.reply ∧ r.reg bar0 Cmd.LOST = min (s.reg bar0 Cmd.LOST + 1) 255 ∧
      (s.reg bar0 Map.RING_EN Ev.CMD_OVERFLOW = 1 ∨ s.reg bar0 Map.IRQ_EN Ev.CMD_OVERFLOW ≠ 0 →
        r.evt.log.head? = some { source := Ev.CMD_OVERFLOW, uid := devU, detail := 4, time := s.rope }))

/-- R544: while FREEZE_N is low THAW is refused with ST_FROZEN and changes nothing but the numbering of packets; when FREEZE_N has risen THAW resumes a frozen device and
answers the length of the freeze. -/
def Obligations.Thaw_waits_for_the_pin : Prop :=
  ∀ (s : State) (t : Nat) (urgent : Bool) (tag uid flags : Nat) (params : List Nat) (env : Option Nat),
    let x : Sent := ⟨t, urgent, .thaw, tag, uid, flags, params, env, []⟩
    x.taken s = true →
      ((s.advance t).pow.pinLow = true → exec (.thaw t urgent tag uid flags params env) s = .next (x.answered s (x.before s, St.FROZEN, [0]))) ∧
      ((s.advance t).pow.pinLow = false → (s.advance t).frozen = true → exec (.thaw t urgent tag uid flags params env) s =
        .next (x.answered s ((x.before s).thawGo, St.OK, [lo32 (x.before s).thawGo.frzLen, hi32 (x.before s).thawGo.frzLen])) ∧ (x.before s).thawGo.frozen = false) ∧
      (∃ r, exec (.freezeNRise t) s = .next r ∧ r.pow.pinLow = false ∧ r.frozen = s.frozen)

/-! ### Registers, sets, events and memories -/

/-- R9, R42: a write of a field does what its access code says. RW takes the value, cut to its width; W1C clears the bits written with 1, W1S sets them; RO, WO and RC
fields do not change; a write to an SH field, of whatever value, reaches the shadow and joins the open set, and no set in force. What is written is what a read then shows, every other
register keeps its value, and the sets in force never change. -/
def Obligations.Fields_follow_their_access_codes : Prop :=
  ∀ (s : State) (u ctx : Nat) (f : Field) (i v : Nat),
    let r := s.writeField u ctx f i v
    (r.active = s.active) ∧
    (∀ u' ctx' f' i', regKey u' ctx' f' i' ≠ regKey u ctx f i → r.regC u' ctx' f' i' = s.regC u' ctx' f' i' ∧ r.sh u' ctx' f' i' = s.sh u' ctx' f' i') ∧
    (f.acc = .rw → r.regC u ctx f i = v % 2 ^ f.width ∧ r.shadow = s.shadow ∧ r.openSets = s.openSets) ∧
    (f.acc = .w1c → s.regC u ctx f i < 2 ^ f.width → ∀ b, (r.regC u ctx f i).testBit b = ((s.regC u ctx f i).testBit b && !(v % 2 ^ f.width).testBit b)) ∧
    (f.acc = .w1s → s.regC u ctx f i < 2 ^ f.width → ∀ b, (r.regC u ctx f i).testBit b = ((s.regC u ctx f i).testBit b || (v % 2 ^ f.width).testBit b)) ∧
    (f.acc = .ro ∨ f.acc = .wo ∨ f.acc = .rc → r = s) ∧
    (f.acc = .sh → (s.part.part == 0x8140 && f.name == "SHUTTER") = false →
      r.sh u ctx f i = v % 2 ^ f.width ∧ r.live = s.live ∧ r.openSets.any (fun o => o.1 == u) = true)

/-- R45: a COMMIT that would give any member a fifth pending commit is refused as a whole with ST_COMMIT_FULL, names the first such unit, and queues nothing; and after any
COMMIT no unit holds more than four that did not before. -/
def Obligations.Commits_pend_four_deep : Prop :=
  ∀ (s : State) (u : Nat) (notify : Bool),
    (∀ v, (s.queueing u).find? (fun v => decide (4 ≤ (s.commits.filter (fun c => c.uid == v)).length)) = some v →
      s.cmdCommit u notify = (s, St.COMMIT_FULL, [v])) ∧
    (∀ v, (s.commits.filter (fun c => c.uid == v)).length ≤ 4 → ((s.cmdCommit u notify).1.commits.filter (fun c => c.uid == v)).length ≤ 4)

/-- R94, R97, R98, R100: an event whose RING_EN or IRQ_EN is not 0 enters the event log; one whose both are 0 changes nothing (log entry 69). Where its RING_EN is 1, no event has been counted as lost and the ring has
room, its 16 bytes are written at EVT_WR, with the phase in bit 15, and EVT_WR steps by one, modulo 4,096, the phase turning at the wrap; otherwise it is counted in EVT_LOST. When EVT_RD then advances within the
unread span, one EV_EVENT_LOST with the count is written, and EVT_LOST is 0 again; a position outside the span is ignored and sets RD_ERR. -/
def Obligations.Event_ring_takes_counts_and_reports : Prop :=
  ∀ (s : State) (e : Event) (src uid detail w : Nat),
    let wr := s.reg bar0 Evt.EVT_WR
    let rd := s.reg bar0 Evt.EVT_RD
    let base := s.reg bar0 Evt.BASE_HI * 2 ^ 32 + s.reg bar0 Evt.BASE_LO * 4096
    let span := (wr + 4096 - rd) % 4096
    ((s.reg bar0 Map.RING_EN src = 1 ∨ s.reg bar0 Map.IRQ_EN src ≠ 0) → (s.raise src uid detail).evt.log.head? = some { source := src, uid := uid, detail := detail % 2 ^ 32, time := s.rope }) ∧
    (s.reg bar0 Map.RING_EN src = 0 → s.reg bar0 Map.IRQ_EN src = 0 → s.raise src uid detail = s) ∧
    (s.reg bar0 Map.RING_EN src = 1 → s.reg bar0 Evt.EVT_LOST = 0 → s.evtRoom = true → (let x : Event := { source := src, uid := uid, detail := detail % 2 ^ 32, time := s.rope };
      s.raise src uid detail = ((s.logEvent x).evtWrite x).irq src) ∧ (s.raise src uid detail).reg bar0 Evt.EVT_WR = (wr + 1) % 4096) ∧
    (Machine.Mem.read (s.evtWrite e).host (base + 16 * wr) 16 =
      leBytes 4 (e.source + s.reg bar0 Evt.WR_PHASE * 2 ^ 15 + e.uid % 65536 * 2 ^ 16) ++ leBytes 4 e.detail ++ leBytes 8 e.time) ∧
    (∀ y, y < base + 16 * wr ∨ base + 16 * wr + 16 ≤ y → Machine.Mem.get (s.evtWrite e).host y = Machine.Mem.get s.host y) ∧
    ((s.evtWrite e).reg bar0 Evt.EVT_WR = (wr + 1) % 4096) ∧
    (wr + 1 = 4096 → s.reg bar0 Evt.WR_PHASE ≤ 1 → (s.evtWrite e).reg bar0 Evt.WR_PHASE = 1 - s.reg bar0 Evt.WR_PHASE) ∧
    (wr + 1 ≠ 4096 → (s.evtWrite e).reg bar0 Evt.WR_PHASE = s.reg bar0 Evt.WR_PHASE) ∧
    (s.reg bar0 Map.RING_EN src = 1 → (s.reg bar0 Evt.EVT_LOST ≠ 0 ∨ s.evtRoom = false) →
      (s.raise src uid detail).reg bar0 Evt.EVT_LOST = min (s.reg bar0 Evt.EVT_LOST + 1) (2 ^ 32 - 1) ∧ (s.raise src uid detail).reg bar0 Evt.EVT_WR = wr) ∧
    (s.reg bar0 Map.RING_EN src = 0 → (s.raise src uid detail).reg bar0 Evt.EVT_LOST = s.reg bar0 Evt.EVT_LOST ∧ (s.raise src uid detail).reg bar0 Evt.EVT_WR = wr) ∧
    (tbit w 31 = false → span < (w % 4096 + 4096 - rd) % 4096 → (s.evtRd w).reg bar0 Evt.EVT_RD = rd ∧ (s.evtRd w).reg bar0 Evt.RD_ERR = 1 ∧ (s.evtRd w).host = s.host) ∧
    (tbit w 31 = false → (w % 4096 + 4096 - rd) % 4096 ≤ span → s.reg bar0 Evt.EVT_LOST ≠ 0 → (s.set bar0 Evt.EVT_RD (w % 4096)).evtRoom = true →
      (s.evtRd w).reg bar0 Evt.EVT_LOST = 0 ∧
      (s.evtRd w).evt.log.head? = some { source := 0x43, uid := 0, detail := s.reg bar0 Evt.EVT_LOST, time := s.rope })

/-- R7, R72, R73: memory answers what was written last: after a write of bytes at an address, each of them reads back there and every other address reads as before, and
words read in little-endian order. -/
def Obligations.Memory_reads_what_was_written : Prop :=
  ∀ (m : Mem) (a : Nat) (bs : List Nat),
    (∀ i, i < bs.length → (Machine.Mem.get (Machine.Mem.write m a bs) (a + i)).toNat = nth bs i % 256) ∧
    (∀ y, y < a ∨ a + bs.length ≤ y → Machine.Mem.get (Machine.Mem.write m a bs) y = Machine.Mem.get m y) ∧
    (∀ n, n < 2 ^ 32 → Machine.Mem.rd32 (Machine.Mem.write m a (leBytes 4 n)) a = n) ∧
    (∀ n, n < 2 ^ 64 → Machine.Mem.rd64 (Machine.Mem.write m a (leBytes 8 n)) a = n)
end

