-- ==== Sys2Proof/Laws/Memory.lean ====
section
/-! SUPPORT. Byte memories and register maps: every operation keeps the canonical form, reset has it, and what a lookup finds after an update. -/
namespace Sys2Proof.Machine

/-! ### Byte memories -/

theorem Mem.wf_cons (c : Host.Cell) (m : Mem) : Mem.wf (c :: m) = true ↔ c.2 ≠ 0#8 ∧ (∀ d ∈ m, c.1 < d.1) ∧ Mem.wf m = true := by
  simp [Mem.wf, and_assoc]
theorem Mem.mem_ins (m : Mem) (a : Nat) (b : Byte) (d : Host.Cell) (h : d ∈ Mem.ins m a b) : d = (a, b) ∨ d ∈ m := by
  induction m with
  | nil => simpa [Mem.ins] using h
  | cons c m ih =>
    simp only [Mem.ins] at h
    split at h
    · rcases List.mem_cons.1 h with h | h
      · exact .inr (h ▸ List.mem_cons_self ..)
      · exact (ih h).imp id (List.mem_cons_of_mem _)
    · split at h
      · exact (List.mem_cons.1 h).imp id (List.mem_cons_of_mem _)
      · exact List.mem_cons.1 h
/-- Listing a byte other than 0 keeps the canonical form. -/
theorem Mem.wf_ins (m : Mem) (a : Nat) (b : Byte) (hb : b ≠ 0#8) (h : Mem.wf m = true) : Mem.wf (Mem.ins m a b) = true := by
  induction m with
  | nil => simp [Mem.ins, Mem.wf, hb]
  | cons c m ih =>
    obtain ⟨h1, h2, h3⟩ := (Mem.wf_cons c m).1 h
    simp only [Mem.ins]
    split
    · rename_i hc
      refine (Mem.wf_cons _ _).2 ⟨h1, fun d hd => ?_, ih h3⟩
      rcases Mem.mem_ins _ _ _ _ hd with rfl | hd
      · exact hc
      · exact h2 d hd
    · split
      · rename_i hc
        exact (Mem.wf_cons _ _).2 ⟨hb, fun d hd => hc ▸ h2 d hd, h3⟩
      · refine (Mem.wf_cons _ _).2 ⟨hb, fun d hd => ?_, h⟩
        rcases List.mem_cons.1 hd with rfl | hd
        · simp only; omega
        · have := h2 d hd; simp only; omega
/-- Leaving bytes out keeps the canonical form. -/
theorem Mem.wf_filter (m : Mem) (p : Host.Cell → Bool) (h : Mem.wf m = true) : Mem.wf (m.filter p) = true := by
  induction m with
  | nil => rfl
  | cons c m ih =>
    obtain ⟨h1, h2, h3⟩ := (Mem.wf_cons c m).1 h
    rw [List.filter_cons]
    split
    · exact (Mem.wf_cons _ _).2 ⟨h1, fun d hd => h2 d (List.mem_filter.1 hd).1, ih h3⟩
    · exact ih h3
/-- Writing a byte keeps the canonical form. -/
theorem Mem.wf_put (m : Mem) (a : Nat) (b : Byte) (h : Mem.wf m = true) : Mem.wf (Mem.put m a b) = true := by
  unfold Mem.put
  split
  · exact Mem.wf_filter _ _ h
  · exact Mem.wf_ins _ _ _ ‹_› h
/-- Writing bytes keeps the canonical form. -/
theorem Mem.wf_write (m : Mem) (a : Nat) (bs : List Nat) (h : Mem.wf m = true) : Mem.wf (Mem.write m a bs) = true := by
  induction bs generalizing m a with
  | nil => exact h
  | cons b bs ih => exact ih _ _ (Mem.wf_put _ _ _ h)
/-- Every memory of the device is in canonical form at reset. -/
theorem reset_memories_wf : Mem.wf State.reset.dram = true ∧ Mem.wf State.reset.host = true ∧ Mem.wf State.reset.sram = true ∧
    Mem.wf State.reset.sec.flash = true := ⟨rfl, rfl, rfl, rfl⟩

/-! ### Register maps -/

theorem RegMap.wf_cons (p : Nat × Nat) (m : RegMap) : RegMap.wf (p :: m) = true ↔ (∀ q ∈ m, p.1 < q.1) ∧ RegMap.wf m = true := by
  simp [RegMap.wf]
theorem RegMap.mem_put (m : RegMap) (k v : Nat) (q : Nat × Nat) (h : q ∈ RegMap.put m k v) : q = (k, v) ∨ q ∈ m := by
  induction m with
  | nil => simpa [RegMap.put] using h
  | cons c m ih =>
    simp only [RegMap.put] at h
    split at h
    · rcases List.mem_cons.1 h with h | h
      · exact .inr (h ▸ List.mem_cons_self ..)
      · exact (ih h).imp id (List.mem_cons_of_mem _)
    · split at h
      · exact (List.mem_cons.1 h).imp id (List.mem_cons_of_mem _)
      · exact List.mem_cons.1 h
theorem RegMap.wf_put (m : RegMap) (k v : Nat) (h : RegMap.wf m = true) : RegMap.wf (RegMap.put m k v) = true := by
  induction m with
  | nil => simp [RegMap.put, RegMap.wf]
  | cons c m ih =>
    obtain ⟨h2, h3⟩ := (RegMap.wf_cons c m).1 h
    simp only [RegMap.put]
    split
    · rename_i hc
      refine (RegMap.wf_cons _ _).2 ⟨fun d hd => ?_, ih h3⟩
      rcases RegMap.mem_put _ _ _ _ hd with rfl | hd
      · exact hc
      · exact h2 d hd
    · split
      · rename_i hc
        exact (RegMap.wf_cons _ _).2 ⟨fun d hd => hc ▸ h2 d hd, h3⟩
      · refine (RegMap.wf_cons _ _).2 ⟨fun d hd => ?_, h⟩
        rcases List.mem_cons.1 hd with rfl | hd
        · simp only; omega
        · have := h2 d hd; simp only; omega
theorem RegMap.wf_filter (m : RegMap) (p : Nat × Nat → Bool) (h : RegMap.wf m = true) : RegMap.wf (m.filter p) = true := by
  induction m with
  | nil => rfl
  | cons c m ih =>
    obtain ⟨h2, h3⟩ := (RegMap.wf_cons c m).1 h
    rw [List.filter_cons]
    split
    · exact (RegMap.wf_cons _ _).2 ⟨fun d hd => h2 d (List.mem_filter.1 hd).1, ih h3⟩
    · exact ih h3
/-- Setting a register keeps the canonical form of its map. -/
theorem putVal_wf (p : Part) (m : RegMap) (u c : Nat) (f : Field) (i v : Nat) (h : RegMap.wf m = true) : RegMap.wf (putVal p m u c f i v) = true := by
  unfold putVal RegMap.del
  split
  · exact RegMap.wf_filter _ _ h
  · exact RegMap.wf_put _ _ _ h
/-- Joining and replacing pages keep the canonical form. -/
theorem RegMap.wf_join (a b : RegMap) (h : RegMap.wf b = true) : RegMap.wf (RegMap.join a b) = true := by
  unfold RegMap.join
  induction a generalizing b with
  | nil => exact h
  | cons q a ih => exact ih _ (RegMap.wf_put _ _ _ h)
theorem RegMap.wf_replace (m snap : RegMap) (u : Nat) (h : RegMap.wf m = true) : RegMap.wf (RegMap.replace m u snap) = true :=
  RegMap.wf_join _ _ (RegMap.wf_filter _ _ h)
theorem reset_registers_wf : RegMap.wf State.reset.live = true ∧ RegMap.wf State.reset.active = true ∧ RegMap.wf State.reset.shadow = true := ⟨rfl, rfl, rfl⟩

/-- A key put is found. -/
@[simp] theorem RegMap.find_put (m : RegMap) (k v : Nat) : RegMap.find (RegMap.put m k v) k = some v := by
  induction m with
  | nil => simp [RegMap.put, RegMap.find]
  | cons c m ih =>
    simp only [RegMap.put]
    split
    · rename_i hc
      simpa [RegMap.find, List.find?_cons, Nat.ne_of_lt hc] using ih
    · split <;> simp [RegMap.find]
/-- Other keys are found as before. -/
theorem RegMap.find_put_ne (m : RegMap) (k k' v : Nat) (h : k' ≠ k) : RegMap.find (RegMap.put m k v) k' = RegMap.find m k' := by
  induction m with
  | nil => simp [RegMap.put, RegMap.find, h.symm]
  | cons c m ih =>
    simp only [RegMap.put]
    split
    · simp only [RegMap.find, List.find?_cons] at ih ⊢
      split
      · rfl
      · exact ih
    · split
      · rename_i hc
        have : ((c.1 == k') : Bool) = false := by simp [hc, h.symm]
        have h2 : ((k == k') : Bool) = false := by simp [h.symm]
        simp [RegMap.find, this, h2]
      · have h2 : ((k == k') : Bool) = false := by simp [h.symm]
        simp [RegMap.find, List.find?_cons, h2]
/-- A key deleted is not found. -/
@[simp] theorem RegMap.find_del (m : RegMap) (k : Nat) : RegMap.find (RegMap.del m k) k = none := by
  simp [RegMap.find, RegMap.del, List.find?_filter]
theorem RegMap.find_del_ne (m : RegMap) (k k' : Nat) (h : k' ≠ k) : RegMap.find (RegMap.del m k) k' = RegMap.find m k' := by
  simp only [RegMap.find, RegMap.del, List.find?_filter]
  congr 1
  congr 1
  funext p
  by_cases hp : p.1 = k' <;> simp [hp, h]
/-- What a map that had a value put answers: that value, cut to the field, for its own key, and what it answered before for another. -/
theorem setVal_putVal (p : Part) (m : RegMap) (u c : Nat) (f : Field) (i v : Nat) : setVal p (putVal p m u c f i v) u c f i = v % 2 ^ f.width := by
  unfold putVal setVal
  split <;> simp_all
theorem setVal_putVal_ne (p : Part) (m : RegMap) (u c : Nat) (f : Field) (i v u' c' : Nat) (f' : Field) (i' : Nat) (h : regKey u' c' f' i' ≠ regKey u c f i) :
    setVal p (putVal p m u c f i v) u' c' f' i' = setVal p m u' c' f' i' := by
  unfold putVal setVal
  split
  · rw [RegMap.find_del_ne _ _ _ h]
  · rw [RegMap.find_put_ne _ _ _ _ h]
/-- A register set reads as the value, cut to its width; every other register as before. -/
theorem State.regC_setC (s : State) (u c : Nat) (f : Field) (i v : Nat) : (s.setC u c f i v).regC u c f i = v % 2 ^ f.width :=
  setVal_putVal s.part s.live u c f i v
theorem State.regC_setC_ne (s : State) (u c : Nat) (f : Field) (i v u' c' : Nat) (f' : Field) (i' : Nat) (h : regKey u' c' f' i' ≠ regKey u c f i) :
    (s.setC u c f i v).regC u' c' f' i' = s.regC u' c' f' i' := setVal_putVal_ne s.part s.live u c f i v u' c' f' i' h
theorem State.reg_set (s : State) (u : Nat) (f : Field) (i v : Nat) : (s.set u f v i).reg u f i = v % 2 ^ f.width := s.regC_setC u 0 f i v
theorem State.reg_set_ne (s : State) (u : Nat) (f : Field) (i v u' : Nat) (f' : Field) (i' : Nat) (h : regKey u' 0 f' i' ≠ regKey u 0 f i) :
    (s.set u f v i).reg u' f' i' = s.reg u' f' i' := s.regC_setC_ne u 0 f i v u' 0 f' i' h

end Sys2Proof.Machine
end

