-- ==== Sys2Proof/Laws/State.lean ====
section
/-! SUPPORT. What each update of State leaves alone: one lemma per update and field, so that no proof unfolds a record update. Written out by a script. -/
namespace Sys2Proof.Machine

/-! ### setC -/

@[simp] theorem State.setC_pending (s : State) (u c : Nat) (f : Field) (i v : Nat) : (s.setC u c f i v).pending = s.pending := rfl
@[simp] theorem State.setC_part (s : State) (u c : Nat) (f : Field) (i v : Nat) : (s.setC u c f i v).part = s.part := rfl
@[simp] theorem State.setC_now (s : State) (u c : Nat) (f : Field) (i v : Nat) : (s.setC u c f i v).now = s.now := rfl
@[simp] theorem State.setC_ropeT (s : State) (u c : Nat) (f : Field) (i v : Nat) : (s.setC u c f i v).ropeT = s.ropeT := rfl
@[simp] theorem State.setC_frozen (s : State) (u c : Nat) (f : Field) (i v : Nat) : (s.setC u c f i v).frozen = s.frozen := rfl
@[simp] theorem State.setC_d3hot (s : State) (u c : Nat) (f : Field) (i v : Nat) : (s.setC u c f i v).d3hot = s.d3hot := rfl
@[simp] theorem State.setC_cfg (s : State) (u c : Nat) (f : Field) (i v : Nat) : (s.setC u c f i v).cfg = s.cfg := rfl
@[simp] theorem State.setC_active (s : State) (u c : Nat) (f : Field) (i v : Nat) : (s.setC u c f i v).active = s.active := rfl
@[simp] theorem State.setC_shadow (s : State) (u c : Nat) (f : Field) (i v : Nat) : (s.setC u c f i v).shadow = s.shadow := rfl
@[simp] theorem State.setC_openSets (s : State) (u c : Nat) (f : Field) (i v : Nat) : (s.setC u c f i v).openSets = s.openSets := rfl
@[simp] theorem State.setC_units (s : State) (u c : Nat) (f : Field) (i v : Nat) : (s.setC u c f i v).units = s.units := rfl
@[simp] theorem State.setC_commits (s : State) (u c : Nat) (f : Field) (i v : Nat) : (s.setC u c f i v).commits = s.commits := rfl
@[simp] theorem State.setC_commitNext (s : State) (u c : Nat) (f : Field) (i v : Nat) : (s.setC u c f i v).commitNext = s.commitNext := rfl
@[simp] theorem State.setC_cmdSeq (s : State) (u c : Nat) (f : Field) (i v : Nat) : (s.setC u c f i v).cmdSeq = s.cmdSeq := rfl
@[simp] theorem State.setC_urgentQ (s : State) (u c : Nat) (f : Field) (i v : Nat) : (s.setC u c f i v).urgentQ = s.urgentQ := rfl
@[simp] theorem State.setC_normalQ (s : State) (u c : Nat) (f : Field) (i v : Nat) : (s.setC u c f i v).normalQ = s.normalQ := rfl
@[simp] theorem State.setC_reply (s : State) (u c : Nat) (f : Field) (i v : Nat) : (s.setC u c f i v).reply = s.reply := rfl
@[simp] theorem State.setC_evt (s : State) (u c : Nat) (f : Field) (i v : Nat) : (s.setC u c f i v).evt = s.evt := rfl
@[simp] theorem State.setC_aborts (s : State) (u c : Nat) (f : Field) (i v : Nat) : (s.setC u c f i v).aborts = s.aborts := rfl
@[simp] theorem State.setC_works (s : State) (u c : Nat) (f : Field) (i v : Nat) : (s.setC u c f i v).works = s.works := rfl
@[simp] theorem State.setC_ports (s : State) (u c : Nat) (f : Field) (i v : Nat) : (s.setC u c f i v).ports = s.ports := rfl
@[simp] theorem State.setC_job (s : State) (u c : Nat) (f : Field) (i v : Nat) : (s.setC u c f i v).job = s.job := rfl
@[simp] theorem State.setC_encs (s : State) (u c : Nat) (f : Field) (i v : Nat) : (s.setC u c f i v).encs = s.encs := rfl
@[simp] theorem State.setC_lcs (s : State) (u c : Nat) (f : Field) (i v : Nat) : (s.setC u c f i v).lcs = s.lcs := rfl
@[simp] theorem State.setC_ebs (s : State) (u c : Nat) (f : Field) (i v : Nat) : (s.setC u c f i v).ebs = s.ebs := rfl
@[simp] theorem State.setC_ebStopped (s : State) (u c : Nat) (f : Field) (i v : Nat) : (s.setC u c f i v).ebStopped = s.ebStopped := rfl
@[simp] theorem State.setC_skews (s : State) (u c : Nat) (f : Field) (i v : Nat) : (s.setC u c f i v).skews = s.skews := rfl
@[simp] theorem State.setC_trig (s : State) (u c : Nat) (f : Field) (i v : Nat) : (s.setC u c f i v).trig = s.trig := rfl
@[simp] theorem State.setC_rings (s : State) (u c : Nat) (f : Field) (i v : Nat) : (s.setC u c f i v).rings = s.rings := rfl
@[simp] theorem State.setC_dmas (s : State) (u c : Nat) (f : Field) (i v : Nat) : (s.setC u c f i v).dmas = s.dmas := rfl
@[simp] theorem State.setC_axes (s : State) (u c : Nat) (f : Field) (i v : Nat) : (s.setC u c f i v).axes = s.axes := rfl
@[simp] theorem State.setC_links (s : State) (u c : Nat) (f : Field) (i v : Nat) : (s.setC u c f i v).links = s.links := rfl
@[simp] theorem State.setC_belays (s : State) (u c : Nat) (f : Field) (i v : Nat) : (s.setC u c f i v).belays = s.belays := rfl
@[simp] theorem State.setC_vmot (s : State) (u c : Nat) (f : Field) (i v : Nat) : (s.setC u c f i v).vmot = s.vmot := rfl
@[simp] theorem State.setC_lamps (s : State) (u c : Nat) (f : Field) (i v : Nat) : (s.setC u c f i v).lamps = s.lamps := rfl
@[simp] theorem State.setC_chain (s : State) (u c : Nat) (f : Field) (i v : Nat) : (s.setC u c f i v).chain = s.chain := rfl
@[simp] theorem State.setC_hares (s : State) (u c : Nat) (f : Field) (i v : Nat) : (s.setC u c f i v).hares = s.hares := rfl
@[simp] theorem State.setC_ropeS (s : State) (u c : Nat) (f : Field) (i v : Nat) : (s.setC u c f i v).ropeS = s.ropeS := rfl
@[simp] theorem State.setC_slots (s : State) (u c : Nat) (f : Field) (i v : Nat) : (s.setC u c f i v).slots = s.slots := rfl
@[simp] theorem State.setC_sec (s : State) (u c : Nat) (f : Field) (i v : Nat) : (s.setC u c f i v).sec = s.sec := rfl
@[simp] theorem State.setC_memS (s : State) (u c : Nat) (f : Field) (i v : Nat) : (s.setC u c f i v).memS = s.memS := rfl
@[simp] theorem State.setC_pow (s : State) (u c : Nat) (f : Field) (i v : Nat) : (s.setC u c f i v).pow = s.pow := rfl
@[simp] theorem State.setC_sys (s : State) (u c : Nat) (f : Field) (i v : Nat) : (s.setC u c f i v).sys = s.sys := rfl
@[simp] theorem State.setC_host (s : State) (u c : Nat) (f : Field) (i v : Nat) : (s.setC u c f i v).host = s.host := rfl
@[simp] theorem State.setC_dram (s : State) (u c : Nat) (f : Field) (i v : Nat) : (s.setC u c f i v).dram = s.dram := rfl
@[simp] theorem State.setC_sram (s : State) (u c : Nat) (f : Field) (i v : Nat) : (s.setC u c f i v).sram = s.sram := rfl
@[simp] theorem State.setC_rdata (s : State) (u c : Nat) (f : Field) (i v : Nat) : (s.setC u c f i v).rdata = s.rdata := rfl
@[simp] theorem State.setC_results (s : State) (u c : Nat) (f : Field) (i v : Nat) : (s.setC u c f i v).results = s.results := rfl
@[simp] theorem State.setC_draw (s : State) (u c : Nat) (f : Field) (i v : Nat) : (s.setC u c f i v).draw = s.draw := rfl

/-! ### set -/

@[simp] theorem State.set_pending (s : State) (u : Nat) (f : Field) (v i : Nat) : (s.set u f v i).pending = s.pending := rfl
@[simp] theorem State.set_part (s : State) (u : Nat) (f : Field) (v i : Nat) : (s.set u f v i).part = s.part := rfl
@[simp] theorem State.set_now (s : State) (u : Nat) (f : Field) (v i : Nat) : (s.set u f v i).now = s.now := rfl
@[simp] theorem State.set_ropeT (s : State) (u : Nat) (f : Field) (v i : Nat) : (s.set u f v i).ropeT = s.ropeT := rfl
@[simp] theorem State.set_frozen (s : State) (u : Nat) (f : Field) (v i : Nat) : (s.set u f v i).frozen = s.frozen := rfl
@[simp] theorem State.set_d3hot (s : State) (u : Nat) (f : Field) (v i : Nat) : (s.set u f v i).d3hot = s.d3hot := rfl
@[simp] theorem State.set_cfg (s : State) (u : Nat) (f : Field) (v i : Nat) : (s.set u f v i).cfg = s.cfg := rfl
@[simp] theorem State.set_active (s : State) (u : Nat) (f : Field) (v i : Nat) : (s.set u f v i).active = s.active := rfl
@[simp] theorem State.set_shadow (s : State) (u : Nat) (f : Field) (v i : Nat) : (s.set u f v i).shadow = s.shadow := rfl
@[simp] theorem State.set_openSets (s : State) (u : Nat) (f : Field) (v i : Nat) : (s.set u f v i).openSets = s.openSets := rfl
@[simp] theorem State.set_units (s : State) (u : Nat) (f : Field) (v i : Nat) : (s.set u f v i).units = s.units := rfl
@[simp] theorem State.set_commits (s : State) (u : Nat) (f : Field) (v i : Nat) : (s.set u f v i).commits = s.commits := rfl
@[simp] theorem State.set_commitNext (s : State) (u : Nat) (f : Field) (v i : Nat) : (s.set u f v i).commitNext = s.commitNext := rfl
@[simp] theorem State.set_cmdSeq (s : State) (u : Nat) (f : Field) (v i : Nat) : (s.set u f v i).cmdSeq = s.cmdSeq := rfl
@[simp] theorem State.set_urgentQ (s : State) (u : Nat) (f : Field) (v i : Nat) : (s.set u f v i).urgentQ = s.urgentQ := rfl
@[simp] theorem State.set_normalQ (s : State) (u : Nat) (f : Field) (v i : Nat) : (s.set u f v i).normalQ = s.normalQ := rfl
@[simp] theorem State.set_reply (s : State) (u : Nat) (f : Field) (v i : Nat) : (s.set u f v i).reply = s.reply := rfl
@[simp] theorem State.set_evt (s : State) (u : Nat) (f : Field) (v i : Nat) : (s.set u f v i).evt = s.evt := rfl
@[simp] theorem State.set_aborts (s : State) (u : Nat) (f : Field) (v i : Nat) : (s.set u f v i).aborts = s.aborts := rfl
@[simp] theorem State.set_works (s : State) (u : Nat) (f : Field) (v i : Nat) : (s.set u f v i).works = s.works := rfl
@[simp] theorem State.set_ports (s : State) (u : Nat) (f : Field) (v i : Nat) : (s.set u f v i).ports = s.ports := rfl
@[simp] theorem State.set_job (s : State) (u : Nat) (f : Field) (v i : Nat) : (s.set u f v i).job = s.job := rfl
@[simp] theorem State.set_encs (s : State) (u : Nat) (f : Field) (v i : Nat) : (s.set u f v i).encs = s.encs := rfl
@[simp] theorem State.set_lcs (s : State) (u : Nat) (f : Field) (v i : Nat) : (s.set u f v i).lcs = s.lcs := rfl
@[simp] theorem State.set_ebs (s : State) (u : Nat) (f : Field) (v i : Nat) : (s.set u f v i).ebs = s.ebs := rfl
@[simp] theorem State.set_ebStopped (s : State) (u : Nat) (f : Field) (v i : Nat) : (s.set u f v i).ebStopped = s.ebStopped := rfl
@[simp] theorem State.set_skews (s : State) (u : Nat) (f : Field) (v i : Nat) : (s.set u f v i).skews = s.skews := rfl
@[simp] theorem State.set_trig (s : State) (u : Nat) (f : Field) (v i : Nat) : (s.set u f v i).trig = s.trig := rfl
@[simp] theorem State.set_rings (s : State) (u : Nat) (f : Field) (v i : Nat) : (s.set u f v i).rings = s.rings := rfl
@[simp] theorem State.set_dmas (s : State) (u : Nat) (f : Field) (v i : Nat) : (s.set u f v i).dmas = s.dmas := rfl
@[simp] theorem State.set_axes (s : State) (u : Nat) (f : Field) (v i : Nat) : (s.set u f v i).axes = s.axes := rfl
@[simp] theorem State.set_links (s : State) (u : Nat) (f : Field) (v i : Nat) : (s.set u f v i).links = s.links := rfl
@[simp] theorem State.set_belays (s : State) (u : Nat) (f : Field) (v i : Nat) : (s.set u f v i).belays = s.belays := rfl
@[simp] theorem State.set_vmot (s : State) (u : Nat) (f : Field) (v i : Nat) : (s.set u f v i).vmot = s.vmot := rfl
@[simp] theorem State.set_lamps (s : State) (u : Nat) (f : Field) (v i : Nat) : (s.set u f v i).lamps = s.lamps := rfl
@[simp] theorem State.set_chain (s : State) (u : Nat) (f : Field) (v i : Nat) : (s.set u f v i).chain = s.chain := rfl
@[simp] theorem State.set_hares (s : State) (u : Nat) (f : Field) (v i : Nat) : (s.set u f v i).hares = s.hares := rfl
@[simp] theorem State.set_ropeS (s : State) (u : Nat) (f : Field) (v i : Nat) : (s.set u f v i).ropeS = s.ropeS := rfl
@[simp] theorem State.set_slots (s : State) (u : Nat) (f : Field) (v i : Nat) : (s.set u f v i).slots = s.slots := rfl
@[simp] theorem State.set_sec (s : State) (u : Nat) (f : Field) (v i : Nat) : (s.set u f v i).sec = s.sec := rfl
@[simp] theorem State.set_memS (s : State) (u : Nat) (f : Field) (v i : Nat) : (s.set u f v i).memS = s.memS := rfl
@[simp] theorem State.set_pow (s : State) (u : Nat) (f : Field) (v i : Nat) : (s.set u f v i).pow = s.pow := rfl
@[simp] theorem State.set_sys (s : State) (u : Nat) (f : Field) (v i : Nat) : (s.set u f v i).sys = s.sys := rfl
@[simp] theorem State.set_host (s : State) (u : Nat) (f : Field) (v i : Nat) : (s.set u f v i).host = s.host := rfl
@[simp] theorem State.set_dram (s : State) (u : Nat) (f : Field) (v i : Nat) : (s.set u f v i).dram = s.dram := rfl
@[simp] theorem State.set_sram (s : State) (u : Nat) (f : Field) (v i : Nat) : (s.set u f v i).sram = s.sram := rfl
@[simp] theorem State.set_rdata (s : State) (u : Nat) (f : Field) (v i : Nat) : (s.set u f v i).rdata = s.rdata := rfl
@[simp] theorem State.set_results (s : State) (u : Nat) (f : Field) (v i : Nat) : (s.set u f v i).results = s.results := rfl
@[simp] theorem State.set_draw (s : State) (u : Nat) (f : Field) (v i : Nat) : (s.set u f v i).draw = s.draw := rfl

/-! ### bump -/

@[simp] theorem State.bump_pending (s : State) (u : Nat) (f : Field) (n i : Nat) : (s.bump u f n i).pending = s.pending := rfl
@[simp] theorem State.bump_part (s : State) (u : Nat) (f : Field) (n i : Nat) : (s.bump u f n i).part = s.part := rfl
@[simp] theorem State.bump_now (s : State) (u : Nat) (f : Field) (n i : Nat) : (s.bump u f n i).now = s.now := rfl
@[simp] theorem State.bump_ropeT (s : State) (u : Nat) (f : Field) (n i : Nat) : (s.bump u f n i).ropeT = s.ropeT := rfl
@[simp] theorem State.bump_frozen (s : State) (u : Nat) (f : Field) (n i : Nat) : (s.bump u f n i).frozen = s.frozen := rfl
@[simp] theorem State.bump_d3hot (s : State) (u : Nat) (f : Field) (n i : Nat) : (s.bump u f n i).d3hot = s.d3hot := rfl
@[simp] theorem State.bump_cfg (s : State) (u : Nat) (f : Field) (n i : Nat) : (s.bump u f n i).cfg = s.cfg := rfl
@[simp] theorem State.bump_active (s : State) (u : Nat) (f : Field) (n i : Nat) : (s.bump u f n i).active = s.active := rfl
@[simp] theorem State.bump_shadow (s : State) (u : Nat) (f : Field) (n i : Nat) : (s.bump u f n i).shadow = s.shadow := rfl
@[simp] theorem State.bump_openSets (s : State) (u : Nat) (f : Field) (n i : Nat) : (s.bump u f n i).openSets = s.openSets := rfl
@[simp] theorem State.bump_units (s : State) (u : Nat) (f : Field) (n i : Nat) : (s.bump u f n i).units = s.units := rfl
@[simp] theorem State.bump_commits (s : State) (u : Nat) (f : Field) (n i : Nat) : (s.bump u f n i).commits = s.commits := rfl
@[simp] theorem State.bump_commitNext (s : State) (u : Nat) (f : Field) (n i : Nat) : (s.bump u f n i).commitNext = s.commitNext := rfl
@[simp] theorem State.bump_cmdSeq (s : State) (u : Nat) (f : Field) (n i : Nat) : (s.bump u f n i).cmdSeq = s.cmdSeq := rfl
@[simp] theorem State.bump_urgentQ (s : State) (u : Nat) (f : Field) (n i : Nat) : (s.bump u f n i).urgentQ = s.urgentQ := rfl
@[simp] theorem State.bump_normalQ (s : State) (u : Nat) (f : Field) (n i : Nat) : (s.bump u f n i).normalQ = s.normalQ := rfl
@[simp] theorem State.bump_reply (s : State) (u : Nat) (f : Field) (n i : Nat) : (s.bump u f n i).reply = s.reply := rfl
@[simp] theorem State.bump_evt (s : State) (u : Nat) (f : Field) (n i : Nat) : (s.bump u f n i).evt = s.evt := rfl
@[simp] theorem State.bump_aborts (s : State) (u : Nat) (f : Field) (n i : Nat) : (s.bump u f n i).aborts = s.aborts := rfl
@[simp] theorem State.bump_works (s : State) (u : Nat) (f : Field) (n i : Nat) : (s.bump u f n i).works = s.works := rfl
@[simp] theorem State.bump_ports (s : State) (u : Nat) (f : Field) (n i : Nat) : (s.bump u f n i).ports = s.ports := rfl
@[simp] theorem State.bump_job (s : State) (u : Nat) (f : Field) (n i : Nat) : (s.bump u f n i).job = s.job := rfl
@[simp] theorem State.bump_encs (s : State) (u : Nat) (f : Field) (n i : Nat) : (s.bump u f n i).encs = s.encs := rfl
@[simp] theorem State.bump_lcs (s : State) (u : Nat) (f : Field) (n i : Nat) : (s.bump u f n i).lcs = s.lcs := rfl
@[simp] theorem State.bump_ebs (s : State) (u : Nat) (f : Field) (n i : Nat) : (s.bump u f n i).ebs = s.ebs := rfl
@[simp] theorem State.bump_ebStopped (s : State) (u : Nat) (f : Field) (n i : Nat) : (s.bump u f n i).ebStopped = s.ebStopped := rfl
@[simp] theorem State.bump_skews (s : State) (u : Nat) (f : Field) (n i : Nat) : (s.bump u f n i).skews = s.skews := rfl
@[simp] theorem State.bump_trig (s : State) (u : Nat) (f : Field) (n i : Nat) : (s.bump u f n i).trig = s.trig := rfl
@[simp] theorem State.bump_rings (s : State) (u : Nat) (f : Field) (n i : Nat) : (s.bump u f n i).rings = s.rings := rfl
@[simp] theorem State.bump_dmas (s : State) (u : Nat) (f : Field) (n i : Nat) : (s.bump u f n i).dmas = s.dmas := rfl
@[simp] theorem State.bump_axes (s : State) (u : Nat) (f : Field) (n i : Nat) : (s.bump u f n i).axes = s.axes := rfl
@[simp] theorem State.bump_links (s : State) (u : Nat) (f : Field) (n i : Nat) : (s.bump u f n i).links = s.links := rfl
@[simp] theorem State.bump_belays (s : State) (u : Nat) (f : Field) (n i : Nat) : (s.bump u f n i).belays = s.belays := rfl
@[simp] theorem State.bump_vmot (s : State) (u : Nat) (f : Field) (n i : Nat) : (s.bump u f n i).vmot = s.vmot := rfl
@[simp] theorem State.bump_lamps (s : State) (u : Nat) (f : Field) (n i : Nat) : (s.bump u f n i).lamps = s.lamps := rfl
@[simp] theorem State.bump_chain (s : State) (u : Nat) (f : Field) (n i : Nat) : (s.bump u f n i).chain = s.chain := rfl
@[simp] theorem State.bump_hares (s : State) (u : Nat) (f : Field) (n i : Nat) : (s.bump u f n i).hares = s.hares := rfl
@[simp] theorem State.bump_ropeS (s : State) (u : Nat) (f : Field) (n i : Nat) : (s.bump u f n i).ropeS = s.ropeS := rfl
@[simp] theorem State.bump_slots (s : State) (u : Nat) (f : Field) (n i : Nat) : (s.bump u f n i).slots = s.slots := rfl
@[simp] theorem State.bump_sec (s : State) (u : Nat) (f : Field) (n i : Nat) : (s.bump u f n i).sec = s.sec := rfl
@[simp] theorem State.bump_memS (s : State) (u : Nat) (f : Field) (n i : Nat) : (s.bump u f n i).memS = s.memS := rfl
@[simp] theorem State.bump_pow (s : State) (u : Nat) (f : Field) (n i : Nat) : (s.bump u f n i).pow = s.pow := rfl
@[simp] theorem State.bump_sys (s : State) (u : Nat) (f : Field) (n i : Nat) : (s.bump u f n i).sys = s.sys := rfl
@[simp] theorem State.bump_host (s : State) (u : Nat) (f : Field) (n i : Nat) : (s.bump u f n i).host = s.host := rfl
@[simp] theorem State.bump_dram (s : State) (u : Nat) (f : Field) (n i : Nat) : (s.bump u f n i).dram = s.dram := rfl
@[simp] theorem State.bump_sram (s : State) (u : Nat) (f : Field) (n i : Nat) : (s.bump u f n i).sram = s.sram := rfl
@[simp] theorem State.bump_rdata (s : State) (u : Nat) (f : Field) (n i : Nat) : (s.bump u f n i).rdata = s.rdata := rfl
@[simp] theorem State.bump_results (s : State) (u : Nat) (f : Field) (n i : Nat) : (s.bump u f n i).results = s.results := rfl
@[simp] theorem State.bump_draw (s : State) (u : Nat) (f : Field) (n i : Nat) : (s.bump u f n i).draw = s.draw := rfl

/-! ### modUnit -/

@[simp] theorem State.modUnit_pending (s : State) (u : Nat) (f : UnitSt → UnitSt) : (s.modUnit u f).pending = s.pending := rfl
@[simp] theorem State.modUnit_part (s : State) (u : Nat) (f : UnitSt → UnitSt) : (s.modUnit u f).part = s.part := rfl
@[simp] theorem State.modUnit_now (s : State) (u : Nat) (f : UnitSt → UnitSt) : (s.modUnit u f).now = s.now := rfl
@[simp] theorem State.modUnit_ropeT (s : State) (u : Nat) (f : UnitSt → UnitSt) : (s.modUnit u f).ropeT = s.ropeT := rfl
@[simp] theorem State.modUnit_frozen (s : State) (u : Nat) (f : UnitSt → UnitSt) : (s.modUnit u f).frozen = s.frozen := rfl
@[simp] theorem State.modUnit_d3hot (s : State) (u : Nat) (f : UnitSt → UnitSt) : (s.modUnit u f).d3hot = s.d3hot := rfl
@[simp] theorem State.modUnit_cfg (s : State) (u : Nat) (f : UnitSt → UnitSt) : (s.modUnit u f).cfg = s.cfg := rfl
@[simp] theorem State.modUnit_live (s : State) (u : Nat) (f : UnitSt → UnitSt) : (s.modUnit u f).live = s.live := rfl
@[simp] theorem State.modUnit_active (s : State) (u : Nat) (f : UnitSt → UnitSt) : (s.modUnit u f).active = s.active := rfl
@[simp] theorem State.modUnit_shadow (s : State) (u : Nat) (f : UnitSt → UnitSt) : (s.modUnit u f).shadow = s.shadow := rfl
@[simp] theorem State.modUnit_openSets (s : State) (u : Nat) (f : UnitSt → UnitSt) : (s.modUnit u f).openSets = s.openSets := rfl
@[simp] theorem State.modUnit_commits (s : State) (u : Nat) (f : UnitSt → UnitSt) : (s.modUnit u f).commits = s.commits := rfl
@[simp] theorem State.modUnit_commitNext (s : State) (u : Nat) (f : UnitSt → UnitSt) : (s.modUnit u f).commitNext = s.commitNext := rfl
@[simp] theorem State.modUnit_cmdSeq (s : State) (u : Nat) (f : UnitSt → UnitSt) : (s.modUnit u f).cmdSeq = s.cmdSeq := rfl
@[simp] theorem State.modUnit_urgentQ (s : State) (u : Nat) (f : UnitSt → UnitSt) : (s.modUnit u f).urgentQ = s.urgentQ := rfl
@[simp] theorem State.modUnit_normalQ (s : State) (u : Nat) (f : UnitSt → UnitSt) : (s.modUnit u f).normalQ = s.normalQ := rfl
@[simp] theorem State.modUnit_reply (s : State) (u : Nat) (f : UnitSt → UnitSt) : (s.modUnit u f).reply = s.reply := rfl
@[simp] theorem State.modUnit_evt (s : State) (u : Nat) (f : UnitSt → UnitSt) : (s.modUnit u f).evt = s.evt := rfl
@[simp] theorem State.modUnit_aborts (s : State) (u : Nat) (f : UnitSt → UnitSt) : (s.modUnit u f).aborts = s.aborts := rfl
@[simp] theorem State.modUnit_works (s : State) (u : Nat) (f : UnitSt → UnitSt) : (s.modUnit u f).works = s.works := rfl
@[simp] theorem State.modUnit_ports (s : State) (u : Nat) (f : UnitSt → UnitSt) : (s.modUnit u f).ports = s.ports := rfl
@[simp] theorem State.modUnit_job (s : State) (u : Nat) (f : UnitSt → UnitSt) : (s.modUnit u f).job = s.job := rfl
@[simp] theorem State.modUnit_encs (s : State) (u : Nat) (f : UnitSt → UnitSt) : (s.modUnit u f).encs = s.encs := rfl
@[simp] theorem State.modUnit_lcs (s : State) (u : Nat) (f : UnitSt → UnitSt) : (s.modUnit u f).lcs = s.lcs := rfl
@[simp] theorem State.modUnit_ebs (s : State) (u : Nat) (f : UnitSt → UnitSt) : (s.modUnit u f).ebs = s.ebs := rfl
@[simp] theorem State.modUnit_ebStopped (s : State) (u : Nat) (f : UnitSt → UnitSt) : (s.modUnit u f).ebStopped = s.ebStopped := rfl
@[simp] theorem State.modUnit_skews (s : State) (u : Nat) (f : UnitSt → UnitSt) : (s.modUnit u f).skews = s.skews := rfl
@[simp] theorem State.modUnit_trig (s : State) (u : Nat) (f : UnitSt → UnitSt) : (s.modUnit u f).trig = s.trig := rfl
@[simp] theorem State.modUnit_rings (s : State) (u : Nat) (f : UnitSt → UnitSt) : (s.modUnit u f).rings = s.rings := rfl
@[simp] theorem State.modUnit_dmas (s : State) (u : Nat) (f : UnitSt → UnitSt) : (s.modUnit u f).dmas = s.dmas := rfl
@[simp] theorem State.modUnit_axes (s : State) (u : Nat) (f : UnitSt → UnitSt) : (s.modUnit u f).axes = s.axes := rfl
@[simp] theorem State.modUnit_links (s : State) (u : Nat) (f : UnitSt → UnitSt) : (s.modUnit u f).links = s.links := rfl
@[simp] theorem State.modUnit_belays (s : State) (u : Nat) (f : UnitSt → UnitSt) : (s.modUnit u f).belays = s.belays := rfl
@[simp] theorem State.modUnit_vmot (s : State) (u : Nat) (f : UnitSt → UnitSt) : (s.modUnit u f).vmot = s.vmot := rfl
@[simp] theorem State.modUnit_lamps (s : State) (u : Nat) (f : UnitSt → UnitSt) : (s.modUnit u f).lamps = s.lamps := rfl
@[simp] theorem State.modUnit_chain (s : State) (u : Nat) (f : UnitSt → UnitSt) : (s.modUnit u f).chain = s.chain := rfl
@[simp] theorem State.modUnit_hares (s : State) (u : Nat) (f : UnitSt → UnitSt) : (s.modUnit u f).hares = s.hares := rfl
@[simp] theorem State.modUnit_ropeS (s : State) (u : Nat) (f : UnitSt → UnitSt) : (s.modUnit u f).ropeS = s.ropeS := rfl
@[simp] theorem State.modUnit_slots (s : State) (u : Nat) (f : UnitSt → UnitSt) : (s.modUnit u f).slots = s.slots := rfl
@[simp] theorem State.modUnit_sec (s : State) (u : Nat) (f : UnitSt → UnitSt) : (s.modUnit u f).sec = s.sec := rfl
@[simp] theorem State.modUnit_memS (s : State) (u : Nat) (f : UnitSt → UnitSt) : (s.modUnit u f).memS = s.memS := rfl
@[simp] theorem State.modUnit_pow (s : State) (u : Nat) (f : UnitSt → UnitSt) : (s.modUnit u f).pow = s.pow := rfl
@[simp] theorem State.modUnit_sys (s : State) (u : Nat) (f : UnitSt → UnitSt) : (s.modUnit u f).sys = s.sys := rfl
@[simp] theorem State.modUnit_host (s : State) (u : Nat) (f : UnitSt → UnitSt) : (s.modUnit u f).host = s.host := rfl
@[simp] theorem State.modUnit_dram (s : State) (u : Nat) (f : UnitSt → UnitSt) : (s.modUnit u f).dram = s.dram := rfl
@[simp] theorem State.modUnit_sram (s : State) (u : Nat) (f : UnitSt → UnitSt) : (s.modUnit u f).sram = s.sram := rfl
@[simp] theorem State.modUnit_rdata (s : State) (u : Nat) (f : UnitSt → UnitSt) : (s.modUnit u f).rdata = s.rdata := rfl
@[simp] theorem State.modUnit_results (s : State) (u : Nat) (f : UnitSt → UnitSt) : (s.modUnit u f).results = s.results := rfl
@[simp] theorem State.modUnit_draw (s : State) (u : Nat) (f : UnitSt → UnitSt) : (s.modUnit u f).draw = s.draw := rfl

/-! ### modPort -/

@[simp] theorem State.modPort_pending (s : State) (p : Nat) (f : PortSt → PortSt) : (s.modPort p f).pending = s.pending := rfl
@[simp] theorem State.modPort_part (s : State) (p : Nat) (f : PortSt → PortSt) : (s.modPort p f).part = s.part := rfl
@[simp] theorem State.modPort_now (s : State) (p : Nat) (f : PortSt → PortSt) : (s.modPort p f).now = s.now := rfl
@[simp] theorem State.modPort_ropeT (s : State) (p : Nat) (f : PortSt → PortSt) : (s.modPort p f).ropeT = s.ropeT := rfl
@[simp] theorem State.modPort_frozen (s : State) (p : Nat) (f : PortSt → PortSt) : (s.modPort p f).frozen = s.frozen := rfl
@[simp] theorem State.modPort_d3hot (s : State) (p : Nat) (f : PortSt → PortSt) : (s.modPort p f).d3hot = s.d3hot := rfl
@[simp] theorem State.modPort_cfg (s : State) (p : Nat) (f : PortSt → PortSt) : (s.modPort p f).cfg = s.cfg := rfl
@[simp] theorem State.modPort_live (s : State) (p : Nat) (f : PortSt → PortSt) : (s.modPort p f).live = s.live := rfl
@[simp] theorem State.modPort_active (s : State) (p : Nat) (f : PortSt → PortSt) : (s.modPort p f).active = s.active := rfl
@[simp] theorem State.modPort_shadow (s : State) (p : Nat) (f : PortSt → PortSt) : (s.modPort p f).shadow = s.shadow := rfl
@[simp] theorem State.modPort_openSets (s : State) (p : Nat) (f : PortSt → PortSt) : (s.modPort p f).openSets = s.openSets := rfl
@[simp] theorem State.modPort_units (s : State) (p : Nat) (f : PortSt → PortSt) : (s.modPort p f).units = s.units := rfl
@[simp] theorem State.modPort_commits (s : State) (p : Nat) (f : PortSt → PortSt) : (s.modPort p f).commits = s.commits := rfl
@[simp] theorem State.modPort_commitNext (s : State) (p : Nat) (f : PortSt → PortSt) : (s.modPort p f).commitNext = s.commitNext := rfl
@[simp] theorem State.modPort_cmdSeq (s : State) (p : Nat) (f : PortSt → PortSt) : (s.modPort p f).cmdSeq = s.cmdSeq := rfl
@[simp] theorem State.modPort_urgentQ (s : State) (p : Nat) (f : PortSt → PortSt) : (s.modPort p f).urgentQ = s.urgentQ := rfl
@[simp] theorem State.modPort_normalQ (s : State) (p : Nat) (f : PortSt → PortSt) : (s.modPort p f).normalQ = s.normalQ := rfl
@[simp] theorem State.modPort_reply (s : State) (p : Nat) (f : PortSt → PortSt) : (s.modPort p f).reply = s.reply := rfl
@[simp] theorem State.modPort_evt (s : State) (p : Nat) (f : PortSt → PortSt) : (s.modPort p f).evt = s.evt := rfl
@[simp] theorem State.modPort_aborts (s : State) (p : Nat) (f : PortSt → PortSt) : (s.modPort p f).aborts = s.aborts := rfl
@[simp] theorem State.modPort_works (s : State) (p : Nat) (f : PortSt → PortSt) : (s.modPort p f).works = s.works := rfl
@[simp] theorem State.modPort_job (s : State) (p : Nat) (f : PortSt → PortSt) : (s.modPort p f).job = s.job := rfl
@[simp] theorem State.modPort_encs (s : State) (p : Nat) (f : PortSt → PortSt) : (s.modPort p f).encs = s.encs := rfl
@[simp] theorem State.modPort_lcs (s : State) (p : Nat) (f : PortSt → PortSt) : (s.modPort p f).lcs = s.lcs := rfl
@[simp] theorem State.modPort_ebs (s : State) (p : Nat) (f : PortSt → PortSt) : (s.modPort p f).ebs = s.ebs := rfl
@[simp] theorem State.modPort_ebStopped (s : State) (p : Nat) (f : PortSt → PortSt) : (s.modPort p f).ebStopped = s.ebStopped := rfl
@[simp] theorem State.modPort_skews (s : State) (p : Nat) (f : PortSt → PortSt) : (s.modPort p f).skews = s.skews := rfl
@[simp] theorem State.modPort_trig (s : State) (p : Nat) (f : PortSt → PortSt) : (s.modPort p f).trig = s.trig := rfl
@[simp] theorem State.modPort_rings (s : State) (p : Nat) (f : PortSt → PortSt) : (s.modPort p f).rings = s.rings := rfl
@[simp] theorem State.modPort_dmas (s : State) (p : Nat) (f : PortSt → PortSt) : (s.modPort p f).dmas = s.dmas := rfl
@[simp] theorem State.modPort_axes (s : State) (p : Nat) (f : PortSt → PortSt) : (s.modPort p f).axes = s.axes := rfl
@[simp] theorem State.modPort_links (s : State) (p : Nat) (f : PortSt → PortSt) : (s.modPort p f).links = s.links := rfl
@[simp] theorem State.modPort_belays (s : State) (p : Nat) (f : PortSt → PortSt) : (s.modPort p f).belays = s.belays := rfl
@[simp] theorem State.modPort_vmot (s : State) (p : Nat) (f : PortSt → PortSt) : (s.modPort p f).vmot = s.vmot := rfl
@[simp] theorem State.modPort_lamps (s : State) (p : Nat) (f : PortSt → PortSt) : (s.modPort p f).lamps = s.lamps := rfl
@[simp] theorem State.modPort_chain (s : State) (p : Nat) (f : PortSt → PortSt) : (s.modPort p f).chain = s.chain := rfl
@[simp] theorem State.modPort_hares (s : State) (p : Nat) (f : PortSt → PortSt) : (s.modPort p f).hares = s.hares := rfl
@[simp] theorem State.modPort_ropeS (s : State) (p : Nat) (f : PortSt → PortSt) : (s.modPort p f).ropeS = s.ropeS := rfl
@[simp] theorem State.modPort_slots (s : State) (p : Nat) (f : PortSt → PortSt) : (s.modPort p f).slots = s.slots := rfl
@[simp] theorem State.modPort_sec (s : State) (p : Nat) (f : PortSt → PortSt) : (s.modPort p f).sec = s.sec := rfl
@[simp] theorem State.modPort_memS (s : State) (p : Nat) (f : PortSt → PortSt) : (s.modPort p f).memS = s.memS := rfl
@[simp] theorem State.modPort_pow (s : State) (p : Nat) (f : PortSt → PortSt) : (s.modPort p f).pow = s.pow := rfl
@[simp] theorem State.modPort_sys (s : State) (p : Nat) (f : PortSt → PortSt) : (s.modPort p f).sys = s.sys := rfl
@[simp] theorem State.modPort_host (s : State) (p : Nat) (f : PortSt → PortSt) : (s.modPort p f).host = s.host := rfl
@[simp] theorem State.modPort_dram (s : State) (p : Nat) (f : PortSt → PortSt) : (s.modPort p f).dram = s.dram := rfl
@[simp] theorem State.modPort_sram (s : State) (p : Nat) (f : PortSt → PortSt) : (s.modPort p f).sram = s.sram := rfl
@[simp] theorem State.modPort_rdata (s : State) (p : Nat) (f : PortSt → PortSt) : (s.modPort p f).rdata = s.rdata := rfl
@[simp] theorem State.modPort_results (s : State) (p : Nat) (f : PortSt → PortSt) : (s.modPort p f).results = s.results := rfl
@[simp] theorem State.modPort_draw (s : State) (p : Nat) (f : PortSt → PortSt) : (s.modPort p f).draw = s.draw := rfl

/-! ### modLc -/

@[simp] theorem State.modLc_pending (s : State) (p : Nat) (f : LcSt → LcSt) : (s.modLc p f).pending = s.pending := rfl
@[simp] theorem State.modLc_part (s : State) (p : Nat) (f : LcSt → LcSt) : (s.modLc p f).part = s.part := rfl
@[simp] theorem State.modLc_now (s : State) (p : Nat) (f : LcSt → LcSt) : (s.modLc p f).now = s.now := rfl
@[simp] theorem State.modLc_ropeT (s : State) (p : Nat) (f : LcSt → LcSt) : (s.modLc p f).ropeT = s.ropeT := rfl
@[simp] theorem State.modLc_frozen (s : State) (p : Nat) (f : LcSt → LcSt) : (s.modLc p f).frozen = s.frozen := rfl
@[simp] theorem State.modLc_d3hot (s : State) (p : Nat) (f : LcSt → LcSt) : (s.modLc p f).d3hot = s.d3hot := rfl
@[simp] theorem State.modLc_cfg (s : State) (p : Nat) (f : LcSt → LcSt) : (s.modLc p f).cfg = s.cfg := rfl
@[simp] theorem State.modLc_live (s : State) (p : Nat) (f : LcSt → LcSt) : (s.modLc p f).live = s.live := rfl
@[simp] theorem State.modLc_active (s : State) (p : Nat) (f : LcSt → LcSt) : (s.modLc p f).active = s.active := rfl
@[simp] theorem State.modLc_shadow (s : State) (p : Nat) (f : LcSt → LcSt) : (s.modLc p f).shadow = s.shadow := rfl
@[simp] theorem State.modLc_openSets (s : State) (p : Nat) (f : LcSt → LcSt) : (s.modLc p f).openSets = s.openSets := rfl
@[simp] theorem State.modLc_units (s : State) (p : Nat) (f : LcSt → LcSt) : (s.modLc p f).units = s.units := rfl
@[simp] theorem State.modLc_commits (s : State) (p : Nat) (f : LcSt → LcSt) : (s.modLc p f).commits = s.commits := rfl
@[simp] theorem State.modLc_commitNext (s : State) (p : Nat) (f : LcSt → LcSt) : (s.modLc p f).commitNext = s.commitNext := rfl
@[simp] theorem State.modLc_cmdSeq (s : State) (p : Nat) (f : LcSt → LcSt) : (s.modLc p f).cmdSeq = s.cmdSeq := rfl
@[simp] theorem State.modLc_urgentQ (s : State) (p : Nat) (f : LcSt → LcSt) : (s.modLc p f).urgentQ = s.urgentQ := rfl
@[simp] theorem State.modLc_normalQ (s : State) (p : Nat) (f : LcSt → LcSt) : (s.modLc p f).normalQ = s.normalQ := rfl
@[simp] theorem State.modLc_reply (s : State) (p : Nat) (f : LcSt → LcSt) : (s.modLc p f).reply = s.reply := rfl
@[simp] theorem State.modLc_evt (s : State) (p : Nat) (f : LcSt → LcSt) : (s.modLc p f).evt = s.evt := rfl
@[simp] theorem State.modLc_aborts (s : State) (p : Nat) (f : LcSt → LcSt) : (s.modLc p f).aborts = s.aborts := rfl
@[simp] theorem State.modLc_works (s : State) (p : Nat) (f : LcSt → LcSt) : (s.modLc p f).works = s.works := rfl
@[simp] theorem State.modLc_ports (s : State) (p : Nat) (f : LcSt → LcSt) : (s.modLc p f).ports = s.ports := rfl
@[simp] theorem State.modLc_job (s : State) (p : Nat) (f : LcSt → LcSt) : (s.modLc p f).job = s.job := rfl
@[simp] theorem State.modLc_encs (s : State) (p : Nat) (f : LcSt → LcSt) : (s.modLc p f).encs = s.encs := rfl
@[simp] theorem State.modLc_ebs (s : State) (p : Nat) (f : LcSt → LcSt) : (s.modLc p f).ebs = s.ebs := rfl
@[simp] theorem State.modLc_ebStopped (s : State) (p : Nat) (f : LcSt → LcSt) : (s.modLc p f).ebStopped = s.ebStopped := rfl
@[simp] theorem State.modLc_skews (s : State) (p : Nat) (f : LcSt → LcSt) : (s.modLc p f).skews = s.skews := rfl
@[simp] theorem State.modLc_trig (s : State) (p : Nat) (f : LcSt → LcSt) : (s.modLc p f).trig = s.trig := rfl
@[simp] theorem State.modLc_rings (s : State) (p : Nat) (f : LcSt → LcSt) : (s.modLc p f).rings = s.rings := rfl
@[simp] theorem State.modLc_dmas (s : State) (p : Nat) (f : LcSt → LcSt) : (s.modLc p f).dmas = s.dmas := rfl
@[simp] theorem State.modLc_axes (s : State) (p : Nat) (f : LcSt → LcSt) : (s.modLc p f).axes = s.axes := rfl
@[simp] theorem State.modLc_links (s : State) (p : Nat) (f : LcSt → LcSt) : (s.modLc p f).links = s.links := rfl
@[simp] theorem State.modLc_belays (s : State) (p : Nat) (f : LcSt → LcSt) : (s.modLc p f).belays = s.belays := rfl
@[simp] theorem State.modLc_vmot (s : State) (p : Nat) (f : LcSt → LcSt) : (s.modLc p f).vmot = s.vmot := rfl
@[simp] theorem State.modLc_lamps (s : State) (p : Nat) (f : LcSt → LcSt) : (s.modLc p f).lamps = s.lamps := rfl
@[simp] theorem State.modLc_chain (s : State) (p : Nat) (f : LcSt → LcSt) : (s.modLc p f).chain = s.chain := rfl
@[simp] theorem State.modLc_hares (s : State) (p : Nat) (f : LcSt → LcSt) : (s.modLc p f).hares = s.hares := rfl
@[simp] theorem State.modLc_ropeS (s : State) (p : Nat) (f : LcSt → LcSt) : (s.modLc p f).ropeS = s.ropeS := rfl
@[simp] theorem State.modLc_slots (s : State) (p : Nat) (f : LcSt → LcSt) : (s.modLc p f).slots = s.slots := rfl
@[simp] theorem State.modLc_sec (s : State) (p : Nat) (f : LcSt → LcSt) : (s.modLc p f).sec = s.sec := rfl
@[simp] theorem State.modLc_memS (s : State) (p : Nat) (f : LcSt → LcSt) : (s.modLc p f).memS = s.memS := rfl
@[simp] theorem State.modLc_pow (s : State) (p : Nat) (f : LcSt → LcSt) : (s.modLc p f).pow = s.pow := rfl
@[simp] theorem State.modLc_sys (s : State) (p : Nat) (f : LcSt → LcSt) : (s.modLc p f).sys = s.sys := rfl
@[simp] theorem State.modLc_host (s : State) (p : Nat) (f : LcSt → LcSt) : (s.modLc p f).host = s.host := rfl
@[simp] theorem State.modLc_dram (s : State) (p : Nat) (f : LcSt → LcSt) : (s.modLc p f).dram = s.dram := rfl
@[simp] theorem State.modLc_sram (s : State) (p : Nat) (f : LcSt → LcSt) : (s.modLc p f).sram = s.sram := rfl
@[simp] theorem State.modLc_rdata (s : State) (p : Nat) (f : LcSt → LcSt) : (s.modLc p f).rdata = s.rdata := rfl
@[simp] theorem State.modLc_results (s : State) (p : Nat) (f : LcSt → LcSt) : (s.modLc p f).results = s.results := rfl
@[simp] theorem State.modLc_draw (s : State) (p : Nat) (f : LcSt → LcSt) : (s.modLc p f).draw = s.draw := rfl

/-! ### modEnc -/

@[simp] theorem State.modEnc_pending (s : State) (p : Nat) (f : EncSt → EncSt) : (s.modEnc p f).pending = s.pending := rfl
@[simp] theorem State.modEnc_part (s : State) (p : Nat) (f : EncSt → EncSt) : (s.modEnc p f).part = s.part := rfl
@[simp] theorem State.modEnc_now (s : State) (p : Nat) (f : EncSt → EncSt) : (s.modEnc p f).now = s.now := rfl
@[simp] theorem State.modEnc_ropeT (s : State) (p : Nat) (f : EncSt → EncSt) : (s.modEnc p f).ropeT = s.ropeT := rfl
@[simp] theorem State.modEnc_frozen (s : State) (p : Nat) (f : EncSt → EncSt) : (s.modEnc p f).frozen = s.frozen := rfl
@[simp] theorem State.modEnc_d3hot (s : State) (p : Nat) (f : EncSt → EncSt) : (s.modEnc p f).d3hot = s.d3hot := rfl
@[simp] theorem State.modEnc_cfg (s : State) (p : Nat) (f : EncSt → EncSt) : (s.modEnc p f).cfg = s.cfg := rfl
@[simp] theorem State.modEnc_live (s : State) (p : Nat) (f : EncSt → EncSt) : (s.modEnc p f).live = s.live := rfl
@[simp] theorem State.modEnc_active (s : State) (p : Nat) (f : EncSt → EncSt) : (s.modEnc p f).active = s.active := rfl
@[simp] theorem State.modEnc_shadow (s : State) (p : Nat) (f : EncSt → EncSt) : (s.modEnc p f).shadow = s.shadow := rfl
@[simp] theorem State.modEnc_openSets (s : State) (p : Nat) (f : EncSt → EncSt) : (s.modEnc p f).openSets = s.openSets := rfl
@[simp] theorem State.modEnc_units (s : State) (p : Nat) (f : EncSt → EncSt) : (s.modEnc p f).units = s.units := rfl
@[simp] theorem State.modEnc_commits (s : State) (p : Nat) (f : EncSt → EncSt) : (s.modEnc p f).commits = s.commits := rfl
@[simp] theorem State.modEnc_commitNext (s : State) (p : Nat) (f : EncSt → EncSt) : (s.modEnc p f).commitNext = s.commitNext := rfl
@[simp] theorem State.modEnc_cmdSeq (s : State) (p : Nat) (f : EncSt → EncSt) : (s.modEnc p f).cmdSeq = s.cmdSeq := rfl
@[simp] theorem State.modEnc_urgentQ (s : State) (p : Nat) (f : EncSt → EncSt) : (s.modEnc p f).urgentQ = s.urgentQ := rfl
@[simp] theorem State.modEnc_normalQ (s : State) (p : Nat) (f : EncSt → EncSt) : (s.modEnc p f).normalQ = s.normalQ := rfl
@[simp] theorem State.modEnc_reply (s : State) (p : Nat) (f : EncSt → EncSt) : (s.modEnc p f).reply = s.reply := rfl
@[simp] theorem State.modEnc_evt (s : State) (p : Nat) (f : EncSt → EncSt) : (s.modEnc p f).evt = s.evt := rfl
@[simp] theorem State.modEnc_aborts (s : State) (p : Nat) (f : EncSt → EncSt) : (s.modEnc p f).aborts = s.aborts := rfl
@[simp] theorem State.modEnc_works (s : State) (p : Nat) (f : EncSt → EncSt) : (s.modEnc p f).works = s.works := rfl
@[simp] theorem State.modEnc_ports (s : State) (p : Nat) (f : EncSt → EncSt) : (s.modEnc p f).ports = s.ports := rfl
@[simp] theorem State.modEnc_job (s : State) (p : Nat) (f : EncSt → EncSt) : (s.modEnc p f).job = s.job := rfl
@[simp] theorem State.modEnc_lcs (s : State) (p : Nat) (f : EncSt → EncSt) : (s.modEnc p f).lcs = s.lcs := rfl
@[simp] theorem State.modEnc_ebs (s : State) (p : Nat) (f : EncSt → EncSt) : (s.modEnc p f).ebs = s.ebs := rfl
@[simp] theorem State.modEnc_ebStopped (s : State) (p : Nat) (f : EncSt → EncSt) : (s.modEnc p f).ebStopped = s.ebStopped := rfl
@[simp] theorem State.modEnc_skews (s : State) (p : Nat) (f : EncSt → EncSt) : (s.modEnc p f).skews = s.skews := rfl
@[simp] theorem State.modEnc_trig (s : State) (p : Nat) (f : EncSt → EncSt) : (s.modEnc p f).trig = s.trig := rfl
@[simp] theorem State.modEnc_rings (s : State) (p : Nat) (f : EncSt → EncSt) : (s.modEnc p f).rings = s.rings := rfl
@[simp] theorem State.modEnc_dmas (s : State) (p : Nat) (f : EncSt → EncSt) : (s.modEnc p f).dmas = s.dmas := rfl
@[simp] theorem State.modEnc_axes (s : State) (p : Nat) (f : EncSt → EncSt) : (s.modEnc p f).axes = s.axes := rfl
@[simp] theorem State.modEnc_links (s : State) (p : Nat) (f : EncSt → EncSt) : (s.modEnc p f).links = s.links := rfl
@[simp] theorem State.modEnc_belays (s : State) (p : Nat) (f : EncSt → EncSt) : (s.modEnc p f).belays = s.belays := rfl
@[simp] theorem State.modEnc_vmot (s : State) (p : Nat) (f : EncSt → EncSt) : (s.modEnc p f).vmot = s.vmot := rfl
@[simp] theorem State.modEnc_lamps (s : State) (p : Nat) (f : EncSt → EncSt) : (s.modEnc p f).lamps = s.lamps := rfl
@[simp] theorem State.modEnc_chain (s : State) (p : Nat) (f : EncSt → EncSt) : (s.modEnc p f).chain = s.chain := rfl
@[simp] theorem State.modEnc_hares (s : State) (p : Nat) (f : EncSt → EncSt) : (s.modEnc p f).hares = s.hares := rfl
@[simp] theorem State.modEnc_ropeS (s : State) (p : Nat) (f : EncSt → EncSt) : (s.modEnc p f).ropeS = s.ropeS := rfl
@[simp] theorem State.modEnc_slots (s : State) (p : Nat) (f : EncSt → EncSt) : (s.modEnc p f).slots = s.slots := rfl
@[simp] theorem State.modEnc_sec (s : State) (p : Nat) (f : EncSt → EncSt) : (s.modEnc p f).sec = s.sec := rfl
@[simp] theorem State.modEnc_memS (s : State) (p : Nat) (f : EncSt → EncSt) : (s.modEnc p f).memS = s.memS := rfl
@[simp] theorem State.modEnc_pow (s : State) (p : Nat) (f : EncSt → EncSt) : (s.modEnc p f).pow = s.pow := rfl
@[simp] theorem State.modEnc_sys (s : State) (p : Nat) (f : EncSt → EncSt) : (s.modEnc p f).sys = s.sys := rfl
@[simp] theorem State.modEnc_host (s : State) (p : Nat) (f : EncSt → EncSt) : (s.modEnc p f).host = s.host := rfl
@[simp] theorem State.modEnc_dram (s : State) (p : Nat) (f : EncSt → EncSt) : (s.modEnc p f).dram = s.dram := rfl
@[simp] theorem State.modEnc_sram (s : State) (p : Nat) (f : EncSt → EncSt) : (s.modEnc p f).sram = s.sram := rfl
@[simp] theorem State.modEnc_rdata (s : State) (p : Nat) (f : EncSt → EncSt) : (s.modEnc p f).rdata = s.rdata := rfl
@[simp] theorem State.modEnc_results (s : State) (p : Nat) (f : EncSt → EncSt) : (s.modEnc p f).results = s.results := rfl
@[simp] theorem State.modEnc_draw (s : State) (p : Nat) (f : EncSt → EncSt) : (s.modEnc p f).draw = s.draw := rfl

/-! ### modEb -/

@[simp] theorem State.modEb_pending (s : State) (p : Nat) (f : EbSt → EbSt) : (s.modEb p f).pending = s.pending := rfl
@[simp] theorem State.modEb_part (s : State) (p : Nat) (f : EbSt → EbSt) : (s.modEb p f).part = s.part := rfl
@[simp] theorem State.modEb_now (s : State) (p : Nat) (f : EbSt → EbSt) : (s.modEb p f).now = s.now := rfl
@[simp] theorem State.modEb_ropeT (s : State) (p : Nat) (f : EbSt → EbSt) : (s.modEb p f).ropeT = s.ropeT := rfl
@[simp] theorem State.modEb_frozen (s : State) (p : Nat) (f : EbSt → EbSt) : (s.modEb p f).frozen = s.frozen := rfl
@[simp] theorem State.modEb_d3hot (s : State) (p : Nat) (f : EbSt → EbSt) : (s.modEb p f).d3hot = s.d3hot := rfl
@[simp] theorem State.modEb_cfg (s : State) (p : Nat) (f : EbSt → EbSt) : (s.modEb p f).cfg = s.cfg := rfl
@[simp] theorem State.modEb_live (s : State) (p : Nat) (f : EbSt → EbSt) : (s.modEb p f).live = s.live := rfl
@[simp] theorem State.modEb_active (s : State) (p : Nat) (f : EbSt → EbSt) : (s.modEb p f).active = s.active := rfl
@[simp] theorem State.modEb_shadow (s : State) (p : Nat) (f : EbSt → EbSt) : (s.modEb p f).shadow = s.shadow := rfl
@[simp] theorem State.modEb_openSets (s : State) (p : Nat) (f : EbSt → EbSt) : (s.modEb p f).openSets = s.openSets := rfl
@[simp] theorem State.modEb_units (s : State) (p : Nat) (f : EbSt → EbSt) : (s.modEb p f).units = s.units := rfl
@[simp] theorem State.modEb_commits (s : State) (p : Nat) (f : EbSt → EbSt) : (s.modEb p f).commits = s.commits := rfl
@[simp] theorem State.modEb_commitNext (s : State) (p : Nat) (f : EbSt → EbSt) : (s.modEb p f).commitNext = s.commitNext := rfl
@[simp] theorem State.modEb_cmdSeq (s : State) (p : Nat) (f : EbSt → EbSt) : (s.modEb p f).cmdSeq = s.cmdSeq := rfl
@[simp] theorem State.modEb_urgentQ (s : State) (p : Nat) (f : EbSt → EbSt) : (s.modEb p f).urgentQ = s.urgentQ := rfl
@[simp] theorem State.modEb_normalQ (s : State) (p : Nat) (f : EbSt → EbSt) : (s.modEb p f).normalQ = s.normalQ := rfl
@[simp] theorem State.modEb_reply (s : State) (p : Nat) (f : EbSt → EbSt) : (s.modEb p f).reply = s.reply := rfl
@[simp] theorem State.modEb_evt (s : State) (p : Nat) (f : EbSt → EbSt) : (s.modEb p f).evt = s.evt := rfl
@[simp] theorem State.modEb_aborts (s : State) (p : Nat) (f : EbSt → EbSt) : (s.modEb p f).aborts = s.aborts := rfl
@[simp] theorem State.modEb_works (s : State) (p : Nat) (f : EbSt → EbSt) : (s.modEb p f).works = s.works := rfl
@[simp] theorem State.modEb_ports (s : State) (p : Nat) (f : EbSt → EbSt) : (s.modEb p f).ports = s.ports := rfl
@[simp] theorem State.modEb_job (s : State) (p : Nat) (f : EbSt → EbSt) : (s.modEb p f).job = s.job := rfl
@[simp] theorem State.modEb_encs (s : State) (p : Nat) (f : EbSt → EbSt) : (s.modEb p f).encs = s.encs := rfl
@[simp] theorem State.modEb_lcs (s : State) (p : Nat) (f : EbSt → EbSt) : (s.modEb p f).lcs = s.lcs := rfl
@[simp] theorem State.modEb_ebStopped (s : State) (p : Nat) (f : EbSt → EbSt) : (s.modEb p f).ebStopped = s.ebStopped := rfl
@[simp] theorem State.modEb_skews (s : State) (p : Nat) (f : EbSt → EbSt) : (s.modEb p f).skews = s.skews := rfl
@[simp] theorem State.modEb_trig (s : State) (p : Nat) (f : EbSt → EbSt) : (s.modEb p f).trig = s.trig := rfl
@[simp] theorem State.modEb_rings (s : State) (p : Nat) (f : EbSt → EbSt) : (s.modEb p f).rings = s.rings := rfl
@[simp] theorem State.modEb_dmas (s : State) (p : Nat) (f : EbSt → EbSt) : (s.modEb p f).dmas = s.dmas := rfl
@[simp] theorem State.modEb_axes (s : State) (p : Nat) (f : EbSt → EbSt) : (s.modEb p f).axes = s.axes := rfl
@[simp] theorem State.modEb_links (s : State) (p : Nat) (f : EbSt → EbSt) : (s.modEb p f).links = s.links := rfl
@[simp] theorem State.modEb_belays (s : State) (p : Nat) (f : EbSt → EbSt) : (s.modEb p f).belays = s.belays := rfl
@[simp] theorem State.modEb_vmot (s : State) (p : Nat) (f : EbSt → EbSt) : (s.modEb p f).vmot = s.vmot := rfl
@[simp] theorem State.modEb_lamps (s : State) (p : Nat) (f : EbSt → EbSt) : (s.modEb p f).lamps = s.lamps := rfl
@[simp] theorem State.modEb_chain (s : State) (p : Nat) (f : EbSt → EbSt) : (s.modEb p f).chain = s.chain := rfl
@[simp] theorem State.modEb_hares (s : State) (p : Nat) (f : EbSt → EbSt) : (s.modEb p f).hares = s.hares := rfl
@[simp] theorem State.modEb_ropeS (s : State) (p : Nat) (f : EbSt → EbSt) : (s.modEb p f).ropeS = s.ropeS := rfl
@[simp] theorem State.modEb_slots (s : State) (p : Nat) (f : EbSt → EbSt) : (s.modEb p f).slots = s.slots := rfl
@[simp] theorem State.modEb_sec (s : State) (p : Nat) (f : EbSt → EbSt) : (s.modEb p f).sec = s.sec := rfl
@[simp] theorem State.modEb_memS (s : State) (p : Nat) (f : EbSt → EbSt) : (s.modEb p f).memS = s.memS := rfl
@[simp] theorem State.modEb_pow (s : State) (p : Nat) (f : EbSt → EbSt) : (s.modEb p f).pow = s.pow := rfl
@[simp] theorem State.modEb_sys (s : State) (p : Nat) (f : EbSt → EbSt) : (s.modEb p f).sys = s.sys := rfl
@[simp] theorem State.modEb_host (s : State) (p : Nat) (f : EbSt → EbSt) : (s.modEb p f).host = s.host := rfl
@[simp] theorem State.modEb_dram (s : State) (p : Nat) (f : EbSt → EbSt) : (s.modEb p f).dram = s.dram := rfl
@[simp] theorem State.modEb_sram (s : State) (p : Nat) (f : EbSt → EbSt) : (s.modEb p f).sram = s.sram := rfl
@[simp] theorem State.modEb_rdata (s : State) (p : Nat) (f : EbSt → EbSt) : (s.modEb p f).rdata = s.rdata := rfl
@[simp] theorem State.modEb_results (s : State) (p : Nat) (f : EbSt → EbSt) : (s.modEb p f).results = s.results := rfl
@[simp] theorem State.modEb_draw (s : State) (p : Nat) (f : EbSt → EbSt) : (s.modEb p f).draw = s.draw := rfl

/-! ### modRing -/

@[simp] theorem State.modRing_pending (s : State) (p : Nat) (f : RingSt → RingSt) : (s.modRing p f).pending = s.pending := rfl
@[simp] theorem State.modRing_part (s : State) (p : Nat) (f : RingSt → RingSt) : (s.modRing p f).part = s.part := rfl
@[simp] theorem State.modRing_now (s : State) (p : Nat) (f : RingSt → RingSt) : (s.modRing p f).now = s.now := rfl
@[simp] theorem State.modRing_ropeT (s : State) (p : Nat) (f : RingSt → RingSt) : (s.modRing p f).ropeT = s.ropeT := rfl
@[simp] theorem State.modRing_frozen (s : State) (p : Nat) (f : RingSt → RingSt) : (s.modRing p f).frozen = s.frozen := rfl
@[simp] theorem State.modRing_d3hot (s : State) (p : Nat) (f : RingSt → RingSt) : (s.modRing p f).d3hot = s.d3hot := rfl
@[simp] theorem State.modRing_cfg (s : State) (p : Nat) (f : RingSt → RingSt) : (s.modRing p f).cfg = s.cfg := rfl
@[simp] theorem State.modRing_live (s : State) (p : Nat) (f : RingSt → RingSt) : (s.modRing p f).live = s.live := rfl
@[simp] theorem State.modRing_active (s : State) (p : Nat) (f : RingSt → RingSt) : (s.modRing p f).active = s.active := rfl
@[simp] theorem State.modRing_shadow (s : State) (p : Nat) (f : RingSt → RingSt) : (s.modRing p f).shadow = s.shadow := rfl
@[simp] theorem State.modRing_openSets (s : State) (p : Nat) (f : RingSt → RingSt) : (s.modRing p f).openSets = s.openSets := rfl
@[simp] theorem State.modRing_units (s : State) (p : Nat) (f : RingSt → RingSt) : (s.modRing p f).units = s.units := rfl
@[simp] theorem State.modRing_commits (s : State) (p : Nat) (f : RingSt → RingSt) : (s.modRing p f).commits = s.commits := rfl
@[simp] theorem State.modRing_commitNext (s : State) (p : Nat) (f : RingSt → RingSt) : (s.modRing p f).commitNext = s.commitNext := rfl
@[simp] theorem State.modRing_cmdSeq (s : State) (p : Nat) (f : RingSt → RingSt) : (s.modRing p f).cmdSeq = s.cmdSeq := rfl
@[simp] theorem State.modRing_urgentQ (s : State) (p : Nat) (f : RingSt → RingSt) : (s.modRing p f).urgentQ = s.urgentQ := rfl
@[simp] theorem State.modRing_normalQ (s : State) (p : Nat) (f : RingSt → RingSt) : (s.modRing p f).normalQ = s.normalQ := rfl
@[simp] theorem State.modRing_reply (s : State) (p : Nat) (f : RingSt → RingSt) : (s.modRing p f).reply = s.reply := rfl
@[simp] theorem State.modRing_evt (s : State) (p : Nat) (f : RingSt → RingSt) : (s.modRing p f).evt = s.evt := rfl
@[simp] theorem State.modRing_aborts (s : State) (p : Nat) (f : RingSt → RingSt) : (s.modRing p f).aborts = s.aborts := rfl
@[simp] theorem State.modRing_works (s : State) (p : Nat) (f : RingSt → RingSt) : (s.modRing p f).works = s.works := rfl
@[simp] theorem State.modRing_ports (s : State) (p : Nat) (f : RingSt → RingSt) : (s.modRing p f).ports = s.ports := rfl
@[simp] theorem State.modRing_job (s : State) (p : Nat) (f : RingSt → RingSt) : (s.modRing p f).job = s.job := rfl
@[simp] theorem State.modRing_encs (s : State) (p : Nat) (f : RingSt → RingSt) : (s.modRing p f).encs = s.encs := rfl
@[simp] theorem State.modRing_lcs (s : State) (p : Nat) (f : RingSt → RingSt) : (s.modRing p f).lcs = s.lcs := rfl
@[simp] theorem State.modRing_ebs (s : State) (p : Nat) (f : RingSt → RingSt) : (s.modRing p f).ebs = s.ebs := rfl
@[simp] theorem State.modRing_ebStopped (s : State) (p : Nat) (f : RingSt → RingSt) : (s.modRing p f).ebStopped = s.ebStopped := rfl
@[simp] theorem State.modRing_skews (s : State) (p : Nat) (f : RingSt → RingSt) : (s.modRing p f).skews = s.skews := rfl
@[simp] theorem State.modRing_trig (s : State) (p : Nat) (f : RingSt → RingSt) : (s.modRing p f).trig = s.trig := rfl
@[simp] theorem State.modRing_dmas (s : State) (p : Nat) (f : RingSt → RingSt) : (s.modRing p f).dmas = s.dmas := rfl
@[simp] theorem State.modRing_axes (s : State) (p : Nat) (f : RingSt → RingSt) : (s.modRing p f).axes = s.axes := rfl
@[simp] theorem State.modRing_links (s : State) (p : Nat) (f : RingSt → RingSt) : (s.modRing p f).links = s.links := rfl
@[simp] theorem State.modRing_belays (s : State) (p : Nat) (f : RingSt → RingSt) : (s.modRing p f).belays = s.belays := rfl
@[simp] theorem State.modRing_vmot (s : State) (p : Nat) (f : RingSt → RingSt) : (s.modRing p f).vmot = s.vmot := rfl
@[simp] theorem State.modRing_lamps (s : State) (p : Nat) (f : RingSt → RingSt) : (s.modRing p f).lamps = s.lamps := rfl
@[simp] theorem State.modRing_chain (s : State) (p : Nat) (f : RingSt → RingSt) : (s.modRing p f).chain = s.chain := rfl
@[simp] theorem State.modRing_hares (s : State) (p : Nat) (f : RingSt → RingSt) : (s.modRing p f).hares = s.hares := rfl
@[simp] theorem State.modRing_ropeS (s : State) (p : Nat) (f : RingSt → RingSt) : (s.modRing p f).ropeS = s.ropeS := rfl
@[simp] theorem State.modRing_slots (s : State) (p : Nat) (f : RingSt → RingSt) : (s.modRing p f).slots = s.slots := rfl
@[simp] theorem State.modRing_sec (s : State) (p : Nat) (f : RingSt → RingSt) : (s.modRing p f).sec = s.sec := rfl
@[simp] theorem State.modRing_memS (s : State) (p : Nat) (f : RingSt → RingSt) : (s.modRing p f).memS = s.memS := rfl
@[simp] theorem State.modRing_pow (s : State) (p : Nat) (f : RingSt → RingSt) : (s.modRing p f).pow = s.pow := rfl
@[simp] theorem State.modRing_sys (s : State) (p : Nat) (f : RingSt → RingSt) : (s.modRing p f).sys = s.sys := rfl
@[simp] theorem State.modRing_host (s : State) (p : Nat) (f : RingSt → RingSt) : (s.modRing p f).host = s.host := rfl
@[simp] theorem State.modRing_dram (s : State) (p : Nat) (f : RingSt → RingSt) : (s.modRing p f).dram = s.dram := rfl
@[simp] theorem State.modRing_sram (s : State) (p : Nat) (f : RingSt → RingSt) : (s.modRing p f).sram = s.sram := rfl
@[simp] theorem State.modRing_rdata (s : State) (p : Nat) (f : RingSt → RingSt) : (s.modRing p f).rdata = s.rdata := rfl
@[simp] theorem State.modRing_results (s : State) (p : Nat) (f : RingSt → RingSt) : (s.modRing p f).results = s.results := rfl
@[simp] theorem State.modRing_draw (s : State) (p : Nat) (f : RingSt → RingSt) : (s.modRing p f).draw = s.draw := rfl

/-! ### modDma -/

@[simp] theorem State.modDma_pending (s : State) (k : Nat) (f : DmaSt → DmaSt) : (s.modDma k f).pending = s.pending := rfl
@[simp] theorem State.modDma_part (s : State) (k : Nat) (f : DmaSt → DmaSt) : (s.modDma k f).part = s.part := rfl
@[simp] theorem State.modDma_now (s : State) (k : Nat) (f : DmaSt → DmaSt) : (s.modDma k f).now = s.now := rfl
@[simp] theorem State.modDma_ropeT (s : State) (k : Nat) (f : DmaSt → DmaSt) : (s.modDma k f).ropeT = s.ropeT := rfl
@[simp] theorem State.modDma_frozen (s : State) (k : Nat) (f : DmaSt → DmaSt) : (s.modDma k f).frozen = s.frozen := rfl
@[simp] theorem State.modDma_d3hot (s : State) (k : Nat) (f : DmaSt → DmaSt) : (s.modDma k f).d3hot = s.d3hot := rfl
@[simp] theorem State.modDma_cfg (s : State) (k : Nat) (f : DmaSt → DmaSt) : (s.modDma k f).cfg = s.cfg := rfl
@[simp] theorem State.modDma_live (s : State) (k : Nat) (f : DmaSt → DmaSt) : (s.modDma k f).live = s.live := rfl
@[simp] theorem State.modDma_active (s : State) (k : Nat) (f : DmaSt → DmaSt) : (s.modDma k f).active = s.active := rfl
@[simp] theorem State.modDma_shadow (s : State) (k : Nat) (f : DmaSt → DmaSt) : (s.modDma k f).shadow = s.shadow := rfl
@[simp] theorem State.modDma_openSets (s : State) (k : Nat) (f : DmaSt → DmaSt) : (s.modDma k f).openSets = s.openSets := rfl
@[simp] theorem State.modDma_units (s : State) (k : Nat) (f : DmaSt → DmaSt) : (s.modDma k f).units = s.units := rfl
@[simp] theorem State.modDma_commits (s : State) (k : Nat) (f : DmaSt → DmaSt) : (s.modDma k f).commits = s.commits := rfl
@[simp] theorem State.modDma_commitNext (s : State) (k : Nat) (f : DmaSt → DmaSt) : (s.modDma k f).commitNext = s.commitNext := rfl
@[simp] theorem State.modDma_cmdSeq (s : State) (k : Nat) (f : DmaSt → DmaSt) : (s.modDma k f).cmdSeq = s.cmdSeq := rfl
@[simp] theorem State.modDma_urgentQ (s : State) (k : Nat) (f : DmaSt → DmaSt) : (s.modDma k f).urgentQ = s.urgentQ := rfl
@[simp] theorem State.modDma_normalQ (s : State) (k : Nat) (f : DmaSt → DmaSt) : (s.modDma k f).normalQ = s.normalQ := rfl
@[simp] theorem State.modDma_reply (s : State) (k : Nat) (f : DmaSt → DmaSt) : (s.modDma k f).reply = s.reply := rfl
@[simp] theorem State.modDma_evt (s : State) (k : Nat) (f : DmaSt → DmaSt) : (s.modDma k f).evt = s.evt := rfl
@[simp] theorem State.modDma_aborts (s : State) (k : Nat) (f : DmaSt → DmaSt) : (s.modDma k f).aborts = s.aborts := rfl
@[simp] theorem State.modDma_works (s : State) (k : Nat) (f : DmaSt → DmaSt) : (s.modDma k f).works = s.works := rfl
@[simp] theorem State.modDma_ports (s : State) (k : Nat) (f : DmaSt → DmaSt) : (s.modDma k f).ports = s.ports := rfl
@[simp] theorem State.modDma_job (s : State) (k : Nat) (f : DmaSt → DmaSt) : (s.modDma k f).job = s.job := rfl
@[simp] theorem State.modDma_encs (s : State) (k : Nat) (f : DmaSt → DmaSt) : (s.modDma k f).encs = s.encs := rfl
@[simp] theorem State.modDma_lcs (s : State) (k : Nat) (f : DmaSt → DmaSt) : (s.modDma k f).lcs = s.lcs := rfl
@[simp] theorem State.modDma_ebs (s : State) (k : Nat) (f : DmaSt → DmaSt) : (s.modDma k f).ebs = s.ebs := rfl
@[simp] theorem State.modDma_ebStopped (s : State) (k : Nat) (f : DmaSt → DmaSt) : (s.modDma k f).ebStopped = s.ebStopped := rfl
@[simp] theorem State.modDma_skews (s : State) (k : Nat) (f : DmaSt → DmaSt) : (s.modDma k f).skews = s.skews := rfl
@[simp] theorem State.modDma_trig (s : State) (k : Nat) (f : DmaSt → DmaSt) : (s.modDma k f).trig = s.trig := rfl
@[simp] theorem State.modDma_rings (s : State) (k : Nat) (f : DmaSt → DmaSt) : (s.modDma k f).rings = s.rings := rfl
@[simp] theorem State.modDma_axes (s : State) (k : Nat) (f : DmaSt → DmaSt) : (s.modDma k f).axes = s.axes := rfl
@[simp] theorem State.modDma_links (s : State) (k : Nat) (f : DmaSt → DmaSt) : (s.modDma k f).links = s.links := rfl
@[simp] theorem State.modDma_belays (s : State) (k : Nat) (f : DmaSt → DmaSt) : (s.modDma k f).belays = s.belays := rfl
@[simp] theorem State.modDma_vmot (s : State) (k : Nat) (f : DmaSt → DmaSt) : (s.modDma k f).vmot = s.vmot := rfl
@[simp] theorem State.modDma_lamps (s : State) (k : Nat) (f : DmaSt → DmaSt) : (s.modDma k f).lamps = s.lamps := rfl
@[simp] theorem State.modDma_chain (s : State) (k : Nat) (f : DmaSt → DmaSt) : (s.modDma k f).chain = s.chain := rfl
@[simp] theorem State.modDma_hares (s : State) (k : Nat) (f : DmaSt → DmaSt) : (s.modDma k f).hares = s.hares := rfl
@[simp] theorem State.modDma_ropeS (s : State) (k : Nat) (f : DmaSt → DmaSt) : (s.modDma k f).ropeS = s.ropeS := rfl
@[simp] theorem State.modDma_slots (s : State) (k : Nat) (f : DmaSt → DmaSt) : (s.modDma k f).slots = s.slots := rfl
@[simp] theorem State.modDma_sec (s : State) (k : Nat) (f : DmaSt → DmaSt) : (s.modDma k f).sec = s.sec := rfl
@[simp] theorem State.modDma_memS (s : State) (k : Nat) (f : DmaSt → DmaSt) : (s.modDma k f).memS = s.memS := rfl
@[simp] theorem State.modDma_pow (s : State) (k : Nat) (f : DmaSt → DmaSt) : (s.modDma k f).pow = s.pow := rfl
@[simp] theorem State.modDma_sys (s : State) (k : Nat) (f : DmaSt → DmaSt) : (s.modDma k f).sys = s.sys := rfl
@[simp] theorem State.modDma_host (s : State) (k : Nat) (f : DmaSt → DmaSt) : (s.modDma k f).host = s.host := rfl
@[simp] theorem State.modDma_dram (s : State) (k : Nat) (f : DmaSt → DmaSt) : (s.modDma k f).dram = s.dram := rfl
@[simp] theorem State.modDma_sram (s : State) (k : Nat) (f : DmaSt → DmaSt) : (s.modDma k f).sram = s.sram := rfl
@[simp] theorem State.modDma_rdata (s : State) (k : Nat) (f : DmaSt → DmaSt) : (s.modDma k f).rdata = s.rdata := rfl
@[simp] theorem State.modDma_results (s : State) (k : Nat) (f : DmaSt → DmaSt) : (s.modDma k f).results = s.results := rfl
@[simp] theorem State.modDma_draw (s : State) (k : Nat) (f : DmaSt → DmaSt) : (s.modDma k f).draw = s.draw := rfl

/-! ### modAxis -/

@[simp] theorem State.modAxis_pending (s : State) (a : Nat) (f : AxisSt → AxisSt) : (s.modAxis a f).pending = s.pending := rfl
@[simp] theorem State.modAxis_part (s : State) (a : Nat) (f : AxisSt → AxisSt) : (s.modAxis a f).part = s.part := rfl
@[simp] theorem State.modAxis_now (s : State) (a : Nat) (f : AxisSt → AxisSt) : (s.modAxis a f).now = s.now := rfl
@[simp] theorem State.modAxis_ropeT (s : State) (a : Nat) (f : AxisSt → AxisSt) : (s.modAxis a f).ropeT = s.ropeT := rfl
@[simp] theorem State.modAxis_frozen (s : State) (a : Nat) (f : AxisSt → AxisSt) : (s.modAxis a f).frozen = s.frozen := rfl
@[simp] theorem State.modAxis_d3hot (s : State) (a : Nat) (f : AxisSt → AxisSt) : (s.modAxis a f).d3hot = s.d3hot := rfl
@[simp] theorem State.modAxis_cfg (s : State) (a : Nat) (f : AxisSt → AxisSt) : (s.modAxis a f).cfg = s.cfg := rfl
@[simp] theorem State.modAxis_live (s : State) (a : Nat) (f : AxisSt → AxisSt) : (s.modAxis a f).live = s.live := rfl
@[simp] theorem State.modAxis_active (s : State) (a : Nat) (f : AxisSt → AxisSt) : (s.modAxis a f).active = s.active := rfl
@[simp] theorem State.modAxis_shadow (s : State) (a : Nat) (f : AxisSt → AxisSt) : (s.modAxis a f).shadow = s.shadow := rfl
@[simp] theorem State.modAxis_openSets (s : State) (a : Nat) (f : AxisSt → AxisSt) : (s.modAxis a f).openSets = s.openSets := rfl
@[simp] theorem State.modAxis_units (s : State) (a : Nat) (f : AxisSt → AxisSt) : (s.modAxis a f).units = s.units := rfl
@[simp] theorem State.modAxis_commits (s : State) (a : Nat) (f : AxisSt → AxisSt) : (s.modAxis a f).commits = s.commits := rfl
@[simp] theorem State.modAxis_commitNext (s : State) (a : Nat) (f : AxisSt → AxisSt) : (s.modAxis a f).commitNext = s.commitNext := rfl
@[simp] theorem State.modAxis_cmdSeq (s : State) (a : Nat) (f : AxisSt → AxisSt) : (s.modAxis a f).cmdSeq = s.cmdSeq := rfl
@[simp] theorem State.modAxis_urgentQ (s : State) (a : Nat) (f : AxisSt → AxisSt) : (s.modAxis a f).urgentQ = s.urgentQ := rfl
@[simp] theorem State.modAxis_normalQ (s : State) (a : Nat) (f : AxisSt → AxisSt) : (s.modAxis a f).normalQ = s.normalQ := rfl
@[simp] theorem State.modAxis_reply (s : State) (a : Nat) (f : AxisSt → AxisSt) : (s.modAxis a f).reply = s.reply := rfl
@[simp] theorem State.modAxis_evt (s : State) (a : Nat) (f : AxisSt → AxisSt) : (s.modAxis a f).evt = s.evt := rfl
@[simp] theorem State.modAxis_aborts (s : State) (a : Nat) (f : AxisSt → AxisSt) : (s.modAxis a f).aborts = s.aborts := rfl
@[simp] theorem State.modAxis_works (s : State) (a : Nat) (f : AxisSt → AxisSt) : (s.modAxis a f).works = s.works := rfl
@[simp] theorem State.modAxis_ports (s : State) (a : Nat) (f : AxisSt → AxisSt) : (s.modAxis a f).ports = s.ports := rfl
@[simp] theorem State.modAxis_job (s : State) (a : Nat) (f : AxisSt → AxisSt) : (s.modAxis a f).job = s.job := rfl
@[simp] theorem State.modAxis_encs (s : State) (a : Nat) (f : AxisSt → AxisSt) : (s.modAxis a f).encs = s.encs := rfl
@[simp] theorem State.modAxis_lcs (s : State) (a : Nat) (f : AxisSt → AxisSt) : (s.modAxis a f).lcs = s.lcs := rfl
@[simp] theorem State.modAxis_ebs (s : State) (a : Nat) (f : AxisSt → AxisSt) : (s.modAxis a f).ebs = s.ebs := rfl
@[simp] theorem State.modAxis_ebStopped (s : State) (a : Nat) (f : AxisSt → AxisSt) : (s.modAxis a f).ebStopped = s.ebStopped := rfl
@[simp] theorem State.modAxis_skews (s : State) (a : Nat) (f : AxisSt → AxisSt) : (s.modAxis a f).skews = s.skews := rfl
@[simp] theorem State.modAxis_trig (s : State) (a : Nat) (f : AxisSt → AxisSt) : (s.modAxis a f).trig = s.trig := rfl
@[simp] theorem State.modAxis_rings (s : State) (a : Nat) (f : AxisSt → AxisSt) : (s.modAxis a f).rings = s.rings := rfl
@[simp] theorem State.modAxis_dmas (s : State) (a : Nat) (f : AxisSt → AxisSt) : (s.modAxis a f).dmas = s.dmas := rfl
@[simp] theorem State.modAxis_links (s : State) (a : Nat) (f : AxisSt → AxisSt) : (s.modAxis a f).links = s.links := rfl
@[simp] theorem State.modAxis_belays (s : State) (a : Nat) (f : AxisSt → AxisSt) : (s.modAxis a f).belays = s.belays := rfl
@[simp] theorem State.modAxis_vmot (s : State) (a : Nat) (f : AxisSt → AxisSt) : (s.modAxis a f).vmot = s.vmot := rfl
@[simp] theorem State.modAxis_lamps (s : State) (a : Nat) (f : AxisSt → AxisSt) : (s.modAxis a f).lamps = s.lamps := rfl
@[simp] theorem State.modAxis_chain (s : State) (a : Nat) (f : AxisSt → AxisSt) : (s.modAxis a f).chain = s.chain := rfl
@[simp] theorem State.modAxis_hares (s : State) (a : Nat) (f : AxisSt → AxisSt) : (s.modAxis a f).hares = s.hares := rfl
@[simp] theorem State.modAxis_ropeS (s : State) (a : Nat) (f : AxisSt → AxisSt) : (s.modAxis a f).ropeS = s.ropeS := rfl
@[simp] theorem State.modAxis_slots (s : State) (a : Nat) (f : AxisSt → AxisSt) : (s.modAxis a f).slots = s.slots := rfl
@[simp] theorem State.modAxis_sec (s : State) (a : Nat) (f : AxisSt → AxisSt) : (s.modAxis a f).sec = s.sec := rfl
@[simp] theorem State.modAxis_memS (s : State) (a : Nat) (f : AxisSt → AxisSt) : (s.modAxis a f).memS = s.memS := rfl
@[simp] theorem State.modAxis_pow (s : State) (a : Nat) (f : AxisSt → AxisSt) : (s.modAxis a f).pow = s.pow := rfl
@[simp] theorem State.modAxis_sys (s : State) (a : Nat) (f : AxisSt → AxisSt) : (s.modAxis a f).sys = s.sys := rfl
@[simp] theorem State.modAxis_host (s : State) (a : Nat) (f : AxisSt → AxisSt) : (s.modAxis a f).host = s.host := rfl
@[simp] theorem State.modAxis_dram (s : State) (a : Nat) (f : AxisSt → AxisSt) : (s.modAxis a f).dram = s.dram := rfl
@[simp] theorem State.modAxis_sram (s : State) (a : Nat) (f : AxisSt → AxisSt) : (s.modAxis a f).sram = s.sram := rfl
@[simp] theorem State.modAxis_rdata (s : State) (a : Nat) (f : AxisSt → AxisSt) : (s.modAxis a f).rdata = s.rdata := rfl
@[simp] theorem State.modAxis_results (s : State) (a : Nat) (f : AxisSt → AxisSt) : (s.modAxis a f).results = s.results := rfl
@[simp] theorem State.modAxis_draw (s : State) (a : Nat) (f : AxisSt → AxisSt) : (s.modAxis a f).draw = s.draw := rfl

/-! ### modBelay -/

@[simp] theorem State.modBelay_pending (s : State) (a : Nat) (f : BelaySt → BelaySt) : (s.modBelay a f).pending = s.pending := rfl
@[simp] theorem State.modBelay_part (s : State) (a : Nat) (f : BelaySt → BelaySt) : (s.modBelay a f).part = s.part := rfl
@[simp] theorem State.modBelay_now (s : State) (a : Nat) (f : BelaySt → BelaySt) : (s.modBelay a f).now = s.now := rfl
@[simp] theorem State.modBelay_ropeT (s : State) (a : Nat) (f : BelaySt → BelaySt) : (s.modBelay a f).ropeT = s.ropeT := rfl
@[simp] theorem State.modBelay_frozen (s : State) (a : Nat) (f : BelaySt → BelaySt) : (s.modBelay a f).frozen = s.frozen := rfl
@[simp] theorem State.modBelay_d3hot (s : State) (a : Nat) (f : BelaySt → BelaySt) : (s.modBelay a f).d3hot = s.d3hot := rfl
@[simp] theorem State.modBelay_cfg (s : State) (a : Nat) (f : BelaySt → BelaySt) : (s.modBelay a f).cfg = s.cfg := rfl
@[simp] theorem State.modBelay_live (s : State) (a : Nat) (f : BelaySt → BelaySt) : (s.modBelay a f).live = s.live := rfl
@[simp] theorem State.modBelay_active (s : State) (a : Nat) (f : BelaySt → BelaySt) : (s.modBelay a f).active = s.active := rfl
@[simp] theorem State.modBelay_shadow (s : State) (a : Nat) (f : BelaySt → BelaySt) : (s.modBelay a f).shadow = s.shadow := rfl
@[simp] theorem State.modBelay_openSets (s : State) (a : Nat) (f : BelaySt → BelaySt) : (s.modBelay a f).openSets = s.openSets := rfl
@[simp] theorem State.modBelay_units (s : State) (a : Nat) (f : BelaySt → BelaySt) : (s.modBelay a f).units = s.units := rfl
@[simp] theorem State.modBelay_commits (s : State) (a : Nat) (f : BelaySt → BelaySt) : (s.modBelay a f).commits = s.commits := rfl
@[simp] theorem State.modBelay_commitNext (s : State) (a : Nat) (f : BelaySt → BelaySt) : (s.modBelay a f).commitNext = s.commitNext := rfl
@[simp] theorem State.modBelay_cmdSeq (s : State) (a : Nat) (f : BelaySt → BelaySt) : (s.modBelay a f).cmdSeq = s.cmdSeq := rfl
@[simp] theorem State.modBelay_urgentQ (s : State) (a : Nat) (f : BelaySt → BelaySt) : (s.modBelay a f).urgentQ = s.urgentQ := rfl
@[simp] theorem State.modBelay_normalQ (s : State) (a : Nat) (f : BelaySt → BelaySt) : (s.modBelay a f).normalQ = s.normalQ := rfl
@[simp] theorem State.modBelay_reply (s : State) (a : Nat) (f : BelaySt → BelaySt) : (s.modBelay a f).reply = s.reply := rfl
@[simp] theorem State.modBelay_evt (s : State) (a : Nat) (f : BelaySt → BelaySt) : (s.modBelay a f).evt = s.evt := rfl
@[simp] theorem State.modBelay_aborts (s : State) (a : Nat) (f : BelaySt → BelaySt) : (s.modBelay a f).aborts = s.aborts := rfl
@[simp] theorem State.modBelay_works (s : State) (a : Nat) (f : BelaySt → BelaySt) : (s.modBelay a f).works = s.works := rfl
@[simp] theorem State.modBelay_ports (s : State) (a : Nat) (f : BelaySt → BelaySt) : (s.modBelay a f).ports = s.ports := rfl
@[simp] theorem State.modBelay_job (s : State) (a : Nat) (f : BelaySt → BelaySt) : (s.modBelay a f).job = s.job := rfl
@[simp] theorem State.modBelay_encs (s : State) (a : Nat) (f : BelaySt → BelaySt) : (s.modBelay a f).encs = s.encs := rfl
@[simp] theorem State.modBelay_lcs (s : State) (a : Nat) (f : BelaySt → BelaySt) : (s.modBelay a f).lcs = s.lcs := rfl
@[simp] theorem State.modBelay_ebs (s : State) (a : Nat) (f : BelaySt → BelaySt) : (s.modBelay a f).ebs = s.ebs := rfl
@[simp] theorem State.modBelay_ebStopped (s : State) (a : Nat) (f : BelaySt → BelaySt) : (s.modBelay a f).ebStopped = s.ebStopped := rfl
@[simp] theorem State.modBelay_skews (s : State) (a : Nat) (f : BelaySt → BelaySt) : (s.modBelay a f).skews = s.skews := rfl
@[simp] theorem State.modBelay_trig (s : State) (a : Nat) (f : BelaySt → BelaySt) : (s.modBelay a f).trig = s.trig := rfl
@[simp] theorem State.modBelay_rings (s : State) (a : Nat) (f : BelaySt → BelaySt) : (s.modBelay a f).rings = s.rings := rfl
@[simp] theorem State.modBelay_dmas (s : State) (a : Nat) (f : BelaySt → BelaySt) : (s.modBelay a f).dmas = s.dmas := rfl
@[simp] theorem State.modBelay_axes (s : State) (a : Nat) (f : BelaySt → BelaySt) : (s.modBelay a f).axes = s.axes := rfl
@[simp] theorem State.modBelay_links (s : State) (a : Nat) (f : BelaySt → BelaySt) : (s.modBelay a f).links = s.links := rfl
@[simp] theorem State.modBelay_vmot (s : State) (a : Nat) (f : BelaySt → BelaySt) : (s.modBelay a f).vmot = s.vmot := rfl
@[simp] theorem State.modBelay_lamps (s : State) (a : Nat) (f : BelaySt → BelaySt) : (s.modBelay a f).lamps = s.lamps := rfl
@[simp] theorem State.modBelay_chain (s : State) (a : Nat) (f : BelaySt → BelaySt) : (s.modBelay a f).chain = s.chain := rfl
@[simp] theorem State.modBelay_hares (s : State) (a : Nat) (f : BelaySt → BelaySt) : (s.modBelay a f).hares = s.hares := rfl
@[simp] theorem State.modBelay_ropeS (s : State) (a : Nat) (f : BelaySt → BelaySt) : (s.modBelay a f).ropeS = s.ropeS := rfl
@[simp] theorem State.modBelay_slots (s : State) (a : Nat) (f : BelaySt → BelaySt) : (s.modBelay a f).slots = s.slots := rfl
@[simp] theorem State.modBelay_sec (s : State) (a : Nat) (f : BelaySt → BelaySt) : (s.modBelay a f).sec = s.sec := rfl
@[simp] theorem State.modBelay_memS (s : State) (a : Nat) (f : BelaySt → BelaySt) : (s.modBelay a f).memS = s.memS := rfl
@[simp] theorem State.modBelay_pow (s : State) (a : Nat) (f : BelaySt → BelaySt) : (s.modBelay a f).pow = s.pow := rfl
@[simp] theorem State.modBelay_sys (s : State) (a : Nat) (f : BelaySt → BelaySt) : (s.modBelay a f).sys = s.sys := rfl
@[simp] theorem State.modBelay_host (s : State) (a : Nat) (f : BelaySt → BelaySt) : (s.modBelay a f).host = s.host := rfl
@[simp] theorem State.modBelay_dram (s : State) (a : Nat) (f : BelaySt → BelaySt) : (s.modBelay a f).dram = s.dram := rfl
@[simp] theorem State.modBelay_sram (s : State) (a : Nat) (f : BelaySt → BelaySt) : (s.modBelay a f).sram = s.sram := rfl
@[simp] theorem State.modBelay_rdata (s : State) (a : Nat) (f : BelaySt → BelaySt) : (s.modBelay a f).rdata = s.rdata := rfl
@[simp] theorem State.modBelay_results (s : State) (a : Nat) (f : BelaySt → BelaySt) : (s.modBelay a f).results = s.results := rfl
@[simp] theorem State.modBelay_draw (s : State) (a : Nat) (f : BelaySt → BelaySt) : (s.modBelay a f).draw = s.draw := rfl

/-! ### modLamp -/

@[simp] theorem State.modLamp_pending (s : State) (g : Nat) (f : LampSt → LampSt) : (s.modLamp g f).pending = s.pending := rfl
@[simp] theorem State.modLamp_part (s : State) (g : Nat) (f : LampSt → LampSt) : (s.modLamp g f).part = s.part := rfl
@[simp] theorem State.modLamp_now (s : State) (g : Nat) (f : LampSt → LampSt) : (s.modLamp g f).now = s.now := rfl
@[simp] theorem State.modLamp_ropeT (s : State) (g : Nat) (f : LampSt → LampSt) : (s.modLamp g f).ropeT = s.ropeT := rfl
@[simp] theorem State.modLamp_frozen (s : State) (g : Nat) (f : LampSt → LampSt) : (s.modLamp g f).frozen = s.frozen := rfl
@[simp] theorem State.modLamp_d3hot (s : State) (g : Nat) (f : LampSt → LampSt) : (s.modLamp g f).d3hot = s.d3hot := rfl
@[simp] theorem State.modLamp_cfg (s : State) (g : Nat) (f : LampSt → LampSt) : (s.modLamp g f).cfg = s.cfg := rfl
@[simp] theorem State.modLamp_live (s : State) (g : Nat) (f : LampSt → LampSt) : (s.modLamp g f).live = s.live := rfl
@[simp] theorem State.modLamp_active (s : State) (g : Nat) (f : LampSt → LampSt) : (s.modLamp g f).active = s.active := rfl
@[simp] theorem State.modLamp_shadow (s : State) (g : Nat) (f : LampSt → LampSt) : (s.modLamp g f).shadow = s.shadow := rfl
@[simp] theorem State.modLamp_openSets (s : State) (g : Nat) (f : LampSt → LampSt) : (s.modLamp g f).openSets = s.openSets := rfl
@[simp] theorem State.modLamp_units (s : State) (g : Nat) (f : LampSt → LampSt) : (s.modLamp g f).units = s.units := rfl
@[simp] theorem State.modLamp_commits (s : State) (g : Nat) (f : LampSt → LampSt) : (s.modLamp g f).commits = s.commits := rfl
@[simp] theorem State.modLamp_commitNext (s : State) (g : Nat) (f : LampSt → LampSt) : (s.modLamp g f).commitNext = s.commitNext := rfl
@[simp] theorem State.modLamp_cmdSeq (s : State) (g : Nat) (f : LampSt → LampSt) : (s.modLamp g f).cmdSeq = s.cmdSeq := rfl
@[simp] theorem State.modLamp_urgentQ (s : State) (g : Nat) (f : LampSt → LampSt) : (s.modLamp g f).urgentQ = s.urgentQ := rfl
@[simp] theorem State.modLamp_normalQ (s : State) (g : Nat) (f : LampSt → LampSt) : (s.modLamp g f).normalQ = s.normalQ := rfl
@[simp] theorem State.modLamp_reply (s : State) (g : Nat) (f : LampSt → LampSt) : (s.modLamp g f).reply = s.reply := rfl
@[simp] theorem State.modLamp_evt (s : State) (g : Nat) (f : LampSt → LampSt) : (s.modLamp g f).evt = s.evt := rfl
@[simp] theorem State.modLamp_aborts (s : State) (g : Nat) (f : LampSt → LampSt) : (s.modLamp g f).aborts = s.aborts := rfl
@[simp] theorem State.modLamp_works (s : State) (g : Nat) (f : LampSt → LampSt) : (s.modLamp g f).works = s.works := rfl
@[simp] theorem State.modLamp_ports (s : State) (g : Nat) (f : LampSt → LampSt) : (s.modLamp g f).ports = s.ports := rfl
@[simp] theorem State.modLamp_job (s : State) (g : Nat) (f : LampSt → LampSt) : (s.modLamp g f).job = s.job := rfl
@[simp] theorem State.modLamp_encs (s : State) (g : Nat) (f : LampSt → LampSt) : (s.modLamp g f).encs = s.encs := rfl
@[simp] theorem State.modLamp_lcs (s : State) (g : Nat) (f : LampSt → LampSt) : (s.modLamp g f).lcs = s.lcs := rfl
@[simp] theorem State.modLamp_ebs (s : State) (g : Nat) (f : LampSt → LampSt) : (s.modLamp g f).ebs = s.ebs := rfl
@[simp] theorem State.modLamp_ebStopped (s : State) (g : Nat) (f : LampSt → LampSt) : (s.modLamp g f).ebStopped = s.ebStopped := rfl
@[simp] theorem State.modLamp_skews (s : State) (g : Nat) (f : LampSt → LampSt) : (s.modLamp g f).skews = s.skews := rfl
@[simp] theorem State.modLamp_trig (s : State) (g : Nat) (f : LampSt → LampSt) : (s.modLamp g f).trig = s.trig := rfl
@[simp] theorem State.modLamp_rings (s : State) (g : Nat) (f : LampSt → LampSt) : (s.modLamp g f).rings = s.rings := rfl
@[simp] theorem State.modLamp_dmas (s : State) (g : Nat) (f : LampSt → LampSt) : (s.modLamp g f).dmas = s.dmas := rfl
@[simp] theorem State.modLamp_axes (s : State) (g : Nat) (f : LampSt → LampSt) : (s.modLamp g f).axes = s.axes := rfl
@[simp] theorem State.modLamp_links (s : State) (g : Nat) (f : LampSt → LampSt) : (s.modLamp g f).links = s.links := rfl
@[simp] theorem State.modLamp_belays (s : State) (g : Nat) (f : LampSt → LampSt) : (s.modLamp g f).belays = s.belays := rfl
@[simp] theorem State.modLamp_vmot (s : State) (g : Nat) (f : LampSt → LampSt) : (s.modLamp g f).vmot = s.vmot := rfl
@[simp] theorem State.modLamp_chain (s : State) (g : Nat) (f : LampSt → LampSt) : (s.modLamp g f).chain = s.chain := rfl
@[simp] theorem State.modLamp_hares (s : State) (g : Nat) (f : LampSt → LampSt) : (s.modLamp g f).hares = s.hares := rfl
@[simp] theorem State.modLamp_ropeS (s : State) (g : Nat) (f : LampSt → LampSt) : (s.modLamp g f).ropeS = s.ropeS := rfl
@[simp] theorem State.modLamp_slots (s : State) (g : Nat) (f : LampSt → LampSt) : (s.modLamp g f).slots = s.slots := rfl
@[simp] theorem State.modLamp_sec (s : State) (g : Nat) (f : LampSt → LampSt) : (s.modLamp g f).sec = s.sec := rfl
@[simp] theorem State.modLamp_memS (s : State) (g : Nat) (f : LampSt → LampSt) : (s.modLamp g f).memS = s.memS := rfl
@[simp] theorem State.modLamp_pow (s : State) (g : Nat) (f : LampSt → LampSt) : (s.modLamp g f).pow = s.pow := rfl
@[simp] theorem State.modLamp_sys (s : State) (g : Nat) (f : LampSt → LampSt) : (s.modLamp g f).sys = s.sys := rfl
@[simp] theorem State.modLamp_host (s : State) (g : Nat) (f : LampSt → LampSt) : (s.modLamp g f).host = s.host := rfl
@[simp] theorem State.modLamp_dram (s : State) (g : Nat) (f : LampSt → LampSt) : (s.modLamp g f).dram = s.dram := rfl
@[simp] theorem State.modLamp_sram (s : State) (g : Nat) (f : LampSt → LampSt) : (s.modLamp g f).sram = s.sram := rfl
@[simp] theorem State.modLamp_rdata (s : State) (g : Nat) (f : LampSt → LampSt) : (s.modLamp g f).rdata = s.rdata := rfl
@[simp] theorem State.modLamp_results (s : State) (g : Nat) (f : LampSt → LampSt) : (s.modLamp g f).results = s.results := rfl
@[simp] theorem State.modLamp_draw (s : State) (g : Nat) (f : LampSt → LampSt) : (s.modLamp g f).draw = s.draw := rfl

/-! ### modHare -/

@[simp] theorem State.modHare_pending (s : State) (e : Nat) (f : HareSt → HareSt) : (s.modHare e f).pending = s.pending := rfl
@[simp] theorem State.modHare_part (s : State) (e : Nat) (f : HareSt → HareSt) : (s.modHare e f).part = s.part := rfl
@[simp] theorem State.modHare_now (s : State) (e : Nat) (f : HareSt → HareSt) : (s.modHare e f).now = s.now := rfl
@[simp] theorem State.modHare_ropeT (s : State) (e : Nat) (f : HareSt → HareSt) : (s.modHare e f).ropeT = s.ropeT := rfl
@[simp] theorem State.modHare_frozen (s : State) (e : Nat) (f : HareSt → HareSt) : (s.modHare e f).frozen = s.frozen := rfl
@[simp] theorem State.modHare_d3hot (s : State) (e : Nat) (f : HareSt → HareSt) : (s.modHare e f).d3hot = s.d3hot := rfl
@[simp] theorem State.modHare_cfg (s : State) (e : Nat) (f : HareSt → HareSt) : (s.modHare e f).cfg = s.cfg := rfl
@[simp] theorem State.modHare_live (s : State) (e : Nat) (f : HareSt → HareSt) : (s.modHare e f).live = s.live := rfl
@[simp] theorem State.modHare_active (s : State) (e : Nat) (f : HareSt → HareSt) : (s.modHare e f).active = s.active := rfl
@[simp] theorem State.modHare_shadow (s : State) (e : Nat) (f : HareSt → HareSt) : (s.modHare e f).shadow = s.shadow := rfl
@[simp] theorem State.modHare_openSets (s : State) (e : Nat) (f : HareSt → HareSt) : (s.modHare e f).openSets = s.openSets := rfl
@[simp] theorem State.modHare_units (s : State) (e : Nat) (f : HareSt → HareSt) : (s.modHare e f).units = s.units := rfl
@[simp] theorem State.modHare_commits (s : State) (e : Nat) (f : HareSt → HareSt) : (s.modHare e f).commits = s.commits := rfl
@[simp] theorem State.modHare_commitNext (s : State) (e : Nat) (f : HareSt → HareSt) : (s.modHare e f).commitNext = s.commitNext := rfl
@[simp] theorem State.modHare_cmdSeq (s : State) (e : Nat) (f : HareSt → HareSt) : (s.modHare e f).cmdSeq = s.cmdSeq := rfl
@[simp] theorem State.modHare_urgentQ (s : State) (e : Nat) (f : HareSt → HareSt) : (s.modHare e f).urgentQ = s.urgentQ := rfl
@[simp] theorem State.modHare_normalQ (s : State) (e : Nat) (f : HareSt → HareSt) : (s.modHare e f).normalQ = s.normalQ := rfl
@[simp] theorem State.modHare_reply (s : State) (e : Nat) (f : HareSt → HareSt) : (s.modHare e f).reply = s.reply := rfl
@[simp] theorem State.modHare_evt (s : State) (e : Nat) (f : HareSt → HareSt) : (s.modHare e f).evt = s.evt := rfl
@[simp] theorem State.modHare_aborts (s : State) (e : Nat) (f : HareSt → HareSt) : (s.modHare e f).aborts = s.aborts := rfl
@[simp] theorem State.modHare_works (s : State) (e : Nat) (f : HareSt → HareSt) : (s.modHare e f).works = s.works := rfl
@[simp] theorem State.modHare_ports (s : State) (e : Nat) (f : HareSt → HareSt) : (s.modHare e f).ports = s.ports := rfl
@[simp] theorem State.modHare_job (s : State) (e : Nat) (f : HareSt → HareSt) : (s.modHare e f).job = s.job := rfl
@[simp] theorem State.modHare_encs (s : State) (e : Nat) (f : HareSt → HareSt) : (s.modHare e f).encs = s.encs := rfl
@[simp] theorem State.modHare_lcs (s : State) (e : Nat) (f : HareSt → HareSt) : (s.modHare e f).lcs = s.lcs := rfl
@[simp] theorem State.modHare_ebs (s : State) (e : Nat) (f : HareSt → HareSt) : (s.modHare e f).ebs = s.ebs := rfl
@[simp] theorem State.modHare_ebStopped (s : State) (e : Nat) (f : HareSt → HareSt) : (s.modHare e f).ebStopped = s.ebStopped := rfl
@[simp] theorem State.modHare_skews (s : State) (e : Nat) (f : HareSt → HareSt) : (s.modHare e f).skews = s.skews := rfl
@[simp] theorem State.modHare_trig (s : State) (e : Nat) (f : HareSt → HareSt) : (s.modHare e f).trig = s.trig := rfl
@[simp] theorem State.modHare_rings (s : State) (e : Nat) (f : HareSt → HareSt) : (s.modHare e f).rings = s.rings := rfl
@[simp] theorem State.modHare_dmas (s : State) (e : Nat) (f : HareSt → HareSt) : (s.modHare e f).dmas = s.dmas := rfl
@[simp] theorem State.modHare_axes (s : State) (e : Nat) (f : HareSt → HareSt) : (s.modHare e f).axes = s.axes := rfl
@[simp] theorem State.modHare_links (s : State) (e : Nat) (f : HareSt → HareSt) : (s.modHare e f).links = s.links := rfl
@[simp] theorem State.modHare_belays (s : State) (e : Nat) (f : HareSt → HareSt) : (s.modHare e f).belays = s.belays := rfl
@[simp] theorem State.modHare_vmot (s : State) (e : Nat) (f : HareSt → HareSt) : (s.modHare e f).vmot = s.vmot := rfl
@[simp] theorem State.modHare_lamps (s : State) (e : Nat) (f : HareSt → HareSt) : (s.modHare e f).lamps = s.lamps := rfl
@[simp] theorem State.modHare_chain (s : State) (e : Nat) (f : HareSt → HareSt) : (s.modHare e f).chain = s.chain := rfl
@[simp] theorem State.modHare_ropeS (s : State) (e : Nat) (f : HareSt → HareSt) : (s.modHare e f).ropeS = s.ropeS := rfl
@[simp] theorem State.modHare_slots (s : State) (e : Nat) (f : HareSt → HareSt) : (s.modHare e f).slots = s.slots := rfl
@[simp] theorem State.modHare_sec (s : State) (e : Nat) (f : HareSt → HareSt) : (s.modHare e f).sec = s.sec := rfl
@[simp] theorem State.modHare_memS (s : State) (e : Nat) (f : HareSt → HareSt) : (s.modHare e f).memS = s.memS := rfl
@[simp] theorem State.modHare_pow (s : State) (e : Nat) (f : HareSt → HareSt) : (s.modHare e f).pow = s.pow := rfl
@[simp] theorem State.modHare_sys (s : State) (e : Nat) (f : HareSt → HareSt) : (s.modHare e f).sys = s.sys := rfl
@[simp] theorem State.modHare_host (s : State) (e : Nat) (f : HareSt → HareSt) : (s.modHare e f).host = s.host := rfl
@[simp] theorem State.modHare_dram (s : State) (e : Nat) (f : HareSt → HareSt) : (s.modHare e f).dram = s.dram := rfl
@[simp] theorem State.modHare_sram (s : State) (e : Nat) (f : HareSt → HareSt) : (s.modHare e f).sram = s.sram := rfl
@[simp] theorem State.modHare_rdata (s : State) (e : Nat) (f : HareSt → HareSt) : (s.modHare e f).rdata = s.rdata := rfl
@[simp] theorem State.modHare_results (s : State) (e : Nat) (f : HareSt → HareSt) : (s.modHare e f).results = s.results := rfl
@[simp] theorem State.modHare_draw (s : State) (e : Nat) (f : HareSt → HareSt) : (s.modHare e f).draw = s.draw := rfl

/-! ### modChain -/

@[simp] theorem State.modChain_pending (s : State) (f : ChainSt → ChainSt) : (s.modChain f).pending = s.pending := rfl
@[simp] theorem State.modChain_part (s : State) (f : ChainSt → ChainSt) : (s.modChain f).part = s.part := rfl
@[simp] theorem State.modChain_now (s : State) (f : ChainSt → ChainSt) : (s.modChain f).now = s.now := rfl
@[simp] theorem State.modChain_ropeT (s : State) (f : ChainSt → ChainSt) : (s.modChain f).ropeT = s.ropeT := rfl
@[simp] theorem State.modChain_frozen (s : State) (f : ChainSt → ChainSt) : (s.modChain f).frozen = s.frozen := rfl
@[simp] theorem State.modChain_d3hot (s : State) (f : ChainSt → ChainSt) : (s.modChain f).d3hot = s.d3hot := rfl
@[simp] theorem State.modChain_cfg (s : State) (f : ChainSt → ChainSt) : (s.modChain f).cfg = s.cfg := rfl
@[simp] theorem State.modChain_live (s : State) (f : ChainSt → ChainSt) : (s.modChain f).live = s.live := rfl
@[simp] theorem State.modChain_active (s : State) (f : ChainSt → ChainSt) : (s.modChain f).active = s.active := rfl
@[simp] theorem State.modChain_shadow (s : State) (f : ChainSt → ChainSt) : (s.modChain f).shadow = s.shadow := rfl
@[simp] theorem State.modChain_openSets (s : State) (f : ChainSt → ChainSt) : (s.modChain f).openSets = s.openSets := rfl
@[simp] theorem State.modChain_units (s : State) (f : ChainSt → ChainSt) : (s.modChain f).units = s.units := rfl
@[simp] theorem State.modChain_commits (s : State) (f : ChainSt → ChainSt) : (s.modChain f).commits = s.commits := rfl
@[simp] theorem State.modChain_commitNext (s : State) (f : ChainSt → ChainSt) : (s.modChain f).commitNext = s.commitNext := rfl
@[simp] theorem State.modChain_cmdSeq (s : State) (f : ChainSt → ChainSt) : (s.modChain f).cmdSeq = s.cmdSeq := rfl
@[simp] theorem State.modChain_urgentQ (s : State) (f : ChainSt → ChainSt) : (s.modChain f).urgentQ = s.urgentQ := rfl
@[simp] theorem State.modChain_normalQ (s : State) (f : ChainSt → ChainSt) : (s.modChain f).normalQ = s.normalQ := rfl
@[simp] theorem State.modChain_reply (s : State) (f : ChainSt → ChainSt) : (s.modChain f).reply = s.reply := rfl
@[simp] theorem State.modChain_evt (s : State) (f : ChainSt → ChainSt) : (s.modChain f).evt = s.evt := rfl
@[simp] theorem State.modChain_aborts (s : State) (f : ChainSt → ChainSt) : (s.modChain f).aborts = s.aborts := rfl
@[simp] theorem State.modChain_works (s : State) (f : ChainSt → ChainSt) : (s.modChain f).works = s.works := rfl
@[simp] theorem State.modChain_ports (s : State) (f : ChainSt → ChainSt) : (s.modChain f).ports = s.ports := rfl
@[simp] theorem State.modChain_job (s : State) (f : ChainSt → ChainSt) : (s.modChain f).job = s.job := rfl
@[simp] theorem State.modChain_encs (s : State) (f : ChainSt → ChainSt) : (s.modChain f).encs = s.encs := rfl
@[simp] theorem State.modChain_lcs (s : State) (f : ChainSt → ChainSt) : (s.modChain f).lcs = s.lcs := rfl
@[simp] theorem State.modChain_ebs (s : State) (f : ChainSt → ChainSt) : (s.modChain f).ebs = s.ebs := rfl
@[simp] theorem State.modChain_ebStopped (s : State) (f : ChainSt → ChainSt) : (s.modChain f).ebStopped = s.ebStopped := rfl
@[simp] theorem State.modChain_skews (s : State) (f : ChainSt → ChainSt) : (s.modChain f).skews = s.skews := rfl
@[simp] theorem State.modChain_trig (s : State) (f : ChainSt → ChainSt) : (s.modChain f).trig = s.trig := rfl
@[simp] theorem State.modChain_rings (s : State) (f : ChainSt → ChainSt) : (s.modChain f).rings = s.rings := rfl
@[simp] theorem State.modChain_dmas (s : State) (f : ChainSt → ChainSt) : (s.modChain f).dmas = s.dmas := rfl
@[simp] theorem State.modChain_axes (s : State) (f : ChainSt → ChainSt) : (s.modChain f).axes = s.axes := rfl
@[simp] theorem State.modChain_links (s : State) (f : ChainSt → ChainSt) : (s.modChain f).links = s.links := rfl
@[simp] theorem State.modChain_belays (s : State) (f : ChainSt → ChainSt) : (s.modChain f).belays = s.belays := rfl
@[simp] theorem State.modChain_vmot (s : State) (f : ChainSt → ChainSt) : (s.modChain f).vmot = s.vmot := rfl
@[simp] theorem State.modChain_lamps (s : State) (f : ChainSt → ChainSt) : (s.modChain f).lamps = s.lamps := rfl
@[simp] theorem State.modChain_hares (s : State) (f : ChainSt → ChainSt) : (s.modChain f).hares = s.hares := rfl
@[simp] theorem State.modChain_ropeS (s : State) (f : ChainSt → ChainSt) : (s.modChain f).ropeS = s.ropeS := rfl
@[simp] theorem State.modChain_slots (s : State) (f : ChainSt → ChainSt) : (s.modChain f).slots = s.slots := rfl
@[simp] theorem State.modChain_sec (s : State) (f : ChainSt → ChainSt) : (s.modChain f).sec = s.sec := rfl
@[simp] theorem State.modChain_memS (s : State) (f : ChainSt → ChainSt) : (s.modChain f).memS = s.memS := rfl
@[simp] theorem State.modChain_pow (s : State) (f : ChainSt → ChainSt) : (s.modChain f).pow = s.pow := rfl
@[simp] theorem State.modChain_sys (s : State) (f : ChainSt → ChainSt) : (s.modChain f).sys = s.sys := rfl
@[simp] theorem State.modChain_host (s : State) (f : ChainSt → ChainSt) : (s.modChain f).host = s.host := rfl
@[simp] theorem State.modChain_dram (s : State) (f : ChainSt → ChainSt) : (s.modChain f).dram = s.dram := rfl
@[simp] theorem State.modChain_sram (s : State) (f : ChainSt → ChainSt) : (s.modChain f).sram = s.sram := rfl
@[simp] theorem State.modChain_rdata (s : State) (f : ChainSt → ChainSt) : (s.modChain f).rdata = s.rdata := rfl
@[simp] theorem State.modChain_results (s : State) (f : ChainSt → ChainSt) : (s.modChain f).results = s.results := rfl
@[simp] theorem State.modChain_draw (s : State) (f : ChainSt → ChainSt) : (s.modChain f).draw = s.draw := rfl

/-! ### modTrig -/

@[simp] theorem State.modTrig_pending (s : State) (f : TrigSt → TrigSt) : (s.modTrig f).pending = s.pending := rfl
@[simp] theorem State.modTrig_part (s : State) (f : TrigSt → TrigSt) : (s.modTrig f).part = s.part := rfl
@[simp] theorem State.modTrig_now (s : State) (f : TrigSt → TrigSt) : (s.modTrig f).now = s.now := rfl
@[simp] theorem State.modTrig_ropeT (s : State) (f : TrigSt → TrigSt) : (s.modTrig f).ropeT = s.ropeT := rfl
@[simp] theorem State.modTrig_frozen (s : State) (f : TrigSt → TrigSt) : (s.modTrig f).frozen = s.frozen := rfl
@[simp] theorem State.modTrig_d3hot (s : State) (f : TrigSt → TrigSt) : (s.modTrig f).d3hot = s.d3hot := rfl
@[simp] theorem State.modTrig_cfg (s : State) (f : TrigSt → TrigSt) : (s.modTrig f).cfg = s.cfg := rfl
@[simp] theorem State.modTrig_live (s : State) (f : TrigSt → TrigSt) : (s.modTrig f).live = s.live := rfl
@[simp] theorem State.modTrig_active (s : State) (f : TrigSt → TrigSt) : (s.modTrig f).active = s.active := rfl
@[simp] theorem State.modTrig_shadow (s : State) (f : TrigSt → TrigSt) : (s.modTrig f).shadow = s.shadow := rfl
@[simp] theorem State.modTrig_openSets (s : State) (f : TrigSt → TrigSt) : (s.modTrig f).openSets = s.openSets := rfl
@[simp] theorem State.modTrig_units (s : State) (f : TrigSt → TrigSt) : (s.modTrig f).units = s.units := rfl
@[simp] theorem State.modTrig_commits (s : State) (f : TrigSt → TrigSt) : (s.modTrig f).commits = s.commits := rfl
@[simp] theorem State.modTrig_commitNext (s : State) (f : TrigSt → TrigSt) : (s.modTrig f).commitNext = s.commitNext := rfl
@[simp] theorem State.modTrig_cmdSeq (s : State) (f : TrigSt → TrigSt) : (s.modTrig f).cmdSeq = s.cmdSeq := rfl
@[simp] theorem State.modTrig_urgentQ (s : State) (f : TrigSt → TrigSt) : (s.modTrig f).urgentQ = s.urgentQ := rfl
@[simp] theorem State.modTrig_normalQ (s : State) (f : TrigSt → TrigSt) : (s.modTrig f).normalQ = s.normalQ := rfl
@[simp] theorem State.modTrig_reply (s : State) (f : TrigSt → TrigSt) : (s.modTrig f).reply = s.reply := rfl
@[simp] theorem State.modTrig_evt (s : State) (f : TrigSt → TrigSt) : (s.modTrig f).evt = s.evt := rfl
@[simp] theorem State.modTrig_aborts (s : State) (f : TrigSt → TrigSt) : (s.modTrig f).aborts = s.aborts := rfl
@[simp] theorem State.modTrig_works (s : State) (f : TrigSt → TrigSt) : (s.modTrig f).works = s.works := rfl
@[simp] theorem State.modTrig_ports (s : State) (f : TrigSt → TrigSt) : (s.modTrig f).ports = s.ports := rfl
@[simp] theorem State.modTrig_job (s : State) (f : TrigSt → TrigSt) : (s.modTrig f).job = s.job := rfl
@[simp] theorem State.modTrig_encs (s : State) (f : TrigSt → TrigSt) : (s.modTrig f).encs = s.encs := rfl
@[simp] theorem State.modTrig_lcs (s : State) (f : TrigSt → TrigSt) : (s.modTrig f).lcs = s.lcs := rfl
@[simp] theorem State.modTrig_ebs (s : State) (f : TrigSt → TrigSt) : (s.modTrig f).ebs = s.ebs := rfl
@[simp] theorem State.modTrig_ebStopped (s : State) (f : TrigSt → TrigSt) : (s.modTrig f).ebStopped = s.ebStopped := rfl
@[simp] theorem State.modTrig_skews (s : State) (f : TrigSt → TrigSt) : (s.modTrig f).skews = s.skews := rfl
@[simp] theorem State.modTrig_rings (s : State) (f : TrigSt → TrigSt) : (s.modTrig f).rings = s.rings := rfl
@[simp] theorem State.modTrig_dmas (s : State) (f : TrigSt → TrigSt) : (s.modTrig f).dmas = s.dmas := rfl
@[simp] theorem State.modTrig_axes (s : State) (f : TrigSt → TrigSt) : (s.modTrig f).axes = s.axes := rfl
@[simp] theorem State.modTrig_links (s : State) (f : TrigSt → TrigSt) : (s.modTrig f).links = s.links := rfl
@[simp] theorem State.modTrig_belays (s : State) (f : TrigSt → TrigSt) : (s.modTrig f).belays = s.belays := rfl
@[simp] theorem State.modTrig_vmot (s : State) (f : TrigSt → TrigSt) : (s.modTrig f).vmot = s.vmot := rfl
@[simp] theorem State.modTrig_lamps (s : State) (f : TrigSt → TrigSt) : (s.modTrig f).lamps = s.lamps := rfl
@[simp] theorem State.modTrig_chain (s : State) (f : TrigSt → TrigSt) : (s.modTrig f).chain = s.chain := rfl
@[simp] theorem State.modTrig_hares (s : State) (f : TrigSt → TrigSt) : (s.modTrig f).hares = s.hares := rfl
@[simp] theorem State.modTrig_ropeS (s : State) (f : TrigSt → TrigSt) : (s.modTrig f).ropeS = s.ropeS := rfl
@[simp] theorem State.modTrig_slots (s : State) (f : TrigSt → TrigSt) : (s.modTrig f).slots = s.slots := rfl
@[simp] theorem State.modTrig_sec (s : State) (f : TrigSt → TrigSt) : (s.modTrig f).sec = s.sec := rfl
@[simp] theorem State.modTrig_memS (s : State) (f : TrigSt → TrigSt) : (s.modTrig f).memS = s.memS := rfl
@[simp] theorem State.modTrig_pow (s : State) (f : TrigSt → TrigSt) : (s.modTrig f).pow = s.pow := rfl
@[simp] theorem State.modTrig_sys (s : State) (f : TrigSt → TrigSt) : (s.modTrig f).sys = s.sys := rfl
@[simp] theorem State.modTrig_host (s : State) (f : TrigSt → TrigSt) : (s.modTrig f).host = s.host := rfl
@[simp] theorem State.modTrig_dram (s : State) (f : TrigSt → TrigSt) : (s.modTrig f).dram = s.dram := rfl
@[simp] theorem State.modTrig_sram (s : State) (f : TrigSt → TrigSt) : (s.modTrig f).sram = s.sram := rfl
@[simp] theorem State.modTrig_rdata (s : State) (f : TrigSt → TrigSt) : (s.modTrig f).rdata = s.rdata := rfl
@[simp] theorem State.modTrig_results (s : State) (f : TrigSt → TrigSt) : (s.modTrig f).results = s.results := rfl
@[simp] theorem State.modTrig_draw (s : State) (f : TrigSt → TrigSt) : (s.modTrig f).draw = s.draw := rfl

/-! ### logEvent -/

@[simp] theorem State.logEvent_pending (s : State) (e : Event) : (s.logEvent e).pending = s.pending := rfl
@[simp] theorem State.logEvent_part (s : State) (e : Event) : (s.logEvent e).part = s.part := rfl
@[simp] theorem State.logEvent_now (s : State) (e : Event) : (s.logEvent e).now = s.now := rfl
@[simp] theorem State.logEvent_ropeT (s : State) (e : Event) : (s.logEvent e).ropeT = s.ropeT := rfl
@[simp] theorem State.logEvent_frozen (s : State) (e : Event) : (s.logEvent e).frozen = s.frozen := rfl
@[simp] theorem State.logEvent_d3hot (s : State) (e : Event) : (s.logEvent e).d3hot = s.d3hot := rfl
@[simp] theorem State.logEvent_cfg (s : State) (e : Event) : (s.logEvent e).cfg = s.cfg := rfl
@[simp] theorem State.logEvent_live (s : State) (e : Event) : (s.logEvent e).live = s.live := rfl
@[simp] theorem State.logEvent_active (s : State) (e : Event) : (s.logEvent e).active = s.active := rfl
@[simp] theorem State.logEvent_shadow (s : State) (e : Event) : (s.logEvent e).shadow = s.shadow := rfl
@[simp] theorem State.logEvent_openSets (s : State) (e : Event) : (s.logEvent e).openSets = s.openSets := rfl
@[simp] theorem State.logEvent_units (s : State) (e : Event) : (s.logEvent e).units = s.units := rfl
@[simp] theorem State.logEvent_commits (s : State) (e : Event) : (s.logEvent e).commits = s.commits := rfl
@[simp] theorem State.logEvent_commitNext (s : State) (e : Event) : (s.logEvent e).commitNext = s.commitNext := rfl
@[simp] theorem State.logEvent_cmdSeq (s : State) (e : Event) : (s.logEvent e).cmdSeq = s.cmdSeq := rfl
@[simp] theorem State.logEvent_urgentQ (s : State) (e : Event) : (s.logEvent e).urgentQ = s.urgentQ := rfl
@[simp] theorem State.logEvent_normalQ (s : State) (e : Event) : (s.logEvent e).normalQ = s.normalQ := rfl
@[simp] theorem State.logEvent_reply (s : State) (e : Event) : (s.logEvent e).reply = s.reply := rfl
@[simp] theorem State.logEvent_aborts (s : State) (e : Event) : (s.logEvent e).aborts = s.aborts := rfl
@[simp] theorem State.logEvent_works (s : State) (e : Event) : (s.logEvent e).works = s.works := rfl
@[simp] theorem State.logEvent_ports (s : State) (e : Event) : (s.logEvent e).ports = s.ports := rfl
@[simp] theorem State.logEvent_job (s : State) (e : Event) : (s.logEvent e).job = s.job := rfl
@[simp] theorem State.logEvent_encs (s : State) (e : Event) : (s.logEvent e).encs = s.encs := rfl
@[simp] theorem State.logEvent_lcs (s : State) (e : Event) : (s.logEvent e).lcs = s.lcs := rfl
@[simp] theorem State.logEvent_ebs (s : State) (e : Event) : (s.logEvent e).ebs = s.ebs := rfl
@[simp] theorem State.logEvent_ebStopped (s : State) (e : Event) : (s.logEvent e).ebStopped = s.ebStopped := rfl
@[simp] theorem State.logEvent_skews (s : State) (e : Event) : (s.logEvent e).skews = s.skews := rfl
@[simp] theorem State.logEvent_trig (s : State) (e : Event) : (s.logEvent e).trig = s.trig := rfl
@[simp] theorem State.logEvent_rings (s : State) (e : Event) : (s.logEvent e).rings = s.rings := rfl
@[simp] theorem State.logEvent_dmas (s : State) (e : Event) : (s.logEvent e).dmas = s.dmas := rfl
@[simp] theorem State.logEvent_axes (s : State) (e : Event) : (s.logEvent e).axes = s.axes := rfl
@[simp] theorem State.logEvent_links (s : State) (e : Event) : (s.logEvent e).links = s.links := rfl
@[simp] theorem State.logEvent_belays (s : State) (e : Event) : (s.logEvent e).belays = s.belays := rfl
@[simp] theorem State.logEvent_vmot (s : State) (e : Event) : (s.logEvent e).vmot = s.vmot := rfl
@[simp] theorem State.logEvent_lamps (s : State) (e : Event) : (s.logEvent e).lamps = s.lamps := rfl
@[simp] theorem State.logEvent_chain (s : State) (e : Event) : (s.logEvent e).chain = s.chain := rfl
@[simp] theorem State.logEvent_hares (s : State) (e : Event) : (s.logEvent e).hares = s.hares := rfl
@[simp] theorem State.logEvent_ropeS (s : State) (e : Event) : (s.logEvent e).ropeS = s.ropeS := rfl
@[simp] theorem State.logEvent_slots (s : State) (e : Event) : (s.logEvent e).slots = s.slots := rfl
@[simp] theorem State.logEvent_sec (s : State) (e : Event) : (s.logEvent e).sec = s.sec := rfl
@[simp] theorem State.logEvent_memS (s : State) (e : Event) : (s.logEvent e).memS = s.memS := rfl
@[simp] theorem State.logEvent_pow (s : State) (e : Event) : (s.logEvent e).pow = s.pow := rfl
@[simp] theorem State.logEvent_sys (s : State) (e : Event) : (s.logEvent e).sys = s.sys := rfl
@[simp] theorem State.logEvent_host (s : State) (e : Event) : (s.logEvent e).host = s.host := rfl
@[simp] theorem State.logEvent_dram (s : State) (e : Event) : (s.logEvent e).dram = s.dram := rfl
@[simp] theorem State.logEvent_sram (s : State) (e : Event) : (s.logEvent e).sram = s.sram := rfl
@[simp] theorem State.logEvent_rdata (s : State) (e : Event) : (s.logEvent e).rdata = s.rdata := rfl
@[simp] theorem State.logEvent_results (s : State) (e : Event) : (s.logEvent e).results = s.results := rfl
@[simp] theorem State.logEvent_draw (s : State) (e : Event) : (s.logEvent e).draw = s.draw := rfl

/-! ### What settle and the masks keep -/

@[simp] theorem State.keepsRest_pending (r s : State) : (r.keepsRest s).pending = r.pending := rfl
@[simp] theorem State.keepsRest_part (r s : State) : (r.keepsRest s).part = s.part := rfl
@[simp] theorem State.keepsRest_now (r s : State) : (r.keepsRest s).now = s.now := rfl
@[simp] theorem State.keepsRest_ropeT (r s : State) : (r.keepsRest s).ropeT = r.ropeT := rfl
@[simp] theorem State.keepsRest_frozen (r s : State) : (r.keepsRest s).frozen = s.frozen := rfl
@[simp] theorem State.keepsRest_d3hot (r s : State) : (r.keepsRest s).d3hot = s.d3hot := rfl
@[simp] theorem State.keepsRest_cfg (r s : State) : (r.keepsRest s).cfg = r.cfg := rfl
@[simp] theorem State.keepsRest_live (r s : State) : (r.keepsRest s).live = r.live := rfl
@[simp] theorem State.keepsRest_active (r s : State) : (r.keepsRest s).active = r.active := rfl
@[simp] theorem State.keepsRest_shadow (r s : State) : (r.keepsRest s).shadow = r.shadow := rfl
@[simp] theorem State.keepsRest_openSets (r s : State) : (r.keepsRest s).openSets = r.openSets := rfl
@[simp] theorem State.keepsRest_units (r s : State) : (r.keepsRest s).units = r.units := rfl
@[simp] theorem State.keepsRest_commits (r s : State) : (r.keepsRest s).commits = r.commits := rfl
@[simp] theorem State.keepsRest_commitNext (r s : State) : (r.keepsRest s).commitNext = s.commitNext := rfl
@[simp] theorem State.keepsRest_cmdSeq (r s : State) : (r.keepsRest s).cmdSeq = s.cmdSeq := rfl
@[simp] theorem State.keepsRest_urgentQ (r s : State) : (r.keepsRest s).urgentQ = s.urgentQ := rfl
@[simp] theorem State.keepsRest_normalQ (r s : State) : (r.keepsRest s).normalQ = r.normalQ := rfl
@[simp] theorem State.keepsRest_reply (r s : State) : (r.keepsRest s).reply = r.reply := rfl
@[simp] theorem State.keepsRest_evt (r s : State) : (r.keepsRest s).evt = r.evt := rfl
@[simp] theorem State.keepsRest_aborts (r s : State) : (r.keepsRest s).aborts = r.aborts := rfl
@[simp] theorem State.keepsRest_works (r s : State) : (r.keepsRest s).works = r.works := rfl
@[simp] theorem State.keepsRest_ports (r s : State) : (r.keepsRest s).ports = r.ports := rfl
@[simp] theorem State.keepsRest_job (r s : State) : (r.keepsRest s).job = r.job := rfl
@[simp] theorem State.keepsRest_encs (r s : State) : (r.keepsRest s).encs = s.encs := rfl
@[simp] theorem State.keepsRest_lcs (r s : State) : (r.keepsRest s).lcs = r.lcs := rfl
@[simp] theorem State.keepsRest_ebs (r s : State) : (r.keepsRest s).ebs = r.ebs := rfl
@[simp] theorem State.keepsRest_ebStopped (r s : State) : (r.keepsRest s).ebStopped = r.ebStopped := rfl
@[simp] theorem State.keepsRest_skews (r s : State) : (r.keepsRest s).skews = r.skews := rfl
@[simp] theorem State.keepsRest_trig (r s : State) : (r.keepsRest s).trig = r.trig := rfl
@[simp] theorem State.keepsRest_rings (r s : State) : (r.keepsRest s).rings = r.rings := rfl
@[simp] theorem State.keepsRest_dmas (r s : State) : (r.keepsRest s).dmas = r.dmas := rfl
@[simp] theorem State.keepsRest_axes (r s : State) : (r.keepsRest s).axes = r.axes := rfl
@[simp] theorem State.keepsRest_links (r s : State) : (r.keepsRest s).links = r.links := rfl
@[simp] theorem State.keepsRest_belays (r s : State) : (r.keepsRest s).belays = r.belays := rfl
@[simp] theorem State.keepsRest_vmot (r s : State) : (r.keepsRest s).vmot = s.vmot := rfl
@[simp] theorem State.keepsRest_lamps (r s : State) : (r.keepsRest s).lamps = r.lamps := rfl
@[simp] theorem State.keepsRest_chain (r s : State) : (r.keepsRest s).chain = r.chain := rfl
@[simp] theorem State.keepsRest_hares (r s : State) : (r.keepsRest s).hares = r.hares := rfl
@[simp] theorem State.keepsRest_ropeS (r s : State) : (r.keepsRest s).ropeS = r.ropeS := rfl
@[simp] theorem State.keepsRest_slots (r s : State) : (r.keepsRest s).slots = s.slots := rfl
@[simp] theorem State.keepsRest_sec (r s : State) : (r.keepsRest s).sec = r.sec := rfl
@[simp] theorem State.keepsRest_memS (r s : State) : (r.keepsRest s).memS = r.memS := rfl
@[simp] theorem State.keepsRest_pow (r s : State) : (r.keepsRest s).pow = s.pow := rfl
@[simp] theorem State.keepsRest_sys (r s : State) : (r.keepsRest s).sys = r.sys := rfl
@[simp] theorem State.keepsRest_host (r s : State) : (r.keepsRest s).host = r.host := rfl
@[simp] theorem State.keepsRest_dram (r s : State) : (r.keepsRest s).dram = r.dram := rfl
@[simp] theorem State.keepsRest_sram (r s : State) : (r.keepsRest s).sram = s.sram := rfl
@[simp] theorem State.keepsRest_rdata (r s : State) : (r.keepsRest s).rdata = s.rdata := rfl
@[simp] theorem State.keepsRest_results (r s : State) : (r.keepsRest s).results = r.results := rfl
@[simp] theorem State.keepsRest_draw (r s : State) : (r.keepsRest s).draw = r.draw := rfl
@[simp] theorem State.settle_part (r s : State) : (r.settle s).part = r.part := State.keepsRest_part _ _
@[simp] theorem State.settle_now (r s : State) : (r.settle s).now = r.now := State.keepsRest_now _ _
@[simp] theorem State.settle_frozen (r s : State) : (r.settle s).frozen = r.frozen := State.keepsRest_frozen _ _
@[simp] theorem State.settle_d3hot (r s : State) : (r.settle s).d3hot = r.d3hot := State.keepsRest_d3hot _ _
@[simp] theorem State.settle_commitNext (r s : State) : (r.settle s).commitNext = r.commitNext := State.keepsRest_commitNext _ _
@[simp] theorem State.settle_cmdSeq (r s : State) : (r.settle s).cmdSeq = r.cmdSeq := State.keepsRest_cmdSeq _ _
@[simp] theorem State.settle_urgentQ (r s : State) : (r.settle s).urgentQ = r.urgentQ := State.keepsRest_urgentQ _ _
@[simp] theorem State.settle_encs (r s : State) : (r.settle s).encs = r.encs := State.keepsRest_encs _ _
@[simp] theorem State.settle_vmot (r s : State) : (r.settle s).vmot = r.vmot := State.keepsRest_vmot _ _
@[simp] theorem State.settle_slots (r s : State) : (r.settle s).slots = r.slots := State.keepsRest_slots _ _
@[simp] theorem State.settle_pow (r s : State) : (r.settle s).pow = r.pow := State.keepsRest_pow _ _
@[simp] theorem State.settle_sram (r s : State) : (r.settle s).sram = r.sram := State.keepsRest_sram _ _
@[simp] theorem State.settle_rdata (r s : State) : (r.settle s).rdata = r.rdata := State.keepsRest_rdata _ _
@[simp] theorem State.keepsHost_pending (r s : State) : (r.keepsHost s).pending = r.pending := rfl
@[simp] theorem State.keepsHost_part (r s : State) : (r.keepsHost s).part = r.part := rfl
@[simp] theorem State.keepsHost_now (r s : State) : (r.keepsHost s).now = r.now := rfl
@[simp] theorem State.keepsHost_ropeT (r s : State) : (r.keepsHost s).ropeT = r.ropeT := rfl
@[simp] theorem State.keepsHost_frozen (r s : State) : (r.keepsHost s).frozen = s.frozen := rfl
@[simp] theorem State.keepsHost_d3hot (r s : State) : (r.keepsHost s).d3hot = s.d3hot := rfl
@[simp] theorem State.keepsHost_cfg (r s : State) : (r.keepsHost s).cfg = r.cfg := rfl
@[simp] theorem State.keepsHost_live (r s : State) : (r.keepsHost s).live = r.live := rfl
@[simp] theorem State.keepsHost_active (r s : State) : (r.keepsHost s).active = r.active := rfl
@[simp] theorem State.keepsHost_shadow (r s : State) : (r.keepsHost s).shadow = r.shadow := rfl
@[simp] theorem State.keepsHost_openSets (r s : State) : (r.keepsHost s).openSets = r.openSets := rfl
@[simp] theorem State.keepsHost_units (r s : State) : (r.keepsHost s).units = r.units := rfl
@[simp] theorem State.keepsHost_commits (r s : State) : (r.keepsHost s).commits = r.commits := rfl
@[simp] theorem State.keepsHost_commitNext (r s : State) : (r.keepsHost s).commitNext = r.commitNext := rfl
@[simp] theorem State.keepsHost_cmdSeq (r s : State) : (r.keepsHost s).cmdSeq = s.cmdSeq := rfl
@[simp] theorem State.keepsHost_urgentQ (r s : State) : (r.keepsHost s).urgentQ = s.urgentQ := rfl
@[simp] theorem State.keepsHost_normalQ (r s : State) : (r.keepsHost s).normalQ = r.normalQ := rfl
@[simp] theorem State.keepsHost_reply (r s : State) : (r.keepsHost s).reply = r.reply := rfl
@[simp] theorem State.keepsHost_evt (r s : State) : (r.keepsHost s).evt = r.evt := rfl
@[simp] theorem State.keepsHost_aborts (r s : State) : (r.keepsHost s).aborts = r.aborts := rfl
@[simp] theorem State.keepsHost_works (r s : State) : (r.keepsHost s).works = r.works := rfl
@[simp] theorem State.keepsHost_ports (r s : State) : (r.keepsHost s).ports = r.ports := rfl
@[simp] theorem State.keepsHost_job (r s : State) : (r.keepsHost s).job = r.job := rfl
@[simp] theorem State.keepsHost_encs (r s : State) : (r.keepsHost s).encs = r.encs := rfl
@[simp] theorem State.keepsHost_lcs (r s : State) : (r.keepsHost s).lcs = r.lcs := rfl
@[simp] theorem State.keepsHost_ebs (r s : State) : (r.keepsHost s).ebs = r.ebs := rfl
@[simp] theorem State.keepsHost_ebStopped (r s : State) : (r.keepsHost s).ebStopped = r.ebStopped := rfl
@[simp] theorem State.keepsHost_skews (r s : State) : (r.keepsHost s).skews = r.skews := rfl
@[simp] theorem State.keepsHost_trig (r s : State) : (r.keepsHost s).trig = r.trig := rfl
@[simp] theorem State.keepsHost_rings (r s : State) : (r.keepsHost s).rings = r.rings := rfl
@[simp] theorem State.keepsHost_dmas (r s : State) : (r.keepsHost s).dmas = r.dmas := rfl
@[simp] theorem State.keepsHost_axes (r s : State) : (r.keepsHost s).axes = r.axes := rfl
@[simp] theorem State.keepsHost_links (r s : State) : (r.keepsHost s).links = r.links := rfl
@[simp] theorem State.keepsHost_belays (r s : State) : (r.keepsHost s).belays = r.belays := rfl
@[simp] theorem State.keepsHost_vmot (r s : State) : (r.keepsHost s).vmot = r.vmot := rfl
@[simp] theorem State.keepsHost_lamps (r s : State) : (r.keepsHost s).lamps = r.lamps := rfl
@[simp] theorem State.keepsHost_chain (r s : State) : (r.keepsHost s).chain = r.chain := rfl
@[simp] theorem State.keepsHost_hares (r s : State) : (r.keepsHost s).hares = r.hares := rfl
@[simp] theorem State.keepsHost_ropeS (r s : State) : (r.keepsHost s).ropeS = r.ropeS := rfl
@[simp] theorem State.keepsHost_slots (r s : State) : (r.keepsHost s).slots = r.slots := rfl
@[simp] theorem State.keepsHost_sec (r s : State) : (r.keepsHost s).sec = r.sec := rfl
@[simp] theorem State.keepsHost_memS (r s : State) : (r.keepsHost s).memS = r.memS := rfl
@[simp] theorem State.keepsHost_pow (r s : State) : (r.keepsHost s).pow = r.pow := rfl
@[simp] theorem State.keepsHost_sys (r s : State) : (r.keepsHost s).sys = r.sys := rfl
@[simp] theorem State.keepsHost_host (r s : State) : (r.keepsHost s).host = r.host := rfl
@[simp] theorem State.keepsHost_dram (r s : State) : (r.keepsHost s).dram = r.dram := rfl
@[simp] theorem State.keepsHost_sram (r s : State) : (r.keepsHost s).sram = r.sram := rfl
@[simp] theorem State.keepsHost_rdata (r s : State) : (r.keepsHost s).rdata = s.rdata := rfl
@[simp] theorem State.keepsHost_results (r s : State) : (r.keepsHost s).results = r.results := rfl
@[simp] theorem State.keepsHost_draw (r s : State) : (r.keepsHost s).draw = r.draw := rfl
@[simp] theorem State.keepsPins_pending (r s : State) : (r.keepsPins s).pending = r.pending := rfl
@[simp] theorem State.keepsPins_part (r s : State) : (r.keepsPins s).part = r.part := rfl
@[simp] theorem State.keepsPins_now (r s : State) : (r.keepsPins s).now = r.now := rfl
@[simp] theorem State.keepsPins_ropeT (r s : State) : (r.keepsPins s).ropeT = r.ropeT := rfl
@[simp] theorem State.keepsPins_frozen (r s : State) : (r.keepsPins s).frozen = r.frozen := rfl
@[simp] theorem State.keepsPins_d3hot (r s : State) : (r.keepsPins s).d3hot = s.d3hot := rfl
@[simp] theorem State.keepsPins_cfg (r s : State) : (r.keepsPins s).cfg = r.cfg := rfl
@[simp] theorem State.keepsPins_live (r s : State) : (r.keepsPins s).live = r.live := rfl
@[simp] theorem State.keepsPins_active (r s : State) : (r.keepsPins s).active = r.active := rfl
@[simp] theorem State.keepsPins_shadow (r s : State) : (r.keepsPins s).shadow = r.shadow := rfl
@[simp] theorem State.keepsPins_openSets (r s : State) : (r.keepsPins s).openSets = r.openSets := rfl
@[simp] theorem State.keepsPins_units (r s : State) : (r.keepsPins s).units = r.units := rfl
@[simp] theorem State.keepsPins_commits (r s : State) : (r.keepsPins s).commits = r.commits := rfl
@[simp] theorem State.keepsPins_commitNext (r s : State) : (r.keepsPins s).commitNext = r.commitNext := rfl
@[simp] theorem State.keepsPins_cmdSeq (r s : State) : (r.keepsPins s).cmdSeq = r.cmdSeq := rfl
@[simp] theorem State.keepsPins_urgentQ (r s : State) : (r.keepsPins s).urgentQ = r.urgentQ := rfl
@[simp] theorem State.keepsPins_normalQ (r s : State) : (r.keepsPins s).normalQ = r.normalQ := rfl
@[simp] theorem State.keepsPins_reply (r s : State) : (r.keepsPins s).reply = r.reply := rfl
@[simp] theorem State.keepsPins_evt (r s : State) : (r.keepsPins s).evt = r.evt := rfl
@[simp] theorem State.keepsPins_aborts (r s : State) : (r.keepsPins s).aborts = r.aborts := rfl
@[simp] theorem State.keepsPins_works (r s : State) : (r.keepsPins s).works = r.works := rfl
@[simp] theorem State.keepsPins_ports (r s : State) : (r.keepsPins s).ports = r.ports := rfl
@[simp] theorem State.keepsPins_job (r s : State) : (r.keepsPins s).job = r.job := rfl
@[simp] theorem State.keepsPins_encs (r s : State) : (r.keepsPins s).encs = s.encs := rfl
@[simp] theorem State.keepsPins_lcs (r s : State) : (r.keepsPins s).lcs = r.lcs := rfl
@[simp] theorem State.keepsPins_ebs (r s : State) : (r.keepsPins s).ebs = r.ebs := rfl
@[simp] theorem State.keepsPins_ebStopped (r s : State) : (r.keepsPins s).ebStopped = r.ebStopped := rfl
@[simp] theorem State.keepsPins_skews (r s : State) : (r.keepsPins s).skews = r.skews := rfl
@[simp] theorem State.keepsPins_trig (r s : State) : (r.keepsPins s).trig = r.trig := rfl
@[simp] theorem State.keepsPins_rings (r s : State) : (r.keepsPins s).rings = r.rings := rfl
@[simp] theorem State.keepsPins_dmas (r s : State) : (r.keepsPins s).dmas = r.dmas := rfl
@[simp] theorem State.keepsPins_axes (r s : State) : (r.keepsPins s).axes = r.axes := rfl
@[simp] theorem State.keepsPins_links (r s : State) : (r.keepsPins s).links = r.links := rfl
@[simp] theorem State.keepsPins_belays (r s : State) : (r.keepsPins s).belays = r.belays := rfl
@[simp] theorem State.keepsPins_vmot (r s : State) : (r.keepsPins s).vmot = r.vmot := rfl
@[simp] theorem State.keepsPins_lamps (r s : State) : (r.keepsPins s).lamps = r.lamps := rfl
@[simp] theorem State.keepsPins_chain (r s : State) : (r.keepsPins s).chain = r.chain := rfl
@[simp] theorem State.keepsPins_hares (r s : State) : (r.keepsPins s).hares = r.hares := rfl
@[simp] theorem State.keepsPins_ropeS (r s : State) : (r.keepsPins s).ropeS = r.ropeS := rfl
@[simp] theorem State.keepsPins_slots (r s : State) : (r.keepsPins s).slots = r.slots := rfl
@[simp] theorem State.keepsPins_sec (r s : State) : (r.keepsPins s).sec = r.sec := rfl
@[simp] theorem State.keepsPins_memS (r s : State) : (r.keepsPins s).memS = r.memS := rfl
@[simp] theorem State.keepsPins_pow (r s : State) : (r.keepsPins s).pow = r.pow := rfl
@[simp] theorem State.keepsPins_sys (r s : State) : (r.keepsPins s).sys = r.sys := rfl
@[simp] theorem State.keepsPins_host (r s : State) : (r.keepsPins s).host = r.host := rfl
@[simp] theorem State.keepsPins_dram (r s : State) : (r.keepsPins s).dram = r.dram := rfl
@[simp] theorem State.keepsPins_sram (r s : State) : (r.keepsPins s).sram = s.sram := rfl
@[simp] theorem State.keepsPins_rdata (r s : State) : (r.keepsPins s).rdata = s.rdata := rfl
@[simp] theorem State.keepsPins_results (r s : State) : (r.keepsPins s).results = r.results := rfl
@[simp] theorem State.keepsPins_draw (r s : State) : (r.keepsPins s).draw = r.draw := rfl
@[simp] theorem State.ends_pending (s : State) (t : Nat) (r : State) : (s.ends t r).pending = s.pending := rfl
@[simp] theorem State.ends_part (s : State) (t : Nat) (r : State) : (s.ends t r).part = s.part := rfl
@[simp] theorem State.ends_now (s : State) (t : Nat) (r : State) : (s.ends t r).now = max (s.advance t).now r.now := rfl
@[simp] theorem State.ends_ropeT (s : State) (t : Nat) (r : State) : (s.ends t r).ropeT = r.ropeT := rfl
@[simp] theorem State.ends_frozen (s : State) (t : Nat) (r : State) : (s.ends t r).frozen = r.frozen := rfl
@[simp] theorem State.ends_d3hot (s : State) (t : Nat) (r : State) : (s.ends t r).d3hot = r.d3hot := rfl
@[simp] theorem State.ends_cfg (s : State) (t : Nat) (r : State) : (s.ends t r).cfg = r.cfg := rfl
@[simp] theorem State.ends_live (s : State) (t : Nat) (r : State) : (s.ends t r).live = r.live := rfl
@[simp] theorem State.ends_active (s : State) (t : Nat) (r : State) : (s.ends t r).active = r.active := rfl
@[simp] theorem State.ends_shadow (s : State) (t : Nat) (r : State) : (s.ends t r).shadow = r.shadow := rfl
@[simp] theorem State.ends_openSets (s : State) (t : Nat) (r : State) : (s.ends t r).openSets = r.openSets := rfl
@[simp] theorem State.ends_units (s : State) (t : Nat) (r : State) : (s.ends t r).units = r.units := rfl
@[simp] theorem State.ends_commits (s : State) (t : Nat) (r : State) : (s.ends t r).commits = r.commits := rfl
@[simp] theorem State.ends_commitNext (s : State) (t : Nat) (r : State) : (s.ends t r).commitNext = r.commitNext := rfl
@[simp] theorem State.ends_cmdSeq (s : State) (t : Nat) (r : State) : (s.ends t r).cmdSeq = r.cmdSeq := rfl
@[simp] theorem State.ends_urgentQ (s : State) (t : Nat) (r : State) : (s.ends t r).urgentQ = r.urgentQ := rfl
@[simp] theorem State.ends_normalQ (s : State) (t : Nat) (r : State) : (s.ends t r).normalQ = r.normalQ := rfl
@[simp] theorem State.ends_reply (s : State) (t : Nat) (r : State) : (s.ends t r).reply = r.reply := rfl
@[simp] theorem State.ends_evt (s : State) (t : Nat) (r : State) : (s.ends t r).evt = r.evt := rfl
@[simp] theorem State.ends_aborts (s : State) (t : Nat) (r : State) : (s.ends t r).aborts = r.aborts := rfl
@[simp] theorem State.ends_works (s : State) (t : Nat) (r : State) : (s.ends t r).works = r.works := rfl
@[simp] theorem State.ends_ports (s : State) (t : Nat) (r : State) : (s.ends t r).ports = r.ports := rfl
@[simp] theorem State.ends_job (s : State) (t : Nat) (r : State) : (s.ends t r).job = r.job := rfl
@[simp] theorem State.ends_encs (s : State) (t : Nat) (r : State) : (s.ends t r).encs = r.encs := rfl
@[simp] theorem State.ends_lcs (s : State) (t : Nat) (r : State) : (s.ends t r).lcs = r.lcs := rfl
@[simp] theorem State.ends_ebs (s : State) (t : Nat) (r : State) : (s.ends t r).ebs = r.ebs := rfl
@[simp] theorem State.ends_ebStopped (s : State) (t : Nat) (r : State) : (s.ends t r).ebStopped = r.ebStopped := rfl
@[simp] theorem State.ends_skews (s : State) (t : Nat) (r : State) : (s.ends t r).skews = r.skews := rfl
@[simp] theorem State.ends_trig (s : State) (t : Nat) (r : State) : (s.ends t r).trig = r.trig := rfl
@[simp] theorem State.ends_rings (s : State) (t : Nat) (r : State) : (s.ends t r).rings = r.rings := rfl
@[simp] theorem State.ends_dmas (s : State) (t : Nat) (r : State) : (s.ends t r).dmas = r.dmas := rfl
@[simp] theorem State.ends_axes (s : State) (t : Nat) (r : State) : (s.ends t r).axes = r.axes := rfl
@[simp] theorem State.ends_links (s : State) (t : Nat) (r : State) : (s.ends t r).links = r.links := rfl
@[simp] theorem State.ends_belays (s : State) (t : Nat) (r : State) : (s.ends t r).belays = r.belays := rfl
@[simp] theorem State.ends_vmot (s : State) (t : Nat) (r : State) : (s.ends t r).vmot = r.vmot := rfl
@[simp] theorem State.ends_lamps (s : State) (t : Nat) (r : State) : (s.ends t r).lamps = r.lamps := rfl
@[simp] theorem State.ends_chain (s : State) (t : Nat) (r : State) : (s.ends t r).chain = r.chain := rfl
@[simp] theorem State.ends_hares (s : State) (t : Nat) (r : State) : (s.ends t r).hares = r.hares := rfl
@[simp] theorem State.ends_ropeS (s : State) (t : Nat) (r : State) : (s.ends t r).ropeS = r.ropeS := rfl
@[simp] theorem State.ends_slots (s : State) (t : Nat) (r : State) : (s.ends t r).slots = r.slots := rfl
@[simp] theorem State.ends_sec (s : State) (t : Nat) (r : State) : (s.ends t r).sec = r.sec := rfl
@[simp] theorem State.ends_memS (s : State) (t : Nat) (r : State) : (s.ends t r).memS = r.memS := rfl
@[simp] theorem State.ends_pow (s : State) (t : Nat) (r : State) : (s.ends t r).pow = r.pow := rfl
@[simp] theorem State.ends_sys (s : State) (t : Nat) (r : State) : (s.ends t r).sys = r.sys := rfl
@[simp] theorem State.ends_host (s : State) (t : Nat) (r : State) : (s.ends t r).host = r.host := rfl
@[simp] theorem State.ends_dram (s : State) (t : Nat) (r : State) : (s.ends t r).dram = r.dram := rfl
@[simp] theorem State.ends_sram (s : State) (t : Nat) (r : State) : (s.ends t r).sram = r.sram := rfl
@[simp] theorem State.ends_rdata (s : State) (t : Nat) (r : State) : (s.ends t r).rdata = r.rdata := rfl
@[simp] theorem State.ends_results (s : State) (t : Nat) (r : State) : (s.ends t r).results = r.results := rfl
@[simp] theorem State.ends_draw (s : State) (t : Nat) (r : State) : (s.ends t r).draw = r.draw := rfl

/-! ### Time -/

@[simp] theorem State.advance_pending (s : State) (t : Nat) : (s.advance t).pending = s.pending := by unfold State.advance; split <;> rfl
@[simp] theorem State.advance_part (s : State) (t : Nat) : (s.advance t).part = s.part := by unfold State.advance; split <;> rfl
@[simp] theorem State.advance_frozen (s : State) (t : Nat) : (s.advance t).frozen = s.frozen := by unfold State.advance; split <;> rfl
@[simp] theorem State.advance_d3hot (s : State) (t : Nat) : (s.advance t).d3hot = s.d3hot := by unfold State.advance; split <;> rfl
@[simp] theorem State.advance_cfg (s : State) (t : Nat) : (s.advance t).cfg = s.cfg := by unfold State.advance; split <;> rfl
@[simp] theorem State.advance_live (s : State) (t : Nat) : (s.advance t).live = s.live := by unfold State.advance; split <;> rfl
@[simp] theorem State.advance_active (s : State) (t : Nat) : (s.advance t).active = s.active := by unfold State.advance; split <;> rfl
@[simp] theorem State.advance_shadow (s : State) (t : Nat) : (s.advance t).shadow = s.shadow := by unfold State.advance; split <;> rfl
@[simp] theorem State.advance_openSets (s : State) (t : Nat) : (s.advance t).openSets = s.openSets := by unfold State.advance; split <;> rfl
@[simp] theorem State.advance_units (s : State) (t : Nat) : (s.advance t).units = s.units := by unfold State.advance; split <;> rfl
@[simp] theorem State.advance_commits (s : State) (t : Nat) : (s.advance t).commits = s.commits := by unfold State.advance; split <;> rfl
@[simp] theorem State.advance_commitNext (s : State) (t : Nat) : (s.advance t).commitNext = s.commitNext := by unfold State.advance; split <;> rfl
@[simp] theorem State.advance_cmdSeq (s : State) (t : Nat) : (s.advance t).cmdSeq = s.cmdSeq := by unfold State.advance; split <;> rfl
@[simp] theorem State.advance_urgentQ (s : State) (t : Nat) : (s.advance t).urgentQ = s.urgentQ := by unfold State.advance; split <;> rfl
@[simp] theorem State.advance_normalQ (s : State) (t : Nat) : (s.advance t).normalQ = s.normalQ := by unfold State.advance; split <;> rfl
@[simp] theorem State.advance_reply (s : State) (t : Nat) : (s.advance t).reply = s.reply := by unfold State.advance; split <;> rfl
@[simp] theorem State.advance_evt (s : State) (t : Nat) : (s.advance t).evt = s.evt := by unfold State.advance; split <;> rfl
@[simp] theorem State.advance_aborts (s : State) (t : Nat) : (s.advance t).aborts = s.aborts := by unfold State.advance; split <;> rfl
@[simp] theorem State.advance_works (s : State) (t : Nat) : (s.advance t).works = s.works := by unfold State.advance; split <;> rfl
@[simp] theorem State.advance_ports (s : State) (t : Nat) : (s.advance t).ports = s.ports := by unfold State.advance; split <;> rfl
@[simp] theorem State.advance_job (s : State) (t : Nat) : (s.advance t).job = s.job := by unfold State.advance; split <;> rfl
@[simp] theorem State.advance_encs (s : State) (t : Nat) : (s.advance t).encs = s.encs := by unfold State.advance; split <;> rfl
@[simp] theorem State.advance_lcs (s : State) (t : Nat) : (s.advance t).lcs = s.lcs := by unfold State.advance; split <;> rfl
@[simp] theorem State.advance_ebs (s : State) (t : Nat) : (s.advance t).ebs = s.ebs := by unfold State.advance; split <;> rfl
@[simp] theorem State.advance_ebStopped (s : State) (t : Nat) : (s.advance t).ebStopped = s.ebStopped := by unfold State.advance; split <;> rfl
@[simp] theorem State.advance_skews (s : State) (t : Nat) : (s.advance t).skews = s.skews := by unfold State.advance; split <;> rfl
@[simp] theorem State.advance_trig (s : State) (t : Nat) : (s.advance t).trig = s.trig := by unfold State.advance; split <;> rfl
@[simp] theorem State.advance_rings (s : State) (t : Nat) : (s.advance t).rings = s.rings := by unfold State.advance; split <;> rfl
@[simp] theorem State.advance_dmas (s : State) (t : Nat) : (s.advance t).dmas = s.dmas := by unfold State.advance; split <;> rfl
@[simp] theorem State.advance_axes (s : State) (t : Nat) : (s.advance t).axes = s.axes := by unfold State.advance; split <;> rfl
@[simp] theorem State.advance_links (s : State) (t : Nat) : (s.advance t).links = s.links := by unfold State.advance; split <;> rfl
@[simp] theorem State.advance_belays (s : State) (t : Nat) : (s.advance t).belays = s.belays := by unfold State.advance; split <;> rfl
@[simp] theorem State.advance_vmot (s : State) (t : Nat) : (s.advance t).vmot = s.vmot := by unfold State.advance; split <;> rfl
@[simp] theorem State.advance_lamps (s : State) (t : Nat) : (s.advance t).lamps = s.lamps := by unfold State.advance; split <;> rfl
@[simp] theorem State.advance_chain (s : State) (t : Nat) : (s.advance t).chain = s.chain := by unfold State.advance; split <;> rfl
@[simp] theorem State.advance_hares (s : State) (t : Nat) : (s.advance t).hares = s.hares := by unfold State.advance; split <;> rfl
@[simp] theorem State.advance_ropeS (s : State) (t : Nat) : (s.advance t).ropeS = s.ropeS := by unfold State.advance; split <;> rfl
@[simp] theorem State.advance_slots (s : State) (t : Nat) : (s.advance t).slots = s.slots := by unfold State.advance; split <;> rfl
@[simp] theorem State.advance_sec (s : State) (t : Nat) : (s.advance t).sec = s.sec := by unfold State.advance; split <;> rfl
@[simp] theorem State.advance_memS (s : State) (t : Nat) : (s.advance t).memS = s.memS := by unfold State.advance; split <;> rfl
@[simp] theorem State.advance_pow (s : State) (t : Nat) : (s.advance t).pow = s.pow := by unfold State.advance; split <;> rfl
@[simp] theorem State.advance_sys (s : State) (t : Nat) : (s.advance t).sys = s.sys := by unfold State.advance; split <;> rfl
@[simp] theorem State.advance_host (s : State) (t : Nat) : (s.advance t).host = s.host := by unfold State.advance; split <;> rfl
@[simp] theorem State.advance_dram (s : State) (t : Nat) : (s.advance t).dram = s.dram := by unfold State.advance; split <;> rfl
@[simp] theorem State.advance_sram (s : State) (t : Nat) : (s.advance t).sram = s.sram := by unfold State.advance; split <;> rfl
@[simp] theorem State.advance_rdata (s : State) (t : Nat) : (s.advance t).rdata = s.rdata := by unfold State.advance; split <;> rfl
@[simp] theorem State.advance_results (s : State) (t : Nat) : (s.advance t).results = s.results := by unfold State.advance; split <;> rfl
@[simp] theorem State.advance_draw (s : State) (t : Nat) : (s.advance t).draw = s.draw := by unfold State.advance; split <;> rfl
@[simp] theorem State.advance_now (s : State) (t : Nat) : (s.advance t).now = max s.now t := by
  unfold State.advance; split
  · omega
  · simp only; omega
theorem State.now_le_advance (s : State) (t : Nat) : s.now ≤ (s.advance t).now := by rw [State.advance_now]; omega

end Sys2Proof.Machine
end

