-- ==== Sys2Proof/Laws/Reach.lean ====
section
/-! SUPPORT. What each way of meeting the device can do, said once: a command that is not served changes nothing but the time, one that is leaves `went`, `ran`
or `did` of its own effect. -/
namespace Sys2Proof.Machine

theorem State.isLive_iff (s : State) : s.isLive = true ↔ s.sys.inReset = false ∧ s.frozen = false := by simp [State.isLive]
theorem State.serves_iff (s : State) (u : Nat) :
    s.serves u = true ↔ s.sys.inReset = false ∧ s.frozen = false ∧ s.powered u = true ∧ fusedOff s.part u = false := by
  simp [State.serves, State.isLive, and_assoc]
theorem State.reached_iff (s : State) : s.reached = true ↔ s.sys.inReset = false ∧ s.d3hot = false := by simp [State.reached]

/-- After a command that changed nothing, a device that does not work stays as it is. -/
theorem State.after_idle (r b : State) (h : r.isLive = false) : r.after b = r := by simp [State.after, h]
theorem State.after_live (r b : State) (h : r.isLive = true) : r.after b = r.settle b := by simp [State.after, h]
/-- The masks change nothing of a state they were taken from. -/
@[simp] theorem State.keepsHost_self (s : State) : s.keepsHost s = s := rfl
@[simp] theorem State.keepsPins_self (s : State) : s.keepsPins s = s := rfl

theorem State.onHost_reset (s : State) (t : Nat) (f : State → State) (h : s.sys.inReset = true) : s.onHost t f = s.ends t (s.advance t) := by
  simp [State.onHost, State.always, h]
theorem State.onHost_ends (s : State) (t : Nat) (f : State → State) (h : s.sys.inReset = false) : s.onHost t f = s.ends t (f (s.advance t)) := by
  simp [State.onHost, State.always, h]
theorem State.onHostThen_did (s : State) (t : Nat) (f : State → State) (h : s.sys.inReset = false) : s.onHostThen t f = s.did t (f (s.advance t)) :=
  s.onHost_ends t _ h
theorem State.onBar_ends (s : State) (t : Nat) (f : State → State) (h : (s.advance t).reached = true) : s.onBar t f = s.ends t (f (s.advance t)) := by
  obtain ⟨h1, h2⟩ := (State.reached_iff _).1 h
  simp only [State.advance_sys, State.advance_d3hot] at h1 h2
  simp [State.onBar, State.onHost_ends, h1, h2]
theorem State.onBar_d3hot (s : State) (t : Nat) (f : State → State) (h : s.d3hot = true) : s.onBar t f = s.ends t (s.advance t) := by
  simp [State.onBar, State.onHost, State.always, h]
theorem State.onBarThen_ran (s : State) (t : Nat) (f : State → State) (h : (s.advance t).reached = true) : s.onBarThen t f = s.ran t (f (s.advance t)) := by
  obtain ⟨h1, h2⟩ := (State.reached_iff _).1 h
  simp only [State.advance_sys, State.advance_d3hot] at h1 h2
  simp [State.onBarThen, State.onHostThen, State.onHost, State.always, State.ran, h1, h2]
theorem State.onBarThen_d3hot (s : State) (t : Nat) (f : State → State) (h1 : s.sys.inReset = false) (h : s.d3hot = true) :
    s.onBarThen t f = s.ran t (s.advance t) := by
  simp [State.onBarThen, State.onHostThen, State.onHost, State.always, State.ran, h1, h]
theorem State.onCore_went (s : State) (t : Nat) (f : State → State) (h : (s.advance t).isLive = true) : s.onCore t f = s.went t (f (s.advance t)) := by
  obtain ⟨h1, h2⟩ := (State.isLive_iff _).1 h
  simp only [State.advance_sys, State.advance_frozen] at h1 h2
  simp [State.onCore, State.onHostThen, State.onHost, State.always, State.went, h1, h2]
/-- An event of the device changes nothing but the time while the device does not work. -/
theorem State.onCore_idle (s : State) (t : Nat) (f : State → State) (h : (s.advance t).isLive = false) : s.onCore t f = s.ends t (s.advance t) := by
  simp only [State.isLive, State.advance_sys, State.advance_frozen, Bool.and_eq_false_iff, Bool.not_eq_false'] at h
  unfold State.onCore State.onHostThen State.onHost State.always
  rcases h with h | h
  · simp [h]
  · simp [h, State.after, State.isLive]
theorem State.onSeq_ran (s : State) (t : Nat) (f : State → State) (h : (s.advance t).isLive = true) : s.onSeq t f = s.ran t (f (s.advance t)) := by
  obtain ⟨h1, h2⟩ := (State.isLive_iff _).1 h
  simp only [State.advance_sys, State.advance_frozen] at h1 h2
  simp [State.onSeq, State.onHostThen, State.onHost, State.always, State.ran, h1, h2]
theorem State.onSeq_idle (s : State) (t : Nat) (f : State → State) (h : (s.advance t).isLive = false) : s.onSeq t f = s.ends t (s.advance t) := by
  simp only [State.isLive, State.advance_sys, State.advance_frozen, Bool.and_eq_false_iff, Bool.not_eq_false'] at h
  unfold State.onSeq State.onHostThen State.onHost State.always
  rcases h with h | h
  · simp [h]
  · simp [h, State.after, State.isLive]
theorem State.onUnit_went (s : State) (t i n u : Nat) (f : State → State) (hi : i < n) (h : (s.advance t).serves u = true) :
    s.onUnit t i n u f = s.went t (f (s.advance t)) := by
  obtain ⟨h1, h2, h3, h4⟩ := (State.serves_iff _ _).1 h
  unfold State.onUnit
  rw [State.onCore_went s t _ ((State.isLive_iff _).2 ⟨h1, h2⟩)]
  simp only [hi, h3, h4, decide_true, Bool.not_false, Bool.and_self, if_true]
theorem State.onPins_went (s : State) (t : Nat) (g f : State → State) (h : (s.advance t).isLive = true) : s.onPins t g f = s.went t (f (s.advance t)) := by
  simp [State.onPins, State.always, State.went, h]
theorem State.onPins_idle (s : State) (t : Nat) (g f : State → State) (h : (s.advance t).isLive = false) : s.onPins t g f = s.ends t (g (s.advance t)) := by
  simp [State.onPins, State.always, h]
theorem State.packet_ran (s : State) (t : Nat) (urgent : Bool) (op tag uid flags : Nat) (params : List Nat) (env : Option Nat) (fails : List Nat)
    (h : (s.advance t).reached = true) : s.packet t urgent op tag uid flags params env fails =
      s.ran t ((s.advance t).cmdWords urgent (pktWords op tag uid flags params) env fails) := s.onBarThen_ran t _ h

/-- Every way of meeting the device ends the command: the queue is left to the step, the part stays, the clock does not run back. -/
theorem State.ends_keeps (s : State) (t : Nat) (r : State) : (s.ends t r).pending = s.pending ∧ (s.ends t r).part = s.part ∧ s.now ≤ (s.ends t r).now := by
  have := s.now_le_advance t
  refine ⟨rfl, rfl, ?_⟩
  simp only [State.ends_now]; omega

end Sys2Proof.Machine
end

