-- ==== Sys2Proof/Laws/Packets.lean ====
section
/-! SUPPORT. A packet that the device takes, said once: its words are taken in one after the other, its last word makes the device accept it, and its command runs
in the state `before` with the packet `pkt`. -/
namespace Sys2Proof.Machine
open R

@[simp] theorem State.cmdRegs_normalQ (s : State) : s.cmdRegs.normalQ = s.normalQ := by simp [State.cmdRegs]
@[simp] theorem State.cmdRegs_urgentQ (s : State) : s.cmdRegs.urgentQ = s.urgentQ := by simp [State.cmdRegs]
@[simp] theorem State.cmdRegs_cmdSeq (s : State) : s.cmdRegs.cmdSeq = s.cmdSeq := by simp [State.cmdRegs]
@[simp] theorem State.cmdRegs_sys (s : State) : s.cmdRegs.sys = s.sys := by simp [State.cmdRegs]
@[simp] theorem State.cmdRegs_aborts (s : State) : s.cmdRegs.aborts = s.aborts := by simp [State.cmdRegs]
@[simp] theorem State.cmdRegs_reply (s : State) : s.cmdRegs.reply = s.reply := by simp [State.cmdRegs]
@[simp] theorem State.cmdRegs_frozen (s : State) : s.cmdRegs.frozen = s.frozen := by simp [State.cmdRegs]
/-- The registers of the command interface that follow the FIFOs are the only ones that change. -/
theorem State.cmdRegs_reg (s : State) (u : Nat) (f : Field) (i : Nat) (h : regKey u 0 f i ∉ [regKey bar0 0 Cmd.URGENT_FREE 0, regKey bar0 0 Cmd.NORMAL_FREE 0,
    regKey bar0 0 Cmd.URGENT_OVF 0, regKey bar0 0 Cmd.NORMAL_OVF 0, regKey bar0 0 Cmd.CMD_SEQ 0]) : s.cmdRegs.reg u f i = s.reg u f i := by
  simp only [List.mem_cons, List.not_mem_nil, or_false, not_or] at h
  obtain ⟨h1, h2, h3, h4, h5⟩ := h
  unfold State.cmdRegs
  simp only []
  rw [State.reg_set_ne _ _ _ _ _ _ _ _ h5, State.reg_set_ne _ _ _ _ _ _ _ _ h4, State.reg_set_ne _ _ _ _ _ _ _ _ h3,
    State.reg_set_ne _ _ _ _ _ _ _ _ h2, State.reg_set_ne _ _ _ _ _ _ _ _ h1]
@[simp] theorem State.cmdRegs_skews (s : State) : s.cmdRegs.skews = s.skews := by simp [State.cmdRegs]
@[simp] theorem State.cmdRegs_normalPends (s : State) : s.cmdRegs.normalPends = s.normalPends := by simp [State.normalPends, State.cmdRegs]
@[simp] theorem State.cmdRegs_normalServes (s : State) (op : Nat) : s.cmdRegs.normalServes op = s.normalServes op := by
  unfold State.normalServes State.ready
  rw [s.cmdRegs_reg _ _ _ (by decide), s.cmdRegs_reg _ _ _ (by decide)]; simp
@[simp] theorem State.normalServes_withNormalQ (s : State) (q : CmdFifo) (op : Nat) : ({ s with normalQ := q } : State).normalServes op = s.normalServes op := rfl
@[simp] theorem State.normalServes_withUrgentQ (s : State) (q : CmdFifo) (op : Nat) : ({ s with urgentQ := q } : State).normalServes op = s.normalServes op := rfl
@[simp] theorem State.normalServes_withCmdSeq (s : State) (n : Nat) (op : Nat) : ({ s with cmdSeq := n } : State).normalServes op = s.normalServes op := rfl

/-- Every word of a packet is one word of 32 bits. -/
theorem pktWords_lt (op tag uid flags : Nat) (params : List Nat) (ho : op < 256) (hn : params.length ≤ 255) (hp : params.all (· < 2 ^ 32) = true) :
    ∀ w, w ∈ pktWords op tag uid flags params → w < 2 ^ 32 := by
  intro w hw
  simp only [pktWords, List.cons_append, List.nil_append, List.mem_cons] at hw
  rcases hw with rfl | rfl | hw
  · have := Nat.mod_lt tag (show 0 < 65536 by decide); omega
  · have := Nat.mod_lt uid (show 0 < 65536 by decide); have := Nat.mod_lt flags (show 0 < 65536 by decide); omega
  · simpa using List.all_eq_true.1 hp w hw
theorem Op.code_lt (o : Op) : o.code < 256 := by cases o <;> decide
/-- A packet is whole with its last word and not before (R75, R79). -/
theorem pktWords_whole (op tag uid flags : Nat) (params : List Nat) (hn : params.length ≤ 255) :
    whole (pktWords op tag uid flags params) = true ∧ ∀ n, n < (pktWords op tag uid flags params).length → whole ((pktWords op tag uid flags params).take n) = false := by
  have hl : (pktWords op tag uid flags params).length = params.length + 2 := by simp [pktWords]
  have h0 : ∀ n, 0 < n → nth ((pktWords op tag uid flags params).take n) 0 / 2 ^ 16 % 256 = params.length := by
    intro n hn'
    obtain ⟨m, rfl⟩ : ∃ m, n = m + 1 := ⟨n - 1, by omega⟩
    simp only [pktWords, List.cons_append, List.nil_append, List.take_succ_cons, nth, List.getD_cons_zero]
    have := Nat.mod_lt tag (show 0 < 65536 by decide)
    omega
  constructor
  · have := h0 (params.length + 2) (by omega)
    rw [List.take_of_length_le (by omega)] at this
    unfold whole
    rw [this, hl]
    simp
  · intro n hn'
    unfold whole
    rcases Nat.lt_or_ge n 2 with h | h
    · have : ¬ 2 ≤ ((pktWords op tag uid flags params).take n).length := by simp; omega
      rw [decide_eq_false this, Bool.false_and]
    · rw [h0 n (by omega)]
      simp; omega

/-- The FIFO that a packet goes to. -/
def State.fifo (s : State) (urgent : Bool) : CmdFifo := if urgent then s.urgentQ else s.normalQ
/-- A word that does not make the packet whole joins the packet under assembly (R79). -/
theorem State.cmdWord_part (s : State) (urgent : Bool) (w : Nat) (env : Option Nat) (fails : List Nat) (hw : w < 2 ^ 32) (ho : (s.fifo urgent).ovf = false)
    (hq : (s.fifo urgent).waiting = []) (hk : s.skewed 6 (if urgent then 0 else 1) = false) (hl : (s.fifo urgent).part.length < 256) (hn : whole ((s.fifo urgent).part ++ [w]) = false) :
    let r := s.cmdWord urgent w true env fails
    (r.fifo urgent).part = (s.fifo urgent).part ++ [w] ∧ (r.fifo urgent).ovf = false ∧ (r.fifo urgent).waiting = [] ∧ (∀ op, r.normalServes op = s.normalServes op) ∧ r.cmdSeq = s.cmdSeq ∧ r.skews = s.skews := by
  intro r
  have hu : (s.fifo urgent).used < 256 := by simpa [CmdFifo.used, hq] using hl
  unfold State.fifo at *
  cases urgent
  · simp only [Bool.false_eq_true, if_false] at *
    have : r = ({ s with normalQ := { s.normalQ with part := s.normalQ.part ++ [w] } } : State).cmdRegs := by
      show s.cmdWord false w true env fails = _
      unfold State.cmdWord
      simp only [Bool.false_eq_true, if_false, ho, hk, Nat.mod_eq_of_lt hw, hn, Bool.not_true, Bool.false_or, Bool.false_and, Bool.not_false, Bool.true_and]
      rw [if_neg (by simp; omega)]
    simp only [this]
    simp [ho, hq]
  · simp only [if_true] at *
    have : r = ({ s with urgentQ := { s.urgentQ with part := s.urgentQ.part ++ [w] } } : State).cmdRegs := by
      show s.cmdWord true w true env fails = _
      unfold State.cmdWord
      simp only [Bool.false_eq_true, if_false, if_true, ho, hk, Nat.mod_eq_of_lt hw, hn, Bool.not_true, Bool.false_or, Bool.and_false, Bool.not_false, Bool.true_and]
      rw [if_neg (by simp; omega)]
    simp only [this]
    simp [ho, hq]
/-- So do the words of a packet before its last. -/
theorem State.cmdWords_part (s : State) (urgent : Bool) (ws : List Nat) (env : Option Nat) (fails : List Nat) (hw : ∀ w, w ∈ ws → w < 2 ^ 32) (hs : (s.fifo urgent).part = [])
    (ho : (s.fifo urgent).ovf = false) (hq : (s.fifo urgent).waiting = []) (hk : s.skewed 6 (if urgent then 0 else 1) = false) (hl : ws.length ≤ 257) (hn : ∀ n, n < ws.length → whole (ws.take n) = false) (n : Nat)
    (h : n < ws.length) :
    let r := s.cmdWords urgent (ws.take n) env fails
    (r.fifo urgent).part = ws.take n ∧ (r.fifo urgent).ovf = false ∧ (r.fifo urgent).waiting = [] ∧ (∀ op, r.normalServes op = s.normalServes op) ∧ r.cmdSeq = s.cmdSeq ∧ r.skews = s.skews := by
  induction n with
  | zero => simp [State.cmdWords, hs, ho, hq]
  | succ n ih =>
    obtain ⟨i1, i2, i3, i4, i5, i6⟩ := ih (by omega)
    have e : ws.take (n + 1) = ws.take n ++ [ws[n]] := by rw [List.take_succ_eq_append_getElem (by omega)]
    have hr : s.cmdWords urgent (ws.take (n + 1)) env fails = (s.cmdWords urgent (ws.take n) env fails).cmdWord urgent ws[n] true env fails := by
      rw [State.cmdWords, e, List.foldl_append]; rfl
    intro r
    have := State.cmdWord_part (s.cmdWords urgent (ws.take n) env fails) urgent ws[n] env fails (hw _ (List.getElem_mem _)) i2 i3
      (by unfold State.skewed at *; rw [i6]; exact hk) (by rw [i1]; simp; omega)
      (by rw [i1, ← e]; exact hn _ h)
    simp only [r, hr]
    obtain ⟨j1, j2, j3, j4, j5, j6⟩ := this
    exact ⟨by rw [j1, i1, e], j2, j3, fun op => (j4 op).trans (i4 op), j5.trans i5, j6.trans i6⟩
/-- The last word of a packet makes the device accept it. -/
theorem State.cmdWord_last (s : State) (urgent : Bool) (w : Nat) (env : Option Nat) (fails : List Nat) (hw : w < 2 ^ 32) (ho : (s.fifo urgent).ovf = false)
    (hq : (s.fifo urgent).waiting = []) (hk : s.skewed 6 (if urgent then 0 else 1) = false) (hl : (s.fifo urgent).part.length ≤ 256) (hn : whole ((s.fifo urgent).part ++ [w]) = true) :
    s.cmdWord urgent w true env fails = s.accept urgent ((s.fifo urgent).part ++ [w]) env fails := by
  have hu : (s.fifo urgent).used ≤ 256 := by simpa [CmdFifo.used, hq] using hl
  unfold State.fifo at *
  cases urgent
  · simp only [Bool.false_eq_true, if_false] at *
    unfold State.cmdWord
    simp only [Bool.false_eq_true, if_false, ho, hk, Nat.mod_eq_of_lt hw, hn, Bool.not_true, Bool.false_or, Bool.false_and, Bool.not_false, Bool.true_and]
    rw [if_neg (by simp; omega)]; simp
  · simp only [if_true] at *
    unfold State.cmdWord
    simp only [Bool.false_eq_true, if_false, if_true, ho, hk, Nat.mod_eq_of_lt hw, hn, Bool.not_true, Bool.false_or, Bool.and_true, Bool.false_and]
theorem State.cmdWords_snoc (s : State) (urgent : Bool) (ws : List Nat) (w : Nat) (env : Option Nat) (fails : List Nat) :
    s.cmdWords urgent (ws ++ [w]) env fails = (s.cmdWords urgent ws env fails).cmdWord urgent w true env fails := by
  simp only [State.cmdWords, List.foldl_append, List.foldl_cons, List.foldl_nil]
/-- A packet taken in leaves what NORMAL is served under, and the upsets of the queues, as they are. -/
theorem State.takeIn_normalServes (s : State) (k : Pkt) (op : Nat) : (s.takeIn false k).normalServes op = s.normalServes op := by
  simp only [State.takeIn, Bool.false_eq_true, if_false, State.cmdRegs_normalServes]; rfl
theorem State.takeIn_skews (s : State) (urgent : Bool) (k : Pkt) : (s.takeIn urgent k).skews = s.skews := by
  cases urgent <;> simp [State.takeIn]
/-- The opcode of a packet from its words. -/
theorem Sent.pktOf_op (x : Sent) (urgent : Bool) (n : Nat) (h : x.params.length ≤ 255) : (pktOf urgent x.words n).op = x.op.code := by
  simp only [pktOf, Sent.words, pktWords, List.cons_append, nth, List.getD_cons_zero]
  have := x.op.code_lt
  have := Nat.mod_lt x.tag (show 0 < 65536 by decide)
  omega
/-- A packet that the device takes at once: it is executed in the state `before`. -/
theorem Sent.exec_row (x : Sent) (s : State) (ha : (s.advance x.at_).admits x.urgent x.op.code x.params.length = true) (hp : x.params.all (· < 2 ^ 32) = true)
    (hf : x.op = .resetUnit ∨ x.fails = []) :
    exec x.row s = .next (s.ran x.at_ ((x.before s).execPkt (x.pkt s) x.env x.fails).cmdRegs) ∧ (x.pkt s).seq = (s.advance x.at_).nextSeq := by
  have hrow : exec x.row s = .next (s.packet x.at_ x.urgent x.op.code x.tag x.uid x.flags x.params x.env x.fails) := by
    obtain ⟨t, urgent, op, tag, uid, flags, params, env, fails⟩ := x
    rcases hf with h | h
    · simp only at h; subst h; rfl
    · simp only at h; subst h; cases op <;> rfl
  obtain ⟨⟨⟨⟨⟨⟨hr, hl⟩, h1⟩, h2⟩, h3⟩, hk⟩, h4⟩ : ((((((s.advance x.at_).reached = true ∧ x.params.length ≤ 255) ∧ ((s.advance x.at_).fifo x.urgent).part = []) ∧
      ((s.advance x.at_).fifo x.urgent).waiting = []) ∧ ((s.advance x.at_).fifo x.urgent).ovf = false) ∧ (s.advance x.at_).skewed 6 (if x.urgent then 0 else 1) = false) ∧
      (x.urgent = true ∨ (s.advance x.at_).normalServes x.op.code = true) := by
    simpa [State.admits, State.fifo] using ha
  rw [hrow, State.packet_ran _ _ _ _ _ _ _ _ _ _ hr]
  obtain ⟨w1, w2⟩ := pktWords_whole x.op.code x.tag x.uid x.flags x.params hl
  have hlen : x.words.length = x.params.length + 2 := by simp [Sent.words, pktWords]
  have hlt := pktWords_lt x.op.code x.tag x.uid x.flags x.params x.op.code_lt hl hp
  have hne : x.words ≠ [] := by intro h; simp [h] at hlen
  have hd : x.words.dropLast = x.words.take (x.params.length + 1) := by rw [List.dropLast_eq_take, hlen]; rfl
  obtain ⟨p1, p2, p3, p4, p5, p6⟩ := State.cmdWords_part (s.advance x.at_) x.urgent x.words x.env x.fails hlt h1 h3 h2 hk (by omega) w2 (x.params.length + 1) (by omega)
  have hsplit : x.words.take (x.params.length + 1) ++ [x.words.getLast hne] = x.words := by rw [← hd]; exact List.dropLast_concat_getLast hne
  have hall : (s.advance x.at_).cmdWords x.urgent x.words x.env x.fails =
      ((s.advance x.at_).cmdWords x.urgent (x.words.take (x.params.length + 1)) x.env x.fails).accept x.urgent x.words x.env x.fails := by
    conv => lhs; rw [← hsplit]
    rw [State.cmdWords_snoc]
    rw [State.cmdWord_last _ _ _ _ _ (hlt _ (List.getLast_mem hne)) p2 p3 (by unfold State.skewed at *; rw [p6]; exact hk) (by rw [p1]; simp; omega) (by rw [p1, hsplit]; exact w1)]
    rw [p1, hsplit]
  have hall' : (s.advance x.at_).cmdWords x.urgent (pktWords x.op.code x.tag x.uid x.flags x.params) x.env x.fails =
      ((s.advance x.at_).cmdWords x.urgent (x.words.take (x.params.length + 1)) x.env x.fails).accept x.urgent x.words x.env x.fails := hall
  rw [hall']
  generalize hA : (s.advance x.at_).cmdWords x.urgent (x.words.take (x.params.length + 1)) x.env x.fails = A at *
  have hpkt : x.pkt s = pktOf x.urgent x.words A.nextSeq := by
    unfold Sent.pkt Sent.before
    rw [hd, hA]
    cases x.urgent <;> simp [State.takeIn]
  have hseq : (x.pkt s).seq = (s.advance x.at_).nextSeq := by rw [hpkt]; simp [pktOf, State.nextSeq, p5]
  refine ⟨?_, hseq⟩
  congr 2
  unfold State.accept Sent.before
  rw [hpkt, hd, hA]
  simp only []
  cases hu : x.urgent
  · simp only [hu, Bool.false_eq_true, if_false, State.fifo] at *
    rw [if_pos (by simp [p3])]
    unfold State.normalStart
    have hw : (A.takeIn false (pktOf false x.words A.nextSeq)).normalQ.waiting = [pktOf false x.words A.nextSeq] := by simp [State.takeIn, p3]
    rw [hw]
    have hs : (A.takeIn false (pktOf false x.words A.nextSeq)).normalServes (pktOf false x.words A.nextSeq).op = true := by
      rw [Sent.pktOf_op x false _ hl, State.takeIn_normalServes, p4]; simpa using h4
    have hk' : (A.takeIn false (pktOf false x.words A.nextSeq)).skewed 6 1 = false := by
      unfold State.skewed at *; rw [State.takeIn_skews, p6]; exact hk
    simp only [hs, hk', Bool.not_true, Bool.false_eq_true, if_false]
  · simp only [if_true]
/-- A packet that passes steps 1 to 6 of R555 runs its command. -/
theorem State.execPkt_inl (s : State) (k : Pkt) (env : Option Nat) (fails : List Nat) (o : Op) (h : s.pktCheck k = .inl o) (h1 : o ≠ .abort) (h2 : o ≠ .resetUnit) :
    s.execPkt k env fails = (if (s.runOp o k env).2.1 = St.OK then (s.runOp o k env).1.tagged o k else (s.runOp o k env).1).answer k (s.runOp o k env).2.1
      (s.runOp o k env).2.2 := by
  simp only [State.execPkt, h, h1, h2, or_self, if_false]
theorem State.execPkt_abort (s : State) (k : Pkt) (env : Option Nat) (fails : List Nat) (o : Op) (h : s.pktCheck k = .inl o) (h1 : o = .abort ∨ o = .resetUnit) :
    s.execPkt k env fails = (s.tagged o k).cmdAbort k (o == .resetUnit) fails := by
  simp only [State.execPkt, h, h1, if_true]
theorem State.execPkt_inr (s : State) (k : Pkt) (env : Option Nat) (fails : List Nat) (r : Nat × List Nat) (h : s.pktCheck k = .inr r) :
    s.execPkt k env fails = s.answer k r.1 r.2 := by
  simp only [State.execPkt, h]
theorem Sent.taken_iff (x : Sent) (s : State) (h : x.taken s = true) : (s.advance x.at_).admits x.urgent x.op.code x.params.length = true ∧
    x.params.all (· < 2 ^ 32) = true ∧ (x.before s).pktCheck (x.pkt s) = .inl x.op := by
  unfold Sent.taken at h
  rw [Bool.and_eq_true, Bool.and_eq_true] at h
  exact ⟨h.1.1, h.1.2, of_decide_eq_true h.2⟩
/-- A packet that passes steps 1 to 6: its command runs, and its answer is written. -/
theorem Sent.exec_taken (x : Sent) (s : State) (h : x.taken s = true) (hf : x.op = .resetUnit ∨ x.fails = []) (h1 : x.op ≠ .abort) (h2 : x.op ≠ .resetUnit) :
    exec x.row s = .next (x.answered s ((x.before s).runOp x.op (x.pkt s) x.env)) := by
  obtain ⟨a, b, c⟩ := x.taken_iff s h
  rw [(x.exec_row s a b hf).1, State.execPkt_inl _ _ _ _ _ c h1 h2, Sent.answered]
end Sys2Proof.Machine
end

