-- ==== Sys2Proof/Machine/Pins.lean ====
section
/-! DEFINITION. The balls that the device drives (R535, R579, R588, R589, R593 to R596): what each shows in a state. A buck whose string regulates
its current within its own switching period is told as switching. -/
namespace Sys2Proof.Machine
open R

/-- Balls that the device drives. -/
inductive Ball where
  /-- Pn_PGk. -/
  | pg (p k : Nat)
  /-- LAMPgk_BUCK and LAMPgk_SHUNT. -/
  | buck (g k : Nat)
  | shunt (g k : Nat)
  /-- CHAIN_OE_N. -/
  | chainOe
  /-- AXn_x_HI or AXn_x_LO, x = 0 A1, 1 A2, 2 B1, 3 B2. -/
  | leg (a x : Nat) (hi : Bool)
  /-- AXn_EN. -/
  | axisEn (a : Nat)
  /-- GPIOk. -/
  | gpio (k : Nat)
  /-- THERMTRIP_N and SMB_ALERT_N, open drain. -/
  | thermtrip
  | smbAlert
  deriving DecidableEq, Repr
/-- What a ball shows. `switching`: it alternates within the period of its own drive. -/
inductive Level where
  | low | high | highZ | switching
  deriving DecidableEq, Repr

/-- A level driven. -/
def Level.of (b : Bool) : Level := if b then .high else .low
/-- The unit that owns a ball; PD0 owns the GPIO receivers, THERMTRIP_N and SMB_ALERT_N. -/
def Ball.owner : Ball → Nat
  | .pg p _ => portU p
  | .buck g k | .shunt g k => strU g k
  | .chainOe => chainU
  | .leg a _ _ | .axisEn a => axU a
  | .gpio _ | .thermtrip | .smbAlert => devU
/-- The state of a ball in reset, and while its domain is off (R535, R589). -/
def Ball.atReset : Ball → Level
  | .pg _ _ | .axisEn _ | .gpio _ | .smbAlert | .thermtrip => .highZ
  | .buck _ _ | .leg _ _ _ => .low
  | .shunt _ _ | .chainOe => .high

/-- A string gives light now: an INDICATOR within its duty (R406, R407). -/
def State.strLight (s : State) (g k : Nat) : Bool := (s.str g k).lit && ((s.str g k).duty == 0 || s.indicatorLit g k)
/-- A half-bridge of BRIDGE mode, `at_` ticks into a PWM period of `period`: the sign of the phase's duty selects the leg that switches. Its high side is on for the duty's part of the
period, in the middle of it; its low side is on for the rest, and at each change both are off for DEAD_TICKS. The other leg conducts to ground (R367, R593; which leg a sign
selects and what the other leg does meanwhile is DEDUCED, log entry 82). -/
def legLevel (duty : Int) (second hi : Bool) (period dead at_ : Nat) : Level :=
  let on := if duty = 0 ∨ decide (duty < 0) ≠ second then 0 else min duty.natAbs 4095 * period / 4095
  let up := (period - on) / 2
  let down := up + on
  if on = 0 then .of (!hi)
  else if on = period then .of hi
  else if hi then .of (up + dead ≤ at_ && at_ < down)
  else .of (at_ < up || down + dead ≤ at_)
/-- The balls of a motor (R364, R367, R373, R375, R593), with the duties in effect. A STEP pulse lasts STEP_WIDTH ticks. -/
def State.axisLeg (s : State) (a x : Nat) (hi : Bool) : Level :=
  let t := s.axis a
  let u := axU a
  if !t.enabled || t.off then .low
  else if t.mode = 2 then
    if !hi then .low
    else if x = 0 then .of (match t.stepAt with | some n => decide (n ≤ s.now ∧ s.now < n + s.act u Axis.STEP_WIDTH) | none => false)
    else if x = 1 then .of t.dirPin
    else .low
  else
    let period := s.pwmTicks a
    legLevel (sgn 16 (s.reg u (if x < 2 then Axis.DUTY_A else Axis.DUTY_B))) (x % 2 == 1) hi period (s.act u Axis.DEAD_TICKS) ((s.now + period - t.pwmAt) % max 1 period)
/-- A GPIO: an input, or an output of the trigger engine, active while a pulse lasts (R294). Between pulses it stands at the level inactive for the first condition that drives it
(DESIGN CHOICE, log entry 82). -/
def State.gpioBall (s : State) (k : Nat) : Level :=
  if !tbit (s.reg trigU Trig.GPIO_OUT_EN) k || !s.powered trigU then .highZ
  else match s.trig.active.find? (fun a => a.1 == k && decide (s.now < a.2.1)) with
    | some a => .of (!a.2.2)
    | none => match (List.range 32).find? (fun c => s.act trigU Cond.A_OUT c == 1 && s.act trigU Cond.OUT_GPIO c == k) with
      | some c => .of (s.act trigU Cond.OUT_LOW c == 1)
      | none => .low
/-- What a ball shows. In reset, and with its domain off, a ball is as R535 says; THERMTRIP_N is low from a trip on (R586), SMB_ALERT_N while WARN is set (R597). -/
def State.ball (s : State) (b : Ball) : Level :=
  match b with
  | .thermtrip => if s.sys.tripped then .low else .highZ
  | .smbAlert => if s.reg devU Th.WARN == 1 then .low else .highZ
  | b =>
    if s.sys.inReset || !s.powered b.owner then b.atReset else
    match b with
    | .pg p k => match s.pgPin p k with | some v => .of v | none => .highZ
    | .buck g k => if (s.str g k).buckOn.isSome then .switching else .low
    | .shunt g k => .of (!s.strLight g k)
    | .chainOe => .of (!s.chain.on || s.chain.stopped)
    | .leg a x hi => s.axisLeg a x hi
    | .axisEn a => if !(s.axis a).driven then .highZ else .of (s.axisEnPin a)
    | .gpio k => s.gpioBall k
    | .thermtrip | .smbAlert => .highZ

end Sys2Proof.Machine
end

