-- ==== Sys2Proof/Tests/Slice0.lean ====
section
/-! SUPPORT. Tests: commands that cannot arrive; single steps with values from the spec's tables and from the standards it names; and for each statement that has
hypotheses a state and operands that meet them, clause by clause, at the ends of their ranges. -/
namespace Sys2Proof.Tests
open Sys2Proof.Machine Sys2Proof.Machine.R
set_option maxRecDepth 100000
set_option Elab.async false

/-! ### Commands that cannot arrive: one for each check, refused -/

theorem test_wf_refuses_unit_numbers :
    (Instr.resTagRead 0 4).wf = false ∧ (Instr.lineFire 0 8).wf = false ∧ (Instr.ropeAck 0 0 16 true).wf = false ∧ (Instr.gpioEdge 0 32 true 0).wf = false ∧
    (Instr.doorbell 0 64).wf = false ∧ (Instr.pitchSymbolLock 0 5).wf = false ∧ (Instr.ovpTrip 0 0 0).wf = false ∧ (Instr.ovpTrip 0 0 6).wf = false ∧
    (Instr.axisInputDebounced 0 0 3).wf = false ∧ (Instr.lineCompared 0 0 true (some 8)).wf = false ∧ (Instr.domainReady 0 24 {}).wf = false ∧ (Instr.lineCorrected 0 0 0 3).wf = false := by decide
theorem test_wf_refuses_wide_values :
    (Instr.tjUpdate 0 0 [(3, 8)]).wf = false ∧ (Instr.d0Return 0 [(.command, 2 ^ 32)]).wf = false ∧ (Instr.paceUpdate 0 [(65536, 0)] [] true).wf = false ∧
    (Instr.bypass 0 256).wf = false ∧ (Instr.tsenseReading 0 0 4096).wf = false ∧ (Instr.voutReadback 0 65536 true).wf = false ∧ (Instr.bootRecover 0 (2 ^ 32)).wf = false ∧
    (Instr.time 0 true (2 ^ 64) 0 true 0).wf = false ∧ (Instr.lost 0 0 true (2 ^ 18)).wf = false ∧ (Instr.statusAbort 0 0 true 2 0).wf = false ∧ (Instr.statusAbort 0 4 true 1 (2 ^ 34)).wf = false ∧
    (Instr.registerWrite 0 0 0 16).wf = false ∧ (Instr.tjUpdate 0 (-4371) []).wf = false ∧ (Instr.linkRetrain 0 6 16 []).wf = false ∧ (Instr.linkRetrain 0 5 3 []).wf = false := by decide
theorem test_wf_refuses_addresses_and_lists :
    (Instr.rcRead 0 2).wf = false ∧ (Instr.bar2Read 0 (2 ^ 32) 1 none).wf = false ∧ (Instr.longWorkEnd 0 0 (some (2 ^ 35))).wf = false ∧ (Instr.stagingDone 0 [2 ^ 35]).wf = false ∧
    (Instr.normalPacketStart 0 none [65536]).wf = false ∧ (Instr.wckTracking 0 [2 ^ 32]).wf = false ∧ (Instr.unlock 0 1 [256]).wf = false ∧
    (Instr.abort 0 true 0 0 0 (List.replicate 256 0) none).wf = false ∧ (Instr.pgStep 0 0 (List.replicate 10 0)).wf = false ∧
    (Instr.laneLineReceived 0 0 [[65536]] ⟨0, 0, 0⟩).wf = false ∧ (Instr.descriptorReadDone 0 0 [0]).wf = false := by decide
theorem test_wf_takes_what_can_arrive :
    (Instr.lineFire 0 7).wf = true ∧ (Instr.descriptorReadDone 0 63 [0, 0, 0, 0, 0, 0, 0, 0]).wf = true ∧ (Instr.unitWrite 0 false 65535 65535 65535 [2 ^ 32 - 1] none).wf = true := by decide
/-- R75 gives a packet several words, and the opcode table gives no row bits. -/
theorem test_no_word_spells_a_command : decodeTableWord 32 0x05000000 = none := rfl

/-! ### States of the tests -/

/-- A device out of reset. -/
def live : State := { State.reset with sys := { State.reset.sys with inReset := false } }
/-- A set in force. -/
def withAct (s : State) (u : Nat) (f : Field) (v : Nat) (i : Nat := 0) : State := { s with active := putVal s.part s.active u 0 f i v }
/-- A device that has started up, its firmware running. -/
def ready : State := ((live.set devU Pd.READY 1).set bar0 Cmd.SEQ_RUNNING 1).cmdRegs
/-- A port in table mode whose job runs, its axis at the first line. -/
def firing : State :=
  ((withAct live (portU 0) Port.MODE 1).modPort 0 (fun x => { x with jobOn := true, started := true })).modLc 0 (fun c => { c with axis := some (0, 0, 0) })
/-- The same port held by a Belay that awaits its closing fire. -/
def closing : State := (firing.modLc 0 (fun c => { c with belayHold := true })).modBelay 0 (fun b => { b with closing := [0] })
/-- A step of length 0, and one that waits for a line. -/
def plainStep : PgStep := ⟨0, 0, 0, 0, false, false⟩
def waitStep : PgStep := { plainStep with ctrl := 5 }
/-- A port whose generator runs such steps. -/
def gen (l : List PgStep) : State := live.modPort 0 (fun x => { x with started := true, bank0 := l })
/-- A port with a shutter and the fires given. -/
def shut (fs : List Fire) : State := (withAct live (portU 0) Port.SHUTTER 1).modPort 0 (fun x => { x with fires := fs })
def fire0 : Fire := { set := (shut []).active }
/-- A readout of line 0 that waits for correction. -/
def readout : Readout := { line := some 0, start := 0, taps := List.replicate 16 [], faults := [], stale := false }
def readoutPort : State := live.modPort 0 (fun x => { x with ready := [readout], fires := [{ fire0 with te := some 0 }] })
def capture0 : Capture := { kind := 0, slot := 0, lines := 64, tries := 1, tolRms := 1, tolPix := 1, tolOut := 0, hot := 0, weak := 0, phase := 3 }

/-- A device whose memory works, its tables of the units served put back. -/
def memory : State := (ready.set memU R.Mem.RATE 1).set devU Pd.PD_STAT 0xFFFFFF

/-- A packet sent at reset's own tick, through the FIFO of its opcode. -/
def sent (o : Op) (uid : Nat) (params : List Nat) (flags : Nat := 0) : Sent := ⟨0, decide (o.code < 0x10), o, 1, uid, flags, params, none, []⟩
/-- The same state, frozen. -/
def frozen (low : Bool) : State := { ready with frozen := true, pow := { ready.pow with pinLow := low } }

/-- A line clock with an open set. -/
def opened : State := ready.writeField (lcU 0) 0 Lc.MARK_WINDOW 0 16

/-- A device whose memory works, with a port program at 0, all 4 KiB pages beyond it zero. -/
def loaded : State := { memory with dram := Machine.Mem.write memory.dram 0 ([0, 5 * 2 ^ 20, 0, 8 * 2 ^ 20 + 1].flatMap (leBytes 4)) }

def readoutProg : List PgStep := [⟨0, 0, 320, 5, false, false⟩, ⟨0, 0, 20, 1, false, true⟩, ⟨0, 0, 20, 2, false, true⟩, ⟨0, 0, 1, 8, false, false⟩]
def putWords (s : State) (a : Nat) (ws : List Nat) : State := { s with dram := Machine.Mem.write s.dram a (ws.flatMap (leBytes 4)) }
/-- A recipe for port 0 (64 pixels from tap 0, read out by the program above): the header, the sections of the port and of its line clock. -/
def recipeWords : List Nat :=
  [0x10001, 320, 1, 2] ++ List.replicate 60 0 ++
  [portU 0 * 65536 + 5, 0x018, 32 + 0x10000, 0x060, (1856 + 2 * live.slotMiB) + 16 * 0x10000, 0x100, 0x80010000, 0x104, 64, 0x108, 256, lcU 0 * 65536 + 1, 0x020, 16, 0, 0]
/-- A device that could run it. -/
def able (a : Nat) (s : State) : State :=
  (putWords (((s.set bar0 Tim.RATE 5).set bar0 Tim.WIDTH 4).set memU R.Mem.RATE 1) a recipeWords).modPort 0 (fun x => { x with bank0 := readoutProg })
def slotRec0 : SlotRec :=
  { loaded := true, restored := false, level := 1, length := 320, digest := [], uses := 0, lastTime := 0, lastJobId := 0, lastFw := 0, loadFw := 0 }
def stageWork : Work := { uid := devU, op := 0x62, tag := 0, params := [0], flags := 0, step := 1 }
def staging : State := { (able 0 live).set devU Job.JOB_STATE 1 with works := [stageWork], slots := [(0, slotRec0)] }

/-- The curve point whose signature (e, e) is good: the digest e is the x of a point R with the y given, and the key is R - G. -/
def ownerKey (e y : Nat) : List Nat :=
  match ecAdd (some (e, y)) (some (ecG.1, ecP - ecG.2)) with
  | some q => 4 :: toBe 66 q.1 ++ toBe 66 q.2
  | none => []
def ownerDigest (op : Nat) (ws : List Nat) : Nat := ofBe (sha512 (List.replicate 16 0 ++ List.replicate 64 12 ++ [op] ++ ws.flatMap (leBytes 4)))
def ownerSig (op : Nat) (ws : List Nat) : List Nat := toBe 66 (ownerDigest op ws) ++ toBe 66 (ownerDigest op ws)
/-- A device with an owner that has issued a challenge. -/
def ownedBy (s : State) (op : Nat) (ws : List Nat) (y : Nat) : State :=
  { s with sec := { s.sec with ownerHash := [1], ownerPub := ownerKey (ownerDigest op ws) y, challenge := some (List.replicate 64 12, 0) } }

/-- A key: the base point. -/
def keyG : List Nat := 4 :: toBe 66 ecG.1 ++ toBe 66 ecG.2
/-- Bytes as parameter words. -/
def packed (bs : List Nat) : List Nat := (List.range (bs.length / 4)).map (fun i => ofLe ((bs.drop (4 * i)).take 4))
def keyWords : List Nat := packed (keyG ++ [0, 0, 0])

/-! ### One step at a time -/

/-- The state that a step answers. -/
def after (c : Instr) (s : State) : State :=
  match step { s with pending := [c] } with
  | .next r => r
  | _ => s

/-- FIPS 180-4, appendix C: the digest of the message abc begins DDAF35A1 and ends A54CA49F. -/
theorem test_sha512_abc : (sha512 [0x61, 0x62, 0x63]).take 4 = [0xDD, 0xAF, 0x35, 0xA1] ∧ (sha512 [0x61, 0x62, 0x63]).drop 60 = [0xA5, 0x4C, 0xA4, 0x9F] := by decide +kernel
/-- R598: revision in [31:28], PART in [27:12], the manufacturer 0x2D3 in [11:1], 1 in [0]. -/
theorem test_idcode : (after (.idcode 0) State.reset).rdata = [0x081605A7] := by decide +kernel
/-- The page of the identity block: PART 0x8160 and GRADE 1 at 0x004. -/
theorem test_rcRead_identity : (after (.rcRead 0 4) live).rdata = [0x00018160] := by decide +kernel
/-- R92: a pop of the empty FIFO gives the last word again and sets UNDERRUN. -/
theorem test_pop_of_an_empty_fifo : (after (.replyPop 0 false) live).reply.underrun = true ∧ (after (.replyPop 0 false) live).rdata = [0] := by decide +kernel
/-- R88: word 0 of a GET_STATUS reply: LENGTH 10 and QUEUE 1; word 1: ST_OK and the tag; word 2: the first packet. -/
theorem test_reply_of_get_status :
    ((after (sent .getStatus devU []).row ready).reply.words.take 3).map (·.1) = [0x0001000A, 1, 1] ∧ (after (sent .getStatus devU []).row ready).reply.words.length = 11 := by decide +kernel
/-- R86: an unknown queue: a NORMAL opcode in the URGENT window is refused with ST_WRONG_QUEUE. -/
theorem test_wrong_queue : ((after (.commit 0 true 1 (lcU 0) 0 [] none) ready).reply.words.map (·.1)).getD 1 0 / 65536 = St.WRONG_QUEUE := by decide +kernel
/-- R170: in x4 quadrature a change of one level counts one. -/
theorem test_encoder_counts : ((after (.encoderEdge 0 0 true false 1000 1000) live).enc 0).count.natAbs = 1 := by decide +kernel
/-- R9: a write to an SH field reaches the shadow and opens the set; the set in force stays. -/
theorem test_sh_write_waits : opened.sh (lcU 0) 0 Lc.MARK_WINDOW 0 = 16 ∧ opened.act (lcU 0) Lc.MARK_WINDOW = 0x40 ∧ opened.openSets.length = 1 := by decide +kernel
/-- R42: a commit of that set takes number 1 and clears the open set. -/
theorem test_commit_numbers : ((after (sent .commit (lcU 0) []).row opened).reply.words.map (·.1)).getD 3 0 = 1 ∧ (after (sent .commit (lcU 0) []).row opened).openSets = [] := by
  decide +kernel
/-- R71: a write without all byte enables changes nothing. -/
theorem test_partial_write : (after (.registerWrite 0 0x204 0 7) live).reg bar0 Pace.SUPPLY_REQ_EN = 1 ∧ (after (.registerWrite 0 0x204 0 15) live).reg bar0 Pace.SUPPLY_REQ_EN = 0 := by decide +kernel
/-- R7: bytes lie in little-endian order. -/
theorem test_bar2_byte_order : (let s := memory.set bar0 Tim.WRITE_EN 1
      Machine.Mem.rd32 (after (.bar2Write 0 (2 ^ 26) [0x78, 0x56, 0x34, 0x12]) s).dram (2 ^ 26) = 0x12345678) := by decide +kernel
/-- R544: while FREEZE_N is low THAW answers ST_FROZEN, and the device stays frozen. -/
theorem test_thaw_waits : ((after (sent .thaw devU []).row (frozen true)).reply.words.map (·.1)).getD 1 0 / 65536 = St.FROZEN ∧ (after (sent .thaw devU []).row (frozen true)).frozen = true := by
  decide +kernel
/-- The base point of P-521 lies on the curve, and with one byte changed it does not (R498). -/
theorem test_key_on_curve : keyOk keyG = true ∧ keyOk (5 :: keyG.drop 1) = false ∧ keyOk (keyG.take 132 ++ [0]) = false := by decide +kernel

/-! ### Witnesses: states and operands that meet the hypotheses of each statement, clause by clause -/

theorem witness_Lines_fire_when_due :
    ((firing.advance 0).serves (portU 0) = true ∧ (firing.advance 0).fenced (portU 0) = false ∧ 0 ≤ (firing.advance 0).now ∧ ((firing.advance 0).port 0).closeAt = none ∧
      ((firing.advance 0).port 0).capture = none ∧ (firing.advance 0).closingDue 0 = none ∧ (firing.advance 0).lcFires 0 = true ∧ (firing.advance 0).lcDue 0 = some (0, false)) ∧
    (let s := live.modPort 7 (fun x => { x with capture := some capture0, capFire := some 0 });
      (s.advance 0).serves (portU 7) = true ∧ (s.advance 0).fenced (portU 7) = false ∧ ((s.advance 0).port 7).closeAt = none ∧ ((s.advance 0).port 7).capture.isSome = true ∧
      ((s.advance 0).port 7).capFire = some 0) ∧
    ((closing.advance 0).serves (portU 0) = true ∧ (closing.advance 0).fenced (portU 0) = false ∧ ((closing.advance 0).port 0).closeAt = none ∧
      ((closing.advance 0).port 0).capture = none ∧ (closing.advance 0).closingDue 0 = some 0) ∧
    (let s := firing.modPort 0 (fun x => { x with closeAt := some 5 });
      (s.advance 5).serves (portU 0) = true ∧ (s.advance 5).fenced (portU 0) = false ∧ 5 ≤ (s.advance 5).now ∧ ((s.advance 5).port 0).closeAt = some 5) := by decide +kernel

theorem witness_Generator_steps_when_due :
    (let a := (gen [plainStep, plainStep]).advance 0;
      a.serves (portU 0) = true ∧ a.pgDue 0 = some 0 ∧
      (((a.port 0).pgNext.1.prog (a.port 0).pgNext.1.bank).getD (a.port 0).pgNext.2 ⟨0, 0, 0, 9, false, false⟩).ctrl ≠ 5) ∧
    (let a := (gen [plainStep, waitStep]).advance 0;
      a.serves (portU 0) = true ∧ a.pgDue 0 = some 0 ∧
      (((a.port 0).pgNext.1.prog (a.port 0).pgNext.1.bank).getD (a.port 0).pgNext.2 ⟨0, 0, 0, 9, false, false⟩).ctrl = 5 ∧ (a.port 0).pgNext.1.pend = none) ∧
    (let s := (gen [plainStep, waitStep]).modPort 0 (fun x => { x with pend := some (3, 0) });
      let a := s.advance 0;
      a.serves (portU 0) = true ∧ a.pgDue 0 = some 0 ∧
      (((a.port 0).pgNext.1.prog (a.port 0).pgNext.1.bank).getD (a.port 0).pgNext.2 ⟨0, 0, 0, 9, false, false⟩).ctrl = 5 ∧ (a.port 0).pgNext.1.pend = some (3, 0) ∧
      vw (a.modPort 0 (fun _ => (a.port 0).pgNext.1)) ((a.modPort 0 (fun _ => (a.port 0).pgNext.1)).cycleSet 0 3) (portU 0) Port.BANK = (a.port 0).pgNext.1.bank) ∧
    (let s := (gen [plainStep, waitStep]).modPort 0 (fun x => { x with pend := some (3, 0), fires := [{ set := (withAct live (portU 0) Port.BANK 1).active, line := 3 }] });
      let a := s.advance 0;
      a.serves (portU 0) = true ∧ a.pgDue 0 = some 0 ∧
      (((a.port 0).pgNext.1.prog (a.port 0).pgNext.1.bank).getD (a.port 0).pgNext.2 ⟨0, 0, 0, 9, false, false⟩).ctrl = 5 ∧ (a.port 0).pgNext.1.pend = some (3, 0) ∧
      vw (a.modPort 0 (fun _ => (a.port 0).pgNext.1)) ((a.modPort 0 (fun _ => (a.port 0).pgNext.1)).cycleSet 0 3) (portU 0) Port.BANK ≠ (a.port 0).pgNext.1.bank) := by decide +kernel

theorem witness_Exposures_open_and_close :
    (let a := (shut [fire0]).advance 0;
      let b := a.modFire 0 0 (fun g => { g with ts := 0, moved := false });
      a.serves (portU 0) = true ∧ a.expNext 0 = some (fire0, 0, false) ∧ b.nextFire 0 0 = none ∧ b.predictedEnd 0 (vw b fire0.set (portU 0) Port.EXP_GAP_MIN) = none) ∧
    (let a := (shut [fire0, { fire0 with line := 1, tick := 5000 }]).advance 0;
      a.expNext 0 = some (fire0, 0, false) ∧ (a.modFire 0 0 (fun g => { g with ts := 0, moved := false })).nextFire 0 0 = some 5000) ∧
    (let a := (shut [fire0, { fire0 with line := 1, tick := 0 }]).advance 0;
      a.expNext 0 = some (fire0, 0, false) ∧ (a.modFire 0 0 (fun g => { g with ts := 0, moved := false })).nextFire 0 0 = some 0) ∧
    (let a := ((shut [fire0, { fire0 with line := 1, tick := 5000 }]).modPort 0 (fun x => { x with openLine := some 0 })).advance 160;
      (a.port 0).openLine.bind (a.fireOf 0) = some fire0 ∧ a.nextFire 0 0 = some 5000 ∧ min (fire0.ts + vw a fire0.set (portU 0) Port.EXP_TIME) 5000 ≤ a.now) ∧
    (let a := ((shut [fire0]).modPort 0 (fun x => { x with openLine := some 0 })).advance 160;
      (a.port 0).openLine.bind (a.fireOf 0) = some fire0 ∧ a.nextFire 0 0 = none ∧ a.predictedEnd 0 (vw a fire0.set (portU 0) Port.EXP_GAP_MIN) = none ∧
      fire0.ts + vw a fire0.set (portU 0) Port.EXP_TIME ≤ a.now) := by decide +kernel

/-- A port that captures from lanes. -/
def lanes : State :=
  let s := (withAct (withAct live (portU 7) Port.CAPTURE 1) (rxU 7) LaneRx.LANE_EN 0x8000);
  s.modPort 7 (fun x => { x with started := true, pgSet := s.active, cycle := some readout })
theorem witness_Lanes_receive_lock_and_miss :
    ((lanes.advance 0).serves (portU 7) = true ∧ ((lanes.advance 0).port 7).started = true ∧ vw (lanes.advance 0) ((lanes.advance 0).port 7).pgSet (portU 7) Port.CAPTURE = 1) ∧
    (let a := (lanes.modPort 7 (fun x => { x with met := upd x.met 15 (fun _ => 4) })).advance 0;
      a.act (portU 7) Port.CAPTURE ≠ 0 ∧ tbit (a.act (rxU 7) LaneRx.LANE_EN) 15 = true ∧ tbit (a.reg (rxU 7) LaneRx.LOCKED) 15 = false ∧ a.lockDue 7 15 [] = true) ∧
    (let a := ((lanes.modPort 7 (fun x => { x with drift := upd x.drift 15 (fun _ => 256) })).set (rxU 7) LaneRx.LOCKED 0x8000).advance 0;
      a.act (portU 7) Port.CAPTURE ≠ 0 ∧ tbit (a.act (rxU 7) LaneRx.LANE_EN) 15 = true ∧ tbit (a.reg (rxU 7) LaneRx.LOCKED) 15 = true ∧ 256 ≤ nth (a.port 7).drift 15 ∧
      63 ≠ a.reg (rxU 7) LaneRx.BIT_DELAY 15) ∧
    (((lanes.advance 100000).port 7).cycle = some readout ∧ vw (lanes.advance 100000) ((lanes.advance 100000).port 7).pgSet (portU 7) Port.CAPTURE ≠ 0 ∧
      readout.start + vw (lanes.advance 100000) ((lanes.advance 100000).port 7).pgSet (rxU 7) LaneRx.LATENCY_MAX ≤ 100000 ∧
      (lanes.advance 100000).serves (portU 7) = true ∧ ((lanes.advance 100000).port 7).lineWait = none) ∧
    (let s := lanes.modPort 7 (fun x => { x with lineWait := some (readout, x.pgSet) });
      let a := s.advance 100000;
      a.serves (portU 7) = true ∧ (a.port 7).lineWait = some (readout, lanes.active) ∧ readout.start + vw a lanes.active (rxU 7) LaneRx.LATENCY_MAX ≤ a.now) := by decide +kernel

def cline : CLine := { fire := fire0, planes := [[]], ring := false }
/-- A port whose cluster compares with its lane 7. -/
def comparing : State :=
  (withAct (withAct live (clU 1) Clus.EN 1 7) (clU 1) Clus.PORT 3 7).modEb 3 (fun e => { e with queue := [cline], on := true })
theorem witness_Lines_are_corrected_and_compared :
    (let a := readoutPort.advance 0;
      a.serves (portU 0) = true ∧ a.lineReady 0 = some (readout, { fire0 with te := some 0 }) ∧ (a.bankErrors 0 0 2).fenced (portU 0) = false ∧
      (((a.bankErrors 0 0 2).lineTake 0 fire0.set readout { fire0 with te := some 0 }).port 0).capture = none) ∧
    (let s := readoutPort.modPort 0 (fun x => { x with capture := some capture0 });
      (s.advance 0).lineReady 0 = some (readout, { fire0 with te := some 0 }) ∧ ((s.advance 0).bankErrors 0 0 0).fenced (portU 0) = false ∧
      ((((s.advance 0).bankErrors 0 0 0).lineTake 0 fire0.set readout { fire0 with te := some 0 }).port 0).capture = some capture0 ∧
      ((s.advance 0).port 0).capture = some capture0 ∧ capture0.phase = 3 ∧ capture0.kind ≠ 3) ∧
    (let s := readoutPort.modPort 0 (fun x => { x with capture := some { capture0 with kind := 3 } });
      (s.advance 0).lineReady 0 = some (readout, { fire0 with te := some 0 }) ∧ ((s.advance 0).bankErrors 0 0 0).fenced (portU 0) = false ∧
      ((((s.advance 0).bankErrors 0 0 0).lineTake 0 fire0.set readout { fire0 with te := some 0 }).port 0).capture = some { capture0 with kind := 3 }) ∧
    (let a := comparing.advance 0;
      a.serves (portU 3) = true ∧ (a.eb 3).queue = cline :: [] ∧ clusterOf a a.active 3 = some 1 ∧
      (lanesOf (a.compareNext 3 1 cline [] false) (a.compareNext 3 1 cline [] false).active 1 3).contains 7 = true ∧ ((a.compareNext 3 1 cline [] false).eb 3).on = true) ∧
    (let b : Block := { off := 0, first := 0, repNo := 0, repStart := false, repFlags := 0, tick := 0, rsv := 0, stride := 1, lines := [], lastAt := 0, closing := false };
      let s := live.modRing 0 (fun r => { r with blocks := [b] });
      ((s.advance 1000000000).ring 0).blocks.getLast? = some b ∧ b.lastAt + (s.advance 1000000000).act (portU 0) Ring.BLOCK_IDLE ≤ (s.advance 1000000000).now) := by decide +kernel

theorem witness_Front_ends_are_read_and_calibrated :
    (let a := live.advance 0;
      a.serves (portU 0) = true ∧ -960 ≤ tsense (a.reg calU CalRef.REF_USE_UV) 1400 ∧ tsense (a.reg calU CalRef.REF_USE_UV) 1400 ≤ 2400) ∧
    (let a := (withAct live (pipeU 0) Pipe.TEMP_SRC 2).advance 0;
      2400 < tsense (a.reg calU CalRef.REF_USE_UV) 4095 ∧ a.act (pipeU 0) Pipe.TEMP_SRC = 2 ∧ a.reg (pipeU 0) Pipe.TEMP_BAD = 0) ∧
    (let a := ((withAct live (portU 0) Tap.EN 1 7).set (portU 0) Port.ROT_EN 1).advance 2000000000000;
      a.reg (portU 0) Port.ROT_EN = 1 ∧ a.act (portU 0) Port.CAPTURE = 0 ∧ (a.port 0).relief = none ∧ (a.port 0).capture = none ∧ (a.port 0).queueCal = [] ∧ a.rotTaps 0 ≠ [] ∧
      (a.port 0).jobOn = false ∧ (a.port 0).lastRelief + a.rotMs 0 / (a.rotTaps 0).length * msTicks ≤ a.now ∧ a.rotPick 0 = some 7) ∧
    (let a := (((withAct live (portU 0) Tap.EN 1 7).set (portU 0) Port.ROT_EN 1).modPort 0 (fun x => { x with jobOn := true })).advance 2000000000000;
      (a.port 0).jobOn = true ∧ a.spareFree 0 = true ∧ (a.port 0).lastRelief + a.rotMs 0 / (a.rotTaps 0).length * msTicks ≤ a.now ∧ a.rotPick 0 = some 7) ∧
    (let r : Relief := { tap := 0, chan := 0, meas := 0, phase := 3, gains := [0], points := 2 };
      let b := ((live.modPort 0 (fun x => { x with relief := some r })).advance 0).dacRun;
      (b.port 0).relief = some r ∧ (r.phase = 1 ∨ r.phase = 3) ∧ 2 ≤ r.points ∧ r.wait = none ∧ r.first = none) ∧
    (let r : Relief := { tap := 0, chan := 0, meas := 0, phase := 1, gains := [0], points := 2, first := some (calResult 1048576 14680064) };
      let b := ((live.modPort 0 (fun x => { x with relief := some r })).advance 0).dacRun;
      (b.port 0).relief = some r ∧ 2 ≤ r.points ∧ r.wait = none ∧ r.first = some (calResult 1048576 14680064) ∧ (b.port 0).capture = none ∧
      (attempt (calResult 1048576 14680064) (calResult 1048576 14680064)).isSome = true) := by decide +kernel

theorem witness_Encoder_edges_count :
    ((live.advance 0).isLive = true ∧ (live.advance 0).reg encU Enc.FILTER 3 ≤ 8 ∧ (((live.advance 0).enc 3).a = true ∨ ((live.advance 0).enc 3).b = false) ∧
      encStep ((live.advance 0).reg encU Enc.TYPE 3) ((live.advance 0).enc 3).a ((live.advance 0).enc 3).b true false = some true) ∧
    encStep 0 false false false true = some false ∧ encStep 3 false false true true = some false ∧
    ((live.set encU Enc.FILTER 5 3).advance 0).reg encU Enc.FILTER 3 = 5 := by decide +kernel

theorem witness_Encoder_faults_and_stops :
    (let a := live.advance 0;
      a.isLive = true ∧ a.reg encU Enc.TYPE 0 ≠ 3 ∧ (a.enc 0).a ≠ true ∧ (a.enc 0).b ≠ true ∧ max 9 9 - min 9 9 < max 1 (a.reg encU Enc.FILTER 0) ∧ a.reg encU Enc.FILTER 0 ≤ min 9 9) ∧
    (let a := (((live.set encU Enc.CPR 100 3).set encU Enc.Z_EN 1 3).modEnc 3 (fun e => { e with count := 99, zCount := some 0 })).advance 0;
      a.reg encU Enc.FILTER 3 ≤ 9 ∧ a.reg encU Enc.CPR 3 ≠ 0 ∧ a.reg encU Enc.Z_EN 3 ≠ 0 ∧ a.reg encU Enc.DIR 3 = a.reg encU Enc.Z_DOWN 3 ∧
      (if a.reg encU Enc.Z_DOWN 3 = 1 then (a.enc 3).zUp else (a.enc 3).zDown) = false ∧ (a.enc 3).zCount = some 0 ∧ ((a.enc 3).count - 0).natAbs ≠ a.reg encU Enc.CPR 3) ∧
    4 < ((live.set encU Enc.FILTER 5 3).advance 0).reg encU Enc.FILTER 3 ∧
    (let a := (live.modEnc 0 (fun e => { e with lastEdge := some 0 })).advance 2000000000;
      a.isLive = true ∧ a.serves (lcU 7) = true ∧ a.webMode 7 = true ∧ a.reg (lcU 7) Lc.EST_STATE ≠ 2 ∧ (a.enc (a.act (lcU 7) Lc.ENC_SEL)).lastEdge = some 0 ∧
      0 + a.act (lcU 7) Lc.STOP_TICKS ≤ a.now) := by decide +kernel

def pulse0 : OutPulse := { cond := 0, port := 0, line := 0, gpio := 3, low := false, width := 16, startAt := some 0, left := none }
def waiting0 : Waiting := {
  conds := 1, prim := 0, port := 0, t := 0, ropeT := 0, hold := false, remote := false, node := 0, interval := 0, dead := 0, missed := 0,
  sigLo := 0, sigHi := 0, evid := [], outs := [], indicate := [] }
theorem witness_Trigger_inputs_and_outputs_act :
    (live.advance 0).serves trigU = true ∧
    (let a := (live.modTrig (fun x => { x with reports := [(7, 5)] })).advance 0;
      a.serves (lcU 7) = true ∧ a.trig.reports.find? (fun x => x.1 == 7) = some (7, 5)) ∧
    (let a := (live.modTrig (fun x => { x with spliceT := some 0 })).advance 1000000000;
      a.trig.spliceT = some 0 ∧ 0 + a.act trigU Trig.SPLICE_MIN * 16 ≤ a.now) ∧
    (let a := ((live.modRing 0 (fun x => { x with jobOpen := true })).modTrig (fun x => { x with waiting := [waiting0] })).advance 100000000;
      a.trig.waiting = [waiting0] ∧ waiting0.t + a.act trigU Trig.PLACE_WAIT ≤ a.now ∧ a.trigNext waiting0.t = false ∧ a.fenced (portU waiting0.port) = false ∧ (a.ring waiting0.port).jobOpen = true) ∧
    (let a := (live.modTrig (fun x => { x with pulses := [pulse0] })).advance 0;
      a.trig.pulses.filter (fun x => match x.startAt with | some d => d ≤ a.now | none => false) = [pulse0]) ∧
    (let a := (live.modTrig (fun x => { x with armAt := some (0, true) })).advance 0;
      a.trig.armAt = some (0, true) ∧ 0 ≤ a.rope) ∧
    (live.advance 0).reached = true := by decide +kernel

theorem witness_Trigger_slots_and_gpio_edges :
    (let a := live.advance 80;
      a.serves trigU = true ∧ a.fenced trigU = false ∧ a.trig.lastSlotDone ≠ some a.slotDue) ∧
    (let a := (live.modTrig (fun x => { x with lastSlotDone := some live.slotDue })).advance 0;
      a.serves trigU = true ∧ a.fenced trigU = false ∧ a.trig.lastSlotDone = some a.slotDue) ∧
    ((live.advance 0).isLive = true ∧ (live.advance 0).reg trigU Trig.GPIO_FILTER ≤ 2 ^ 20 ∧ tbit (live.advance 0).trig.gpio 31 ≠ true) ∧
    ((live.set trigU Trig.GPIO_FILTER 5).advance 0).reg trigU Trig.GPIO_FILTER = 5 ∧ (State.reset.advance 0).isLive = false := by decide +kernel

def desc0 : Desc := { at_ := 64, addr := 0, len := 64, segEnd := true, barrier := true, eoc := false, link := 0 }
def copy0 (flags : Nat) : Work := { uid := movU 7, op := 0x39, tag := 0, params := [0, 0, 64, 0, 64], flags := flags }
theorem witness_Channels_and_movers_run :
    ((live.advance 0).serves (dmaU 63) = true ∧ (live.advance 0).d3hot = false ∧ ((live.advance 0).dma 63).st ≠ 2) ∧
    (let a := (live.modDma 63 (fun d => { d with st := 2 })).advance 0;
      a.serves (dmaU 63) = true ∧ (a.dma 63).st = 2 ∧ (a.dma 63).reading = none) ∧
    (let a := (live.modDma 63 (fun d => { d with st := 2, reading := some (0, true, 0) })).advance 0;
      a.serves (dmaU 63) = true ∧ (a.dma 63).st = 2 ∧ (a.dma 63).reading ≠ none) ∧
    (let a := (live.modDma 0 (fun d => { d with st := 1, reading := some (64, false, 0) })).advance 16000000;
      a.serves (dmaU 0) = true ∧ (a.dma 0).reading = some (64, false, 0) ∧ (a.dma 0).kept = none ∧ 64 / 2 ^ 24 = 0 ∧ 1 / 4 = 0 ∧ (linkOfWords 0 0).1 = false ∧ 64 % 2 ^ 24 ≠ 0 ∧
      0 * 2 ^ 32 + 0 + 64 % 2 ^ 24 ≤ 2 ^ 64 ∧ (a.dma 0).seg.length < 64 ∧ (((a.dma 0).seg.map (·.len)).foldl (· + ·) 0) + 64 % 2 ^ 24 ≤ a.act (dmaU 0) Dma.CHUNK * 65536 ∧
      (tbit 1 0 || (linkOfWords 0 0).2.1) = true ∧ (tbit 0 0 || (linkOfWords 0 0).2.1) = false ∧ 0 + 16000000 ≤ a.now) ∧
    (let a := (live.modDma 0 (fun d => { d with waitBarrier := true })).advance 0;
      a.serves (dmaU 0) = true ∧ a.d3hot = false ∧ (a.dma 0).waitBarrier = true ∧ (a.dma 0).st ≠ 3) ∧
    (let a := (live.modDma 0 (fun d => { d with inXfer := true, seg := [desc0] })).advance 0;
      (a.dma 0).inXfer = true ∧ (a.dma 0).waitBarrier = false ∧ (a.dma 0).st ≠ 3 ∧ a.d3hot = false ∧ (a.dma 0).seg.any (·.barrier) = true) ∧
    (let a := (live.modDma 0 (fun d => { d with inXfer := true, seg := [{ desc0 with barrier := false }] })).advance 0;
      (a.dma 0).inXfer = true ∧ (a.dma 0).waitBarrier = false ∧ (a.dma 0).st ≠ 3 ∧ a.d3hot = false ∧ (a.dma 0).seg.any (·.barrier) = false) ∧
    (let a := ({ live with works := [copy0 256] } : State).advance 0;
      a.serves (movU 7) = true ∧ a.moves (movU 7) = copy0 256 :: [] ∧ (a.ownMoves (movU 7)).find? (fun x => x.2.2 == 0) = none ∧ tbit (copy0 256).flags 8 = true) ∧
    (let a := ({ live with works := [copy0 0] } : State).advance 0;
      a.serves (movU 7) = true ∧ a.moves (movU 7) = copy0 0 :: [] ∧ tbit (copy0 0).flags 8 = false ∧ a.eccOn = false) ∧
    (let a := (({ live with works := [copy0 0] } : State).set memU R.Mem.ECC_ACTIVE 1).advance 0;
      a.serves (movU 7) = true ∧ a.moves (movU 7) = copy0 0 :: [] ∧ tbit (copy0 0).flags 8 = false ∧ a.eccOn = true) := by decide +kernel

theorem witness_Channels_and_movers_run_flush :
    (let b := (withAct live (dmaU 0) Dma.SRC_KIND 2).modDma 0 (fun d => { d with st := 1, segOk := true, seg := [desc0] });
      let a := (b.modTrig (fun x => { x with closed := [{ num := 0, seq := 0, port := 0, off := 0, size := 64, taken := 0, closedAt := 0 }] })).advance 0;
      a.serves (dmaU 0) = true ∧ (∀ j, j < 16 → (a.dma (0 / 16 * 16 + j)).inXfer = false ∧ (a.dma (0 / 16 * 16 + j)).waitBarrier = false) ∧ a.dmaReady 0 = some 64 ∧
      (∀ j, j < 16 → 0 / 16 * 16 + j ≠ 0 → a.dmaReady (0 / 16 * 16 + j) = none)) := by decide +kernel

theorem witness_Axes_update_drive_and_park :
    ((live.advance 16).serves (axU 7) = true ∧ ((live.advance 16).axis 7).upd < (live.advance 16).now / 16 * 16) ∧
    ((live.advance 15).now / 16 * 16 ≤ ((live.advance 15).axis 7).upd) ∧
    (let a := ((withAct live (axU 7) Axis.MODE 1).modAxis 7 (fun x => { x with enabled := true })).advance 0;
      a.serves (axU 7) = true ∧ a.act (axU 7) Axis.MODE = 1 ∧ (a.axis 7).enabled = true ∧ (a.axis 7).off = false ∧ (a.axis 7).pwmAt ≤ a.now ∧ a.act (axU 7) Axis.MODE ≠ 0) ∧
    (let a := firing.advance 16000;
      a.serves (axU 0) = true ∧ a.boundPorts 0 ≠ [] ∧ (a.belay 0).evalAt + 16000 ≤ a.now) ∧
    (let a := (live.set (axU 0) Belay.BELAY_STATE 4).advance 1000000000000;
      a.serves (axU 0) = true ∧ a.belayState 0 = 4 ∧ (a.belay 0).parkMax = false ∧ (a.belay 0).parkFrom + a.act (axU 0) Belay.PARK_MAX * 1600000 ≤ a.now) ∧
    (live.advance 0).serves (axU 0) = true := by decide +kernel

theorem witness_Axis_inputs_count :
    (let a := (withAct live (axU 7) Axis.IN_EN 7).advance 0;
      a.isLive = true ∧ a.powered (axU 7) = true ∧ ((a.axis 7).inputs.getD 2 {}).raw ≠ true ∧ tbit (a.act (axU 7) Axis.IN_EN) 2 = true) ∧
    (let a := (withAct live (axU 7) Axis.IN_EN 3).advance 0;
      ((a.axis 7).inputs.getD 2 {}).raw ≠ true ∧ tbit (a.act (axU 7) Axis.IN_EN) 2 = false) ∧
    (State.reset.advance 0).isLive = false ∧
    (let a := ((withAct live (axU 0) Axis.IN_EN 7).modAxis 0 (fun x => { x with inputs := upd x.inputs 0 (fun i => { i with raw := true, pend := some (0, 5) }) })).advance 1000000000;
      a.serves (axU 0) = true ∧ ((a.axis 0).inputs.getD 0 {}).pend = some (0, 5) ∧ 0 + a.act (axU 0) Axis.DEBOUNCE * 1600 ≤ a.now ∧ (a.axisDebounced 0 0).2 = some (5, true)) ∧
    (let a := ((withAct live (axU 0) Axis.IN_EN 7).modAxis 0 (fun x => { x with inputs := upd x.inputs 0 (fun i => { i with deb := true, pend := some (0, 5) }) })).advance 1000000000;
      ((a.axis 0).inputs.getD 0 {}).pend = some (0, 5) ∧ 0 + a.act (axU 0) Axis.DEBOUNCE * 1600 ≤ a.now ∧ (a.axisDebounced 0 0).2 = some (5, false)) ∧
    tbit (((withAct live (axU 0) Axis.IN_EN 8).advance 0).act (axU 0) Axis.IN_EN) 3 = true ∧
    (let i : IdentSt := { speed := 10240, dist := 51200, start := 0, phase := 1, tries := 3 };
      let a := (live.modAxis 7 (fun x => { x with ident := some i })).advance 0;
      a.serves (axU 7) = true ∧ (a.axis 7).ident = some i ∧ i.back = false ∧ i.first = none ∧ i.phase < 2 ∧ i.tries < 4) := by decide +kernel

/-- A bound lamp group whose port runs a job and has fired a line. -/
def lit : State :=
  let s := withAct (withAct (withAct live (lampU 7) Lamp.ON 1) (lampU 7) Lamp.BOUND 1) (strU 7 1) Str.ROLE 1;
  s.modPort 0 (fun x => { x with jobOn := true, fires := [{}] })
theorem witness_Lamps_pulse_and_are_measured :
    (let a := lit.advance 100000;
      let b := a.modLamp 7 (fun l => { l with next := 1 });
      a.serves (lampU 7) = true ∧ (a.strobeNext 7).map (fun x => (x.1, x.2.2)) = some (0, a.act (lampU 7) Lamp.STROBE_DELAY) ∧ a.act (lampU 7) Lamp.STROBE_DELAY ≤ a.now ∧
      (a.lamp 7).strobe = none ∧ (lampWindow b 0 {}).2 = none ∧ b.lampOn 7 = true ∧ b.reg (lampU 7) Lamp.DARK ≠ 1 ∧ b.capDark 0 = false ∧ (b.port 0).jobOn = true) ∧
    (let a := (withAct lit (lampU 7) Lamp.ON 0).advance 100000;
      (a.strobeNext 7).map (fun x => (x.1, x.2.2)) = some (0, a.act (lampU 7) Lamp.STROBE_DELAY) ∧ (a.lamp 7).strobe = none ∧ (a.modLamp 7 (fun l => { l with next := 1 })).lampOn 7 = false) ∧
    (let s := withAct lit (lampU 7) Lamp.STROBE_LEN 80;
      let a := ((s.modPort 0 (fun x => { x with fires := [{ set := s.active }] })).modLamp 7 (fun l => { l with strobe := some (0, 5) })).advance 1000;
      (a.lamp 7).strobe = some (0, 5) ∧ a.lampPort 7 = some 0 ∧ a.fireOf 0 0 = some { set := s.active } ∧ (lampWindow a 0 { set := s.active }).2 = none ∧
      vw a s.active (lampU 7) Lamp.STROBE_LEN ≠ 0 ∧ 5 + vw a s.active (lampU 7) Lamp.STROBE_LEN ≤ a.now) ∧
    (let a := (live.modLamp 7 (fun l => { l with diag := some 0 })).advance 3200;
      (a.lamp 7).strobe = none ∧ (a.lamp 7).diag = some 0 ∧ 0 + 3200 ≤ a.now) ∧
    (let a := (live.modStr 7 1 (fun x => { x with buckOn := some 0 })).advance 160000;
      (a.str 7 1).buckOn = some 0 ∧ (a.str 7 1).measAt ≤ 0 ∧ 0 + 160000 ≤ a.now) ∧
    (let s := withAct (withAct lit (portU 0) Port.SHUTTER 1) (portU 0) Port.MODE 1;
      let b := (s.modLamp 7 (fun l => { l with diagDue := true })).modPort 0 (fun x => { x with lastTe := some 0 });
      let a := (b.modLc 0 (fun c => { c with axis := some (100000, 0, 0) })).advance 160;
      a.lampPort 7 = some 0 ∧ (a.lamp 7).diagDue = true ∧ (a.lamp 7).strobe = none ∧ (a.lamp 7).diag = none ∧ a.lampOn 7 = true ∧ a.reg (lampU 7) Lamp.DARK ≠ 1 ∧
      a.capDark 0 = false ∧ (a.port 0).jobOn = true ∧ a.act (portU 0) Port.SHUTTER = 1 ∧ (a.port 0).lastTe = some 0 ∧ (a.port 0).openLine = none ∧ 0 + 160 ≤ a.now ∧
      a.lcDue 0 = some (100000, false) ∧ 0 + 3520 ≤ 100000 + a.act (portU 0) Port.EXP_DELAY) := by decide +kernel

theorem witness_Lamps_pulse_and_are_measured_trips :
    (let s := withAct (withAct lit (strU 7 4) Str.ROLE 1) (lampU 7) Lamp.STROBE_LEN 80;
      let a := (((s.modPort 0 (fun x => { x with fires := [{ set := s.active }] })).modLamp 7 (fun l => { l with strobe := some (0, 0) })).modStr 7 4
        (fun x => { x with lit := true })).advance 320;
      (a.str 7 4).lit = true ∧ a.roleOf 7 4 = 1 ∧ (a.lamp 7).calAt = none ∧ (a.lamp 7).strobe = some (0, 0) ∧ a.lampPort 7 = some 0 ∧ a.now ≤ 0 + 320 ∧
      80 ≤ a.strobeSpan 7 0 0 0) ∧
    (let a := ((withAct live (strU 7 4) Str.ROLE 3).modStr 7 4 (fun x => { x with lit := true, duty := 321 })).advance (65536 + 320);
      (a.str 7 4).lit = true ∧ a.roleOf 7 4 = 3 ∧ (a.lamp 7).calAt = none ∧ a.now % 65536 < (a.str 7 4).duty ∧ a.now % 65536 ≤ 320 ∧ 80 ≤ (a.str 7 4).duty) ∧
    (let a := ((withAct live (strU 7 1) Str.ROLE 2).modStr 7 1 (fun x => { x with lit := true })).advance 0;
      (a.str 7 1).lit = true ∧ a.roleOf 7 1 = 2 ∧ (a.lamp 7).calAt = none) := by decide +kernel

theorem witness_Lamps_pulse_and_are_measured_relight :
    (let b := (withAct live (lampU 7) Lamp.BOUND 1).set (lampU 7) Lamp.RELIGHT_PENDING 1;
      let a := (b.modLamp 7 (fun l => { l with faultSlot := some 1, relit := some (9, 4) })).advance 0;
      a.serves (lampU 7) = true ∧ a.reg (lampU 7) Lamp.RELIGHT_PENDING = 1 ∧ a.lampPort 7 = some 0 ∧ (a.lamp 7).faultSlot = some 1 ∧ (a.lamp 7).relit = some (9, 4)) ∧
    (let a := ((live.set (lampU 7) Lamp.RELIGHT_PENDING 1).modLamp 7 (fun l => { l with faultSlot := some 4 })).advance 320000;
      a.serves (lampU 7) = true ∧ a.reg (lampU 7) Lamp.RELIGHT_PENDING = 1 ∧ a.lampPort 7 = none ∧ (a.lamp 7).detected + 320000 ≤ a.now ∧ (a.lamp 7).faultSlot = some 4 ∧
      (a.lamp 7).relit = none) ∧
    (let w : Work := { uid := lampU 7, op := 0x50, tag := 0, params := [2], flags := 0 };
      let s : State := { live with works := [w] };
      let a := (s.modStr 7 1 (fun x => { x with pulse := some (some 0, 0, 2399) })).advance 0;
      a.serves (lampU 7) = true ∧ a.workOf 0x50 (lampU 7) = some w ∧ nth w.params 0 = 2 ∧ (a.str 7 1).pulse = some (some 0, 0, 2399) ∧ 2399 < 2400) ∧
    (let w : Work := { uid := lampU 7, op := 0x50, tag := 0, params := [0], flags := 0 };
      ({ live with works := [w] } : State).workOf 0x50 (lampU 7) = some w ∧ nth w.params 0 ≠ 2) ∧
    (let a := (live.modStr 7 1 (fun x => { x with pulse := some (some 0, 0, 2400) })).advance 0;
      a.workOf 0x50 (lampU 7) = none ∧ (a.str 7 1).pulse = some (some 0, 0, 2400) ∧ (a.lamp 7).delta = none) ∧
    (let a := ((withAct live (strU 7 1) Str.ROLE 2).modStr 7 1 (fun x => { x with lit := true })).advance 1600000;
      a.roleOf 7 1 = 2 ∧ (1 ≠ 5 ∨ (a.lamp 7).delta = none) ∧ (a.str 7 1).lit = true ∧ (a.str 7 1).measAt + 1600000 ≤ a.now) := by decide +kernel

def chained (c : ChainSt) : State := { live with chain := c }
theorem witness_Chain_latches_and_shifts :
    (let a := (chained { on := true, due := some 5 }).advance 5;
      a.serves chainU = true ∧ a.chain.on = true ∧ a.chain.stopped = false ∧ a.chain.due = some 5 ∧ 5 ≤ a.now ∧ a.chain.shift = none ∧ a.chain.begin_ = none) ∧
    (let a := (chained { on := true, shift := some 0, marker := true }).advance 1000000000;
      a.chain.begin_ = none ∧ a.chain.shift = some 0 ∧ 0 + chainN a a.active * chainTb a a.active ≤ a.now ∧ a.chain.marker = true ∧ chainN a a.active ≠ chainN a a.active + 1) ∧
    (let a := (chained { on := true, shift := some 0, latched := some 1 }).advance 1000000000;
      a.chain.begin_ = none ∧ a.chain.shift = some 0 ∧ 0 + chainN a a.active * chainTb a a.active ≤ a.now ∧ a.chain.marker = false ∧ a.chain.latched = some 1 ∧
      1 % 2 ^ chainN a a.active = 1 % 2 ^ chainN a a.active) ∧
    (let a := (withAct live chainU Chain.CHAIN_EN 1).advance 0;
      a.reached = true ∧ a.act chainU Chain.CHAIN_EN = 1 ∧ a.fenced chainU = false) ∧
    (let a := live.advance 1600000;
      a.chain.begin_ = none ∧ a.serves (hareU 3) = true ∧ a.fenced (hareU 3) = false ∧ (a.hare 3).last + 1600000 ≤ a.now ∧ (a.hare 3).ind = none ∧ (a.hare 3).run = none ∧
      a.reg (hareU 3) Hare.TARGET_STR ≠ 1) := by decide +kernel

theorem witness_Command_windows_assemble_packets :
    (live.advance 0).reached = true ∧
    (({ live with urgentQ := { ovf := true }, normalQ := { ovf := true } } : State).advance 0).urgentQ.ovf = true ∧
    (({ live with urgentQ := { ovf := true }, normalQ := { ovf := true } } : State).advance 0).normalQ.ovf = true ∧
    ((({ live with skews := [(6, 0), (6, 1)] } : State).advance 0).skewed 6 0 = true ∧ (({ live with skews := [(6, 0), (6, 1)] } : State).advance 0).skewed 6 1 = true) ∧
    ((live.advance 0).urgentQ.ovf = false ∧ (live.advance 0).normalQ.ovf = false ∧ (live.advance 0).skewed 6 0 = false ∧ (live.advance 0).skewed 6 1 = false ∧ 14 ≠ 15 ∧
      (live.advance 0).urgentQ.used < 256 ∧ whole ((live.advance 0).urgentQ.part ++ [0xFFFFFFFF % 2 ^ 32]) = false) ∧
    (let a := ({ live with normalQ := { part := List.replicate 2047 0 ++ [0] } } : State).advance 0;
      a.normalQ.ovf = false ∧ 2048 ≤ a.normalQ.used) ∧
    (let a := ({ live with normalQ := { part := [0x10010000, 0] } } : State).advance 0;
      a.normalQ.ovf = false ∧ a.normalQ.used < 2048 ∧ whole (a.normalQ.part ++ [7 % 2 ^ 32]) = true) ∧
    (let a := ({ live with normalQ := { part := [0x10000000] } } : State).advance 0;
      a.normalQ.ovf = false ∧ a.normalQ.used < 2048 ∧ whole (a.normalQ.part ++ [0 % 2 ^ 32]) = true) ∧
    whole (({ live with urgentQ := { part := [0x05000000] } } : State).urgentQ.part ++ [0]) = true := by decide +kernel

def pkt0 : Pkt := pktOf false [0x10000000, 0] 5
theorem witness_Normal_packets_start_in_order :
    (let a := ({ ready with normalQ := { waiting := [pkt0] } } : State).advance 0;
      a.isLive = true ∧ a.normalQ.waiting = pkt0 :: [] ∧ a.normalServes pkt0.op = true ∧ a.skewed 6 1 = false) ∧
    (let a := ({ live with normalQ := { waiting := [pkt0] } } : State).advance 0;
      a.isLive = true ∧ a.normalQ.waiting = pkt0 :: [] ∧ a.normalServes pkt0.op = false) := by decide +kernel

theorem witness_Reads_that_pop :
    ((live.advance 0).reached = true ∧ live.reply.held = [] ∧ live.skewed 7 0 = false ∧ live.reply.words = [] ∧ (live.advance 0).windowOk ropeU = true ∧ live.ropeS.marks = []) ∧
    (let s : State := { live with reply := { words := [(1, true), (2, false)] } };
      (s.advance 0).reached = true ∧ s.reply.held = [] ∧ s.skewed 7 0 = false ∧ s.reply.words = (1, true) :: [(2, false)]) ∧
    (let s := live.modRope (fun r => { r with marks := [(5, 6, 7)] });
      (s.advance 0).reached = true ∧ (s.advance 0).windowOk ropeU = true ∧ s.ropeS.marks = (5, 6, 7) :: []) := by decide +kernel

theorem witness_Reads_answer_and_keep_the_device :
    (live.advance 0).reached = true ∧
    (let a := (live.set bar0 Cmd.UID (clU 1) 3).advance 0;
      a.windowUid 3 = clU 1 ∧ a.windowOk (a.windowUid 3) = true ∧ a.windowUid 3 ≠ ropeU ∧ (pageOf (a.windowUid 3)).any (fun f => f.name == "RES_DATA") = true) ∧
    (0xFFC % 4 = 0 ∧ 0x190 ≤ 0xFFC ∧ 0xFFC < 0x1000 ∧ 0xFFC ≠ 0x500) := by decide +kernel

theorem witness_Register_writes_take_whole_words :
    (live.advance 0).reached = true ∧ 3 < 4 ∧ 0xFFC < 0x1000 ∧ 0xFFC % 4 = 0 ∧ 14 % 16 ≠ 15 := by decide +kernel

theorem witness_Event_ring_and_watches :
    ((live.advance 0).reached = true ∧ tbit 0 0 = false ∧ tbit 1 0 = true) ∧
    (let a := ready.advance 0;
      a.reached = true ∧ (a.set bar0 Evt.HOLDOFF (bits 1 25 16)).ready = true ∧ (a.set bar0 Evt.HOLDOFF (bits 1 25 16)).reg bar0 Evt.ENABLE = 0 ∧
      (((((a.set bar0 Evt.HOLDOFF (bits 1 25 16)).set bar0 Evt.ENABLE 1).set bar0 Evt.EVT_WR 0).set bar0 Evt.EVT_RD 0).set bar0 Evt.WR_PHASE 1).evtLostEntry.evt.deferred = []) ∧
    (let a := (live.set bar0 Evt.EVT_WR 4095).advance 0;
      tbit 4095 31 = false ∧ (4095 % 4096 + 4096 - a.reg bar0 Evt.EVT_RD) % 4096 ≤ (a.reg bar0 Evt.EVT_WR + 4096 - a.reg bar0 Evt.EVT_RD) % 4096) ∧
    (let a := live.advance 0;
      tbit 1 31 = false ∧ (a.reg bar0 Evt.EVT_WR + 4096 - a.reg bar0 Evt.EVT_RD) % 4096 < (1 % 4096 + 4096 - a.reg bar0 Evt.EVT_RD) % 4096) ∧
    (let s : State := { live with evt := { live.evt with hold := [(31, 0, true)] } };
      let a := s.advance 0;
      a.reached = true ∧ a.evt.hold.find? (fun x => x.1 == 31) = some (31, 0, true) ∧ 0 ≤ a.now) ∧
    (let a := ({ live with normalQ := { waiting := [pkt0] } } : State).advance 400000000;
      a.reached = true ∧ a.normalQ.waiting ≠ [] ∧ a.sys.done = a.reg bar0 Cmd.NORMAL_DONE ∧ a.sys.doneAt + 400000000 ≤ a.now ∧ a.sys.wedged = none) ∧
    (let a := ({ live with normalQ := { waiting := [pkt0] }, sys := { live.sys with wedged := some (7, 7) } } : State).advance 400000000;
      a.sys.done = a.reg bar0 Cmd.NORMAL_DONE ∧ a.sys.wedged = some (7, 7) ∧ 7 ≠ a.heartbeat ∧ 7 ≠ a.reg bar0 Cmd.NORMAL_DONE) ∧
    (let a := ({ live with normalQ := { waiting := [pkt0] }, sys := { live.sys with wedged := some (0, 0) } } : State).advance 400000000;
      a.sys.wedged = some (0, 0) ∧ (0 = a.heartbeat ∨ 0 = a.reg bar0 Cmd.NORMAL_DONE)) := by decide +kernel

theorem witness_Bar2_reads_and_writes_memory :
    (let a := memory.advance 0;
      a.reached = true ∧ a.dramUp = true ∧ a.bar2Addr (a.fitted - 2 ^ 20) + 2 ^ 20 ≤ a.fitted ∧ a.readError (a.bar2Addr (a.fitted - 2 ^ 20)) (2 ^ 20) none = none) ∧
    (let a := (memory.set memU R.Mem.ECC_ACTIVE 1).advance 0;
      a.reached = true ∧ a.dramUp = true ∧ a.bar2Addr 64 + 64 ≤ a.fitted ∧ a.readError (a.bar2Addr 64) 64 (some 64) = some 64) ∧
    (let a := (memory.set bar0 Tim.APERTURE_BASE 8).advance 0;
      a.reached = true ∧ a.fitted < a.bar2Addr 0 + 1) ∧
    ((live.advance 0).reached = true ∧ (live.advance 0).dramUp = false) ∧
    (let a := (memory.set bar0 Tim.WRITE_EN 1).advance 0;
      a.reached = true ∧ a.dramUp = true ∧ [7] ≠ [] ∧ a.bar2Addr (64 * 2 ^ 20) + [7].length ≤ a.fitted ∧ a.reg bar0 Tim.WRITE_EN = 1 ∧ a.bar2Addr (64 * 2 ^ 20) = 64 * 2 ^ 20 ∧
      a.deviceOwned (64 * 2 ^ 20) = false) ∧
    (let a := (memory.set bar0 Tim.WRITE_EN 1).advance 0;
      a.dramUp = true ∧ a.bar2Addr 0 + [7].length ≤ a.fitted ∧ a.deviceOwned (a.bar2Addr 0) = true) ∧
    (live.advance 0).reg bar0 Tim.WRITE_EN = 0 := by decide +kernel

theorem witness_Function_resets_and_power_states :
    (live.advance 0).sys.inReset = false ∧ (live.advance 0).frozen = false ∧ (({ live with frozen := true } : State).advance 0).frozen = true ∧
    (({ live with frozen := true } : State).advance 0).sys.inReset = false ∧
    (({ live with d3hot := true } : State).advance 0).d3hot = true ∧ (({ live with d3hot := true } : State).advance 0).sys.inReset = false ∧
    (let a := live.advance 0;
      (((a.set bar0 Tim.RATE 5).set bar0 Tim.WIDTH 16).set bar0 Tim.DEGRADED (b2n (5 != 0 && (decide (16 < 4) || decide (5 < 3))))).linkStat ≠ a.linkStat ∧
      (((a.set bar0 Tim.RATE 0).set bar0 Tim.WIDTH 0).set bar0 Tim.DEGRADED (b2n (0 != 0 && (decide (0 < 4) || decide (0 < 3))))).linkStat = a.linkStat) := by decide +kernel

def abort0 : AbortSt := { uid := axU 7, waiting := [(axU 7, 0)], tag := 0, seq := 0, urgent := true, reset := false }
theorem witness_Aborts_complete_and_domains_come_up :
    (let a := ({ live with aborts := [abort0] } : State).advance 0;
      a.isLive = true ∧ ((a.aborts.flatMap (·.waiting)).map (·.1)).eraseDups = [axU 7] ∧ within (axU 7) (axU 7) = true ∧ a.canComplete (axU 7) = true ∧
      a.aborts.any (fun x => x.waiting.any (fun w => w.1 == axU 7 && decide (w.2 ≤ a.now))) = true) ∧
    (({ live with pow := { live.pow with coming := [22] } } : State).advance 0).pow.coming.contains 22 = true := by decide +kernel

/-- A device whose job binds port 7, which reads out 64 samples a line. -/
def demanding : State := withAct (withAct ((live.set devU Job.ACTIVE_VALID 1).set devU Job.JOB_PORTS 0x80) (portU 7) Tap.EN 1 0) (portU 7) Tap.COUNT 64 0
theorem witness_Pace_supply_and_time_base :
    (let a := (live.set bar0 Pace.SUPPLY_REQ_EN 0).advance 0;
      a.isLive = true ∧ (a.paceMin []).1 = 255 ∧ (a.paceShow (a.paceMin []).1 (a.paceMin []).2).mayRequest = false) ∧
    (let a := demanding.advance 0;
      let h := (a.paceMin [(portU 7, 1)]).1;
      let b := a.paceShow h (portU 7);
      a.isLive = true ∧ a.paceDemand (portU 7) ≠ none ∧ h < 8 ∧ (a.paceMin [(portU 7, 1)]).2 = portU 7 ∧ b.mayRequest = true ∧ b.vcoreNow < 900) ∧
    (let b := demanding.set bar0 Pace.VCORE_REQ 755;
      let a := ({ b with sys := { b.sys with paceHigh := some 0 } } : State).advance 1600000000;
      let c := a.paceShow 255 0;
      (a.paceMin []).1 = 255 ∧ 8 ≤ 255 ∧ c.mayRequest = true ∧ 750 < c.vcoreNow ∧ c.sys.paceHigh = some 0 ∧ 0 + 1600000000 ≤ c.now) ∧
    (let a := ({ live with sys := { live.sys with vreq := some (0, 760) } } : State).advance 3200000;
      a.sys.vreq = some (0, 760) ∧ 0 + 3200000 ≤ a.now ∧ 760 + 10 < 771 ∧ 770 ≤ 760 + 10 ∧ 760 ≤ 750 + 10) ∧
    (live.advance 0).sys.unlocked = false ∧ (({ live with sys := { live.sys with unlocked := true } } : State).advance 0).sys.unlocked = true := by decide +kernel

theorem witness_Job_boundaries_and_starts :
    ((live.advance 0).isLive = true ∧ (live.advance 0).job.at_ = none ∧ (live.advance 0).stagingWork = none ∧ (live.advance 0).jobState ≠ 4) ∧
    (let a := ({ live with job := { live.job with at_ := some 7 } } : State).advance 0;
      a.isLive = true ∧ a.job.at_ = some 7 ∧ a.jobState ≠ 4 ∧ a.job.startTick = none) ∧
    (let a := ({ live with job := { live.job with at_ := some 7, startTick := some 0, endOnly := true } } : State).advance 0;
      a.isLive = true ∧ a.job.at_ = some 7 ∧ a.jobState ≠ 4 ∧ a.job.endOnly = true) ∧
    (let a := (({ live with job := { live.job with at_ := some 7, startTick := some 0 } } : State).set refU RefSt.STAGED_OK 1).advance 0;
      a.isLive = true ∧ a.job.at_ = some 7 ∧ a.jobState ≠ 4 ∧ a.stageMissing = none) ∧
    (let a := ({ live with job := { live.job with at_ := some 7, startTick := some 0 } } : State).advance 0;
      a.isLive = true ∧ a.job.at_ = some 7 ∧ a.jobState ≠ 4 ∧ a.job.startTick.isSome = true ∧ a.job.endOnly = false ∧ a.stageMissing = some 1) ∧
    (let a := (({ live with job := { live.job with at_ := some 7 } } : State).set devU Job.JOB_STATE 4).advance 0;
      a.jobState = 4 ∧ a.job.starts = false) := by decide +kernel

theorem witness_Job_boundaries_and_starts_staging :
    (let w := { stageWork with step := 0 };
      let a := ({ staging with works := [w], slots := [] } : State).advance 0;
      a.stagingWork = some w ∧ w.step = 0 ∧ w.op = 0x62 ∧ a.slotRec (nth w.params 0 % 1024) = none ∧ (a.stageFail w St.NO_RECIPE [0]).stagingWork = none) ∧
    (let w := { stageWork with step := 0 };
      let a := ({ staging with works := [w], slots := [(0, { slotRec0 with digest := [1] })] } : State).advance 0;
      a.stagingWork = some w ∧ a.slotRec (nth w.params 0 % 1024) = some { slotRec0 with digest := [1] } ∧ a.stageRead (slotBaseR (nth w.params 0 % 1024)) 320 [] = none ∧
      slotDigest a.dram (slotBaseR (nth w.params 0 % 1024)) 320 ≠ [1] ∧
      ((a.modSlot 0 (fun y => { y with loaded := false })).stageFail w St.RECIPE_DIGEST [0]).stagingWork = none) ∧
    (let a := staging.advance 0;
      a.isLive = true ∧ a.stagingWork = some stageWork ∧ stageWork.step = 1 ∧ stageWork.op = 0x62 ∧ a.stageReliefs = false) ∧
    (let w : Work := { stageWork with op := 0x64, flags := 256 };
      let a := ({ staging with works := [w] } : State).advance 0;
      let b := a.set devU Job.JOB_STATE 2;
      let c : State := { b with works := b.works.map (fun x => if x = w then { w with step := 3 } else x) };
      a.stagingWork = some w ∧ w.step = 1 ∧ w.op ≠ 0x62 ∧ a.stageReliefs = false ∧ a.jobState ≠ 4 ∧ a.reg devU Job.END_PENDING = 0 ∧ c.scopeBusy c.job.scope = false ∧
      c.startRefuse c.stagedPorts = none) ∧
    (let r : Relief := { tap := 0, chan := 0, meas := 0, phase := 3, gains := [0], points := 0, staged := true };
      let a := ({ staging with job := { staging.job with scope := [portU 7] } }.modPort 7 (fun x => { x with relief := some r })).advance 0;
      a.stagingWork = some stageWork ∧ stageWork.step = 1 ∧ a.stageReliefs = true) ∧
    (let a := (({ live with job := { live.job with starts := true } } : State).set devU Job.JOB_STATE 4).advance 0;
      a.isLive = true ∧ a.jobState = 4 ∧ a.job.starts = true ∧ a.drainDone = true) ∧
    (let a := ((({ live with job := { live.job with starts := true } } : State).set devU Job.JOB_STATE 4).modPort 7 (fun x => { x with jobOn := true })).advance 0;
      a.jobState = 4 ∧ a.job.starts = true ∧ a.drainDone = false) := by decide +kernel

def fireMsg : RMsg := { typ := 2, up := false, src := 1, dst := allNodes, pay := [0, 0] }
def sent0 (tries : Nat) : RSent := { msg := fireMsg, lseq := 9, tries := tries, at_ := 0 }
def kept (tries : Nat) : State := live.modPitch 3 (fun x => { x with unacked := [sent0 tries] })
/-- A pitch in delay exchange. -/
def exchanging (l : List Int) (reps : Nat) : State := (live.setLink 3 1 0).modPitch 3 (fun x => { x with phase := 2, exch := l, reps := reps })
theorem witness_Pitches_link_and_acknowledge :
    ((live.advance 0).sys.inReset = false ∧ (live.advance 0).serves ropeU = true ∧ (live.advance 0).linkSt 4 < 2 ∧ ((live.advance 0).pitch 4).retryAt ≤ (live.advance 0).now) ∧
    (let a := (exchanging (List.replicate 14 0) 0).advance 0;
      a.serves ropeU = true ∧ a.linkSt 3 = 1 ∧ (a.pitch 3).phase = 2 ∧ (a.pitch 3).exch.length < 15) ∧
    (let a := (exchanging (List.replicate 15 0) 0).advance 0;
      a.serves ropeU = true ∧ a.linkSt 3 = 1 ∧ (a.pitch 3).phase = 2 ∧ (a.pitch 3).exch.length = 15 ∧
      (((a.pitch 3).exch ++ [4]).max?.getD 0) - (((a.pitch 3).exch ++ [4]).min?.getD 0) ≤ 4) ∧
    (let a := (exchanging (List.replicate 15 0) 3).advance 0;
      a.serves ropeU = true ∧ a.linkSt 3 = 1 ∧ (a.pitch 3).phase = 2 ∧ (a.pitch 3).exch.length = 15 ∧
      4 < (((a.pitch 3).exch ++ [5]).max?.getD 0) - (((a.pitch 3).exch ++ [5]).min?.getD 0) ∧ (a.pitch 3).reps < 4) ∧
    (((kept 2).advance 3200).serves ropeU = true ∧ (((kept 2).advance 3200).pitch 3).unacked.find? (fun y => y.lseq == 9) = some (sent0 2) ∧ (sent0 2).tries < 3 ∧
      (sent0 2).at_ + 3200 ≤ ((kept 2).advance 3200).now) ∧
    (((kept 3).advance 3199).serves ropeU = true ∧ (((kept 3).advance 3199).pitch 3).unacked.find? (fun y => y.lseq == 9) = some (sent0 3) ∧ 3 ≤ (sent0 3).tries ∧
      (sent0 3).at_ + 3200 > ((kept 3).advance 3199).now) := by decide +kernel

/-- A device in a role of the Rope, its upstream pitch up. -/
def roped (role : Nat) : State := (withAct live ropeU Rope.ROLE role).setLink 4 2 0
theorem witness_Rope_time_is_sent_and_followed :
    (let a := (roped 1).advance 1600000;
      a.serves ropeU = true ∧ a.ropeS.timeNext ≤ a.now ∧ a.role ≠ 0 ∧ a.fenced ropeU = false) ∧
    (let a := (roped 2).advance 6400000;
      a.serves ropeU = true ∧ a.linkSt 4 = 2 ∧ a.role = 2 ∧ a.ropeS.lastTime + 6400000 ≤ a.now ∧ a.ropeS.reportNext ≤ a.now) := by decide +kernel

theorem witness_Rope_messages_are_received :
    ((roped 2).advance 0).serves ropeU = true ∧ ((roped 2).advance 0).linkSt 4 = 2 ∧
    (((live.setLink 3 2 0).advance 0).serves ropeU = true ∧ ((live.setLink 3 2 0).advance 0).linkSt 3 = 2) ∧
    (((live.setLink 0 1 0).advance 0).serves ropeU = true ∧ ((live.setLink 0 1 0).advance 0).linkSt 0 = 1) ∧ (live.advance 0).linkSt 4 = 0 := by decide +kernel

theorem witness_Memory_upkeep_and_temperature :
    (let a := live.advance 0;
      a.isLive = true ∧ a.reg memU R.Mem.SCRUB_HOURS ≠ 0 ∧ 2 ^ 33 - 1 < a.fitted) ∧
    (let a := ({ live with memS := { live.memS with copies := [2097151] } } : State).advance 0;
      a.isLive = true ∧ a.memS.copies = 2097151 :: [] ∧ a.reserveUsed < a.reservePages) ∧
    (let a := (frozen true).advance 0; a.frozen = true ∧ a.sys.inReset = false) := by decide +kernel

theorem witness_Resets_and_the_freeze_pin :
    ((live.advance 0).part.grade ≠ 2 ∧ (live.advance 0).sys.inReset = false) ∧
    ((State.reset.advance 0).sys.inReset = true ∧ (State.reset.advance 0).sys.tripped = false) ∧
    (({ State.reset with sys := { State.reset.sys with tripped := true } } : State).advance 0).sys.tripped = true ∧
    (let a := ready.advance 0;
      let b := ({ a with pow := { a.pow with pinLow := true } } : State).set frzU Frz.PIN_LOW 1;
      b.ready = true ∧ b.frozen = false) ∧
    (let a := live.advance 0;
      (({ a with pow := { a.pow with pinLow := true } } : State).set frzU Frz.PIN_LOW 1).ready = false) ∧
    ((live.advance 0).reached = true ∧ (live.advance 0).windowOk secU = true ∧ (live.advance 0).reg bar0 Cmd.SEQ_RUNNING ≠ 1) ∧
    ((ready.advance 0).reached = true ∧ (ready.advance 0).windowOk secU = true ∧ (ready.advance 0).reg bar0 Cmd.SEQ_RUNNING = 1) := by decide +kernel

def working (u op : Nat) (params : List Nat) : State := { live with works := [{ uid := u, op := op, tag := 0, params := params, flags := 0 }] }
theorem witness_Security_events_act :
    (let a := ({ live with sec := { live.sec with challenge := some ([1], 0) } } : State).advance 960000000000;
      a.sys.inReset = false ∧ a.sec.challenge = some ([1], 0) ∧ 0 + 960000000000 ≤ a.now) ∧
    (let a := ({ live with sec := { live.sec with challenge := some ([1], 0) } } : State).advance 959999999999;
      a.sys.inReset = false ∧ a.sec.challenge = some ([1], 0) ∧ a.now < 0 + 960000000000) ∧
    ((ready.advance 0).isLive = true ∧ (ready.advance 0).bootEnds.reg bar0 Cmd.SEQ_RUNNING = 1) ∧
    ((live.advance 0).isLive = true ∧ (live.advance 0).bootEnds.reg bar0 Cmd.SEQ_RUNNING = 0) ∧
    (∀ o, o ∈ [0x81, 0x8B, 0x8C, 0x8D, 0x87] → ((working secU o []).advance 0).isLive = true ∧
      ((working secU o []).advance 0).workOf o secU = some { uid := secU, op := o, tag := 0, params := [], flags := 0 }) := by decide +kernel

def unlocking : State := ownedBy live 0 [1]
  0xcb71c53f1973ad78c6195e288fcb9e2c5f5b42f7c4e1c90183e0eb57a1c4eb71e8eb11b9621948db651c9275fdd6c50355c927119fd3d500d6cda19f6ad0e15d85
theorem witness_Sideband_answers :
    (0x1A5 % 256 = 0xA5 ∧ (live.advance 0).sys.inReset = false ∧ 0xA4 % 256 ≠ 0xA5) ∧
    ((live.advance 0).debugClosed 1 = false ∧ (live.advance 0).debugClosed 2 = false ∧ uidOk (portU 7 % 65536) = true) ∧
    ((live.set secU Sec.POLICY 2).advance 0).debugClosed 1 = true ∧
    (((unlocking.advance 0).jtag 0x21).ownerAuth 0 [1] (ownerSig 0 [1])).2 = .inr (List.replicate 64 12) := by decide +kernel

theorem witness_Urgent_packets_complete :
    (sent .abort (axU 7) [] 4).taken ready = true ∧ (sent .resetUnit (portU 7) []).taken ready = true ∧
    ((sent .freeze devU []).taken ready = true ∧ ((sent .freeze devU []).before ready).frozen = false) ∧
    ((sent .thaw devU []).taken (frozen false) = true ∧ ((sent .thaw devU []).before (frozen false)).frozen = true ∧
      ((sent .thaw devU []).before (frozen false)).pow.pinLow = false) ∧
    ((sent .thaw devU []).taken (frozen true) = true ∧ ((sent .thaw devU []).before (frozen true)).frozen = true ∧
      ((sent .thaw devU []).before (frozen true)).pow.pinLow = true) ∧
    (sent .getStatus (axU 7) []).taken ready = true := by decide +kernel

theorem witness_Set_packets_complete :
    (let x := sent .commit (lcU 0) [];
      let a := x.before opened;
      x.taken opened = true ∧ a.queueing (x.pkt opened).uid = [lcU 0] ∧ (a.commits.filter (fun c => c.uid == lcU 0)).length < 4 ∧ a.job.scope.contains (lcU 0) = false ∧
      setChecks a (a.prospect []) (a.prospect ((a.queueing (x.pkt opened).uid).map (fun v => (v, a.snapOf v)))) (a.queueing (x.pkt opened).uid) = none) ∧
    (let x := sent .unitWrite (lcU 7) [0x020, 16];
      x.taken ready = true ∧ (x.pkt ready).flag 8 = false ∧ [0x020, 16].length / 2 = 1 ∧
      (x.before ready).entryBad (x.pkt ready).uid (nth [0x020, 16] (2 * 0)) (nth [0x020, 16] (2 * 0 + 1)) = false) ∧
    (let x := sent .unitWrite (lcU 7) [0x020, 16] 0x100;
      x.taken ready = true ∧ (x.pkt ready).flag 8 = true ∧ Op.commit.takes (x.pkt ready).uid = true ∧
      (x.before ready).entryBad (x.pkt ready).uid (nth [0x020, 16] (2 * 0)) (nth [0x020, 16] (2 * 0 + 1)) = false) ∧
    (let x := sent .unitWrite memU [0x020, 16] 0x100;
      x.taken ready = true ∧ (x.pkt ready).flag 8 = true ∧ Op.commit.takes (x.pkt ready).uid = false ∧
      (x.before ready).entryBad (x.pkt ready).uid (nth [0x020, 16] (2 * 0)) (nth [0x020, 16] (2 * 0 + 1)) = false) := by decide +kernel

theorem witness_Port_packets_complete :
    (let x := sent .pgLoad (portU 7 + 0x11) [0, 0, 2 + 0x10000];
      let a := x.before loaded;
      let prog := (List.range 2).map (fun i => stepAt a.dram (0 + 8 * i));
      x.taken loaded = true ∧ uInst (x.pkt loaded).uid = 7 ∧ (x.pkt loaded).addr 0 = 0 ∧ (x.pkt loaded).p 2 % 8192 = 2 ∧ bits ((x.pkt loaded).p 2) 16 16 = 1 ∧
      a.inDram 0 (8 * 2) = true ∧ ((x.pkt loaded).p 2 &&& 0xFFFEE000) = 0 ∧ ((a.port 7).started && (a.port 7).bank == 1) = false ∧
      a.commits.any (fun c => c.uid == portU 7 && vw a c.snap (portU 7) Port.BANK == 1) = false ∧ a.readError 0 (8 * 2) none = none ∧
      progFail prog ((List.range 2).map (fun i => decide (2 ^ 26 ≤ Machine.Mem.rd32 a.dram (0 + 8 * i + 4)))) = none) ∧
    (let x := sent .refTrace calU [1252500, 1];
      x.taken ready = true ∧ (x.pkt ready).flag 8 = false ∧
      (Int.ofNat ((x.pkt ready).p 0) - Int.ofNat (x.before ready).part.refTrimUv).natAbs * 500 ≤ (x.before ready).part.refTrimUv) ∧
    (let x := sent .refTrace calU [0, 0] 0x100;
      x.taken ready = true ∧ (x.pkt ready).flag 8 = true) ∧
    (let x := sent .lutLoad (portU 7 + 0x20) [64, 0, 15];
      let a := x.before memory;
      x.taken memory = true ∧ (x.pkt memory).addr 0 % 64 = 0 ∧ a.inDram ((x.pkt memory).addr 0) (4096 * ([0, 1, 2, 3].filter (tbit ((x.pkt memory).p 2))).length) = true ∧
      (x.pkt memory).p 2 ≠ 0 ∧ (x.pkt memory).p 2 < 16 ∧ (a.jobState == 3 && a.stagedPorts.contains (uInst (x.pkt memory).uid)) = false ∧
      a.readError ((x.pkt memory).addr 0) (4096 * ([0, 1, 2, 3].filter (tbit ((x.pkt memory).p 2))).length) none = none) ∧
    (sent .ebRelease (portU 15) []).taken ready = true ∧
    (let x := sent .afeCalibrate (portU 0) [];
      x.taken ready = true ∧ ∀ p, p < 8 → ∀ c, c ∈ (x.before ready).calTargets (x.pkt ready).uid p → (x.before ready).needsSpare p c = false) ∧
    (let s := withAct ready (portU 7) Tap.EN 1 3;
      let x := sent .afeCalibrate (portU 7) [];
      let a := x.before s;
      x.taken s = true ∧ uInst (portU 7) = 7 ∧ a.powered (portU 7) = true ∧ a.calTargets (portU 7) 7 = (3, 3) :: [(8, 15)] ∧ a.works = [] ∧ (a.port 7).jobOn = false ∧
      (a.port 7).relief = none ∧ (a.port 7).capture = none ∧ (a.port 7).queueCal = []) ∧
    (let x := sent .shadingCapture (portU 7 + 0x20) [64 * 65536 + 2 ^ 29, 0x10001, 0x10000, 255];
      let a := x.before memory;
      x.taken memory = true ∧ uInst (x.pkt memory).uid = 7 ∧ (a.port 7).jobOn = false ∧ (a.port 7).capture = none ∧ capParams (x.pkt memory) = none ∧
      a.act (portU 7) Port.LINE_PERIOD_MIN ≤ a.act (portU 7) Port.NOMINAL_PERIOD ∧ (x.pkt memory).p 0 % 4 ≠ 2 ∧ (x.pkt memory).p 0 % 4 = 0 ∧
      a.readError (slotBase (bits ((x.pkt memory).p 0) 15 8)) 256 none = none) := by decide +kernel

theorem witness_Trigger_and_transfer_packets_complete :
    (let x := sent .trigArm trigU [1, 0, 0];
      x.taken ready = true ∧ (x.pkt ready).p 0 < 2 ∧ (x.before ready).reg trigU Trig.ARM_SRC ≠ 1 ∧ (x.pkt ready).flag 8 = false ∧ (x.pkt ready).p 1 = 0 ∧
      (x.pkt ready).p 2 = 0) ∧
    (let x := sent .trigArm trigU [0, 1, 0] 0x100;
      x.taken ready = true ∧ (x.pkt ready).p 0 < 2 ∧ (x.pkt ready).flag 8 = true ∧ (x.before ready).rope < (x.pkt ready).p 2 * 2 ^ 32 + (x.pkt ready).p 1) ∧
    (let s := (withAct ready ropeU Rope.ROLE 1).set trigU Trig.ARM_SRC 1;
      let x := sent .trigArm trigU [1, 0, 0];
      x.taken s = true ∧ (x.pkt s).p 0 < 2 ∧ (x.before s).reg trigU Trig.ARM_SRC = 1 ∧ (x.before s).role = 1 ∧ (x.pkt s).flag 8 = false ∧ (x.pkt s).p 1 = 0 ∧ (x.pkt s).p 2 = 0) ∧
    (let s := (ready.set (dmaU 63) Dma.CHAIN_LO 2).set (dmaU 63) Dma.STATUS_LO 1;
      let x := sent .dmaStart (dmaU 63) [];
      let a := x.before s;
      x.taken s = true ∧ uInst (x.pkt s).uid * 16 + uSub (x.pkt s).uid - 1 = 63 ∧ (a.dma 63).st = 0 ∧ a.reg (dmaU 63) Dma.CHAIN_HI * 2 ^ 32 + a.reg (dmaU 63) Dma.CHAIN_LO * 32 ≠ 0 ∧
      a.reg (dmaU 63) Dma.STATUS_HI * 2 ^ 32 + a.reg (dmaU 63) Dma.STATUS_LO * 32 ≠ 0) ∧
    (let s := memory;
      let x := sent .move (movU 7) [2 ^ 23 - 64, 0, 2 ^ 26, 0, 64] 0x100;
      let a := x.before s;
      x.taken s = true ∧ ((x.pkt s).p 1 * 2 ^ 32 + (x.pkt s).p 0) % 64 = 0 ∧ ((x.pkt s).p 3 * 2 ^ 32 + (x.pkt s).p 2) % 64 = 0 ∧ (x.pkt s).p 4 % 64 = 0 ∧ (x.pkt s).p 4 ≠ 0 ∧
      tbit (x.pkt s).flags 8 = true ∧ (x.pkt s).p 1 * 2 ^ 32 + (x.pkt s).p 0 + (x.pkt s).p 4 ≤ 2 ^ 23 ∧ (x.pkt s).p 3 * 2 ^ 32 + (x.pkt s).p 2 + (x.pkt s).p 4 ≤ a.fitted ∧
      a.ownedRange ((x.pkt s).p 3 * 2 ^ 32 + (x.pkt s).p 2) ((x.pkt s).p 4) = false ∧ (a.moves (x.pkt s).uid).length < 4) := by decide +kernel

def simple (s : State) (x : Sent) : AxMove :=
  let q := x.pkt s;
  { target := sgn 40 (low 40 (0 + q.pos 0)), speed := q.p 2, accel := q.p 3, decel := q.p 4, jerk := q.p 5, tag := q.tag, notify := q.flag 0 }
theorem witness_Axis_moves_complete :
    (let x := sent .axisMove (axU 7) [0x80000000, 0x7F, 100000, 1000000, 1000000, 0];
      let a := x.before ready;
      let m := simple ready x;
      x.taken ready = true ∧ (x.pkt ready).flag 8 = false ∧ (x.pkt ready).p 1 < 256 ∧ 1 ≤ m.speed ∧ m.speed ≤ a.act (axU 7) Axis.VMAX ∧ 1 ≤ m.accel ∧
      m.accel ≤ a.act (axU 7) Axis.AMAX ∧ 1 ≤ m.decel ∧ m.decel ≤ a.act (axU 7) Axis.AMAX ∧ a.moveRefuse 7 m false = none ∧ (x.pkt ready).flag 9 = false) ∧
    (let x := sent .axisMove (axU 0) [5, 0, 1, 1, 1, 0] 0x200;
      let a := x.before ready;
      let m := simple ready x;
      x.taken ready = true ∧ (x.pkt ready).flag 8 = false ∧ a.moveRefuse 0 m true = none ∧ (x.pkt ready).flag 9 = true ∧ a.linkOf 0 = none ∧ (a.axis 0).prof.v = 0) ∧
    (let s := ready.modAxis 0 (fun y => { y with prof := { v := 1 } });
      let x := sent .axisMove (axU 0) [0x7FFFFFFF, 0, 1, 1, 1, 0] 0x200;
      let a := x.before s;
      let m := simple s x;
      x.taken s = true ∧ (x.pkt s).flag 8 = false ∧ a.moveRefuse 0 m true = none ∧ (x.pkt s).flag 9 = true ∧ a.linkOf 0 = none ∧ (a.axis 0).prof.v ≠ 0) ∧
    (let x := sent .axisLinear 0x6F00 [0x81, 1, 1, 1, 0, 100, 0, 200, 0];
      let a := x.before ready;
      let q := x.pkt ready;
      x.taken ready = true ∧ q.params.length = 5 + 2 * q.axes.length ∧ q.p 0 < 256 ∧ 2 ≤ q.axes.length ∧ 1 ≤ q.p 1 ∧ q.p 1 ≤ a.act (axU (a.linearLongest (a.linearMoves q))) Axis.VMAX ∧ 1 ≤ q.p 2 ∧
      q.p 2 ≤ a.act (axU (a.linearLongest (a.linearMoves q))) Axis.AMAX ∧ 1 ≤ q.p 3 ∧ q.p 3 ≤ a.act (axU (a.linearLongest (a.linearMoves q))) Axis.AMAX ∧
      (∀ j, j < q.axes.length → q.p (6 + 2 * j) < 256) ∧ (∀ m, m ∈ a.linearMoves q → a.moveRefuse m.1 m.2 false = none)) ∧
    ((sent .axisStop (axU 7) []).taken ready = true ∧ ((sent .axisStop (axU 7) []).before ready).powered (axU (uInst ((sent .axisStop (axU 7) []).pkt ready).uid)) = true) ∧
    ((sent .axisStop (axU 15) [] 0x100).taken ready = true ∧ uInst ((sent .axisStop (axU 15) [] 0x100).pkt ready).uid = 15) ∧
    (let m : AxMove := { simple ready (sent .axisMove (axU 7) [0, 0, 1, 1, 1, 0]) with tag := 7 };
      let s := ready.modAxis 7 (fun y => { y with kept := some m });
      let x := sent .axisResume (axU 7) [];
      let a := x.before s;
      x.taken s = true ∧ a.owned 7 = false ∧ a.fenced (axU 7) = false ∧ (a.axis 7).kept = some m ∧ (a.axis 7).keptEpoch = a.reg (axU 7) Axis.POS_EPOCH ∧
      a.limitAt 7 (m.target - (a.axis 7).whole) = none ∧ m.link = 0 ∧ a.linkOf 7 = none ∧ a.softOk 7 m.target = true) ∧
    (let s := (ready.set (axU 7) Axis.OWNED 1).set (axU 7) Belay.CAUSES 4;
      let x := sent .axisResume (axU 7) [];
      x.taken s = true ∧ (x.before s).owned 7 = true ∧ tbit ((x.before s).reg (axU 7) Belay.CAUSES) 2 = true) := by decide +kernel

theorem witness_Axis_positions_complete :
    (let x := sent .axisSetPosition (axU 7) [0xFFFFFFFF, 0xFF];
      x.taken ready = true ∧ (x.before ready).reg (axU 7) Axis.MOTION = 0 ∧ (x.before ready).owned 7 = false ∧ (x.pkt ready).p 1 < 256) ∧
    (let s := withAct ready (axU 7) Axis.MODE 1;
      let x := sent .axisIdentify (axU 7) [10240, 51200];
      let y := sent .axisIdentify (axU 7) [0, 0] 0x100;
      let a := x.before s;
      x.taken s = true ∧ a.reg (axU 7) Axis.MOTION = 0 ∧ (a.axis 7).kept = none ∧ a.act (axU 7) Axis.MODE = 1 ∧ a.owned 7 = false ∧ (x.pkt s).flag 8 = false ∧
      10240 ≤ (x.pkt s).p 0 ∧ (x.pkt s).p 0 ≤ 1024000 ∧ 51200 ≤ (x.pkt s).p 1 ∧
      y.taken s = true ∧ (y.before s).reg (axU 7) Axis.MOTION = 0 ∧ ((y.before s).axis 7).kept = none ∧ (y.before s).act (axU 7) Axis.MODE = 1 ∧ (y.before s).owned 7 = false ∧
      (y.pkt s).flag 8 = true) ∧
    (let s := withAct ready (axU 7) Axis.IN_EN 15;
      let x := sent .axisHome (axU 7) [2, 100000, 100000, 1000000, 0, 1, 0, 255, 0];
      let a := x.before s;
      let q := x.pkt s;
      x.taken s = true ∧ a.reg (axU 7) Axis.MOTION = 0 ∧ a.owned 7 = false ∧ q.p 0 % 8 = 2 ∧ q.p 0 < 32 ∧ tbit (a.act (axU 7) Axis.IN_EN) q.home.switch = true ∧
      tbit (a.act (axU 7) Axis.IN_EN) 3 = true ∧ 1 ≤ q.p 1 ∧ q.p 1 ≤ a.act (axU 7) Axis.VMAX ∧ 1 ≤ q.p 2 ∧ q.p 2 ≤ a.act (axU 7) Axis.VMAX ∧ q.p 2 ≤ q.p 1 ∧ 1 ≤ q.p 3 ∧
      q.p 3 ≤ a.act (axU 7) Axis.AMAX ∧ 1 ≤ q.p 5 ∧ q.p 7 < 256 ∧ q.p 8 = 0) ∧
    (let s := (withAct ready (axU 7) Axis.MODE 1).set (axU 7) Axis.ID_VALID 1;
      let x := sent .axisHome (axU 7) [4, 1, 1, 1, 0, 1, 0, 0, 1000];
      let a := x.before s;
      let q := x.pkt s;
      x.taken s = true ∧ q.p 0 % 8 = 4 ∧ a.act (axU 7) Axis.MODE ≠ 2 ∧ a.reg (axU 7) Axis.ID_VALID = 1 ∧ 1 ≤ q.p 8 ∧ q.p 8 ≤ a.act (axU 7) Axis.I_RUN) ∧
    (sent .axisHome (axU 7) [6, 1, 1, 1, 0, 1, 0, 0, 0]).taken ready = true := by decide +kernel

theorem witness_Light_packets_complete :
    (let x := sent .lampCal (lampU 7) [0];
      x.taken ready = true ∧ (x.pkt ready).p 0 = 0 ∧ (x.before ready).lampPort 7 = none) ∧
    (let s := withAct (withAct ready (lampU 7) Lamp.BOUND 1) (strU 7 4) Str.ROLE 3;
      let x := sent .lampCal (lampU 7) [1];
      x.taken s = true ∧ (x.pkt s).p 0 = 1 ∧ (x.before s).lampPort 7 = some 0 ∧ ((x.before s).port 0).jobOn = false ∧ (x.before s).calSlots 7 1 = 4 :: []) ∧
    (let s := withAct (withAct (withAct ready (lampU 7) Lamp.BOUND 1) (pipeU 0) Pipe.WT_SRC 1) (strU 7 4) Str.ROLE 2;
      let x := sent .lampCal (lampU 7) [2];
      let a := x.before s;
      x.taken s = true ∧ (x.pkt s).p 0 = 2 ∧ a.lampPort 7 = some 0 ∧ (a.port 0).jobOn = false ∧ (a.port 0).capture = none ∧ a.act (pipeU 0) Pipe.WT_SRC ≠ 0 ∧
      a.calSlots 7 2 = 4 :: []) ∧
    (let x := sent .chainLoad chainU [64, 0, 64 * cdiv (chainN memory memory.active) 512];
      let a := x.before memory;
      x.taken memory = true ∧ ((x.pkt memory).p 1 * 2 ^ 32 + (x.pkt memory).p 0) % 64 = 0 ∧ (x.pkt memory).p 2 = 64 * cdiv (chainN a a.active) 512 ∧
      a.inDram ((x.pkt memory).p 1 * 2 ^ 32 + (x.pkt memory).p 0) (64 * cdiv (chainN a a.active) 512) = true) := by decide +kernel

theorem witness_Recipe_packets_complete :
    (let s := able 0 ready;
      let x := sent .recipeLoad devU [0, 0, 320, 1023];
      let a := x.before s;
      x.taken s = true ∧ (x.pkt s).p 3 < 1024 ∧ a.slotInUse 1023 = false ∧ (x.pkt s).flag 8 = false ∧ (x.pkt s).p 1 * 2 ^ 32 + (x.pkt s).p 0 = 0 ∧ (x.pkt s).p 2 = 320 ∧ 320 % 64 = 0 ∧
      a.inDram 0 (min 65536 (max 256 320)) = true ∧ a.readError 0 320 none = none ∧ (a.recChecks 0 320).isRight = true ∧ a.slotRec 1023 = none) ∧
    (let x := sent .recipeLoad devU [0, 0, 0, 0] 0x100;
      x.taken ready = true ∧ (x.pkt ready).p 3 < 1024 ∧ (x.before ready).slotInUse 0 = false ∧ (x.pkt ready).flag 8 = true) ∧
    ((sent .recipeInfo devU [1023]).taken ready = true ∧ ((sent .recipeInfo devU [1023]).pkt ready).p 0 < 1024) := by decide +kernel

/-- The staged job of slot 1023. -/
def staged : State := (memory.set devU Job.JOB_STATE 2).set devU Job.STAGED_SLOT 1023
theorem witness_Job_packets_complete :
    (let s : State := { able (slotBaseR 1023) memory with slots := [(1023, slotRec0)] };
      let x := sent .jobStage devU [1023];
      let a := x.before s;
      x.taken s = true ∧ (x.pkt s).p 0 < 1024 ∧ a.noStageBank = false ∧ a.jobState = 0 ∧ a.stageRefuse ((x.pkt s).p 0) = none) ∧
    (let s := memory.set devU Job.JOB_STATE 1;
      (sent .jobUnstage devU []).taken s = true ∧ ((sent .jobUnstage devU []).before s).jobState = 1) ∧
    ((sent .jobUnstage devU []).taken memory = true ∧ ((sent .jobUnstage devU []).before memory).jobState = 0) ∧
    ((sent .jobUnstage devU []).taken staged = true ∧ ((sent .jobUnstage devU []).before staged).jobState = 2) ∧
    (let x := sent .jobStart devU [1023, 7];
      let a := x.before staged;
      let q := x.pkt staged;
      x.taken staged = true ∧ bits (q.p 0) 15 10 = 0 ∧ q.p 0 / 2 ^ 24 = 0 ∧ q.flag 9 = false ∧ bits (q.p 0) 23 16 = 0 ∧ a.reg devU Job.END_PENDING = 0 ∧ q.flag 8 = false ∧
      a.jobState = 2 ∧ a.reg devU Job.STAGED_SLOT = q.p 0 % 1024 ∧ a.startRefuse (a.scopePorts a.job.scope) = none ∧ a.scopeBusy a.job.scope = false ∧
      a.job.scope.any a.aborting = false) ∧
    (let s := withAct staged ropeU Rope.ROLE 1;
      let x := sent .jobStart devU [1023 + 255 * 65536, 7] 0x200;
      x.taken s = true ∧ (x.pkt s).flag 9 = true ∧ 1 ≤ bits ((x.pkt s).p 0) 23 16 ∧ (x.before s).role = 1) ∧
    (let x := sent .jobStart devU [0, 7] 0x100;
      let a := x.before memory;
      x.taken memory = true ∧ (x.pkt memory).flag 8 = true ∧ a.noStageBank = false ∧ a.jobState = 0 ∧ a.reg devU Job.END_PENDING = 0 ∧
      a.startRefuse (a.scopePorts (a.slotScope ((x.pkt memory).p 0 % 1024))) = none ∧ a.scopeBusy (a.slotScope ((x.pkt memory).p 0 % 1024)) = false ∧
      (a.slotScope ((x.pkt memory).p 0 % 1024)).any a.aborting = false) ∧
    (let s : State := { able (slotBaseR 1023) staged with slots := [(1023, slotRec0)] };
      let x := sent .jobStart devU [1023, 7] 0x100;
      let a := x.before s;
      x.taken s = true ∧ (x.pkt s).flag 8 = true ∧ a.noStageBank = false ∧ a.jobState = 2 ∧ a.reg devU Job.END_PENDING = 0 ∧
      a.slotScope ((x.pkt s).p 0 % 1024) ≠ [] ∧ a.startRefuse (a.scopePorts (a.slotScope ((x.pkt s).p 0 % 1024))) = none ∧
      a.scopeBusy (a.slotScope ((x.pkt s).p 0 % 1024)) = false ∧ (a.slotScope ((x.pkt s).p 0 % 1024)).any a.aborting = false) ∧
    (let s := memory.set devU Job.ACTIVE_VALID 1;
      let x := sent .jobEnd devU [];
      let a := x.before s;
      x.taken s = true ∧ a.reg devU Job.ACTIVE_VALID = 1 ∧ a.reg devU Job.END_PENDING = 0 ∧ a.jobState ≠ 3 ∧ a.jobState ≠ 4) ∧
    (let s := (memory.set devU Job.ACTIVE_VALID 1).set devU Job.JOB_STATE 3;
      let x := sent .jobEnd devU [] 0x100;
      x.taken s = true ∧ (x.before s).reg devU Job.ACTIVE_VALID = 1 ∧ (x.before s).reg devU Job.END_PENDING = 0 ∧ (x.before s).jobState = 3 ∧ (x.pkt s).flag 8 = true) := by decide +kernel

theorem witness_Device_packets_complete :
    (let s := (withAct ready ropeU Rope.ROLE 2).setLink 4 2 0;
      let x := sent .ropeMark ropeU [2 ^ 18 - 1, 5];
      let a := x.before s;
      x.taken s = true ∧ (x.pkt s).p 0 < 2 ^ 18 ∧ a.role ≠ 0 ∧ a.reg ropeU Rope.UP_STATE = 2 ∧ (∀ p, p < 5 → ((a.pitch p).wait.filter (fun m => m.typ == 5)).length < 16)) ∧
    (let x := sent .memRetire memU [0x1000, 0];
      let a := x.before memory;
      x.taken memory = true ∧ (x.pkt memory).flag 8 = false ∧ a.inDram ((x.pkt memory).addr 0) 1 = true ∧ (x.pkt memory).addr 0 < a.reserveBase * 2 ^ 20 ∧
      a.pageRetired ((x.pkt memory).addr 0 / 4096) = false ∧ a.memS.copies = [] ∧ a.reserveUsed < a.reservePages) ∧
    ((sent .memRetire memU [0, 0] 0x100).taken memory = true ∧ ((sent .memRetire memU [0, 0] 0x100).pkt memory).flag 8 = true) ∧
    (sent .spareLedger devU []).taken ready = true ∧
    ((sent .logRead devU [0, 126]).taken ready = true ∧ 1 ≤ ((sent .logRead devU [0, 126]).pkt ready).p 1 ∧ ((sent .logRead devU [0, 126]).pkt ready).p 1 ≤ 126) ∧
    (let x := sent .powerSet devU [0, 0x100000];
      let a := x.before memory;
      let on := (x.pkt memory).p 0;
      let off := (x.pkt memory).p 1;
      let stat := a.reg devU Pd.PD_STAT;
      let next := (List.range 24).foldl (fun (m : Nat) d => m + b2n ((tbit stat d || tbit on d) && !tbit off d) * 2 ^ d) 0;
      x.taken memory = true ∧ on < 2 ^ 24 ∧ off < 2 ^ 24 ∧ (on &&& off) = 0 ∧ tbit on 14 = tbit on 15 ∧ tbit off 14 = tbit off 15 ∧
      (∀ d, d < 24 → tbit on d = true ∨ tbit off d = true → d ≠ 0 ∧ d ≠ 13 ∧ d ≠ 16 ∧ d ≠ 17) ∧ a.part.part ≠ 0x8140 ∧ powerDep next on = none ∧
      (∀ d, d ∈ maskBits off → tbit stat d = true → a.mayGoOff d = true)) := by decide +kernel

def lockedOwner : State := (ownedBy ready 0x83 [3]
  0x1a51bd6ff317d0ba74ee3615ab057b18d0afc7c7d91fc7c9644a5bbae7d37e2fbf3c1c2e7fd0e7fdc12df65c8c5d64d9e6887d4d5f88470051e987394ef0a01f6b9).set secU Sec.POLICY 0x80000000
def lockedInstall : State := (ownedBy ready 0x84 (0 :: keyWords)
  0x1f73d64b141c7ef8670192542894a2addae3db914627d1ae79c1a72452f0cec2af2b036648b9c7a99e501d2ccb033c36dbf2004109a59b393f5f9ddac5dfd7e8b11).set secU Sec.POLICY 0x80000000
def lockedRevoke : State := (ownedBy ready 0x85 [3]
  0xa353efa6a3e8bed01656df25e80425ac073571205261409cc5f5042fefca7ea8820f60fc5cf327a6198bd662dfd337202e52518527101cd1e8dab89e9d3acf56cd).set secU Sec.POLICY 0x80000000
def debugging : State := ownedBy ready 0x89 [1]
  0x198d45cb644a759ae15f116d427aee628306e860c9edb77d8bbc118977a1ba899639d610bbeea4e4a3017dd0f1ffd4dc08ec498768643a043a037d06780b3763f17
theorem witness_Owner_packets_complete :
    (let x := sent .policySet secU [3];
      let a := x.before ready;
      x.taken ready = true ∧ a.locked = false ∧ tbit ((x.pkt ready).p 0) 31 = false ∧ (x.pkt ready).p 0 % 2 ^ 31 < 4) ∧
    (let x := sent .policySet secU (3 :: packed (ownerSig 0x83 [3]));
      let s := lockedOwner;
      x.taken s = true ∧ (x.before s).locked = true ∧
      ((x.before s).ownerAuth (x.pkt s).op ((x.pkt s).params.take 1) (paramBytes (x.pkt s).params 1 132)).2 = .inr (List.replicate 64 12) ∧
      tbit ((x.pkt s).p 0) 31 = false ∧ (x.pkt s).p 0 % 2 ^ 31 < 4 ∧ x.params.length = 34) ∧
    (let x := sent .keyInstall secU (3 :: keyWords);
      let key := paramBytes (x.pkt ready).params 1 136;
      x.taken ready = true ∧ (x.before ready).locked = false ∧ (x.pkt ready).p 0 < 4 ∧ keyOk (key.take 133) = true ∧ (key.drop 133).all (· == 0) = true) ∧
    (let x := sent .keyInstall secU (0 :: keyWords ++ packed (ownerSig 0x84 (0 :: keyWords)));
      let s := lockedInstall;
      let key := paramBytes (x.pkt s).params 1 136;
      x.taken s = true ∧ (x.before s).locked = true ∧ x.params.length = 68 ∧
      ((x.before s).ownerAuth (x.pkt s).op ((x.pkt s).params.take 35) (paramBytes (x.pkt s).params 35 132)).2 = .inr (List.replicate 64 12) ∧
      (x.pkt s).p 0 < 4 ∧ keyOk (key.take 133) = true ∧ (key.drop 133).all (· == 0) = true) ∧
    (let x := sent .keyRevoke secU (3 :: packed (ownerSig 0x85 [3]));
      let s := lockedRevoke;
      x.taken s = true ∧ (x.before s).locked = true ∧ x.params.length = 34 ∧ (x.pkt s).p 0 < 4 ∧
      ((x.before s).ownerAuth (x.pkt s).op ((x.pkt s).params.take 1) (paramBytes (x.pkt s).params 1 132)).2 = .inr (List.replicate 64 12)) ∧
    (let x := sent .keyRevoke secU [3];
      x.taken ready = true ∧ (x.before ready).locked = false ∧ (x.pkt ready).p 0 < 4) ∧
    (let s : State := { ready with sec := { ready.sec with ownerPub := keyG } };
      let x := sent .ownerFuse secU (keyWords ++ [0x4F574E52]);
      let key := paramBytes (x.pkt s).params 0 136;
      x.taken s = true ∧ (x.before s).sec.ownerHash = [] ∧ keyOk (key.take 133) = true ∧ key.take 133 = (x.before s).sec.ownerPub ∧ (key.drop 133).all (· == 0) = true ∧
      (x.pkt s).p 34 = 0x4F574E52) ∧
    (sent .authChallenge secU []).taken ready = true ∧
    ((sent .fwAccept secU []).taken ready = true ∧ ((sent .fwAccept secU []).before ready).reg secU Sec.TRIAL = 0) ∧
    (let s := ready.set secU Sec.TRIAL 1;
      (sent .fwAccept secU []).taken s = true ∧ ((sent .fwAccept secU []).before s).reg secU Sec.TRIAL ≠ 0) ∧
    (let x := sent .debugUnlock secU (1 :: packed (ownerSig 0x89 [1]));
      let s := debugging;
      x.taken s = true ∧ x.params.length = 34 ∧ (x.pkt s).p 0 = 1 ∧
      ((x.before s).ownerAuth (x.pkt s).op ((x.pkt s).params.take 1) (paramBytes (x.pkt s).params 1 132)).2 = .inr (List.replicate 64 12)) ∧
    (sent .debugRelock secU []).taken ready = true := by decide +kernel

theorem witness_Trust_packets_complete :
    (let x := sent .idCert secU [64, 0, 8192];
      x.taken ready = true ∧ (x.pkt ready).addr 0 % 64 = 0 ∧ 8192 ≤ (x.pkt ready).p 2) ∧
    (let x := sent .attest secU (List.replicate 16 0 ++ [64, 1]);
      x.taken ready = true ∧ (x.pkt ready).addr 16 % 64 = 0) ∧
    (let s := ready.set secU Sec.AUDIT_SEQ 4096;
      let x := sent .auditExport secU ([0, 4096] ++ List.replicate 16 0 ++ [64, 0, 128 * 4096 + 512]);
      let a := x.before s;
      x.taken s = true ∧ a.auditOldest ≤ (x.pkt s).p 0 ∧ (x.pkt s).p 0 < a.reg secU Sec.AUDIT_SEQ ∧ 1 ≤ (x.pkt s).p 1 ∧ (x.pkt s).p 1 ≤ 4096 ∧ (x.pkt s).addr 18 % 64 = 0 ∧
      128 * (x.pkt s).p 1 + 512 ≤ (x.pkt s).p 20) ∧
    (let x := sent .bundleExport secU [0, 0, 0, 0, 64, 0, 131072];
      x.taken ready = true ∧ (x.pkt ready).addr 4 % 64 = 0 ∧ 131072 ≤ (x.pkt ready).p 6) ∧
    (let x := sent .bundleImport secU [64, 0, 131072];
      x.taken memory = true ∧ (x.pkt memory).addr 0 % 64 = 0 ∧ (x.before memory).inDram ((x.pkt memory).addr 0) ((x.pkt memory).p 2) = true ∧ (x.pkt memory).p 2 ≤ 131072) ∧
    (let x := sent .fwUpdate secU [64, 0];
      x.taken memory = true ∧ (x.pkt memory).addr 0 % 64 = 0 ∧ (x.before memory).inDram ((x.pkt memory).addr 0) 0x308 = true) := by decide +kernel

theorem witness_Step_runs_the_front_command : State.reset.pending = [] := rfl

theorem witness_Part_and_clock_hold_in_every_step : live.holds Part.default 0 ∧ step live = .next live :=
  ⟨⟨rfl, Nat.le_refl 0, fun f i hw hp => by simp [State.bar0Field, hw, hp, live, State.reset], fun u h => by simp [fusedOff, Part.default] at h⟩, rfl⟩

theorem witness_Commands_reach_the_device_by_their_kind :
    ((State.reset.advance 0).sys.inReset = true ∧ reachOf (.resyncUrgent 0) ≠ .always ∧ reachOf (.resyncUrgent 0) ≠ .pins) ∧
    (((frozen true).advance 0).frozen = true ∧ reachOf (.jobBoundary 0) = .event ∧ reachOf (.triggerSlot 0) = .seqEvent) ∧
    (let a := ({ live with d3hot := true } : State).advance 0;
      a.d3hot = true ∧ a.sys.inReset = false ∧ reachOf (.resyncUrgent 0) = .reads ∧ reachOf (.softFire 0) = .writes) := by decide +kernel

theorem witness_Rows_leave_what_is_not_theirs :
    (∃ r, exec (.jobBoundary 0) live = .next r) ∧ reachOf (.jobBoundary 0) = .event ∧ (∃ r, exec (.softFire 0) live = .next r) ∧ reachOf (.softFire 0) = .writes ∧
    (∃ r, exec (.triggerSlot 0) live = .next r) ∧ reachOf (.triggerSlot 0) = .seqEvent ∧
    (∃ r, exec (.d3hotEntry 0) State.reset = .next r) ∧ reachOf (.d3hotEntry 0) ≠ .always ∧ State.reset.sys.inReset = true :=
  ⟨⟨_, rfl⟩, rfl, ⟨_, rfl⟩, rfl, ⟨_, rfl⟩, rfl, ⟨_, rfl⟩, by decide, rfl⟩

theorem witness_Packets_are_checked_then_run :
    (let x := sent .unitWrite (lcU 7) (List.replicate 255 0xFFFFFFFF);
      (ready.advance x.at_).admits x.urgent x.op.code x.params.length = true ∧ x.params.all (· < 2 ^ 32) = true ∧ x.fails = [] ∧
      (x.before ready).pktCheck (x.pkt ready) = .inr (St.BAD_LENGTH, [254])) ∧
    (let x := { sent .resetUnit (portU 7) [1] with fails := [3] };
      (ready.advance x.at_).admits x.urgent x.op.code x.params.length = true ∧ x.params.all (· < 2 ^ 32) = true ∧ x.op = .resetUnit ∧
      (x.before ready).pktCheck (x.pkt ready) = .inr (St.BAD_LENGTH, [0])) ∧
    (let x := sent .getStatus (axU 7) [];
      (ready.advance x.at_).admits x.urgent x.op.code x.params.length = true ∧ (x.before ready).pktCheck (x.pkt ready) = .inl x.op ∧ x.op ≠ .abort ∧ x.op ≠ .resetUnit) := by
  decide +kernel

theorem witness_Packet_words_give_the_packet_back :
    65535 < 65536 ∧ (List.replicate 255 0).length ≤ 255 ∧ 256 < (pktWords Op.unitWrite.code 65535 65535 65535 (List.replicate 255 0)).length ∧
    opOf Op.unitWrite.code = opOf Op.unitWrite.code := by decide +kernel

/-- A reply FIFO with n words. -/
def replies (n : Nat) : State := { live with reply := { words := List.replicate n (0, false) } }
theorem witness_Replies_leave_room_for_urgent :
    (let k := pktOf false [0x10000000, 0] 5;
      k.urgent = false ∧ (tbit k.flags 1 && St.OK == St.OK) = false ∧ (replies 1980).skewed 7 0 = false ∧ (replies 1980).reply.held = [] ∧ (replies 1980).reply.words.length + (replyWords k.urgent St.OK k.tag k.seq []).length + 64 ≤ 2048 ∧
      2048 < (replies 1981).reply.words.length + (replyWords k.urgent St.OK k.tag k.seq []).length + 64 ∧
      (replies 1981).reply.words = (0, false) :: List.replicate 1980 (0, false) ∧
      (List.replicate 1980 (0, false)).length + (replyWords k.urgent St.OK k.tag k.seq []).length + 64 ≤ 2048 ∧
      (replies 1982).reply.words = (0, false) :: List.replicate 1981 (0, false) ∧
      2048 < (List.replicate 1981 (0, false)).length + (replyWords k.urgent St.OK k.tag k.seq []).length + 64 ∧
      (((replies 1982).answer k St.OK []).advance 0).isLive = true ∧ ({ live with reply := { held := [[1]] } } : State).reply.held ≠ []) ∧
    (let k := pktOf true [0x05000000, 0] 5;
      k.urgent = true ∧ (tbit k.flags 1 && St.OK == St.OK) = false ∧ (replies 2044).reply.words.length + (replyWords k.urgent St.OK k.tag k.seq []).length ≤ 2048 ∧
      2048 < (replies 2045).reply.words.length + (replyWords k.urgent St.OK k.tag k.seq []).length ∧
      ((replies 2045).set bar0 Map.IRQ_EN 1 Ev.CMD_OVERFLOW).reg bar0 Map.IRQ_EN Ev.CMD_OVERFLOW ≠ 0) := by decide +kernel

theorem witness_Thaw_waits_for_the_pin :
    ((sent .thaw devU []).taken (frozen true) = true ∧ ((frozen true).advance 0).pow.pinLow = true) ∧
    ((sent .thaw devU []).taken (frozen false) = true ∧ ((frozen false).advance 0).pow.pinLow = false ∧ ((frozen false).advance 0).frozen = true) := by decide +kernel

theorem witness_Fields_follow_their_access_codes :
    (Pace.SUPPLY_REQ_EN.acc = .rw ∧ regKey (axU 7) 0 Axis.VMAX 0 ≠ regKey (axU 6) 0 Axis.VMAX 0) ∧
    (RefSt.STAGE_LOST.acc = .w1c ∧ live.regC refU 0 RefSt.STAGE_LOST 0 < 2 ^ RefSt.STAGE_LOST.width) ∧
    (Chain.CHAIN_RESTART.acc = .w1s ∧ live.regC chainU 0 Chain.CHAIN_RESTART 0 < 2 ^ Chain.CHAIN_RESTART.width) ∧ Lc.EST_STATE.acc = .ro ∧ Tim.DENIED.acc = .rc ∧
    Pace.MIN_CLEAR.acc = .wo ∧ (Port.SHUTTER.acc = .sh ∧ (live.part.part == 0x8140 && Port.SHUTTER.name == "SHUTTER") = false) := by decide +kernel

/-- Four commits of a line clock that pend, and a set open. -/
def pends : State :=
  { live with commits := List.replicate 4 { uid := lcU 7, seq := 1, kind := .job, snap := [], notify := false, staged := false, at_ := 0 } }
theorem witness_Commits_pend_four_deep :
    (pends.queueing (lcU 7)).find? (fun v => decide (4 ≤ (pends.commits.filter (fun c => c.uid == v)).length)) = some (lcU 7) ∧
    (pends.commits.filter (fun c => c.uid == lcU 7)).length ≤ 4 := by decide +kernel

theorem witness_Event_ring_takes_counts_and_reports :
    ((live.set bar0 Evt.EVT_WR 4095).reg bar0 Evt.EVT_WR + 1 = 4096 ∧ (live.set bar0 Evt.EVT_WR 4095).reg bar0 Evt.WR_PHASE ≤ 1) ∧
    live.reg bar0 Evt.EVT_WR + 1 ≠ 4096 ∧
    (let s := live.set bar0 Evt.ENABLE 1;
      s.reg bar0 Map.RING_EN 0x41 = 1 ∧ s.reg bar0 Evt.EVT_LOST = 0 ∧ s.evtRoom = true) ∧
    (let s := (live.set bar0 Map.RING_EN 0 255).set bar0 Map.IRQ_EN 0 255;
      s.reg bar0 Map.RING_EN 255 = 0 ∧ s.reg bar0 Map.IRQ_EN 255 = 0) ∧
    (live.reg bar0 Map.RING_EN 0x41 = 1 ∧ (live.set bar0 Evt.EVT_LOST 1).reg bar0 Evt.EVT_LOST ≠ 0 ∧ live.evtRoom = false) ∧ live.reg bar0 Map.RING_EN 0x40 = 0 ∧
    (tbit 1 31 = false ∧ (live.reg bar0 Evt.EVT_WR + 4096 - live.reg bar0 Evt.EVT_RD) % 4096 < (1 % 4096 + 4096 - live.reg bar0 Evt.EVT_RD) % 4096) ∧
    (let s := ((live.set bar0 Evt.EVT_WR 4095).set bar0 Evt.EVT_LOST 3).set bar0 Evt.ENABLE 1;
      tbit 4094 31 = false ∧ (4094 % 4096 + 4096 - s.reg bar0 Evt.EVT_RD) % 4096 ≤ (s.reg bar0 Evt.EVT_WR + 4096 - s.reg bar0 Evt.EVT_RD) % 4096 ∧
      s.reg bar0 Evt.EVT_LOST ≠ 0 ∧ (s.set bar0 Evt.EVT_RD (4094 % 4096)).evtRoom = true) := by decide +kernel

theorem witness_Memory_reads_what_was_written : 1 < [5, 6].length ∧ 2 ^ 32 - 1 < 2 ^ 32 ∧ 2 ^ 64 - 1 < 2 ^ 64 ∧ (9 < 10 ∨ 10 + [5, 6].length ≤ 9) := by decide

end Sys2Proof.Tests
end

section
/-! The device as a whole: every command ends in the one way that keeps the part and never turns the clock back (R4, R8, R68). -/
namespace Sys2Proof.Machine

/-- Whatever a command does, it ends as `State.ends` says, at its own instant: every way of meeting the device is built on `State.always`. -/
theorem exec_ends (c : Instr) (s : State) : ∃ r, exec c s = .next (s.ends c.at_ r) := by
  cases c <;> exact ⟨_, rfl⟩

/-- The identity block and what is fused off are read from the part alone, so the invariant is about the part and the clock. -/
theorem State.holds_iff (s : State) (p : Part) (t0 : Nat) : s.holds p t0 ↔ s.part = p ∧ t0 ≤ s.now := by
  refine ⟨fun ⟨hpart, hnow, _⟩ => ⟨hpart, hnow⟩, ?_⟩
  rintro ⟨rfl, hnow⟩
  exact ⟨rfl, hnow, fun f i hwo hp => by simp [State.bar0Field, hwo, hp], fun u hu => by simp [State.stOf, hu]⟩

theorem State.now_le_ends (s : State) (t : Nat) (r : State) : s.now ≤ (s.ends t r).now :=
  Nat.le_trans (s.now_le_advance t) (Nat.le_max_left _ _)

/-- A step keeps the part and does not turn the clock back; an empty queue idles (log entry 17). -/
theorem step_part_now (s r : State) (h : step s = .next r) : r.part = s.part ∧ s.now ≤ r.now := by
  unfold step at h
  split at h
  · cases h; exact ⟨rfl, Nat.le_refl _⟩
  · next c rest _ =>
    obtain ⟨x, hx⟩ := exec_ends c { s with pending := rest }
    rw [hx] at h
    cases h
    exact ⟨rfl, State.now_le_ends { s with pending := rest } c.at_ x⟩

/-- Settles O49: every command ends with the part it met and a clock that has not run back. -/
theorem partAndClockHoldInEveryStep : Obligations.Part_and_clock_hold_in_every_step := by
  intro p t0 s r hs hstep
  obtain ⟨hpart, hnow⟩ := (s.holds_iff p t0).1 hs
  obtain ⟨hp, ht⟩ := step_part_now s r hstep
  exact ⟨(r.holds_iff p t0).2 ⟨hp.trans hpart, Nat.le_trans hnow ht⟩, ht⟩

/-- Settles O50. -/
theorem partAndClockHoldAtReset : Obligations.Part_and_clock_hold_at_reset :=
  (State.holds_iff _ _ _).2 ⟨rfl, Nat.le_refl _⟩

end Sys2Proof.Machine
end

section
/-! Byte memories: what is read after a write (R7, R72, R73). -/
namespace Sys2Proof.Machine

/-- A byte listed is found, whatever stood at its address. -/
theorem Mem.at?_ins_self (m : Mem) (a : Nat) (b : Byte) : Mem.at? (Mem.ins m a b) a = some b := by
  induction m with
  | nil => simp [Mem.ins, Mem.at?]
  | cons c m ih =>
    unfold Mem.at? at *
    simp only [Mem.ins]
    split
    · next hc => simpa [Nat.ne_of_lt hc] using ih
    · split <;> simp

theorem Mem.at?_ins_ne (m : Mem) (a y : Nat) (b : Byte) (h : y ≠ a) : Mem.at? (Mem.ins m a b) y = Mem.at? m y := by
  have hb : (a == y) = false := by simp [h.symm]
  induction m with
  | nil => simp [Mem.ins, Mem.at?, hb]
  | cons c m ih =>
    unfold Mem.at? at *
    simp only [Mem.ins]
    split
    · simp only [List.find?_cons]
      split
      · rfl
      · exact ih
    · split
      · next hc => simp [hc, hb]
      · simp [hb]

theorem Mem.get_put_self (m : Mem) (a : Nat) (b : Byte) : Mem.get (Mem.put m a b) a = b := by
  unfold Mem.put Mem.get
  split
  · next hb =>
    have hgone : Mem.at? (m.filter (fun c => c.1 != a)) a = none := by simp [Mem.at?, List.find?_filter]
    rw [hgone, hb, Option.getD_none]
  · simp [Mem.at?_ins_self]

theorem Mem.get_put_ne (m : Mem) (a y : Nat) (b : Byte) (h : y ≠ a) : Mem.get (Mem.put m a b) y = Mem.get m y := by
  unfold Mem.put Mem.get
  split
  · have hkeep : (fun c : Host.Cell => decide ((c.1 != a) = true ∧ (c.1 == y) = true)) = fun c => c.1 == y := by
      funext c
      by_cases hc : c.1 = y <;> simp [hc, h]
    simp only [Mem.at?, List.find?_filter, hkeep]
  · rw [Mem.at?_ins_ne _ _ _ _ h]

/-- A write leaves every address outside it alone. -/
theorem Mem.get_write_outside (m : Mem) (a y : Nat) (bs : List Nat) (h : y < a ∨ a + bs.length ≤ y) : Mem.get (Mem.write m a bs) y = Mem.get m y := by
  induction bs generalizing m a with
  | nil => rfl
  | cons b bs ih =>
    rw [List.length_cons] at h
    rw [Mem.write, ih _ _ (by omega), Mem.get_put_ne _ _ _ _ (by omega)]

/-- Each byte of a write reads back, cut to eight bits. -/
theorem Mem.get_write_inside (m : Mem) (a i : Nat) (bs : List Nat) (h : i < bs.length) : (Mem.get (Mem.write m a bs) (a + i)).toNat = nth bs i % 256 := by
  induction bs generalizing m a i with
  | nil => simp at h
  | cons b bs ih =>
    cases i with
    | zero => rw [Mem.write, Mem.get_write_outside _ _ _ _ (by omega), Nat.add_zero, Mem.get_put_self]; simp [nth, byte]
    | succ i => rw [Mem.write, show a + (i + 1) = a + 1 + i by omega, ih _ _ _ (by simpa using h)]; rfl

theorem ofLe_leBytes (k n : Nat) : ofLe (leBytes k n) = n % 256 ^ k := by
  induction k generalizing n with
  | zero => simp [leBytes, ofLe, Nat.mod_one]
  | succ k ih => rw [leBytes, ofLe, ih, Nat.pow_succ', Nat.mod_mul]

theorem Mem.read_write_leBytes (m : Mem) (a k n : Nat) : Mem.read (Mem.write m a (leBytes k n)) a k = leBytes k n := by
  induction k generalizing m a n with
  | zero => rfl
  | succ k ih =>
    rw [leBytes, Mem.write, Mem.read, ih, Mem.get_write_outside _ _ _ _ (by omega), Mem.get_put_self]
    simp [byte]

/-- Settles O60, by induction on the bytes written and on the bytes of a little-endian word. -/
theorem memoryReadsWhatWasWritten : Obligations.Memory_reads_what_was_written := by
  intro m a bs
  refine ⟨fun i => m.get_write_inside a i bs, fun y => m.get_write_outside a y bs, fun n hn => ?_, fun n hn => ?_⟩
  · rw [Mem.rd32, Mem.read_write_leBytes, ofLe_leBytes]; exact Nat.mod_eq_of_lt hn
  · rw [Mem.rd64, Mem.read_write_leBytes, ofLe_leBytes]; exact Nat.mod_eq_of_lt hn

end Sys2Proof.Machine
end

section
/-! Register fields: what a write of a field does, by its access code (R9, R42). -/
namespace Sys2Proof.Machine

/-- Joining changes the open sets alone, and the unit has one after it (R42). -/
theorem State.join_eq (s : State) (u : Nat) (c : Change) : ∃ o, s.join u c = { s with openSets := o } ∧ o.any (fun p => p.1 == u) = true := by
  unfold State.join
  split
  · exact ⟨_, rfl, by simp⟩
  · next p hp =>
    have hmem := List.mem_of_find?_eq_some hp
    have hu : p.1 = u := by simpa using List.find?_some hp
    split
    · exact ⟨_, rfl, by simpa using ⟨p.1, p.2, hmem, by simp [hu]⟩⟩
    · exact ⟨_, rfl, List.any_eq_true.2 ⟨p, hmem, by simp [hu]⟩⟩

/-! ### A write, access code by access code -/

theorem State.writeField_rw (s : State) (u ctx : Nat) (f : Field) (i v : Nat) (h : f.acc = .rw) : s.writeField u ctx f i v = s.setC u ctx f i v := by
  simp [State.writeField, h]
theorem State.writeField_unchanged (s : State) (u ctx : Nat) (f : Field) (i v : Nat) (h : f.acc = .ro ∨ f.acc = .wo ∨ f.acc = .rc) :
    s.writeField u ctx f i v = s := by
  rcases h with h | h | h <;> simp [State.writeField, h]
theorem State.writeField_w1c (s : State) (u ctx : Nat) (f : Field) (i v : Nat) (h : f.acc = .w1c) : s.writeField u ctx f i v =
    if v % 2 ^ f.width = 0 then s else s.setC u ctx f i (s.regC u ctx f i &&& (2 ^ f.width - 1 - v % 2 ^ f.width)) := by
  simp [State.writeField, h]
theorem State.writeField_w1s (s : State) (u ctx : Nat) (f : Field) (i v : Nat) (h : f.acc = .w1s) : s.writeField u ctx f i v =
    if v % 2 ^ f.width = 0 then s else s.setC u ctx f i (s.regC u ctx f i ||| v % 2 ^ f.width) := by
  simp [State.writeField, h]
theorem State.writeField_sh (s : State) (u ctx : Nat) (f : Field) (i v : Nat) (h : f.acc = .sh) (hs : (s.part.part == 0x8140 && f.name == "SHUTTER") = false) :
    ∃ o, s.writeField u ctx f i v = { s with shadow := putVal s.part s.shadow u ctx f i v, openSets := o } ∧ o.any (fun p => p.1 == u) = true := by
  obtain ⟨o, ho, hany⟩ := State.join_eq { s with shadow := putVal s.part s.shadow u ctx f i v } u f.chg
  exact ⟨o, by simpa [State.writeField, h, hs] using ho, hany⟩

/-- All that a write can do: nothing, put the field into the live registers, or put it into the shadow and join the open set. -/
theorem State.writeField_cases (s : State) (u ctx : Nat) (f : Field) (i v : Nat) :
    s.writeField u ctx f i v = s ∨ (∃ x, s.writeField u ctx f i v = s.setC u ctx f i x) ∨
      ∃ o, s.writeField u ctx f i v = { s with shadow := putVal s.part s.shadow u ctx f i v, openSets := o } := by
  cases h : f.acc with
  | ro => exact .inl (s.writeField_unchanged u ctx f i v (.inl h))
  | wo => exact .inl (s.writeField_unchanged u ctx f i v (.inr (.inl h)))
  | rc => exact .inl (s.writeField_unchanged u ctx f i v (.inr (.inr h)))
  | rw => exact .inr (.inl ⟨v, s.writeField_rw u ctx f i v h⟩)
  | w1c =>
    rw [s.writeField_w1c u ctx f i v h]
    split
    · exact .inl rfl
    · exact .inr (.inl ⟨_, rfl⟩)
  | w1s =>
    rw [s.writeField_w1s u ctx f i v h]
    split
    · exact .inl rfl
    · exact .inr (.inl ⟨_, rfl⟩)
  | sh =>
    by_cases hs : (s.part.part == 0x8140 && f.name == "SHUTTER") = true
    · exact .inl (by simp only [State.writeField, h, hs, if_true])
    · obtain ⟨o, ho, _⟩ := s.writeField_sh u ctx f i v h (by simpa using hs)
      exact .inr (.inr ⟨o, ho⟩)

theorem State.writeField_active (s : State) (u ctx : Nat) (f : Field) (i v : Nat) : (s.writeField u ctx f i v).active = s.active := by
  rcases s.writeField_cases u ctx f i v with h | ⟨x, h⟩ | ⟨o, h⟩ <;> simp [h]

/-- A register other than the one written keeps its value, live and in the shadow. -/
theorem State.writeField_other (s : State) (u ctx : Nat) (f : Field) (i v u' ctx' : Nat) (f' : Field) (i' : Nat) (hk : regKey u' ctx' f' i' ≠ regKey u ctx f i) :
    (s.writeField u ctx f i v).regC u' ctx' f' i' = s.regC u' ctx' f' i' ∧ (s.writeField u ctx f i v).sh u' ctx' f' i' = s.sh u' ctx' f' i' := by
  rcases s.writeField_cases u ctx f i v with h | ⟨x, h⟩ | ⟨o, h⟩ <;> rw [h]
  · exact ⟨rfl, rfl⟩
  · exact ⟨s.regC_setC_ne u ctx f i x u' ctx' f' i' hk, rfl⟩
  · exact ⟨rfl, setVal_putVal_ne s.part s.shadow u ctx f i v u' ctx' f' i' hk⟩

/-- W1C: a bit stays set unless it is written with 1. -/
theorem State.testBit_writeField_w1c (s : State) (u ctx : Nat) (f : Field) (i v b : Nat) (h : f.acc = .w1c) (hw : s.regC u ctx f i < 2 ^ f.width) :
    ((s.writeField u ctx f i v).regC u ctx f i).testBit b = ((s.regC u ctx f i).testBit b && !(v % 2 ^ f.width).testBit b) := by
  rw [s.writeField_w1c u ctx f i v h]
  split
  · next h0 => simp [h0]
  · have hv : v % 2 ^ f.width < 2 ^ f.width := Nat.mod_lt _ (Nat.two_pow_pos _)
    rw [State.regC_setC, Nat.mod_eq_of_lt (Nat.and_lt_two_pow _ (by omega)), Nat.testBit_and, Nat.sub_sub, Nat.add_comm 1, Nat.testBit_two_pow_sub_succ hv]
    by_cases hb : b < f.width
    · simp [hb]
    · rw [Nat.testBit_lt_two_pow (Nat.lt_of_lt_of_le hw (Nat.pow_le_pow_right (by omega) (by omega)))]; rfl

/-- W1S: a bit is set after the write where it was set before or is written with 1. -/
theorem State.testBit_writeField_w1s (s : State) (u ctx : Nat) (f : Field) (i v b : Nat) (h : f.acc = .w1s) (hw : s.regC u ctx f i < 2 ^ f.width) :
    ((s.writeField u ctx f i v).regC u ctx f i).testBit b = ((s.regC u ctx f i).testBit b || (v % 2 ^ f.width).testBit b) := by
  rw [s.writeField_w1s u ctx f i v h]
  split
  · next h0 => simp [h0]
  · have hv : v % 2 ^ f.width < 2 ^ f.width := Nat.mod_lt _ (Nat.two_pow_pos _)
    rw [State.regC_setC, Nat.mod_eq_of_lt (Nat.or_lt_two_pow hw hv), Nat.testBit_or]

/-- Settles O57, access code by access code over what a write can do. -/
theorem fieldsFollowTheirAccessCodes : Obligations.Fields_follow_their_access_codes := by
  intro s u ctx f i v r
  refine ⟨s.writeField_active u ctx f i v, fun u' ctx' f' i' => s.writeField_other u ctx f i v u' ctx' f' i', fun h => ?_, fun h hw b => ?_, fun h hw b => ?_,
    s.writeField_unchanged u ctx f i v, fun h hs => ?_⟩
  · have hr : r = s.setC u ctx f i v := s.writeField_rw u ctx f i v h
    rw [hr]
    exact ⟨s.regC_setC u ctx f i v, rfl, rfl⟩
  · exact s.testBit_writeField_w1c u ctx f i v b h hw
  · exact s.testBit_writeField_w1s u ctx f i v b h hw
  · obtain ⟨o, ho, hany⟩ := s.writeField_sh u ctx f i v h hs
    have hr : r = _ := ho
    rw [hr]
    exact ⟨setVal_putVal s.part s.shadow u ctx f i v, rfl, hany⟩

end Sys2Proof.Machine
end

section
/-! Reads of the host: what pops (R92, R468) and what leaves the device as it is (R8 to R10, R69 to R71). -/
namespace Sys2Proof.Machine
open R

/-- How a command ends does not touch the registers; a field whose reset value is a constant reads the same on every part. -/
theorem State.ends_reg_const (s : State) (t : Nat) (r : State) (u : Nat) (f : Field) (i n : Nat) (h : f.reset = .const n) : (s.ends t r).reg u f i = r.reg u f i := by
  simp only [State.reg, State.regC, State.ends_live, resetOf, h]
@[simp] theorem State.advance_skewed (s : State) (t code i : Nat) : (s.advance t).skewed code i = s.skewed code i := by simp [State.skewed]

/-! ### REPLY_POP -/

theorem State.replyLost_agreeing (s : State) (h : s.skewed 7 0 = false) : s.replyLost = s := by simp [State.replyLost, h]
theorem State.replyRelease_none_held (s : State) (h : s.reply.held = []) : s.replyRelease = s := by simp [State.replyRelease, h]

/-- The registers that show the reply FIFO to the host, and the data of the read that pops the word w. -/
def State.replyShown (s : State) (w : Nat) (wide : Bool) : State :=
  let s := { s with reply := { s.reply with last := w } }.replyRegs
  let s := ((s.set bar0 Cmd.LEVEL s.reply.words.length).set bar0 Cmd.UNDERRUN (b2n s.reply.underrun)).set bar0 Cmd.LENGTH (b2n s.reply.length)
  { s with rdata := if wide then [w, s.replyFlags] else [w] }

@[simp] theorem State.replyShown_words (s : State) (w : Nat) (wide : Bool) : (s.replyShown w wide).reply.words = s.reply.words := rfl
@[simp] theorem State.replyShown_length (s : State) (w : Nat) (wide : Bool) : (s.replyShown w wide).reply.length = s.reply.length := rfl
@[simp] theorem State.replyShown_underrun (s : State) (w : Nat) (wide : Bool) : (s.replyShown w wide).reply.underrun = s.reply.underrun := rfl
@[simp] theorem State.replyShown_dram (s : State) (w : Nat) (wide : Bool) : (s.replyShown w wide).dram = s.dram := by simp [State.replyShown, State.replyRegs]
@[simp] theorem State.replyShown_host (s : State) (w : Nat) (wide : Bool) : (s.replyShown w wide).host = s.host := by simp [State.replyShown, State.replyRegs]
@[simp] theorem State.replyShown_rdata (s : State) (w : Nat) : (s.replyShown w false).rdata = [w] := rfl
/-- A 64-bit read shows the flags above the word popped. -/
theorem State.replyShown_rdata_wide (s : State) (w : Nat) : ∃ hi, (s.replyShown w true).rdata = [w, hi] := ⟨_, rfl⟩

theorem State.replyPop_cons (s : State) (wide : Bool) (w : Nat) (first : Bool) (l : List (Nat × Bool)) (hs : s.skewed 7 0 = false) (hh : s.reply.held = [])
    (hw : s.reply.words = (w, first) :: l) :
    s.replyPop wide = ({ s with reply := { s.reply with words := l, underrun := false, length := first } } : State).replyShown w wide := by
  unfold State.replyPop
  rw [s.replyLost_agreeing hs]
  simp only [hw]
  rw [State.replyRelease_none_held _ (by simpa [State.replyRegs] using hh)]
  rfl

theorem State.replyPop_nil (s : State) (wide : Bool) (hs : s.skewed 7 0 = false) (hh : s.reply.held = []) (hw : s.reply.words = []) :
    s.replyPop wide = (({ s with reply := { s.reply with underrun := true, length := false } } : State).set bar0 Cmd.UNDERRUN_STICKY 1).replyShown s.reply.last wide := by
  unfold State.replyPop
  rw [s.replyLost_agreeing hs]
  simp only [hw]
  rw [State.replyRelease_none_held _ (by simpa [State.replyRegs] using hh)]
  rfl

theorem exec_replyPop (s : State) (t : Nat) (wide : Bool) (h : (s.advance t).reached = true) :
    exec (.replyPop t wide) s = .next (s.ends t ((s.advance t).replyPop wide)) := congrArg _ (s.onBar_ends t _ h)

/-! ### MARK_SRC -/

theorem exec_markSrcRead (s : State) (t : Nat) (h : (s.advance t).reached = true) (hw : (s.advance t).windowOk ropeU = true) :
    exec (.markSrcRead t) s = .next (s.ends t (s.advance t).markPop) := by
  have hr := s.onBar_ends t (fun r => if r.windowOk ropeU then r.markPop else { r with rdata := [0] }) h
  simp only [hw, if_true] at hr
  exact congrArg _ hr

theorem State.markPop_nil (s : State) (h : s.ropeS.marks = []) :
    s.markPop.rdata = [b2n s.ropeS.dropped * 2 ^ 30] ∧ s.markPop.ropeS.dropped = false := by
  simp [State.markPop, h, State.modRope]

/-- What a register shows depends neither on the data of the last read nor on the Rope unit's own store. -/
@[simp] theorem State.rdata_reg (s : State) (ws : List Nat) (u : Nat) (f : Field) (i : Nat) : ({ s with rdata := ws } : State).reg u f i = s.reg u f i := rfl
@[simp] theorem State.modRope_reg (s : State) (g : RopeSt → RopeSt) (u : Nat) (f : Field) (i : Nat) : (s.modRope g).reg u f i = s.reg u f i := rfl

theorem State.markPop_cons (s : State) (src data at64 : Nat) (l : List (Nat × Nat × Nat)) (h : s.ropeS.marks = (src, data, at64) :: l) :
    s.markPop.rdata = [src % 2 ^ 18 + b2n s.ropeS.dropped * 2 ^ 30 + 2 ^ 31] ∧ s.markPop.ropeS.marks = l ∧ s.markPop.ropeS.dropped = false ∧
      s.markPop.reg ropeU Rope.MARK_DATA = data % 2 ^ 32 := by
  refine ⟨by simp [State.markPop, h, State.modRope], by simp [State.markPop, h, State.modRope], by simp [State.markPop, h, State.modRope], ?_⟩
  simp only [State.markPop, h, State.modRope_reg, State.rdata_reg]
  rw [State.reg_set_ne _ _ _ _ _ _ _ _ (by decide), State.reg_set_ne _ _ _ _ _ _ _ _ (by decide), State.reg_set, Rope.MARK_DATA, fld]

/-- Settles O18: with the pointers agreeing and no reply held a read of REPLY_POP is the pop of one word and no more, and a read of MARK_SRC is the pop of one MARK. -/
theorem readsThatPop : Obligations.Reads_that_pop := by
  refine ⟨fun s t hreach hheld hskew => ⟨fun w first l hw => ?_, fun hw => ?_, fun w first l hw => ?_⟩,
    fun s t hreach hok => ⟨fun src data at64 l hm => ?_, fun hm => ?_⟩⟩
  · refine ⟨_, exec_replyPop s t false hreach, ?_⟩
    rw [State.replyPop_cons _ _ w first l (by simpa using hskew) (by simpa using hheld) (by simpa using hw)]
    simp
  · refine ⟨_, exec_replyPop s t false hreach, ?_⟩
    rw [State.replyPop_nil _ _ (by simpa using hskew) (by simpa using hheld) (by simpa using hw)]
    simp [hw]
  · have hpop := (s.advance t).replyPop_cons true w first l (by simpa using hskew) (by simpa using hheld) (by simpa using hw)
    obtain ⟨hi, hdata⟩ := State.replyShown_rdata_wide { s.advance t with reply := { (s.advance t).reply with words := l, underrun := false, length := first } } w
    refine ⟨_, hi, exec_replyPop s t true hreach, ?_⟩
    rw [hpop]
    exact ⟨hdata, rfl⟩
  · obtain ⟨hdata, hmarks, hdropped, hreg⟩ := (s.advance t).markPop_cons src data at64 l (by simpa using hm)
    refine ⟨_, exec_markSrcRead s t hreach hok, by simpa using hdata, hmarks, hdropped, ?_⟩
    rw [State.ends_reg_const _ _ _ _ _ _ 0 rfl, hreg]
  · obtain ⟨hdata, hdropped⟩ := (s.advance t).markPop_nil (by simpa using hm)
    exact ⟨_, exec_markSrcRead s t hreach hok, by simpa using hdata, hdropped⟩

/-! ### Reads that leave the device as it is -/

/-- What a read that pops nothing leaves alone, side by side: the sets, the units, the FIFOs, the event log, work in progress and the memories. -/
def State.kept (s : State) : RegMap × RegMap × List (Nat × Change) × List (Nat × UnitSt) × ReplyFifo × CmdFifo × CmdFifo × EventSt × List Work × Mem × Mem × Mem :=
  (s.active, s.shadow, s.openSets, s.units, s.reply, s.urgentQ, s.normalQ, s.evt, s.works, s.dram, s.sram, s.host)

@[simp] theorem State.set_kept (s : State) (u : Nat) (f : Field) (v i : Nat) : (s.set u f v i).kept = s.kept := rfl
@[simp] theorem State.setC_kept (s : State) (u c : Nat) (f : Field) (i v : Nat) : (s.setC u c f i v).kept = s.kept := rfl
@[simp] theorem State.rdata_kept (s : State) (ws : List Nat) : ({ s with rdata := ws } : State).kept = s.kept := rfl
@[simp] theorem State.modPort_kept (s : State) (p : Nat) (f : PortSt → PortSt) : (s.modPort p f).kept = s.kept := rfl
@[simp] theorem State.dacTo_kept (s : State) (x : Option (Nat × Nat)) : (s.dacTo x).kept = s.kept := rfl
@[simp] theorem State.advance_kept (s : State) (t : Nat) : (s.advance t).kept = s.kept := by simp [State.kept]

theorem State.foldl_kept {α : Type} (g : State → α → State) (hg : ∀ s x, (g s x).kept = s.kept) (l : List α) (s : State) : (l.foldl g s).kept = s.kept := by
  induction l generalizing s with
  | nil => rfl
  | cons x l ih => rw [List.foldl_cons, ih, hg]

@[simp] theorem State.rcClear_kept (s : State) (u ctx : Nat) (fs : List (Field × Nat)) : (s.rcClear u ctx fs).kept = s.kept := by
  refine State.foldl_kept _ (fun s x => ?_) fs s
  split
  · exact s.setC_kept ..
  · rfl

@[simp] theorem State.dacSteps_kept (k : Nat) (s : State) : (State.dacSteps k s).kept = s.kept := by
  induction k generalizing s with
  | zero => rfl
  | succ k ih =>
    unfold State.dacSteps
    split
    · split
      · rfl
      · rw [ih, State.dacTo_kept]
    · split
      · rw [ih, State.dacTo_kept]
      · dsimp only
        split
        · rfl
        · rw [ih, State.dacTo_kept, State.modPort_kept]

@[simp] theorem State.dacShow_kept (s : State) : s.dacShow.kept = s.kept := by
  unfold State.dacShow
  split
  · rfl
  · split <;> rfl

/-- Values brought up to date for a read are live registers and the converter's own state. -/
@[simp] theorem State.pageNow_kept (s : State) (u : Nat) : (s.pageNow u).kept = s.kept := by
  unfold State.pageNow
  dsimp only
  split
  · rw [State.set_kept, State.set_kept]
  split
  · rw [State.set_kept, State.set_kept]
  split
  · rw [State.dacShow_kept, State.dacRun, State.dacSteps_kept]
  split
  · rw [State.set_kept]
  · rfl

/-! #### Words of BAR0 -/

theorem State.bar0Read_time (s : State) :
    s.bar0Read 0x500 = ((s.set bar0 Tim.TIME_LO (lo32 s.rope)).set bar0 Tim.TIME_HI (hi32 s.rope), lo32 s.rope) := by
  simp [State.bar0Read]
theorem State.bar0Read_heartbeat (s : State) : s.bar0Read 0x110 = (s, s.heartbeat) := by
  simp [State.bar0Read]
theorem State.timeLoRead_rdata (s : State) (wide : Bool) : (s.timeLoRead wide).rdata = if wide then [lo32 s.rope, hi32 s.rope] else [lo32 s.rope] := by
  rw [State.timeLoRead, State.bar0Read_time]
theorem State.timeLoRead_kept (s : State) (wide : Bool) : (s.timeLoRead wide).kept = s.kept := by
  rw [State.timeLoRead, State.bar0Read_time]
  simp only [State.rdata_kept, State.set_kept]
theorem State.bar0Read_uid (s : State) (n : Nat) (h : n < 4) :
    s.bar0Read (0x180 + 4 * n) = (s, s.windowUid n + b2n (!uidOk (s.windowUid n)) * 2 ^ 31) := by
  have hn : (0x180 + 4 * n - 0x180) / 4 = n := by omega
  unfold State.bar0Read
  rw [if_neg (by omega), if_neg (by omega), if_neg (by omega), if_neg (by omega), if_neg (by omega), if_pos (by omega), hn]
/-- An offset that is no multiple of 4 and the command windows read 0 (R69, R79). -/
theorem State.bar0Read_zero (s : State) (off : Nat) (h : off % 4 ≠ 0 ∨ 0x1000 ≤ off ∧ off < 0x3000) : s.bar0Read off = (s, 0) := by
  unfold State.bar0Read
  by_cases h4 : off % 4 ≠ 0
  · rw [if_pos (.inl h4)]
  · rw [if_neg (by omega), if_neg (by omega), if_neg (by omega), if_neg (by omega), if_neg (by omega), if_neg (by omega), if_pos (by omega)]
/-- A word without a rule of its own: its fields, of which the RC ones clear (R9). -/
theorem State.bar0Read_plain (s : State) (off : Nat) (h4 : off % 4 = 0) (hlo : off < 0x1000) (h1 : off ≠ 0x110) (h2 : off ≠ 0x118) (h3 : off ≠ 0x11C)
    (hu : off < 0x180 ∨ 0x190 ≤ off) (h5 : off ≠ 0x500) : s.bar0Read off = (s.rcClear bar0 0 (wordFields bar0Tables off), s.bar0Word off) := by
  unfold State.bar0Read
  rw [if_neg (by omega), if_neg h2, if_neg h3, if_neg h1, if_neg h5, if_neg (by omega), if_neg (by omega), if_neg (by omega), if_neg (by omega), if_neg (by omega),
    if_neg (by omega)]

/-! #### RES_TAG -/

theorem State.resTagRead_value (s : State) (u : Nat) : (s.resTagRead u).2 = s.pageWord u 0xF00 := rfl
theorem State.resTagRead_kept (s : State) (u : Nat) : (s.resTagRead u).1.kept = s.kept := by
  unfold State.resTagRead
  simp only [State.set_kept]
  exact State.foldl_kept _ (fun s i => s.set_kept u Res.RES_DATA _ i) _ s
/-- Reading RES_TAG clears VALID and OVERWRITTEN (R71). -/
theorem State.resTagRead_clears (s : State) (u : Nat) : (s.resTagRead u).1.reg u Res.VALID = 0 ∧ (s.resTagRead u).1.reg u Res.OVERWRITTEN = 0 := by
  have hkey : regKey u 0 Res.VALID 0 ≠ regKey u 0 Res.OVERWRITTEN 0 := by simp [regKey, Res.VALID, Res.OVERWRITTEN, fld]
  unfold State.resTagRead
  constructor
  · rw [State.reg_set_ne _ _ _ _ _ _ _ _ hkey, State.reg_set, Nat.zero_mod]
  · rw [State.reg_set, Nat.zero_mod]
theorem State.pageRead_resTag (s : State) (u : Nat) (hok : s.windowOk u = true) (hres : (pageOf u).any (fun f => f.name == "RES_DATA") = true) :
    s.pageRead u 0xF00 = (s.pageNow u).resTagRead u := by
  simp [State.pageRead, hok, hres]

/-! #### The rows -/

@[simp] theorem State.ends_kept (s : State) (t : Nat) (r : State) : (s.ends t r).kept = r.kept := rfl
@[simp] theorem hostRead_kept (x : State × Nat) : (hostRead x).kept = x.1.kept := rfl
@[simp] theorem hostRead_rdata (x : State × Nat) : (hostRead x).rdata = [x.2] := rfl
@[simp] theorem hostRead_reg (x : State × Nat) (u : Nat) (f : Field) (i : Nat) : (hostRead x).reg u f i = x.1.reg u f i := rfl

theorem exec_timeLoRead (s : State) (t : Nat) (wide : Bool) (h : (s.advance t).reached = true) :
    exec (.timeLoRead t wide) s = .next (s.ends t ((s.advance t).timeLoRead wide)) := congrArg _ (s.onBar_ends t _ h)
theorem exec_rcRead (s : State) (t off : Nat) (h : (s.advance t).reached = true) :
    exec (.rcRead t off) s = .next (s.ends t (hostRead ((s.advance t).bar0Read off))) := congrArg _ (s.onBar_ends t _ h)
theorem exec_resTagRead (s : State) (t n : Nat) (h : (s.advance t).reached = true) (hn : n < 4) :
    exec (.resTagRead t n) s = .next (s.ends t (hostRead ((s.advance t).pageRead ((s.advance t).windowUid n) 0xF00))) := by
  have hr := s.onBar_ends t (fun r => if 4 ≤ n then r else hostRead (r.pageRead (r.windowUid n) 0xF00)) h
  rw [if_neg (by omega)] at hr
  exact congrArg _ hr

/-- Settles O19: what each of the three rows answers, word by word of BAR0, and that every step of it leaves `State.kept` alone. -/
theorem readsAnswerAndKeepTheDevice : Obligations.Reads_answer_and_keep_the_device := by
  intro s t n off wide hreach hn a keeps
  have hkeeps (r : State) (h : r.kept = s.kept) : keeps r := by simpa only [State.kept, Prod.mk.injEq] using h
  have ha : a.kept = s.kept := s.advance_kept t
  have hrc (o w : Nat) (x : State) (hread : a.bar0Read o = (x, w)) (hx : x.kept = s.kept) :
      ∃ r, exec (.rcRead t o) s = .next r ∧ r.rdata = [w] ∧ keeps r := by
    rw [exec_rcRead s t o hreach, show (s.advance t).bar0Read o = (x, w) from hread]
    exact ⟨_, rfl, rfl, hkeeps _ hx⟩
  refine ⟨⟨_, exec_timeLoRead s t wide hreach, a.timeLoRead_rdata wide, hkeeps _ ((a.timeLoRead_kept wide).trans ha)⟩, fun hok hres => ?_,
    fun h4 hlo h1 h2 h3 hu h5 => ?_, ?_, ?_, fun h => ?_⟩
  · obtain ⟨hvalid, hover⟩ := (a.pageNow (a.windowUid n)).resTagRead_clears (a.windowUid n)
    refine ⟨_, exec_resTagRead s t n hreach hn, ?_⟩
    rw [State.pageRead_resTag _ _ hok hres]
    refine ⟨?_, ?_, ?_, hkeeps _ ?_⟩
    · rw [State.ends_rdata, hostRead_rdata, State.resTagRead_value]
    · rw [State.ends_reg_const _ _ _ _ _ _ 0 rfl, hostRead_reg, hvalid]
    · rw [State.ends_reg_const _ _ _ _ _ _ 0 rfl, hostRead_reg, hover]
    · rw [State.ends_kept, hostRead_kept, State.resTagRead_kept, State.pageNow_kept, ha]
  · exact hrc _ _ _ (a.bar0Read_plain off h4 hlo h1 h2 h3 hu h5) ((State.rcClear_kept _ _ _ _).trans ha)
  · exact hrc _ _ _ a.bar0Read_heartbeat ha
  · exact hrc _ _ _ (a.bar0Read_uid n hn) ha
  · exact hrc _ _ _ (a.bar0Read_zero off h) ha

end Sys2Proof.Machine
end

section
/-! The units that a UID names, each once and in their order (R16, R17). -/
namespace Sys2Proof.Machine

theorem classSubs_ascend (c : Nat) : (0 :: classSubs c).Pairwise (· < ·) := by
  unfold classSubs
  repeat' split
  all_goals decide
theorem classSubs_lt (c : Nat) : ∀ k ∈ 0 :: classSubs c, k < 256 := by
  unfold classSubs
  repeat' split
  all_goals decide
theorem instUnits_eq_map (c i : Nat) : instUnits c i = (0 :: classSubs c).map (fun k => c * 4096 + i * 256 + k) := by
  rw [instUnits, List.map_cons, Nat.add_zero]
theorem div_of_mem_instUnits {c i u : Nat} (h : u ∈ instUnits c i) : u / 256 = c * 16 + i := by
  rw [instUnits_eq_map] at h
  obtain ⟨k, hk, rfl⟩ := List.mem_map.1 h
  have := classSubs_lt c k hk
  omega
theorem instUnits_ascend (c i : Nat) : (instUnits c i).Pairwise (· < ·) := by
  rw [instUnits_eq_map, List.pairwise_map]
  exact (classSubs_ascend c).imp (fun h => Nat.add_lt_add_left h _)
theorem instances_ascend (c n : Nat) : ((List.range n).flatMap (instUnits c)).Pairwise (· < ·) := by
  refine List.pairwise_flatMap.2 ⟨fun i _ => instUnits_ascend c i, List.pairwise_lt_range.imp fun hij u hu v hv => ?_⟩
  have hdiv : u / 256 < v / 256 := by
    rw [div_of_mem_instUnits hu, div_of_mem_instUnits hv]
    exact Nat.add_lt_add_left hij _
  exact Nat.lt_of_div_lt_div hdiv
theorem classMax_le {c m : Nat} (h : classMax c = some m) : m ≤ 7 := by
  unfold classMax at h
  split at h
  · injection h
    omega
  split at h
  · injection h
    omega
  split at h
  · injection h
    omega
  · exact absurd h nofun
theorem div_of_mem_instances {c m u : Nat} (hm : classMax c = some m) (h : u ∈ (List.range (m + 1)).flatMap (instUnits c)) :
    ∃ i ≤ 7, u / 256 = c * 16 + i := by
  obtain ⟨i, hi, hu⟩ := List.mem_flatMap.1 h
  exact ⟨i, Nat.le_trans (Nat.le_of_lt_succ (List.mem_range.1 hi)) (classMax_le hm), div_of_mem_instUnits hu⟩
/-- A unit lies in the class that its UID names. -/
theorem class_of_mem_classUnits {c u : Nat} (h : u ∈ classUnits c) : u / 256 / 16 = c := by
  unfold classUnits at h
  split at h
  · next m hm =>
    rcases List.mem_append.1 h with h | h
    · obtain ⟨i, hi, hu⟩ := div_of_mem_instances hm h
      omega
    · split at h
      · next h7 => rw [List.mem_singleton.1 h, h7, chainU]
      · exact absurd h List.not_mem_nil
  · split at h
    · next h9 =>
      subst h9
      revert u
      decide
    split at h
    · exact absurd h List.not_mem_nil
    · rw [List.mem_singleton.1 h]
      omega
theorem classUnits_ascend (c : Nat) : (classUnits c).Pairwise (· < ·) := by
  unfold classUnits
  split
  · next m hm =>
    have hchain : (if c = 7 then [chainU] else []).Pairwise (· < ·) := by
      split
      · exact List.pairwise_singleton ..
      · exact .nil
    refine List.pairwise_append.2 ⟨instances_ascend c _, hchain, fun u hu v hv => ?_⟩
    obtain ⟨i, hi, hdiv⟩ := div_of_mem_instances hm hu
    split at hv
    · next h7 =>
      have hlt : u / 256 < v / 256 := by
        rw [List.mem_singleton.1 hv, hdiv, h7, chainU]
        omega
      exact Nat.lt_of_div_lt_div hlt
    · exact absurd hv List.not_mem_nil
  · split
    · decide
    split
    · exact .nil
    · exact List.pairwise_singleton ..
theorem allUnits_ascend : allUnits.Pairwise (· < ·) := by
  refine List.pairwise_flatMap.2 ⟨fun c _ => classUnits_ascend c, List.pairwise_lt_range.imp fun hcd u hu v hv => ?_⟩
  have hclass : u / 256 / 16 < v / 256 / 16 := by
    rw [class_of_mem_classUnits hu, class_of_mem_classUnits hv]
    exact hcd
  exact Nat.lt_of_div_lt_div (Nat.lt_of_div_lt_div hclass)
theorem members_ascend (u : Nat) : (members u).Pairwise (· < ·) := by
  unfold members
  split
  · exact allUnits_ascend
  split
  · exact classUnits_ascend _
  split
  · exact classUnits_ascend 9
  split
  · exact instUnits_ascend _ _
  · exact List.pairwise_singleton ..

end Sys2Proof.Machine
end

section
/-! Sets and commits: but for a COMMIT, which gives a unit one at most, pending commits only leave their queue (R42 to R46, R561, R562). -/
namespace Sys2Proof.Machine
open R

/-- A COMMIT queues a snapshot of a unit once. -/
theorem State.queueing_nodup (s : State) (u : Nat) : (s.queueing u).Nodup := by
  have h : (members u).Nodup := (members_ascend u).imp Nat.ne_of_lt
  unfold State.queueing
  split
  · exact List.pairwise_singleton ..
  · exact h.filter _

/-! ### What leaves the queues alone -/

/-- The pending commits, the open sets and the number of the next commit. -/
def State.queued (s : State) : List Commit × List (Nat × Change) × Nat := (s.commits, s.openSets, s.commitNext)

@[simp] theorem State.set_queued (s : State) (u : Nat) (f : Field) (v i : Nat) : (s.set u f v i).queued = s.queued := rfl
@[simp] theorem State.bump_queued (s : State) (u : Nat) (f : Field) (n i : Nat) : (s.bump u f n i).queued = s.queued := rfl
@[simp] theorem State.modPort_queued (s : State) (p : Nat) (f : PortSt → PortSt) : (s.modPort p f).queued = s.queued := rfl
@[simp] theorem State.logEvent_queued (s : State) (e : Event) : (s.logEvent e).queued = s.queued := rfl
@[simp] theorem State.msixGo_queued (s : State) (v : Nat) : (s.msixGo v).queued = s.queued := rfl
@[simp] theorem State.calTally_queued (s : State) (p c kind : Nat) : (s.calTally p c kind).queued = s.queued := rfl
theorem State.foldl_queued {α : Type} (g : State → α → State) (hg : ∀ (s : State) x, (g s x).queued = s.queued) (l : List α) (s : State) : (l.foldl g s).queued = s.queued := by
  induction l generalizing s with
  | nil => rfl
  | cons x l ih => rw [List.foldl_cons, ih, hg]
@[simp] theorem State.msixSend_queued (s : State) (v : Nat) : (s.msixSend v).queued = s.queued := by
  unfold State.msixSend
  split
  · rfl
  split
  · exact s.set_queued ..
  split
  · rfl
  · exact s.msixGo_queued v
@[simp] theorem State.irq_queued (s : State) (src : Nat) : (s.irq src).queued = s.queued := by
  unfold State.irq
  split
  · rfl
  · exact s.msixSend_queued _
@[simp] theorem State.evtWrite_queued (s : State) (e : Event) : (s.evtWrite e).queued = s.queued := by
  unfold State.evtWrite
  dsimp only
  split <;> rfl
@[simp] theorem State.raise_queued (s : State) (src uid detail : Nat) : (s.raise src uid detail).queued = s.queued := by
  unfold State.raise
  dsimp only
  split
  · rfl
  rw [State.irq_queued]
  split
  · rfl
  split
  · rw [State.evtWrite_queued, State.logEvent_queued]
  · exact State.bump_queued ..
@[simp] theorem State.putResult_queued (s : State) (u tag : Nat) (ws : List Nat) : (s.putResult u tag ws).queued = s.queued := by
  unfold State.putResult
  dsimp only
  rw [State.set_queued, State.set_queued]
  split <;> rfl
@[simp] theorem State.reliefRegs_queued (s : State) (p : Nat) : (s.reliefRegs p).queued = s.queued := by
  unfold State.reliefRegs
  split <;> rfl

/-! ### What brings pending commits into force -/

/-- r is s after some of its pending commits may have come into force. -/
structure State.Forces (s r : State) : Prop where
  commits : r.commits.Sublist s.commits
  openSets : r.openSets = s.openSets
  commitNext : r.commitNext = s.commitNext

theorem State.Forces.trans {s r q : State} (h : s.Forces r) (h' : r.Forces q) : s.Forces q :=
  ⟨h'.commits.trans h.commits, h'.openSets.trans h.openSets, h'.commitNext.trans h.commitNext⟩
/-- What leaves the queues alone brings nothing into force. -/
theorem State.Forces.of_queued {s r : State} (h : r.queued = s.queued) : s.Forces r := by
  simp only [State.queued, Prod.mk.injEq] at h
  obtain ⟨hcommits, hopen, hnext⟩ := h
  exact ⟨hcommits ▸ List.Sublist.refl _, hopen, hnext⟩
theorem State.Forces.foldl {α : Type} (g : State → α → State) (hg : ∀ (s : State) x, s.Forces (g s x)) (l : List α) (s : State) : s.Forces (l.foldl g s) := by
  induction l generalizing s with
  | nil => exact .of_queued rfl
  | cons x l ih => exact (hg s x).trans (ih _)

theorem State.commitForce_forces (s : State) (u : Nat) (cs : List Commit) (kind line rep time : Nat) : s.Forces (s.commitForce u cs kind line rep time) := by
  unfold State.commitForce
  split
  · exact .of_queued rfl
  · dsimp only
    refine .trans ?_ (.of_queued (State.foldl_queued _ (fun r d => ?_) cs _))
    · exact ⟨List.filter_sublist, rfl, rfl⟩
    split
    · exact r.raise_queued ..
    · rfl
theorem State.forceReady_forces (s : State) (u : Nat) : s.Forces (s.forceReady u) := s.commitForce_forces ..
theorem State.forceHeld_forces (s : State) (u : Nat) : s.Forces (s.forceHeld u) := s.commitForce_forces ..
theorem State.workDone_forces (s : State) (w : Work) (status : Nat) : s.Forces (s.workDone w status) := by
  unfold State.workDone
  refine .trans (.of_queued ?_) (.foldl _ State.forceHeld_forces _ _)
  rw [State.raise_queued]
  rfl
theorem State.calFinish_forces (s : State) (stop : Option Nat) (p : Nat) : s.Forces (s.calFinish stop p) := by
  unfold State.calFinish
  refine .foldl _ (fun r w => ?_) _ _
  dsimp only
  split
  · exact .of_queued rfl
  · exact .trans (.of_queued (State.foldl_queued _ (fun r q => r.putResult_queued ..) _ r)) (State.workDone_forces ..)
theorem State.reliefNext_forces (s : State) (p : Nat) : s.Forces (s.reliefNext p) := by
  have hgone (l : List Relief) : (l.foldl (fun (s : State) r => s.calTally p r.chan 3) s).queued = s.queued :=
    State.foldl_queued _ (fun r x => r.calTally_queued ..) l s
  unfold State.reliefNext
  dsimp only
  split
  · exact .of_queued rfl
  split
  · refine .trans (.of_queued ?_) (State.calFinish_forces ..)
    rw [State.modPort_queued, hgone]
  · refine .of_queued ?_
    rw [State.reliefRegs_queued, State.modPort_queued, State.modPort_queued, hgone]
theorem State.reliefStaged_forces (s : State) (p : Nat) (m : RegMap) : s.Forces (s.reliefStaged p m) := by
  unfold State.reliefStaged
  split
  · exact .of_queued rfl
  · refine .trans (.of_queued (State.foldl_queued _ (fun r k => ?_) _ s)) (State.reliefNext_forces ..)
    rw [State.modPort_queued, State.set_queued]

/-! ### COMMIT -/

/-- What a COMMIT queues for a unit and its snapshot, under its number. -/
def State.newCommit (s : State) (notify : Bool) (x : Nat × RegMap) : Commit :=
  { uid := x.1, seq := s.commitNumber.2, kind := s.openKind x.1, snap := x.2, notify := notify, staged := false, at_ := s.now,
    held := s.workHolds x.1 && s.noBoundary x.1 (s.openKind x.1) }
/-- The state right after a COMMIT has queued its snapshots, before any of them comes into force. -/
def State.commitQueued (s : State) (u : Nat) (notify : Bool) : State :=
  { s.commitNumber.1 with
    commits := s.commits ++ ((s.queueing u).map (fun v => (v, s.snapOf v))).map (s.newCommit notify),
    openSets := s.openSets.filter (fun o => !(s.queueing u).contains o.1) }

/-- The first member that already has four commits pending. -/
def State.fullQueue (s : State) (u : Nat) : Option Nat :=
  (s.queueing u).find? (fun v => decide (4 ≤ (s.commits.filter (fun c => c.uid == v)).length))
/-- What refuses a COMMIT: a full queue first, then a staged unit, then the checks of the sets (R45, R441, R561). -/
def State.commitRefusal (s : State) (u : Nat) : Refuse :=
  let q := s.queueing u
  firstOf [
    (s.fullQueue u).map (fun v => (St.COMMIT_FULL, [v])),
    ((if q.contains u then q else u :: q).find? (fun v => s.job.scope.contains v)).map (fun v => (St.STAGED, [v])),
    setChecks s (s.prospect []) (s.prospect (q.map (fun v => (v, s.snapOf v)))) q]

theorem State.fullQueue_eq_none (s : State) (u : Nat) : s.fullQueue u = none ↔ ∀ v, v ∈ s.queueing u → (s.commits.filter (fun c => c.uid == v)).length < 4 := by
  simp [State.fullQueue]
theorem State.commitRefusal_full (s : State) (u v : Nat) (h : s.fullQueue u = some v) : s.commitRefusal u = some (St.COMMIT_FULL, [v]) := by
  simp only [State.commitRefusal, h, Option.map_some, firstOf]
theorem State.commitRefusal_eq_none (s : State) (u : Nat) (hroom : s.fullQueue u = none) (hscope : ∀ v, v = u ∨ v ∈ s.queueing u → s.job.scope.contains v = false)
    (hchecks : setChecks s (s.prospect []) (s.prospect ((s.queueing u).map (fun v => (v, s.snapOf v)))) (s.queueing u) = none) : s.commitRefusal u = none := by
  have hnone : (if (s.queueing u).contains u then s.queueing u else u :: s.queueing u).find? (fun v => s.job.scope.contains v) = none := by
    refine List.find?_eq_none.2 fun v hv => ?_
    have hmem : v = u ∨ v ∈ s.queueing u := by
      split at hv
      · exact .inr hv
      · exact List.mem_cons.1 hv
    rw [hscope v hmem]
    decide
  simp only [State.commitRefusal, hroom, hnone, hchecks, Option.map_none, firstOf]

/-- The state after a COMMIT that nothing refuses: what R49 lets in at once is in force, and the reliefs of R158 are queued. -/
def State.commitDone (s : State) (u : Nat) (notify : Bool) : State :=
  let q := s.queueing u
  (q.map (fun v => (v, s.snapOf v))).foldl (fun (t : State) x =>
    if uClass x.1 == 1 && uSub x.1 == 0 && t.commits.any (fun c => c.uid == x.1 && c.seq == s.commitNext) then t.reliefStaged (uInst x.1) x.2 else t)
    (q.foldl State.forceReady (s.commitQueued u notify))
theorem State.commitDone_forces (s : State) (u : Nat) (notify : Bool) : (s.commitQueued u notify).Forces (s.commitDone u notify) := by
  refine .trans (.foldl _ State.forceReady_forces _ _) (.foldl _ (fun r x => ?_) _ _)
  split
  · exact r.reliefStaged_forces ..
  · exact .of_queued rfl
theorem State.cmdCommit_eq (s : State) (u : Nat) (notify : Bool) :
    s.cmdCommit u notify = s.unless (s.commitRefusal u) (fun _ => (s.commitDone u notify, St.OK, [s.commitNext])) := rfl
theorem State.cmdCommit_refused (s : State) (u : Nat) (notify : Bool) (x : Nat × List Nat) (h : s.commitRefusal u = some x) : s.cmdCommit u notify = s.refuse x := by
  rw [State.cmdCommit_eq, h, State.unless]
theorem State.cmdCommit_accepted (s : State) (u : Nat) (notify : Bool) (h : s.commitRefusal u = none) :
    s.cmdCommit u notify = (s.commitDone u notify, St.OK, [s.commitNext]) := by
  rw [State.cmdCommit_eq, h, State.unless]

/-- A COMMIT queues at most one commit of a unit, and none where it queues no snapshot of it. -/
theorem State.commitQueued_count (s : State) (u : Nat) (notify : Bool) (v : Nat) :
    ((s.commitQueued u notify).commits.filter (fun c => c.uid == v)).length =
      (s.commits.filter (fun c => c.uid == v)).length + if v ∈ s.queueing u then 1 else 0 := by
  have hnew : (((s.queueing u).map (fun w => (w, s.snapOf w))).map (s.newCommit notify)).countP (fun c => c.uid == v) = (s.queueing u).count v := by
    rw [List.map_map, List.countP_map]
    rfl
  rw [← List.countP_eq_length_filter, ← List.countP_eq_length_filter, State.commitQueued, List.countP_append, hnew, (s.queueing_nodup u).count]

/-- Settles O58: a full queue is the first thing that refuses a COMMIT, and one that nothing refuses adds at most one commit to a queue it found short of four. -/
theorem commitsPendFourDeep : Obligations.Commits_pend_four_deep := by
  refine fun s u notify => ⟨fun v hfull => s.cmdCommit_refused u notify _ (s.commitRefusal_full u v hfull), fun v hv => ?_⟩
  cases href : s.commitRefusal u with
  | some x =>
    rw [s.cmdCommit_refused u notify x href]
    exact hv
  | none =>
    rw [s.cmdCommit_accepted u notify href]
    have hless := ((s.commitDone_forces u notify).commits.filter (fun c => c.uid == v)).length_le
    rw [State.commitQueued_count] at hless
    dsimp only
    split at hless
    · next hq =>
      cases hfull : s.fullQueue u with
      | some w => simp [s.commitRefusal_full u w hfull] at href
      | none =>
        have := (s.fullQueue_eq_none u).1 hfull v hq
        omega
    · omega

/-! ### UNIT_WRITE -/

/-- The words of a UNIT_WRITE written in their order. -/
def State.unitWritten (s : State) (k : Pkt) : State :=
  (List.range (k.params.length / 2)).foldl (fun (s : State) j => s.pageWrite k.uid (bits (k.p (2 * j)) 14 12) (k.p (2 * j) % 4096) (k.p (2 * j + 1))) s

/-- A UNIT_WRITE whose words are each writable writes them all, and goes on to a COMMIT where its flag asks for one and the unit takes it (R562). -/
theorem State.cmdUnitWrite_writable (s : State) (k : Pkt) (h : ∀ j, j < k.params.length / 2 → s.entryBad k.uid (k.p (2 * j)) (k.p (2 * j + 1)) = false) :
    s.cmdUnitWrite k = if k.flag 8 = false then (s.unitWritten k, St.OK, [0]) else
      if Op.commit.takes k.uid = true then (s.unitWritten k).cmdCommit k.uid false else (s.unitWritten k, St.UNSUPPORTED, [k.uid]) := by
  have hnone : (List.range (k.params.length / 2)).find? (fun j => s.entryBad k.uid (k.p (2 * j)) (k.p (2 * j + 1))) = none := by
    refine List.find?_eq_none.2 fun j hj => ?_
    rw [h j (List.mem_range.1 hj)]
    decide
  simp only [State.cmdUnitWrite, hnone, Bool.not_eq_true', State.unitWritten]

/-! ### The rows -/

/-- Settles O35: a packet taken runs its command; COMMIT by `cmdCommit_accepted`, UNIT_WRITE by the branches of `cmdUnitWrite_writable`. -/
theorem setPacketsComplete : Obligations.Set_packets_complete := by
  intro s t urgent tag uid flags params env x b k
  have hwrite (htaken : (x .unitWrite).taken s = true) (hok : ∀ j, j < params.length / 2 →
      (b .unitWrite).entryBad (k .unitWrite).uid (nth params (2 * j)) (nth params (2 * j + 1)) = false) :=
    ((x .unitWrite).exec_taken s htaken (.inr rfl) nofun nofun).trans
      (congrArg (fun r => Host.Outcome.next ((x .unitWrite).answered s r)) (State.cmdUnitWrite_writable (b .unitWrite) (k .unitWrite) hok))
  refine ⟨?_, fun htaken hflag hok => ?_, fun htaken hflag hcommit hok => ?_, fun htaken hflag hcommit hok => ?_⟩
  · intro htaken a u q hroom hscope hchecks
    have hnone := a.commitRefusal_eq_none u ((a.fullQueue_eq_none u).2 hroom) hscope hchecks
    have hdone := a.commitDone_forces u ((k .commit).flag 0)
    exact ⟨_, ((x .commit).exec_taken s htaken (.inr rfl) nofun nofun).trans
      (congrArg (fun r => Host.Outcome.next ((x .commit).answered s r)) (a.cmdCommit_accepted u _ hnone)), hdone.commitNext, hdone.openSets⟩
  · have h := hwrite htaken hok
    rw [if_pos hflag] at h
    exact h
  · have h := hwrite htaken hok
    rw [if_neg (by rw [hflag]; decide), if_pos hcommit] at h
    exact h
  · have h := hwrite htaken hok
    rw [if_neg (by rw [hflag]; decide), if_neg (by rw [hcommit]; decide)] at h
    exact h

end Sys2Proof.Machine
end

section
/-! Whole words of BAR0 (R69, R70). -/
namespace Sys2Proof.Machine
open R

theorem exec_registerWrite (s : State) (t off w be : Nat) (h : (s.advance t).reached = true) :
    exec (.registerWrite t off w be) s = .next (s.ran t ((s.advance t).bar0Write off w be)) := congrArg _ (s.onBarThen_ran t _ h)
/-- A write beyond BAR0, or at an offset that is no multiple of 4. -/
theorem State.bar0Write_outside (s : State) (off w be : Nat) (h : off % 4 ≠ 0 ∨ 0x10000 ≤ off) : s.bar0Write off w be = s := by
  rw [State.bar0Write, if_pos h]
theorem State.bar0Write_window_part (s : State) (off w be : Nat) (h4 : off % 4 = 0) (hlo : 0x4000 ≤ off) (hhi : off < 0x8000) (hbe : be % 16 ≠ 15) :
    s.bar0Write off w be = s := by
  rw [State.bar0Write, if_neg (by omega), if_neg (by omega), if_neg (by omega), if_neg (by omega), if_pos (by simpa using hbe)]
theorem State.bar0Write_window (s : State) (off w be : Nat) (h4 : off % 4 = 0) (hlo : 0x4000 ≤ off) (hhi : off < 0x8000) (hbe : be % 16 = 15) :
    s.bar0Write off w be = s.pageWrite (s.windowUid ((off - 0x4000) / 0x1000)) (s.pageFields (s.windowUid ((off - 0x4000) / 0x1000)) (off % 0x1000)).2 (off % 0x1000) w := by
  rw [State.bar0Write, if_neg (by omega), if_neg (by omega), if_neg (by omega), if_neg (by omega), if_neg (by simp [hbe]), if_neg (by omega), if_neg (by omega),
    if_neg (by omega), if_neg (by omega), if_neg (by omega), if_neg (by omega), if_neg (by omega), if_pos (by omega)]

/-- Settles O20: a word of a window goes to its page with all byte enables and nowhere without them; the other two offsets lie outside BAR0 or its words. -/
theorem registerWritesTakeWholeWords : Obligations.Register_writes_take_whole_words := by
  intro s t n off w be hreach hn hoff h4 a
  have hwin : (0x4000 + 0x1000 * n + off - 0x4000) / 0x1000 = n := by omega
  have hword : (0x4000 + 0x1000 * n + off) % 0x1000 = off := by omega
  refine ⟨?_, fun hbe => ?_, ?_, ?_⟩
  · rw [exec_registerWrite s t _ w 15 hreach, State.bar0Write_window _ _ w 15 (by omega) (by omega) (by omega) rfl, hwin, hword]
  · rw [exec_registerWrite s t _ w be hreach, State.bar0Write_window_part _ _ w be (by omega) (by omega) (by omega) hbe]
  · rw [exec_registerWrite s t _ w be hreach, State.bar0Write_outside _ _ w be (.inr (by omega))]
  · rw [exec_registerWrite s t _ w be hreach, State.bar0Write_outside _ _ w be (.inl (by omega))]

end Sys2Proof.Machine
end

section
/-! Aborts, domains, the pace monitor and the time base (R22, R23, R34 to R39, R529, R583). -/
namespace Sys2Proof.Machine
open R

/-! ### Aborts and domains -/

theorem exec_abortCompletion (s : State) (t u : Nat) (h : (s.advance t).isLive = true) :
    exec (.abortCompletion t u) s = .next (s.went t ((s.advance t).abortCompletes u)) := congrArg _ (s.onCore_went t _ h)
theorem exec_abortLate (s : State) (t u : Nat) (h : (s.advance t).isLive = true) :
    exec (.abortLate t u) s = .next (s.went t ((s.advance t).abortLate u)) := congrArg _ (s.onCore_went t _ h)
theorem exec_domainReady (s : State) (t d : Nat) (o : Outcomes) (h : (s.advance t).isLive = true) :
    exec (.domainReady t d o) s = .next (s.went t ((s.advance t).domainReady d o)) := congrArg _ (s.onCore_went t _ h)

/-- One member is waited for, lies in the unit named and can complete: it alone does (R22). -/
theorem State.abortCompletes_one (s : State) (u w : Nat) (hw : ((s.aborts.flatMap (·.waiting)).map (·.1)).eraseDups = [w]) (hin : within w u = true)
    (hcan : s.canComplete w = true) : s.abortCompletes u = (s.abortDone w).abortsSettle := by
  simp only [State.abortCompletes, hw, List.filter_cons, hin, hcan, Bool.and_self, if_true, List.filter_nil, List.foldl_cons, List.foldl_nil]

/-- Settles O24: each row runs its operation on a device that works, and the operation's own guard holds. -/
theorem abortsCompleteAndDomainsComeUp : Obligations.Aborts_complete_and_domains_come_up := by
  intro s t u hlive a
  refine ⟨fun w hw hin hcan => ?_, fun hlate => ?_, fun o hcoming => ?_⟩
  · rw [exec_abortCompletion s t u hlive, State.abortCompletes_one _ u w hw hin hcan]
  · rw [exec_abortLate s t u hlive, State.abortLate, if_neg (by rw [hlate]; decide)]
  · rw [exec_domainReady s t u o hlive, State.domainReady, if_neg (by rw [hcoming]; decide)]

/-! ### Pace and the core supply -/

theorem exec_paceUpdate (s : State) (t : Nat) (running replicas : List (Nat × Nat)) (ack : Bool) (h : (s.advance t).isLive = true) :
    exec (.paceUpdate t running replicas ack) s = .next (s.went t ((s.advance t).paceUpdate (running ++ replicas) ack)) := congrArg _ (s.onCore_went t _ h)
theorem exec_voutReadback (s : State) (t mv : Nat) (ack : Bool) (h : (s.advance t).isLive = true) :
    exec (.voutReadback t mv ack) s = .next (s.went t ((s.advance t).voutReadback mv ack)) := congrArg _ (s.onCore_went t _ h)
theorem exec_pmbAlert (s : State) (t : Nat) (h : (s.advance t).isLive = true) :
    exec (.pmbAlert t) s = .next (s.went t (s.advance t).pmbAlert) := congrArg _ (s.onCore_went t _ h)
theorem exec_timebaseUnlock (s : State) (t : Nat) (h : (s.advance t).isLive = true) :
    exec (.timebaseUnlock t) s = .next (s.went t (s.advance t).timebaseUnlock) := congrArg _ (s.onCore_went t _ h)
theorem exec_timebaseRelock (s : State) (t : Nat) (h : (s.advance t).isLive = true) :
    exec (.timebaseRelock t) s = .next (s.went t (s.advance t).timebaseRelock) := congrArg _ (s.onCore_went t _ h)

/-- No path has demand: the headroom reads 255 (R37). -/
theorem State.paceMin_idle (s : State) (paths : List (Nat × Nat)) (h : ∀ x, x ∈ paths → s.paceDemand x.1 = none) : s.paceMin paths = (255, 0) := by
  unfold State.paceMin
  dsimp only
  rw [List.foldlRecOn (motive := (· = none)) paths _ rfl]
  intro m hm x hx
  rw [hm, h x hx]

section
variable (s : State) (paths : List (Nat × Nat)) (ack : Bool)

/-- The state after PACE_UPDATE has shown what it measured, before any request. -/
def State.paceShown : State := s.paceShow (s.paceMin paths).1 (s.paceMin paths).2

theorem State.paceUpdate_silent (h : (s.paceShown paths).mayRequest = false) : s.paceUpdate paths ack = s.paceShown paths := by
  unfold State.paceShown at *
  simp only [State.paceUpdate, h, Bool.not_false, if_true]
theorem State.paceUpdate_up (hlow : (s.paceMin paths).1 < 8) (h : (s.paceShown paths).mayRequest = true) (hv : (s.paceShown paths).vcoreNow < 900) :
    s.paceUpdate paths ack = (s.paceShown paths).supplyRequest (min 900 ((s.paceShown paths).vcoreNow + 5)) ack := by
  unfold State.paceShown at *
  simp only [State.paceUpdate, h, hlow, hv, Bool.not_true, Bool.false_eq_true, if_false, if_true]
theorem State.paceUpdate_down (d : Nat) (hhigh : 8 ≤ (s.paceMin paths).1) (h : (s.paceShown paths).mayRequest = true) (hv : 750 < (s.paceShown paths).vcoreNow)
    (hd : (s.paceShown paths).sys.paceHigh = some d) (hcalm : d + 1600000000 ≤ (s.paceShown paths).now) :
    s.paceUpdate paths ack = (s.paceShown paths).supplyRequest (max 750 ((s.paceShown paths).vcoreNow - 5)) ack := by
  unfold State.paceShown at *
  simp only [State.paceUpdate, h, Nat.not_lt.2 hhigh, hd, hcalm, hv, Bool.not_true, Bool.false_eq_true, if_false, if_true, decide_true, Bool.and_self]
end

/-- READ_VOUT 2 ms after a request, by what the regulator answers (R39, R583). -/
theorem State.voutReadback_due (s : State) (mv : Nat) (ack : Bool) (d want : Nat) (hreq : s.sys.vreq = some (d, want)) (hdue : d + 3200000 ≤ s.now) :
    s.voutReadback mv ack =
      let c := ({ s with sys := { s.sys with vreq := none } } : State).pmbSend [0x8B]
      if ack = false then c.supplyFail
      else if want + 10 < mv ∨ mv + 10 < want then (c.set devU Th.VCORE_READ mv).supplyFail else c.set devU Th.VCORE_READ mv := by
  simp only [State.voutReadback, hreq, Nat.not_lt.2 hdue, if_false, Bool.not_eq_true']

/-- Settles O25: each row runs its operation on a device that works; PACE_UPDATE and VOUT_READBACK by the branches of theirs. -/
theorem paceSupplyAndTimeBase : Obligations.Pace_supply_and_time_base := by
  intro s t running replicas ack hlive a paths h b
  have hpace := exec_paceUpdate s t running replicas ack hlive
  refine ⟨fun hidle => ?_, fun hno => ?_, fun hlow hmay hv => ?_, fun d hhigh hmay hv hd hcalm => ?_, ?_, ?_, fun hlock => ?_, fun hlock => ?_⟩
  · exact congrArg Prod.fst (a.paceMin_idle paths hidle)
  · rw [hpace, State.paceUpdate_silent _ _ ack hno]
    rfl
  · rw [hpace, State.paceUpdate_up _ _ ack hlow hmay hv]
    rfl
  · rw [hpace, State.paceUpdate_down _ _ ack d hhigh hmay hv hd hcalm]
    rfl
  · intro d want mv hreq hdue c
    have hread := (exec_voutReadback s t mv ack hlive).trans (by rw [State.voutReadback_due _ mv ack d want hreq hdue])
    refine ⟨fun hack => ?_, fun hack hoff => ?_, fun hack hlo hhi => ?_⟩
    · rw [hread, if_pos hack]
    · rw [hread, if_neg (by rw [hack]; decide), if_pos hoff]
    · rw [hread, if_neg (by rw [hack]; decide), if_neg (by omega)]
  · exact exec_pmbAlert s t hlive
  · rw [exec_timebaseUnlock s t hlive, State.timebaseUnlock, if_neg (by rw [hlock]; decide)]
  · rw [exec_timebaseRelock s t hlive, State.timebaseRelock, if_neg (by rw [hlock]; decide)]

end Sys2Proof.Machine
end

section
/-! The device right after reset (R42, R80, R96, R535). -/
namespace Sys2Proof.Machine
open R

theorem getD_replicate_self {α : Type} (n i : Nat) (x : α) : (List.replicate n x).getD i x = x := by
  rw [List.getD_eq_getElem?_getD, List.getElem?_replicate]
  split <;> rfl

@[simp] theorem State.reset_port (p : Nat) : State.reset.ports.getD p {} = {} := getD_replicate_self ..
@[simp] theorem State.reset_lc (p : Nat) : State.reset.lcs.getD p {} = {} := getD_replicate_self ..
@[simp] theorem State.reset_eb (p : Nat) : State.reset.ebs.getD p {} = {} := getD_replicate_self ..
@[simp] theorem State.reset_lamp (g : Nat) : State.reset.lamps.getD g {} = {} := getD_replicate_self ..

/-- Nothing has been started: no port, job, comparison, string or chain is at work. -/
theorem State.reset_busy (u : Nat) : State.reset.busy u = false := by
  have hchain : State.reset.chain.on = false := rfl
  have hlanes : (List.range 8).any (fun _ => false) = false := rfl
  simp only [State.busy, State.reset_port, State.reset_eb, State.reset_lamp, getD_replicate_self, hchain, hlanes, Bool.and_false, Bool.false_and, ite_self]
/-- A unit is IDLE after reset, or OFF where its record says so. -/
theorem State.reset_unit (u : Nat) : (State.reset.unit u).st = .idle ∨ (State.reset.unit u).st = .off := by
  have hoff : ∀ p ∈ State.reset.units, p.2.st = .off := by decide
  unfold State.unit
  cases h : State.reset.units.find? (fun p => p.1 == u) with
  | none => exact .inl rfl
  | some p => exact .inr (hoff p (List.mem_of_find?_eq_some h))
theorem State.reset_working (u : Nat) : State.reset.working u = false := by
  have hst : State.reset.stOf u = .idle ∨ State.reset.stOf u = .off := by
    unfold State.stOf
    rw [State.reset_busy, show State.reset.frozen = false from rfl]
    split
    · exact .inr rfl
    · simpa using State.reset_unit u
  unfold State.working
  rcases hst with h | h <;> rw [h]

/-- Settles O47: the maps list nothing, so every field shows its reset value, and what waits or works is listed nowhere. -/
theorem resetLeavesTheResetValues : Obligations.Reset_leaves_the_reset_values :=
  ⟨fun _ _ _ _ => ⟨rfl, rfl, rfl⟩, rfl, rfl, rfl, rfl, rfl, rfl, rfl, rfl, rfl, rfl, rfl, rfl, rfl, State.reset_working, fun _ => rfl⟩

end Sys2Proof.Machine
end

section
/-! Ports in time: LINE_FIRE, PG_STEP, EXPOSURE_START and EXPOSURE_END run their operation on a port that serves (R115 to R117, R125, R126, R133, R135, R179, R224, R394). -/
namespace Sys2Proof.Machine
open R

theorem exec_lineFire (s : State) (t p : Nat) (hp : p < 8) (h : (s.advance t).serves (portU p) = true) :
    exec (.lineFire t p) s = .next (s.went t ((s.advance t).lineFire p)) := congrArg _ (s.onUnit_went t p 8 _ _ hp h)
theorem exec_pgStep (s : State) (t p : Nat) (codes : List Nat) (hp : p < 8) (h : (s.advance t).serves (portU p) = true) :
    exec (.pgStep t p codes) s = .next (s.went t ((s.advance t).pgStep p codes)) := congrArg _ (s.onUnit_went t p 8 _ _ hp h)
theorem exec_exposureStart (s : State) (t p : Nat) (hp : p < 8) (h : (s.advance t).serves (portU p) = true) :
    exec (.exposureStart t p) s = .next (s.went t ((s.advance t).exposureStart p)) := congrArg _ (s.onUnit_went t p 8 _ _ hp h)
theorem exec_exposureEnd (s : State) (t p : Nat) (hp : p < 8) (h : (s.advance t).serves (portU p) = true) :
    exec (.exposureEnd t p) s = .next (s.went t ((s.advance t).exposureEnd p)) := congrArg _ (s.onUnit_went t p 8 _ _ hp h)

/-! ### Line clock -/

section
variable (s : State) (p f : Nat) (hf : s.fenced (portU p) = false) (hdue : f ≤ s.now)
include hf hdue
theorem State.lineFire_closing (hclose : (s.port p).closeAt = some f) : s.lineFire p = s.closeFires p f := by
  simp only [State.lineFire, hf, hclose, Nat.not_lt.2 hdue, Bool.false_eq_true, if_false]
theorem State.lineFire_capture (hclose : (s.port p).closeAt = none) (hcap : (s.port p).capture.isSome = true) (hfire : (s.port p).capFire = some f) :
    s.lineFire p = s.captureFire p f := by
  obtain ⟨c, hc⟩ := Option.isSome_iff_exists.1 hcap
  simp only [State.lineFire, hf, hclose, hc, hfire, Nat.not_lt.2 hdue, Bool.false_eq_true, if_false]
theorem State.lineFire_belay (hclose : (s.port p).closeAt = none) (hcap : (s.port p).capture = none) (hbelay : s.closingDue p = some f) :
    s.lineFire p = s.belayClose p f := by
  simp only [State.lineFire, hf, hclose, hcap, hbelay, Nat.not_lt.2 hdue, Bool.false_eq_true, if_false]
theorem State.lineFire_line (fast : Bool) (hclose : (s.port p).closeAt = none) (hcap : (s.port p).capture = none) (hbelay : s.closingDue p = none)
    (hlc : s.lcFires p = true) (hline : s.lcDue p = some (f, fast)) : s.lineFire p = s.lineDue p f fast := by
  simp only [State.lineFire, hf, hclose, hcap, hbelay, hlc, hline, Nat.not_lt.2 hdue, Bool.not_true, Bool.false_eq_true, if_false]
end

/-- Settles O1: the row runs `lineFire`, and each clause is one of its branches. -/
theorem linesFireWhenDue : Obligations.Lines_fire_when_due := by
  intro s t p f hp hserves hfence hdue a
  rw [exec_lineFire s t p hp hserves]
  refine ⟨fun hclose => ?_, fun hclose hcap hfire => ?_, fun hclose hcap hbelay => ?_, fun fast hclose hcap hbelay hlc hline => ?_⟩
  · rw [State.lineFire_closing _ p f hfence hdue hclose]
  · rw [State.lineFire_capture _ p f hfence hdue hclose hcap hfire]
  · rw [State.lineFire_belay _ p f hfence hdue hclose hcap hbelay]
  · rw [State.lineFire_line _ p f hfence hdue fast hclose hcap hbelay hlc hline]

/-! ### Pattern generator -/

/-- The step that follows the present one waits for a fire (R115, R116). -/
def PortSt.nextWaits (x : PortSt) : Prop := ((x.pgNext.1.prog x.pgNext.1.bank).getD x.pgNext.2 ⟨0, 0, 0, 9, false, false⟩).ctrl = 5
/-- The port with the loop counters of its next step (R117). -/
def State.pgCounted (s : State) (p : Nat) : State := s.modPort p (fun _ => (s.port p).pgNext.1)

section
variable (s : State) (p d : Nat) (codes : List Nat) (hd : s.pgDue p = some d) (hnow : d ≤ s.now)
include hd hnow
/-- No fire is consumed: the next step is no WAIT_LINE, or none waits. -/
theorem State.pgStep_plain (h : ¬ (s.port p).nextWaits ∨ (s.port p).pgNext.1.pend = none) :
    s.pgStep p codes = ((s.pgCounted p).pgBegin p (s.port p).pgNext.2 d codes).pgRegs p := by
  unfold State.pgCounted PortSt.nextWaits at *
  by_cases hwait : (((s.port p).pgNext.1.prog (s.port p).pgNext.1.bank).getD (s.port p).pgNext.2 ⟨0, 0, 0, 9, false, false⟩).ctrl = 5
  · simp only [State.pgStep, hd, Nat.not_lt.2 hnow, if_false, hwait, h.resolve_left (not_not_intro hwait), beq_self_eq_true]
  · simp only [State.pgStep, hd, Nat.not_lt.2 hnow, if_false, beq_false_of_ne hwait]
/-- The step is a WAIT_LINE and a fire waits: it is consumed, in step 0 of the other bank where the governing set selects that (R116, R135). -/
theorem State.pgStep_consumes (line f : Nat) (hwait : (s.port p).nextWaits) (hpend : (s.port p).pgNext.1.pend = some (line, f)) :
    s.pgStep p codes =
      (if vw (s.pgCounted p) ((s.pgCounted p).cycleSet p line) (portU p) Port.BANK = (s.port p).pgNext.1.bank then
        ((s.pgCounted p).pgBegin p (s.port p).pgNext.2 d codes).pgConsume p line f d codes
      else ((s.pgCounted p).modPort p (fun y => { y with step := (s.port p).pgNext.2, arrive := d })).pgConsume p line f d codes).pgRegs p := by
  unfold State.pgCounted PortSt.nextWaits at *
  simp only [State.pgStep, hd, Nat.not_lt.2 hnow, if_false, hwait, hpend, beq_self_eq_true]
end

/-- Settles O2: the row runs `pgStep`, whose step is plain or consumes the fire that waits. -/
theorem generatorStepsWhenDue : Obligations.Generator_steps_when_due := by
  intro s t p d codes hp hserves hd hnow a x i b wait
  rw [exec_pgStep s t p codes hp hserves]
  refine ⟨fun hplain => ?_, fun line f hwait hpend hbank => ?_, fun line f hwait hpend hbank => ?_⟩
  · rw [State.pgStep_plain _ p d codes hd hnow hplain]
    rfl
  · rw [State.pgStep_consumes _ p d codes hd hnow line f hwait hpend]
    exact congrArg (fun r : State => Host.Outcome.next (s.went t (r.pgRegs p))) (if_pos hbank)
  · rw [State.pgStep_consumes _ p d codes hd hnow line f hwait hpend]
    exact congrArg (fun r : State => Host.Outcome.next (s.went t (r.pgRegs p))) (if_neg hbank)

/-! ### Exposure -/

/-- The bound of an exposure: the next fire, or the predicted end (R125). -/
def State.expBound (s : State) (p : Nat) (f : Fire) : Option Nat :=
  match s.nextFire p f.line with
  | some t => some t
  | none => s.predictedEnd p (vw s f.set (portU p) Port.EXP_GAP_MIN)
theorem State.expBound_fire (s : State) (p : Nat) (f : Fire) (te : Nat) (h : s.nextFire p f.line = some te) : s.expBound p f = some te := by
  rw [State.expBound, h]
theorem State.expBound_eq_none (s : State) (p : Nat) (f : Fire) :
    s.expBound p f = none ↔ s.nextFire p f.line = none ∧ s.predictedEnd p (vw s f.set (portU p) Port.EXP_GAP_MIN) = none := by
  unfold State.expBound
  cases s.nextFire p f.line <;> simp
/-- Where the exposure of a line that begins at ts is bounded by `bound`: it opens, or is closed as empty (R125, R126). -/
def State.expOpens (s : State) (p : Nat) (f : Fire) : Option Nat → State
  | some te => if te ≤ f.ts then s.expEnd p f te true else s.modPort p (fun x => { x with openLine := some f.line, expLevel := true })
  | none => s.modPort p (fun x => { x with openLine := some f.line, expLevel := true })
/-- The exposure of the next line at its start: it opens, or is found empty, as its bound says. -/
theorem State.exposureStart_due (s : State) (p ts : Nat) (moved : Bool) (f : Fire) (hnext : s.expNext p = some (f, ts, moved)) (hnow : ts ≤ s.now) :
    let b := s.modFire p f.line (fun g => { g with ts := ts, moved := moved })
    s.exposureStart p = b.expOpens p { f with ts := ts, moved := moved } (b.expBound p f) := by
  rw [State.exposureStart, hnext]
  exact if_neg (Nat.not_lt.2 hnow)

section
variable (s : State) (p : Nat) (f : Fire) (hopen : (s.port p).openLine.bind (s.fireOf p) = some f)
include hopen
theorem State.exposureEnd_at_fire (te : Nat) (hfire : s.nextFire p f.line = some te) (hnow : min (f.ts + vw s f.set (portU p) Port.EXP_TIME) te ≤ s.now) :
    s.exposureEnd p = s.expEnd p f (min (f.ts + vw s f.set (portU p) Port.EXP_TIME) te) (min (f.ts + vw s f.set (portU p) Port.EXP_TIME) te ≤ f.ts) := by
  simp only [State.exposureEnd, hopen, hfire, Nat.not_lt.2 hnow, if_false]
theorem State.exposureEnd_at_length (hbound : s.expBound p f = none) (hnow : f.ts + vw s f.set (portU p) Port.EXP_TIME ≤ s.now) :
    s.exposureEnd p = s.expEnd p f (f.ts + vw s f.set (portU p) Port.EXP_TIME) (f.ts + vw s f.set (portU p) Port.EXP_TIME ≤ f.ts) := by
  obtain ⟨hfire, hpred⟩ := (s.expBound_eq_none p f).1 hbound
  simp only [State.exposureEnd, hopen, hfire, hpred, Nat.not_lt.2 hnow, if_false]
end

/-- Settles O3: EXPOSURE_START by the bound of the exposure, EXPOSURE_END by what ends it. -/
theorem exposuresOpenAndClose : Obligations.Exposures_open_and_close := by
  intro s t p te f hp hserves a
  refine ⟨fun ts moved hnext hnow => ?_, fun hopen hfire hnow => ?_, fun hopen hfire hpred hnow => ?_⟩
  · intro b
    rw [exec_exposureStart s t p hp hserves, State.exposureStart_due _ p ts moved f hnext hnow]
    refine ⟨fun hfire hpred => ?_, fun hfire hopen => ?_, fun hfire hempty => ?_⟩
    · rw [(State.expBound_eq_none _ p f).2 ⟨hfire, hpred⟩]
      rfl
    · rw [State.expBound_fire _ p f te hfire]
      exact congrArg (fun r => Host.Outcome.next (s.went t r)) (if_neg (Nat.not_le.2 hopen))
    · rw [State.expBound_fire _ p f te hfire]
      exact congrArg (fun r => Host.Outcome.next (s.went t r)) (if_pos hempty)
  · rw [exec_exposureEnd s t p hp hserves, State.exposureEnd_at_fire _ p f hopen te hfire hnow]
  · rw [exec_exposureEnd s t p hp hserves, State.exposureEnd_at_length _ p f hopen ((a.expBound_eq_none p f).2 ⟨hfire, hpred⟩) hnow]
end Sys2Proof.Machine
end

section
/-! What no operation of the device changes but those of jobs: the recipe records, the job's own record, and the number of ports.
An operation on a record of one port, unit or work leaves all of it as it was (`_fixed`); the operations of jobs write the records but keep the number of ports (`_portCount`).
One lemma for each operation, in the order of the model's files, so that the operations that call it follow by `simp`; a proof opens an operation by its
own steps only where `simp` on the whole of it would be slow. The lemmas that hold by unfolding alone are proved by `(rfl)`, which keeps `simp` from using them as definitional
unfoldings. -/
namespace Sys2Proof.Machine
open R

/-- What the operations below leave as it was: the recipe records, the job's own record, and how many ports there are. -/
structure Fixed where
  slots : List (Nat × SlotRec)
  job : JobSt
  ports : Nat
/-- That part of the state. -/
def State.fixed (s : State) : Fixed := ⟨s.slots, s.job, s.ports.length⟩

/-! ### Updates of another field -/

@[simp] theorem State.memS_fixed (s : State) (x : MemSt) : ({ s with memS := x } : State).fixed = s.fixed := (rfl)
@[simp] theorem State.reply_fixed (s : State) (x : ReplyFifo) : ({ s with reply := x } : State).fixed = s.fixed := (rfl)
@[simp] theorem State.works_fixed (s : State) (x : List Work) : ({ s with works := x } : State).fixed = s.fixed := (rfl)
@[simp] theorem State.sec_fixed (s : State) (x : SecSt) : ({ s with sec := x } : State).fixed = s.fixed := (rfl)
@[simp] theorem State.sys_fixed (s : State) (x : SysSt) : ({ s with sys := x } : State).fixed = s.fixed := (rfl)
@[simp] theorem State.aborts_fixed (s : State) (x : List AbortSt) : ({ s with aborts := x } : State).fixed = s.fixed := (rfl)
@[simp] theorem State.links_fixed (s : State) (x : List AxLink) : ({ s with links := x } : State).fixed = s.fixed := (rfl)
@[simp] theorem State.evt_fixed (s : State) (x : EventSt) : ({ s with evt := x } : State).fixed = s.fixed := (rfl)
@[simp] theorem State.host_fixed (s : State) (x : Mem) : ({ s with host := x } : State).fixed = s.fixed := (rfl)
@[simp] theorem State.ropeT_fixed (s : State) (x : RopeTime) : ({ s with ropeT := x } : State).fixed = s.fixed := (rfl)
@[simp] theorem State.ebStopped_fixed (s : State) (x : List Nat) : ({ s with ebStopped := x } : State).fixed = s.fixed := (rfl)
@[simp] theorem State.draw_fixed (s : State) (x : Nat) : ({ s with draw := x } : State).fixed = s.fixed := (rfl)
@[simp] theorem State.results_fixed (s : State) (x : List (Nat × List Nat)) : ({ s with results := x } : State).fixed = s.fixed := (rfl)
@[simp] theorem State.skews_fixed (s : State) (x : List (Nat × Nat)) : ({ s with skews := x } : State).fixed = s.fixed := (rfl)
@[simp] theorem State.normalQ_fixed (s : State) (x : CmdFifo) : ({ s with normalQ := x } : State).fixed = s.fixed := (rfl)
@[simp] theorem State.commits_fixed (s : State) (x : List Commit) : ({ s with commits := x } : State).fixed = s.fixed := (rfl)

/-! ### Choices and folds -/

@[simp] theorem State.ite_fixed {c : Prop} [Decidable c] (a b : State) : (if c then a else b).fixed = if c then a.fixed else b.fixed := apply_ite ..
@[simp] theorem Fixed.ite_ports {c : Prop} [Decidable c] (a b : Fixed) : (if c then a else b).ports = if c then a.ports else b.ports := apply_ite ..
@[simp] theorem State.foldl_fixed {α : Type} (g : State → α → State) (hg : ∀ (s : State) x, (g s x).fixed = s.fixed) (l : List α) (s : State) :
    (l.foldl g s).fixed = s.fixed := by
  induction l generalizing s with
  | nil => rfl
  | cons x l ih => rw [List.foldl_cons, ih, hg]
@[simp] theorem State.foldl_ports {α : Type} (g : State → α → State) (hg : ∀ (s : State) x, (g s x).fixed.ports = s.fixed.ports) (l : List α) (s : State) :
    (l.foldl g s).fixed.ports = s.fixed.ports := by
  induction l generalizing s with
  | nil => rfl
  | cons x l ih => rw [List.foldl_cons, ih, hg]
@[simp] theorem State.job_portCount (s : State) (x : JobSt) : ({ s with job := x } : State).fixed.ports = s.fixed.ports := (rfl)

/-! ### Ops -/

@[simp] theorem State.setC_fixed (s : State) (u ctx : Nat) (f : Field) (i v : Nat) : (s.setC u ctx f i v).fixed = s.fixed := (rfl)
@[simp] theorem State.set_fixed (s : State) (u : Nat) (f : Field) (v : Nat) (i : Nat) : (s.set u f v i).fixed = s.fixed := (rfl)
@[simp] theorem State.bumpC_fixed (s : State) (u ctx : Nat) (f : Field) (i n : Nat) : (s.bumpC u ctx f i n).fixed = s.fixed := (rfl)
@[simp] theorem State.bump_fixed (s : State) (u : Nat) (f : Field) (n : Nat) (i : Nat) : (s.bump u f n i).fixed = s.fixed := (rfl)
@[simp] theorem State.modUnit_fixed (s : State) (u : Nat) (f : UnitSt → UnitSt) : (s.modUnit u f).fixed = s.fixed := (rfl)
@[simp] theorem State.setSt_fixed (s : State) (u : Nat) (st : UState) (reason : Nat) : (s.setSt u st reason).fixed = s.fixed := by
  simp [State.setSt]
@[simp] theorem State.modPort_fixed (s : State) (p : Nat) (f : PortSt → PortSt) : (s.modPort p f).fixed = s.fixed := by
  simp [State.modPort, State.fixed, upd]
@[simp] theorem State.modLc_fixed (s : State) (p : Nat) (f : LcSt → LcSt) : (s.modLc p f).fixed = s.fixed := (rfl)
@[simp] theorem State.modEb_fixed (s : State) (p : Nat) (f : EbSt → EbSt) : (s.modEb p f).fixed = s.fixed := (rfl)
@[simp] theorem State.modRing_fixed (s : State) (p : Nat) (f : RingSt → RingSt) : (s.modRing p f).fixed = s.fixed := (rfl)
@[simp] theorem State.modDma_fixed (s : State) (k : Nat) (f : DmaSt → DmaSt) : (s.modDma k f).fixed = s.fixed := (rfl)
@[simp] theorem State.modAxis_fixed (s : State) (a : Nat) (f : AxisSt → AxisSt) : (s.modAxis a f).fixed = s.fixed := (rfl)
@[simp] theorem State.modBelay_fixed (s : State) (a : Nat) (f : BelaySt → BelaySt) : (s.modBelay a f).fixed = s.fixed := (rfl)
@[simp] theorem State.modLamp_fixed (s : State) (g : Nat) (f : LampSt → LampSt) : (s.modLamp g f).fixed = s.fixed := (rfl)
@[simp] theorem State.modStr_fixed (s : State) (g k : Nat) (f : StrSt → StrSt) : (s.modStr g k f).fixed = s.fixed := by
  simp [State.modStr]
@[simp] theorem State.modHare_fixed (s : State) (e : Nat) (f : HareSt → HareSt) : (s.modHare e f).fixed = s.fixed := (rfl)
@[simp] theorem State.modChain_fixed (s : State) (f : ChainSt → ChainSt) : (s.modChain f).fixed = s.fixed := (rfl)
@[simp] theorem State.modTrig_fixed (s : State) (f : TrigSt → TrigSt) : (s.modTrig f).fixed = s.fixed := (rfl)
@[simp] theorem State.modCond_fixed (s : State) (c : Nat) (f : CondSt → CondSt) : (s.modCond c f).fixed = s.fixed := by
  simp [State.modCond]
@[simp] theorem State.evtLost_fixed (s : State) : (s.evtLost).fixed = s.fixed := by
  simp [State.evtLost]
@[simp] theorem State.evtWrite_fixed (s : State) (e : Event) : (s.evtWrite e).fixed = s.fixed := by
  simp [State.evtWrite]
@[simp] theorem State.logEvent_fixed (s : State) (e : Event) : (s.logEvent e).fixed = s.fixed := (rfl)
@[simp] theorem State.msixGo_fixed (s : State) (v : Nat) : (s.msixGo v).fixed = s.fixed := (rfl)
@[simp] theorem State.msixSend_fixed (s : State) (v : Nat) : (s.msixSend v).fixed = s.fixed := by
  unfold State.msixSend
  (repeat' split) <;> simp
@[simp] theorem State.irq_fixed (s : State) (src : Nat) : (s.irq src).fixed = s.fixed := by
  simp [State.irq]
@[simp] theorem State.raise_fixed (s : State) (src uid detail : Nat) : (s.raise src uid detail).fixed = s.fixed := by
  simp [State.raise]
@[simp] theorem State.commitForce_fixed (s : State) (u : Nat) (cs : List Commit) (kind line rep time : Nat) :
    (s.commitForce u cs kind line rep time).fixed = s.fixed := by
  unfold State.commitForce
  split
  · rfl
  · exact (State.foldl_fixed _ (fun r d => by simp) _ _).trans rfl
@[simp] theorem State.forceHeld_fixed (s : State) (u : Nat) : (s.forceHeld u).fixed = s.fixed := by
  simp [State.forceHeld]
@[simp] theorem State.signal_fixed (s : State) (e : SigEv) : (s.signal e).fixed = s.fixed := by
  simp [State.signal]
@[simp] theorem State.fenceUnit_fixed (s : State) (u reason : Nat) : (s.fenceUnit u reason).fixed = s.fixed := by
  simp [State.fenceUnit]

/-! ### Audit -/

@[simp] theorem State.auditRegs_fixed (s : State) : (s.auditRegs).fixed = s.fixed := by
  simp [State.auditRegs]
@[simp] theorem State.audit_fixed (s : State) (kind uid : Nat) (detail : List Nat) : (s.audit kind uid detail).fixed = s.fixed := by
  simp [State.audit]

/-! ### Operands -/

@[simp] theorem State.putResult_fixed (s : State) (u tag : Nat) (ws : List Nat) : (s.putResult u tag ws).fixed = s.fixed := by
  simp [State.putResult]
@[simp] theorem State.tjWarn_fixed (s : State) (tj : Int) : (s.tjWarn tj).fixed = s.fixed := by
  simp [State.tjWarn]
@[simp] theorem State.tjFlags_fixed (s : State) : (s.tjFlags).fixed = s.fixed := by
  simp [State.tjFlags]

/-! ### Ecc -/

@[simp] theorem State.retireQueue_fixed (s : State) (page : Nat) : (s.retireQueue page).fixed = s.fixed := by
  simp [State.retireQueue]
@[simp] theorem State.memUE_fixed (s : State) (a : Nat) : (s.memUE a).fixed = s.fixed := by
  simp [State.memUE]
@[simp] theorem State.meetPoison_fixed (s : State) (a len : Nat) : (s.meetPoison a len).fixed = s.fixed := by
  simp [State.meetPoison]

/-! ### Ring -/

@[simp] theorem State.ringWrite_fixed (s : State) (p : Nat) (x : Nat) (y : List Nat) : (s.ringWrite p x y).fixed = s.fixed := by
  induction y generalizing s x with
  | nil => rfl
  | cons b bs ih => exact (ih ..).trans rfl
@[simp] theorem State.ringRegs_fixed (s : State) (p : Nat) : (s.ringRegs p).fixed = s.fixed := by
  simp [State.ringRegs]
@[simp] theorem State.ringCommit_fixed (s : State) (p : Nat) : (s.ringCommit p).fixed = s.fixed := by
  simp [State.ringCommit]
@[simp] theorem State.ringReserve_fixed (s : State) (p size typ first last : Nat) : (s.ringReserve p size typ first last).fixed = s.fixed := by
  simp [State.ringReserve]
@[simp] theorem State.ringDone_fixed (s : State) (p off : Nat) : (s.ringDone p off).fixed = s.fixed := by
  simp [State.ringDone]
@[simp] theorem State.recWrite_fixed (s : State) (p typ first last : Nat) (body : List Nat) : (s.recWrite p typ first last body).fixed = s.fixed := by
  simp [State.recWrite]
@[simp] theorem State.produce_fixed (s : State) (p typ : Nat) (wait : Option Nat) (first last : Nat) (body : List Nat) :
    (s.produce p typ wait first last body).fixed = s.fixed := by
  simp [State.produce]
@[simp] theorem State.flushHeld_fixed (s : State) (p : Nat) : (s.flushHeld p).fixed = s.fixed := by
  simp [State.flushHeld]
@[simp] theorem State.gap_fixed (s : State) (p cause queue first last lines rep winFirst winLast time timeEnd : Nat) :
    (s.gap p cause queue first last lines rep winFirst winLast time timeEnd).fixed = s.fixed := by
  simp [State.gap]
@[simp] theorem State.ptrFound_fixed (s : State) (code i u : Nat) : (s.ptrFound code i u).fixed = s.fixed := by
  simp [State.ptrFound]
@[simp] theorem State.recsLost_fixed (s : State) (p : Nat) : (s.recsLost p).fixed = s.fixed := by
  simp [State.recsLost]
@[simp] theorem State.emit_fixed (s : State) (p typ : Nat) (wait : Option Nat) (first last : Nat) (body : List Nat) :
    (s.emit p typ wait first last body).fixed = s.fixed := by
  simp [State.emit]
@[simp] theorem State.fenceRec_fixed (s : State) (p uid reason : Nat) (self : Bool) : (s.fenceRec p uid reason self).fixed = s.fixed := by
  simp [State.fenceRec]
@[simp] theorem State.jobStartRec_fixed (s : State) (p slot jobId repNow skipped time level : Nat) (rejoin : Bool) (digest : List Nat) :
    (s.jobStartRec p slot jobId repNow skipped time level rejoin digest).fixed = s.fixed := by
  simp [State.jobStartRec]
@[simp] theorem State.jobEndRec_fixed (s : State) (p time : Nat) : (s.jobEndRec p time).fixed = s.fixed := by
  simp [State.jobEndRec]
@[simp] theorem State.windowFeed_fixed (s : State) (p : Nat) (b : Block) (only : Nat → Bool) : (s.windowFeed p b only).fixed = s.fixed := by
  simp [State.windowFeed]
@[simp] theorem State.poolRegs_fixed (s : State) : (s.poolRegs).fixed = s.fixed := by
  simp [State.poolRegs]
@[simp] theorem State.poolWrite_fixed (s : State) (x : Nat) (y : List Nat) : (s.poolWrite x y).fixed = s.fixed := by
  induction y generalizing s x with
  | nil => rfl
  | cons b bs ih => exact (ih ..).trans rfl
@[simp] theorem State.windowClose_fixed (s : State) (w : Window) : (s.windowClose w).fixed = s.fixed := by
  simp [State.windowClose]
@[simp] theorem State.windowsDone_fixed (s : State) (p : Nat) : (s.windowsDone p).fixed = s.fixed := by
  simp [State.windowsDone]
@[simp] theorem State.windowsCut_fixed (s : State) (p line flag : Nat) : (s.windowsCut p line flag).fixed = s.fixed := by
  simp [State.windowsCut]
@[simp] theorem State.windowsEnd_fixed (s : State) (p flag : Nat) : (s.windowsEnd p flag).fixed = s.fixed := by
  simp [State.windowsEnd]
@[simp] theorem State.windowsDrop_fixed (s : State) (p : Nat) : (s.windowsDrop p).fixed = s.fixed := by
  simp [State.windowsDrop]
@[simp] theorem State.blockWrite_fixed (s : State) (p : Nat) (b : Block) : (s.blockWrite p b).fixed = s.fixed := by
  simp [State.blockWrite]
@[simp] theorem State.closeBlocks_fixed (s : State) (p : Nat) : (s.closeBlocks p).fixed = s.fixed := by
  simp [State.closeBlocks]
@[simp] theorem State.endBlock_fixed (s : State) (p : Nat) : (s.endBlock p).fixed = s.fixed := by
  simp [State.endBlock]
@[simp] theorem State.lineFlags_fixed (s : State) (p line : Nat) (f : BLine → BLine) : (s.lineFlags p line f).fixed = s.fixed := by
  simp [State.lineFlags]
@[simp] theorem State.windowOpen_fixed (s : State) (p : Nat) (defect : Bool) (srcSeq lt le pre post reqFirst reqLast : Nat) :
    (s.windowOpen p defect srcSeq lt le pre post reqFirst reqLast).1.fixed = s.fixed := by
  unfold State.windowOpen
  dsimp only
  (repeat' split) <;> simp

/-! ### Eyebright -/

@[simp] theorem State.blobClose_fixed (s : State) (p k : Nat) (flags : Nat) (b : Blob) : (s.blobClose p k flags b).fixed = s.fixed := by
  simp [State.blobClose]
@[simp] theorem State.verdicts_fixed (s : State) (p k : Nat) : (s.verdicts p k).fixed = s.fixed := by
  simp [State.verdicts]
@[simp] theorem State.ebRegs_fixed (s : State) (p k : Nat) : (s.ebRegs p k).fixed = s.fixed := by
  simp [State.ebRegs]
@[simp] theorem State.blobsTruncate_fixed (s : State) (p k : Nat) : (s.blobsTruncate p k).fixed = s.fixed := by
  simp [State.blobsTruncate]
@[simp] theorem State.blobsDrop_fixed (s : State) (p k : Nat) : (s.blobsDrop p k).fixed = s.fixed := by
  simp [State.blobsDrop]
@[simp] theorem State.ebGapAt_fixed (s : State) (p g : Nat) : (s.ebGapAt p g).fixed = s.fixed := by
  unfold State.ebGapAt
  (repeat' split) <;> simp
@[simp] theorem State.ebStop_fixed (s : State) (p : Nat) : (s.ebStop p).fixed = s.fixed := by
  unfold State.ebStop
  (repeat' split) <;> simp
@[simp] theorem State.stopEnds_fixed (s : State) (p : Nat) : (s.stopEnds p).fixed = s.fixed := by
  unfold State.stopEnds
  dsimp only
  (repeat' split) <;> simp
@[simp] theorem State.ebLeaves_fixed (s : State) (p : Nat) (drop : Bool) : (s.ebLeaves p drop).fixed = s.fixed := by
  unfold State.ebLeaves
  dsimp only
  (repeat' split) <;> simp

/-! ### Reply -/

@[simp] theorem State.replyRegs_fixed (s : State) : (s.replyRegs).fixed = s.fixed := by
  simp [State.replyRegs]
@[simp] theorem State.replyLost_fixed (s : State) : (s.replyLost).fixed = s.fixed := by
  simp [State.replyLost]
@[simp] theorem State.replyShow_fixed (s : State) (ws : List Nat) : (s.replyShow ws).fixed = s.fixed := by
  simp [State.replyShow]
@[simp] theorem State.watchDone_fixed (s : State) : (s.watchDone).fixed = s.fixed := by
  simp [State.watchDone]
@[simp] theorem State.replyWrite_fixed (s : State) (ws : List Nat) : (s.replyWrite ws).fixed = s.fixed := by
  simp [State.replyWrite]
@[simp] theorem State.replyNormal_fixed (s : State) (ws : List Nat) : (s.replyNormal ws).fixed = s.fixed := by
  simp [State.replyNormal]
@[simp] theorem State.replyUrgent_fixed (s : State) (ws : List Nat) : (s.replyUrgent ws).fixed = s.fixed := by
  simp [State.replyUrgent]
@[simp] theorem State.answer_fixed (s : State) (k : Pkt) (status : Nat) (results : List Nat) : (s.answer k status results).fixed = s.fixed := by
  simp [State.answer]
@[simp] theorem State.replyRelease_fixed (s : State) : (s.replyRelease).fixed = s.fixed := by
  simp [State.replyRelease]
@[simp] theorem State.answerAbort_fixed (s : State) (k : Pkt) (status : Nat) (results : List Nat) : (s.answerAbort k status results).fixed = s.fixed := by
  simp [State.answerAbort]
@[simp] theorem State.workDone_fixed (s : State) (w : Work) (status : Nat) : (s.workDone w status).fixed = s.fixed := by
  simp [State.workDone]
@[simp] theorem State.workEnd_fixed (s : State) (w : Work) (status : Nat) (data : List Nat) : (s.workEnd w status data).fixed = s.fixed := by
  simp [State.workEnd]
@[simp] theorem State.stageWithdraw_portCount (s : State) : (s.stageWithdraw).fixed.ports = s.fixed.ports := by
  unfold State.stageWithdraw
  extract_lets sh r
  split <;> rfl
@[simp] theorem State.startEnds_portCount (s : State) (status : Nat) : (s.startEnds status).fixed.ports = s.fixed.ports := by
  unfold State.startEnds
  extract_lets j r q
  have hq : q.fixed.ports = s.fixed.ports := rfl
  split
  · exact (congrArg Fixed.ports (q.workEnd_fixed ..)).trans hq
  · exact hq
@[simp] theorem State.stageLost_portCount (s : State) (cause uid : Nat) : (s.stageLost cause uid).fixed.ports = s.fixed.ports := by
  unfold State.stageLost
  split
  · rfl
  · extract_lets pend r q j x
    have hx : x.fixed.ports = s.fixed.ports := by simp [x, q, r]
    split
    · simp [hx]
    · exact hx

/-! ### Frontend -/

@[simp] theorem State.degrade_fixed (s : State) (p cause : Nat) (on : Bool) : (s.degrade p cause on).fixed = s.fixed := by
  simp [State.degrade]
@[simp] theorem State.portRefresh_fixed (s : State) (p : Nat) : (s.portRefresh p).fixed = s.fixed := by
  simp [State.portRefresh]
@[simp] theorem State.setCal_fixed (s : State) (p c gain at_ : Nat) : (s.setCal p c gain at_).fixed = s.fixed := by
  simp [State.setCal]
@[simp] theorem State.calTally_fixed (s : State) (p c kind : Nat) : (s.calTally p c kind).fixed = s.fixed := by
  simp [State.calTally]
@[simp] theorem State.calRetired_fixed (s : State) (p c : Nat) : (s.calRetired p c).fixed = s.fixed := by
  simp [State.calRetired]
@[simp] theorem State.calFinish_fixed (s : State) (stop : Option Nat) (p : Nat) : (s.calFinish stop p).fixed = s.fixed := by
  simp [State.calFinish]
@[simp] theorem State.stageLosesTap_portCount (s : State) (p k : Nat) : (s.stageLosesTap p k).fixed.ports = s.fixed.ports := by
  simp [State.stageLosesTap]
@[simp] theorem State.spareLost_fixed (s : State) (p detail : Nat) : (s.spareLost p detail).fixed = s.fixed := by
  simp [State.spareLost]
@[simp] theorem State.chanRetire_portCount (s : State) (p c : Nat) : (s.chanRetire p c).1.fixed.ports = s.fixed.ports := by
  unfold State.chanRetire
  dsimp only
  (repeat' split) <;> simp
@[simp] theorem State.dacTo_fixed (s : State) (x : Option (Nat × Nat)) : (s.dacTo x).fixed = s.fixed := by
  simp [State.dacTo]
@[simp] theorem State.dacSteps_fixed (k : Nat) (s : State) : (State.dacSteps k s).fixed = s.fixed := by
  induction k generalizing s with
  | zero => rfl
  | succ k ih =>
    unfold State.dacSteps
    (repeat' split) <;> simp [ih]
@[simp] theorem State.dacRun_fixed (s : State) : (s.dacRun).fixed = s.fixed := by
  simp [State.dacRun]
@[simp] theorem State.reliefRegs_fixed (s : State) (p : Nat) : (s.reliefRegs p).fixed = s.fixed := by
  unfold State.reliefRegs
  (repeat' split) <;> simp
@[simp] theorem State.reliefNext_fixed (s : State) (p : Nat) : (s.reliefNext p).fixed = s.fixed := by
  unfold State.reliefNext
  dsimp only
  (repeat' split) <;> simp
@[simp] theorem State.reliefEnd_fixed (s : State) (p : Nat) : (s.reliefEnd p).fixed = s.fixed := by
  unfold State.reliefEnd
  (repeat' split) <;> simp
@[simp] theorem State.calForce_fixed (s : State) (p c gain at_ : Nat) (r : Int × Nat) : (s.calForce p c gain at_ r).fixed = s.fixed := by
  simp [State.calForce]
@[simp] theorem State.calStage_fixed (s : State) (p c gain at_ : Nat) (r : Int × Nat) : (s.calStage p c gain at_ r).fixed = s.fixed := by
  simp [State.calStage]
@[simp] theorem State.stgForce_fixed (s : State) (p c g : Nat) : (s.stgForce p c g).fixed = s.fixed := by
  unfold State.stgForce
  (repeat' split) <;> simp
@[simp] theorem State.attemptOk_fixed (s : State) (p : Nat) (r : Relief) (res : Int × Nat) (at_ : Nat) : (s.attemptOk p r res at_).fixed = s.fixed := by
  simp [State.attemptOk]
@[simp] theorem State.attemptBad_portCount (s : State) (p : Nat) (r : Relief) : (s.attemptBad p r).1.fixed.ports = s.fixed.ports := by
  unfold State.attemptBad
  (repeat' split) <;> simp
@[simp] theorem State.attemptJudge_portCount (s : State) (p : Nat) (r : Relief) (a b : Int × Int × Nat) (at_ : Nat) :
    (s.attemptJudge p r a b at_).1.fixed.ports = s.fixed.ports := by
  unfold State.attemptJudge
  (repeat' split) <;> simp
@[simp] theorem State.reliefResume_portCount (s : State) (p : Nat) : (s.reliefResume p).1.fixed.ports = s.fixed.ports := by
  unfold State.reliefResume
  (repeat' split) <;> simp
@[simp] theorem State.reliefAbort_fixed (s : State) (p : Nat) : (s.reliefAbort p).fixed = s.fixed := by
  unfold State.reliefAbort
  (repeat' split) <;> simp
@[simp] theorem State.reliefStop_fixed (s : State) (p status : Nat) : (s.reliefStop p status).fixed = s.fixed := by
  simp [State.reliefStop]
@[simp] theorem State.reliefJob_fixed (s : State) (p : Nat) : (s.reliefJob p).fixed = s.fixed := by
  unfold State.reliefJob
  (repeat' split) <;> simp
@[simp] theorem State.gainChange_fixed (s : State) (p : Nat) (old new : RegMap) : (s.gainChange p old new).fixed = s.fixed := by
  simp [State.gainChange]

/-! ### LineClock -/

@[simp] theorem State.lcRegs_fixed (s : State) (p : Nat) : (s.lcRegs p).fixed = s.fixed := by
  simp [State.lcRegs]
@[simp] theorem State.pulsePass_fixed (s : State) (p n : Nat) : (s.pulsePass p n).fixed = s.fixed := by
  simp [State.pulsePass]
@[simp] theorem State.lcAdvance_fixed (s : State) (p n : Nat) : (s.lcAdvance p n).fixed = s.fixed := by
  simp [State.lcAdvance]
@[simp] theorem State.lcSilent_fixed (s : State) (p n : Nat) : (s.lcSilent p n).fixed = s.fixed := by
  simp [State.lcSilent]
@[simp] theorem State.lcLeavePast_fixed (s : State) (p : Nat) (x : Nat) : (s.lcLeavePast p x).fixed = s.fixed := by
  induction x generalizing s with
  | zero => rfl
  | succ n ih =>
    unfold State.lcLeavePast
    split
    · split
      · rw [ih, State.lcSilent_fixed]
      · rfl
    · rfl
@[simp] theorem State.lcReady_fixed (s : State) (p : Nat) : (s.lcReady p).fixed = s.fixed := by
  simp [State.lcReady]
@[simp] theorem State.estClear_fixed (s : State) (p st : Nat) : (s.estClear p st).fixed = s.fixed := by
  simp [State.estClear]

/-! ### Port -/

@[simp] theorem State.pgRegs_fixed (s : State) (p : Nat) : (s.pgRegs p).fixed = s.fixed := by
  simp [State.pgRegs]
@[simp] theorem State.portHalt_fixed (s : State) (p : Nat) : (s.portHalt p).fixed = s.fixed := by
  simp [State.portHalt]
@[simp] theorem State.unverCount_fixed (s : State) (g : Nat) (ls : List Nat) (fault : Bool) : (s.unverCount g ls fault).fixed = s.fixed := by
  unfold State.unverCount
  (repeat' split) <;> simp
@[simp] theorem State.settleFlags_fixed (s : State) (p : Nat) : (s.settleFlags p).fixed = s.fixed := by
  simp [State.settleFlags]
@[simp] theorem State.gapStopped_fixed (s : State) (p next timeEnd : Nat) : (s.gapStopped p next timeEnd).fixed = s.fixed := by
  unfold State.gapStopped
  (repeat' split) <;> simp
@[simp] theorem State.fencePort_fixed (s : State) (p reason : Nat) : (s.fencePort p reason).fixed = s.fixed := by
  unfold State.fencePort
  split
  · rfl
  · extract_lets qp s1 s2 s3 s4 kept s5 s6 s7 s8
    have h4 : s4.fixed = s.fixed := by simp [s4, s3, s2, s1]
    have h8 : s8.fixed = s.fixed := by simp [s8, s7, s6, s5, h4]
    split <;> simp [h8]
@[simp] theorem State.fenceServing_fixed (s : State) (u reason : Nat) (ps : List Nat) : (s.fenceServing u reason ps).fixed = s.fixed := by
  simp [State.fenceServing]
@[simp] theorem State.readoutDone_fixed (s : State) (p : Nat) (r : Readout) : (s.readoutDone p r).fixed = s.fixed := by
  simp [State.readoutDone]
@[simp] theorem State.cdsSample_fixed (s : State) (p : Nat) (codes : List Nat) : (s.cdsSample p codes).fixed = s.fixed := by
  unfold State.cdsSample
  (repeat' split) <;> simp
@[simp] theorem State.pgBegin_fixed (s : State) (p i tick : Nat) (codes : List Nat) : (s.pgBegin p i tick codes).fixed = s.fixed := by
  simp [State.pgBegin]
@[simp] theorem State.pgLoad_fixed (s : State) (p : Nat) (m : RegMap) : (s.pgLoad p m).fixed = s.fixed := by
  simp [State.pgLoad]
@[simp] theorem State.pgStart_fixed (s : State) (p : Nat) : (s.pgStart p).fixed = s.fixed := by
  simp [State.pgStart]
@[simp] theorem State.modFire_fixed (s : State) (p line : Nat) (f : Fire → Fire) : (s.modFire p line f).fixed = s.fixed := by
  simp [State.modFire]

/-! ### Axis -/

@[simp] theorem State.axisRegs_fixed (s : State) (a : Nat) : (s.axisRegs a).fixed = s.fixed := by
  simp [State.axisRegs]
@[simp] theorem State.axisDisturb_fixed (s : State) (a : Nat) : (s.axisDisturb a).fixed = s.fixed := by
  simp [State.axisDisturb]
@[simp] theorem State.modLink_fixed (s : State) (id : Nat) (f : AxLink → AxLink) : (s.modLink id f).fixed = s.fixed := (rfl)
@[simp] theorem State.linkStop_fixed (s : State) (l : AxLink) : (s.linkStop l).fixed = s.fixed := by
  simp [State.linkStop]
@[simp] theorem State.axisHalt_fixed (s : State) (a : Nat) : (s.axisHalt a).fixed = s.fixed := by
  unfold State.axisHalt
  (repeat' split) <;> simp
@[simp] theorem State.axisWorkEnd_fixed (s : State) (a op status : Nat) (data : List Nat) : (s.axisWorkEnd a op status data).fixed = s.fixed := by
  unfold State.axisWorkEnd
  dsimp only
  (repeat' split) <;> simp
@[simp] theorem State.linkLeave_fixed (s : State) (a : Nat) : (s.linkLeave a).fixed = s.fixed := by
  unfold State.linkLeave
  (repeat' split) <;> simp
@[simp] theorem State.axisSync_fixed (s : State) (a : Nat) : (s.axisSync a).fixed = s.fixed := by
  simp [State.axisSync]
@[simp] theorem State.axisInputs_fixed (s : State) (a : Nat) : (s.axisInputs a).fixed = s.fixed := by
  simp [State.axisInputs]

/-! ### Belay -/

@[simp] theorem State.setBelay_fixed (s : State) (a st : Nat) : (s.setBelay a st).fixed = s.fixed := by
  simp [State.setBelay]
@[simp] theorem State.scanBack_fixed (s : State) (a : Nat) (target : Int) : (s.scanBack a target).fixed = s.fixed := by
  simp [State.scanBack]
@[simp] theorem State.seamShow_fixed (s : State) (a : Nat) : (s.seamShow a).fixed = s.fixed := by
  simp [State.seamShow]
@[simp] theorem State.scanAtStart_fixed (s : State) (a : Nat) : (s.scanAtStart a).fixed = s.fixed := by
  simp [State.scanAtStart]
@[simp] theorem State.swShow_fixed (s : State) (a : Nat) : (s.swShow a).fixed = s.fixed := by
  simp [State.swShow]
@[simp] theorem State.scanFromStart_fixed (s : State) (a : Nat) : (s.scanFromStart a).fixed = s.fixed := by
  simp [State.scanFromStart]
@[simp] theorem State.scanHold_fixed (s : State) (a p : Nat) : (s.scanHold a p).fixed = s.fixed := by
  simp [State.scanHold]
@[simp] theorem State.belayTell_fixed (s : State) (a cause p : Nat) : (s.belayTell a cause p).fixed = s.fixed := by
  simp [State.belayTell]
@[simp] theorem State.belayHolds_fixed (s : State) (a cause : Nat) : (s.belayHolds a cause).fixed = s.fixed := by
  simp [State.belayHolds]
@[simp] theorem State.belayPark_fixed (s : State) (a : Nat) (cs : List (Nat × Nat)) : (s.belayPark a cs).fixed = s.fixed := by
  unfold State.belayPark
  (repeat' split) <;> simp
@[simp] theorem State.belayStop_fixed (s : State) (a : Nat) : (s.belayStop a).fixed = s.fixed := by
  simp [State.belayStop]
@[simp] theorem State.belayBegin_fixed (s : State) (a cause p : Nat) (quick : Bool) : (s.belayBegin a cause p quick).fixed = s.fixed := by
  simp [State.belayBegin]
@[simp] theorem State.belayJoin_fixed (s : State) (a cause : Nat) (quick : Bool) : (s.belayJoin a cause quick).fixed = s.fixed := by
  simp [State.belayJoin]
@[simp] theorem State.belayCause_fixed (s : State) (a cause p : Nat) (quick : Bool) : (s.belayCause a cause p quick).fixed = s.fixed := by
  simp [State.belayCause]
@[simp] theorem State.scanLost_fixed (s : State) (a cause : Nat) : (s.scanLost a cause).fixed = s.fixed := by
  simp [State.scanLost]
@[simp] theorem State.scanSeam_fixed (s : State) (a : Nat) : (s.scanSeam a).fixed = s.fixed := by
  simp [State.scanSeam]
@[simp] theorem State.scanFree_fixed (s : State) (a : Nat) : (s.scanFree a).fixed = s.fixed := by
  simp [State.scanFree]
@[simp] theorem State.scanLeave_fixed (s : State) (a : Nat) : (s.scanLeave a).fixed = s.fixed := by
  simp [State.scanLeave]
@[simp] theorem State.portLeavesScan_fixed (s : State) (p : Nat) : (s.portLeavesScan p).fixed = s.fixed := by
  simp [State.portLeavesScan]
@[simp] theorem State.scanBegin_fixed (s : State) (a : Nat) : (s.scanBegin a).fixed = s.fixed := by
  simp [State.scanBegin]
@[simp] theorem State.scanRejoin_fixed (s : State) (p : Nat) : (s.scanRejoin p).fixed = s.fixed := by
  simp [State.scanRejoin]
@[simp] theorem State.axisTakes_fixed (s : State) (a : Nat) : (s.axisTakes a).fixed = s.fixed := by
  simp [State.axisTakes]

/-! ### Pipeline -/

@[simp] theorem State.pipeRegs_fixed (s : State) (m : RegMap) (p : Nat) : (s.pipeRegs m p).fixed = s.fixed := by
  simp [State.pipeRegs]

/-! ### Capture -/

@[simp] theorem State.capEnd_fixed (s : State) (p status rep : Nat) (detail : List Nat) : (s.capEnd p status rep detail).fixed = s.fixed := by
  unfold State.capEnd
  extract_lets data s1 s2 s3
  have h2 : s2.fixed = s.fixed := by simp [s2, s1]
  show s3.fixed = s.fixed
  dsimp only [s3]
  split <;> simp [h2]

/-! ### Memory -/

@[simp] theorem State.bwRegs_fixed (s : State) : (s.bwRegs).fixed = s.fixed := by
  simp [State.bwRegs]
@[simp] theorem State.ledgerStep_fixed (s before : State) : (s.ledgerStep before).fixed = s.fixed := by
  simp [State.ledgerStep]

/-! ### Dma -/

@[simp] theorem State.dmaRegs_fixed (s : State) (k : Nat) : (s.dmaRegs k).fixed = s.fixed := by
  simp [State.dmaRegs]
@[simp] theorem State.dmaTo_fixed (s : State) (k : Nat) (f : DmaSt → DmaSt) : (s.dmaTo k f).fixed = s.fixed := by
  simp [State.dmaTo]
@[simp] theorem State.dmaGo_fixed (s : State) (k a : Nat) : (s.dmaGo k a).fixed = s.fixed := by
  simp [State.dmaGo]
@[simp] theorem State.dmaServe_fixed (s : State) (e : Nat) : (s.dmaServe e).fixed = s.fixed := by
  unfold State.dmaServe
  dsimp only
  (repeat' split) <;> simp
@[simp] theorem State.dmaPump_fixed (s : State) : (s.dmaPump).fixed = s.fixed := by
  simp [State.dmaPump]
@[simp] theorem State.ringRelease_fixed (s : State) (p n : Nat) : (s.ringRelease p n).fixed = s.fixed := by
  simp [State.ringRelease]
@[simp] theorem State.hostPut_fixed (s : State) (k : Nat) (ws : List (Nat × List Nat)) : (s.hostPut k ws).fixed = s.fixed := by
  simp [State.hostPut]
@[simp] theorem State.dmaData_fixed (s : State) (k n : Nat) : (s.dmaData k n).fixed = s.fixed := by
  unfold State.dmaData
  dsimp only
  (repeat' split) <;> simp
@[simp] theorem State.dmaStatus_fixed (s : State) (k kind : Nat) : (s.dmaStatus k kind).fixed = s.fixed := by
  unfold State.dmaStatus
  simp
@[simp] theorem State.dmaEvent_fixed (s : State) (k : Nat) (parked : Bool) : (s.dmaEvent k parked).fixed = s.fixed := by
  simp [State.dmaEvent]
@[simp] theorem State.dmaFence_fixed (s : State) (k reason : Nat) : (s.dmaFence k reason).fixed = s.fixed := by
  simp [State.dmaFence]
@[simp] theorem State.dmaEnds_fixed (s : State) (k kind : Nat) : (s.dmaEnds k kind).fixed = s.fixed := by
  unfold State.dmaEnds
  extract_lets d0 s1 lastD s2
  have h2 : s2.fixed = s.fixed := (State.modDma_fixed ..).trans (State.dmaStatus_fixed ..)
  clear_value lastD s2
  cases lastD with
  | none => exact h2
  | some x =>
    dsimp only
    split
    · simp [h2]
    · split <;> simp [h2]
@[simp] theorem State.dmaError_fixed (s : State) (k : Nat) : (s.dmaError k).fixed = s.fixed := by
  simp [State.dmaError]
@[simp] theorem State.moverRegs_fixed (s : State) (u : Nat) : (s.moverRegs u).fixed = s.fixed := by
  simp [State.moverRegs]
@[simp] theorem State.moverAbort_fixed (s : State) (u : Nat) : (s.moverAbort u).fixed = s.fixed := by
  simp [State.moverAbort]

/-! ### Lamp -/

@[simp] theorem State.flagLines_fixed (s : State) (p : Nat) (ls : List Nat) (flag : Nat) (done : Bool) : (s.flagLines p ls flag done).fixed = s.fixed := by
  simp [State.flagLines]
@[simp] theorem State.lampDecide_fixed (s : State) (p : Nat) : (s.lampDecide p).fixed = s.fixed := by
  simp [State.lampDecide]
@[simp] theorem State.lampUnverified_fixed (s : State) (g : Nat) (ls : List Nat) (fault : Bool) : (s.lampUnverified g ls fault).fixed = s.fixed := by
  unfold State.lampUnverified
  (repeat' split) <;> simp
@[simp] theorem State.lampGiveUp_fixed (s : State) (p : Nat) (f : Nat → Bool) : (s.lampGiveUp p f).fixed = s.fixed := by
  simp [State.lampGiveUp]
@[simp] theorem State.lampInvalidLines_fixed (s : State) (g t : Nat) (ls : List Nat) : (s.lampInvalidLines g t ls).fixed = s.fixed := by
  unfold State.lampInvalidLines
  (repeat' split) <;> simp
@[simp] theorem State.lampInvalidFrom_fixed (s : State) (g t : Nat) : (s.lampInvalidFrom g t).fixed = s.fixed := by
  simp [State.lampInvalidFrom]
@[simp] theorem State.lampRefresh_fixed (s : State) (g : Nat) : (s.lampRefresh g).fixed = s.fixed := by
  unfold State.lampRefresh
  extract_lets u r
  have hr : r.fixed = s.fixed := by simp [r]
  split <;> simp [hr]
@[simp] theorem State.setLit_fixed (s : State) (g k : Nat) (on : Bool) : (s.setLit g k on).fixed = s.fixed := by
  simp [State.setLit]
@[simp] theorem State.strobeMeas_fixed (s : State) (g p line m : Nat) : (s.strobeMeas g p line m).fixed = s.fixed := by
  simp [State.strobeMeas]
@[simp] theorem State.lampDark_fixed (s : State) (g : Nat) : (s.lampDark g).fixed = s.fixed := by
  unfold State.lampDark
  (repeat' split) <;> simp
@[simp] theorem State.roleDark_fixed (s : State) (g k : Nat) : (s.roleDark g k).fixed = s.fixed := by
  unfold State.roleDark
  (repeat' split) <;> simp
@[simp] theorem State.lampLights_fixed (s : State) (g : Nat) : (s.lampLights g).fixed = s.fixed := by
  simp [State.lampLights]
@[simp] theorem State.lampSync_fixed (s : State) (g : Nat) : (s.lampSync g).fixed = s.fixed := by
  simp [State.lampSync]
@[simp] theorem State.calStop_fixed (s : State) (g : Nat) : (s.calStop g).fixed = s.fixed := by
  unfold State.calStop
  dsimp only
  (repeat' split) <;> simp
@[simp] theorem State.lampIdle_fixed (s : State) (g : Nat) : (s.lampIdle g).fixed = s.fixed := by
  unfold State.lampIdle
  split
  · rfl
  · extract_lets x l s1 s2 s3 s4
    have h1 : s1.fixed = s.fixed := by
      dsimp only [s1]
      split <;> simp
    have h3 : s3.fixed = s.fixed := by simp [s3, s2, h1]
    split
    · split <;> simp [s4, h3]
    · exact h3
@[simp] theorem State.lampGroupOff_fixed (s : State) (g : Nat) : (s.lampGroupOff g).fixed = s.fixed := by
  unfold State.lampGroupOff
  dsimp only
  (repeat' split) <;> simp
@[simp] theorem State.pulseDone_fixed (s : State) (g k : Nat) (line : Option Nat) (a len : Nat) : (s.pulseDone g k line a len).fixed = s.fixed := by
  unfold State.pulseDone
  (repeat' split) <;> simp
@[simp] theorem State.strobeEnd_fixed (s : State) (g : Nat) : (s.strobeEnd g).fixed = s.fixed := by
  unfold State.strobeEnd
  dsimp only
  (repeat' split) <;> simp
@[simp] theorem State.lampJob_fixed (s : State) (g : Nat) : (s.lampJob g).fixed = s.fixed := by
  unfold State.lampJob
  dsimp only
  (repeat' split) <;> simp
@[simp] theorem State.lampFence_fixed (s : State) (g reason : Nat) : (s.lampFence g reason).fixed = s.fixed := by
  unfold State.lampFence
  dsimp only
  (repeat' split) <;> simp

/-! ### Chain -/

@[simp] theorem State.chainBegins_fixed (s : State) : (s.chainBegins).fixed = s.fixed := by
  unfold State.chainBegins
  (repeat' split) <;> simp
@[simp] theorem State.chainMarker_fixed (s : State) : (s.chainMarker).fixed = s.fixed := by
  simp [State.chainMarker]
@[simp] theorem State.chainSync_fixed (s : State) : (s.chainSync).fixed = s.fixed := by
  simp [State.chainSync]
@[simp] theorem State.chainHalt_fixed (s : State) : (s.chainHalt).fixed = s.fixed := by
  simp [State.chainHalt]
@[simp] theorem State.chainBoundary_fixed (s : State) (p rank t : Nat) (jobStart : Bool) : (s.chainBoundary p rank t jobStart).fixed = s.fixed := by
  simp [State.chainBoundary]
@[simp] theorem State.hareStrings_fixed (s : State) (e : Nat) (outs : List Nat) : (s.hareStrings e outs).fixed = s.fixed := by
  simp [State.hareStrings]
@[simp] theorem State.hareIndicate_fixed (s : State) (e p : Nat) (pix : Option Nat) : (s.hareIndicate e p pix).fixed = s.fixed := by
  simp [State.hareIndicate]
@[simp] theorem State.hareStop_fixed (s : State) (e : Nat) : (s.hareStop e).fixed = s.fixed := by
  simp [State.hareStop]

/-! ### Rope -/

@[simp] theorem State.modRope_fixed (s : State) (f : RopeSt → RopeSt) : (s.modRope f).fixed = s.fixed := (rfl)
@[simp] theorem State.modPitch_fixed (s : State) (k : Nat) (f : PitchSt → PitchSt) : (s.modPitch k f).fixed = s.fixed := by
  simp [State.modPitch]
@[simp] theorem State.setLink_fixed (s : State) (k st refuse : Nat) : (s.setLink k st refuse).fixed = s.fixed := by
  simp [State.setLink]
@[simp] theorem State.linkEvent_fixed (s : State) (k : Nat) : (s.linkEvent k).fixed = s.fixed := by
  simp [State.linkEvent]
@[simp] theorem State.ropeRegs_fixed (s : State) : (s.ropeRegs).fixed = s.fixed := by
  simp [State.ropeRegs]
@[simp] theorem State.ropeRefresh_fixed (s : State) : (s.ropeRefresh).fixed = s.fixed := by
  simp [State.ropeRefresh]
@[simp] theorem State.setAligned_fixed (s : State) (on : Bool) : (s.setAligned on).fixed = s.fixed := by
  simp [State.setAligned]
@[simp] theorem State.transmit_fixed (s : State) (k : Nat) (m : RMsg) : (s.transmit k m).fixed = s.fixed := by
  simp [State.transmit]
@[simp] theorem State.pump_fixed (s : State) (k : Nat) : (s.pump k).fixed = s.fixed := by
  unfold State.pump
  (repeat' split) <;> simp
@[simp] theorem State.msgDropped_fixed (s : State) (k : Nat) (m : RMsg) : (s.msgDropped k m).fixed = s.fixed := by
  simp [State.msgDropped]
@[simp] theorem State.ropeSend_fixed (s : State) (k : Nat) (m : RMsg) (link : Bool) : (s.ropeSend k m link).fixed = s.fixed := by
  simp [State.ropeSend]
@[simp] theorem State.ropeFlood_fixed (s : State) (m : RMsg) (from_ : Nat) (up down : Bool) : (s.ropeFlood m from_ up down).fixed = s.fixed := by
  simp [State.ropeFlood]
@[simp] theorem State.pitchClear_fixed (s : State) (k : Nat) : (s.pitchClear k).fixed = s.fixed := by
  simp [State.pitchClear]
@[simp] theorem State.subShow_fixed (s : State) (k : Nat) : (s.subShow k).fixed = s.fixed := by
  simp [State.subShow]
@[simp] theorem State.nodesAway_fixed (s : State) (k : Nat) : (s.nodesAway k).fixed = s.fixed := by
  simp [State.nodesAway]
@[simp] theorem State.subGone_fixed (s : State) (k : Nat) : (s.subGone k).fixed = s.fixed := by
  simp [State.subGone]
@[simp] theorem State.sendLost_fixed (s : State) (from_ : Nat) : (s.sendLost from_).fixed = s.fixed := by
  simp [State.sendLost]
@[simp] theorem State.pitchBreak_fixed (s : State) (k : Nat) : (s.pitchBreak k).fixed = s.fixed := by
  simp [State.pitchBreak]
@[simp] theorem State.pitchOff_fixed (s : State) (k : Nat) : (s.pitchOff k).fixed = s.fixed := by
  simp [State.pitchOff]
@[simp] theorem State.linkUp_fixed (s : State) (k : Nat) : (s.linkUp k).fixed = s.fixed := by
  simp [State.linkUp]
@[simp] theorem State.ropeOwn_fixed (s : State) : (s.ropeOwn).fixed = s.fixed := by
  simp [State.ropeOwn]
@[simp] theorem State.ropeBegin_fixed (s : State) : (s.ropeBegin).fixed = s.fixed := by
  unfold State.ropeBegin
  extract_lets s1 s2 s3 noId s4 s5 s6 s7
  have h5 : s5.fixed = s.fixed := by
    dsimp only [s5]
    (repeat' split) <;> simp [s4, s3, s2, s1]
  simp [s7, s6, h5]
@[simp] theorem State.refusedAgain_fixed (s : State) : (s.refusedAgain).fixed = s.fixed := by
  simp [State.refusedAgain]
@[simp] theorem State.ropeKeeps_fixed (s : State) : (s.ropeKeeps).fixed = s.fixed := by
  simp [State.ropeKeeps]
@[simp] theorem State.sendReport_fixed (s : State) : (s.sendReport).fixed = s.fixed := by
  simp [State.sendReport]
@[simp] theorem State.reportChanged_fixed (s : State) : (s.reportChanged).fixed = s.fixed := by
  simp [State.reportChanged]
@[simp] theorem State.subFollows_fixed (s : State) (k : Nat) : (s.subFollows k).fixed = s.fixed := by
  simp [State.subFollows]
@[simp] theorem State.subReset_fixed (s : State) (k : Nat) : (s.subReset k).fixed = s.fixed := by
  simp [State.subReset]

/-! ### Trigger -/

@[simp] theorem State.lampSignals_fixed (s : State) : (s.lampSignals).fixed = s.fixed := by
  unfold State.lampSignals
  simp
@[simp] theorem State.trigState_fixed (s : State) (late : Bool) : (s.trigState late).fixed = s.fixed := by
  simp [State.trigState]
@[simp] theorem State.pulseQueue_fixed (s : State) (p line c : Nat) : (s.pulseQueue p line c).fixed = s.fixed := by
  simp [State.pulseQueue]
@[simp] theorem State.cairnWindow_fixed (s : State) (p seq line : Nat) (cs : List Nat) : (s.cairnWindow p seq line cs).1.fixed = s.fixed := by
  unfold State.cairnWindow
  (repeat' split) <;> simp
@[simp] theorem State.cairn_fixed (s : State) (w : Waiting) (line frac : Nat) (unplaced : Bool) (pix : Option Nat) (nopix : Nat) :
    (s.cairn w line frac unplaced pix nopix).fixed = s.fixed := by
  simp [State.cairn]
@[simp] theorem State.trigPlace_fixed (s : State) (p : Nat) : (s.trigPlace p).fixed = s.fixed := by
  refine State.foldl_fixed _ (fun r w => ?_) _ _
  (repeat' split) <;> simp
@[simp] theorem State.trigLast_fixed (s : State) (w : Waiting) : (s.trigLast w).fixed = s.fixed := by
  unfold State.trigLast
  dsimp only
  split <;> simp
@[simp] theorem State.trigBoundary_fixed (s : State) (p sp : Nat) : (s.trigBoundary p sp).fixed = s.fixed := by
  refine State.foldl_fixed _ (fun r w => ?_) _ _
  dsimp only
  (repeat' split) <;> simp
@[simp] theorem State.trigJobEnd_fixed (s : State) (p : Nat) : (s.trigJobEnd p).fixed = s.fixed := by
  unfold State.trigJobEnd
  simp
@[simp] theorem State.trigFresh_fixed (s : State) (p : Nat) : (s.trigFresh p).fixed = s.fixed := by
  simp [State.trigFresh]
@[simp] theorem State.fireSend_fixed (s : State) (t : Nat) : (s.fireSend t).fixed = s.fixed := by
  simp [State.fireSend]
@[simp] theorem State.condRegs_fixed (s : State) (c : Nat) : (s.condRegs c).fixed = s.fixed := by
  simp [State.condRegs]
@[simp] theorem State.deadDraw_fixed (s : State) (evid : Bool) : (s.deadDraw evid).1.fixed = s.fixed := by
  simp [State.deadDraw]
@[simp] theorem State.condTrigger_fixed (s : State) (c t : Nat) : (s.condTrigger c t).fixed = s.fixed := by
  simp [State.condTrigger]
@[simp] theorem State.condMiss_fixed (s : State) (c : Nat) : (s.condMiss c).fixed = s.fixed := by
  simp [State.condMiss]
@[simp] theorem State.trigNoJob_fixed (s : State) (w : Waiting) : (s.trigNoJob w).fixed = s.fixed := by
  unfold State.trigNoJob
  dsimp only
  split <;> simp
@[simp] theorem State.trigOrphans_fixed (s : State) : (s.trigOrphans).fixed = s.fixed := by
  simp [State.trigOrphans]
@[simp] theorem State.condReported_fixed (s : State) (cs : List Nat) : (s.condReported cs).fixed = s.fixed := by
  simp [State.condReported]
@[simp] theorem State.trigSet_fixed (s : State) (f : Fired) : (s.trigSet f).fixed = s.fixed := by
  unfold State.trigSet
  (repeat' split) <;> simp
@[simp] theorem State.freezeCause_fixed (s : State) (f : Fired) : (s.freezeCause f).fixed = s.fixed := by
  simp [State.freezeCause]
@[simp] theorem State.trigPort_fixed (s : State) (n p levels : Nat) (cs : List Nat) (evs : List SigEv) : (s.trigPort n p levels cs evs).1.fixed = s.fixed := by
  unfold State.trigPort
  extract_lets f first s1 s2 s3 timed freeze next idle s4
  have h3 : s3.fixed = s.fixed := by
    refine (State.foldl_fixed _ (fun r q => ?_) _ _).trans ?_
    · (repeat' split) <;> simp
    · simp [s2, s1]
  have h4 : s4.fixed = s.fixed := by simp [s4, h3]
  (repeat' split) <;> simp [h4]
/-- What a trigger slot does for the conditions of one port; `t` is the state in which the ports of the conditions are read. -/
def State.portSlot (t : State) (n levels : Nat) (go : List Nat) (evs : List SigEv) (a : State × Bool) (p : Nat) : State × Bool :=
  let cs := go.filter (fun c => t.act trigU Cond.HOME_PORT c == p)
  if cs = [] then a else
  let x := a.1.trigPort n p levels cs evs
  (x.1, a.2 || x.2)
theorem State.portSlot_fixed (t : State) (n levels : Nat) (go : List Nat) (evs : List SigEv) (a : State × Bool) (p : Nat) :
    (t.portSlot n levels go evs a p).1.fixed = a.1.fixed := by
  unfold State.portSlot
  dsimp only
  split
  · rfl
  · exact State.trigPort_fixed ..
theorem State.foldl_portSlot_fixed (t : State) (n levels : Nat) (go : List Nat) (evs : List SigEv) (a : State × Bool) (l : List Nat) :
    (l.foldl (t.portSlot n levels go evs) a).1.fixed = a.1.fixed := by
  induction l generalizing a with
  | nil => rfl
  | cons p l ih => rw [List.foldl_cons, ih, State.portSlot_fixed]
@[simp] theorem State.trigSlotAt_fixed (s : State) (n : Nat) : (s.trigSlotAt n).1.fixed = s.fixed := by
  unfold State.trigSlotAt
  split
  · rfl
  · extract_lets s1 levels armed evs s2 m wouldT missed go s3 r s4
    have h3 : s3.fixed = s.fixed := by simp [s3, s2, s1]
    have hfold : r = (List.range 8).foldl (s3.portSlot n levels go evs) (s3, false) := rfl
    have hr : r.1.fixed = s.fixed := by rw [hfold, State.foldl_portSlot_fixed, h3]
    simp [s4, hr]
@[simp] theorem State.trigDrain_fixed (s : State) (p : Nat) : (s.trigDrain p).fixed = s.fixed := by
  simp [State.trigDrain]

/-! ### Job -/

@[simp] theorem State.stageFail_portCount (s : State) (w : Work) (status : Nat) (data : List Nat) : (s.stageFail w status data).fixed.ports = s.fixed.ports := by
  unfold State.stageFail
  simp
@[simp] theorem State.stagingEnds_portCount (s : State) (status : Nat) (data : List Nat) : (s.stagingEnds status data).fixed.ports = s.fixed.ports := by
  unfold State.stagingEnds
  (repeat' split) <;> simp
@[simp] theorem State.jobReply_fixed (s : State) (status id : Nat) : (s.jobReply status id).fixed = s.fixed := by
  simp [State.jobReply]
@[simp] theorem State.portLastRec_fixed (s : State) (p : Nat) : (s.portLastRec p).fixed = s.fixed := by
  simp [State.portLastRec]
@[simp] theorem State.portEnds_fixed (s : State) (p : Nat) : (s.portEnds p).fixed = s.fixed := by
  unfold State.portEnds
  extract_lets sp x out s1 s2 s3 s4 s5 s6 s7
  have hout (r : State) : (out r).fixed = r.fixed := by simp [out]
  have h2 : s2.fixed = s.fixed := by
    dsimp only [s2]
    split <;> simp [s1]
  have h7 : s7.fixed = s.fixed := by simp [s7, s6, s5, s4, s3, h2]
  (repeat' split) <;> simp [hout, h7]
@[simp] theorem State.jobForce_fixed (s : State) (runs : Bool) (u : Nat) : (s.jobForce runs u).fixed = s.fixed := by
  simp [State.jobForce]
@[simp] theorem State.trigLeft_fixed (s : State) : (s.trigLeft).fixed = s.fixed := by
  simp [State.trigLeft]
@[simp] theorem State.jobOver_portCount (s : State) : (s.jobOver).fixed.ports = s.fixed.ports := by
  unfold State.jobOver
  extract_lets sp old s1 s2 s3 j s4 s5 s6
  have h3 : s3.fixed = s.fixed := by simp [s3, s2, s1]
  have h4 : s4.fixed.ports = s.fixed.ports := (s3.job_portCount _).trans (congrArg Fixed.ports h3)
  have h6 : s6.fixed.ports = s.fixed.ports := by simp [s6, s5, h4]
  split <;> simp [h6]
@[simp] theorem State.drainCheck_portCount (s : State) : (s.drainCheck).fixed.ports = s.fixed.ports := by
  simp [State.drainCheck]
@[simp] theorem State.degradeAll_fixed (s : State) (p : Nat) : (s.degradeAll p).fixed = s.fixed := by
  simp [State.degradeAll]
@[simp] theorem State.portStart_fixed (s : State) (p rep passed sp : Nat) (rejoin : Bool) : (s.portStart p rep passed sp rejoin).fixed = s.fixed := by
  simp [State.portStart]
@[simp] theorem State.bankSwap_fixed (s : State) (p : Nat) : (s.bankSwap p).fixed = s.fixed := by
  simp [State.bankSwap]
@[simp] theorem State.portForce_fixed (s : State) (p : Nat) : (s.portForce p).fixed = s.fixed := by
  simp [State.portForce]
@[simp] theorem State.portSwap_fixed (s : State) (p : Nat) : (s.portSwap p).fixed = s.fixed := by
  simp [State.portSwap]
@[simp] theorem State.lcFresh_fixed (s : State) (p : Nat) : (s.lcFresh p).fixed = s.fixed := by
  simp [State.lcFresh]
@[simp] theorem State.portBegins_fixed (s : State) (p : Nat) : (s.portBegins p).fixed = s.fixed := by
  unfold State.portBegins
  extract_lets r q
  have hr : r.fixed = s.fixed := by
    dsimp only [r]
    split <;> simp
  split <;> simp [q, hr]
@[simp] theorem State.portSitsOut_fixed (s : State) (p : Nat) : (s.portSitsOut p).fixed = s.fixed := by
  simp [State.portSitsOut]
@[simp] theorem State.holdEnds_fixed (s : State) (p passed sp : Nat) : (s.holdEnds p passed sp).fixed = s.fixed := by
  simp [State.holdEnds]
@[simp] theorem State.startWorkCheck_portCount (s : State) : (s.startWorkCheck).fixed.ports = s.fixed.ports := by
  unfold State.startWorkCheck
  extract_lets p j r
  have hr : r.fixed.ports = s.fixed.ports := rfl
  split
  · rfl
  · split
    · exact hr
    · simp [hr]
@[simp] theorem State.jobOwes_portCount (s : State) : (s.jobOwes).fixed.ports = s.fixed.ports := by
  unfold State.jobOwes
  split <;> simp

/-! ### Security -/

@[simp] theorem State.fwStop_fixed (s : State) (src : Option Nat) : (s.fwStop src).fixed = s.fixed := by
  unfold State.fwStop
  simp
@[simp] theorem State.seqReset_portCount (s : State) (seq : Nat) : (s.seqReset seq).fixed.ports = s.fixed.ports := by
  unfold State.seqReset
  extract_lets q j s1 s2 s3
  have h3 : s3.fixed = s.fixed := by
    refine (State.foldl_fixed _ (fun r op => ?_) _ _).trans ?_
    · split <;> simp
    · simp [s2, s1]
  simp [h3]

/-! ### Abort -/

@[simp] theorem State.comparisonStops_fixed (s : State) (u : Nat) : (s.comparisonStops u).fixed = s.fixed := by
  simp [State.comparisonStops]
@[simp] theorem State.comparisonStarts_fixed (s : State) (u : Nat) : (s.comparisonStarts u).fixed = s.fixed := by
  simp [State.comparisonStarts]
@[simp] theorem State.laneOut_portCount (s : State) (u : Nat) : (s.laneOut u).fixed.ports = s.fixed.ports := by
  simp [State.laneOut]
@[simp] theorem State.laneTest_portCount (s : State) (u : Nat) (bad : Bool) : (s.laneTest u bad).fixed.ports = s.fixed.ports := by
  simp [State.laneTest]
@[simp] theorem State.clusRegs_fixed (s : State) (c : Nat) : (s.clusRegs c).fixed = s.fixed := by
  simp [State.clusRegs]
@[simp] theorem State.axisFence_fixed (s : State) (a reason cause : Nat) : (s.axisFence a reason cause).fixed = s.fixed := by
  simp [State.axisFence]
@[simp] theorem State.ropeFence_fixed (s : State) (reason : Nat) : (s.ropeFence reason).fixed = s.fixed := by
  simp [State.ropeFence]
@[simp] theorem State.unitFence_fixed (s : State) (u reason : Nat) : (s.unitFence u reason).fixed = s.fixed := by
  unfold State.unitFence
  (repeat' split) <;> simp
@[simp] theorem State.resetCommon_fixed (s : State) (u : Nat) : (s.resetCommon u).fixed = s.fixed := by
  unfold State.resetCommon
  dsimp only
  split
  · rfl
  · exact (State.setSt_fixed ..).trans rfl
@[simp] theorem State.lcCatchUp_fixed (s : State) (p : Nat) : (s.lcCatchUp p).fixed = s.fixed := by
  simp [State.lcCatchUp]
@[simp] theorem State.portRejoin_fixed (s : State) (p : Nat) : (s.portRejoin p).fixed = s.fixed := by
  simp [State.portRejoin]
@[simp] theorem State.resetClass_portCount (s : State) (u : Nat) (was bad : Bool) : (s.resetClass u was bad).fixed.ports = s.fixed.ports := by
  unfold State.resetClass
  (repeat' split) <;> simp
@[simp] theorem State.unitReset_portCount (s : State) (u : Nat) (fails : List Nat) : (s.unitReset u fails).fixed.ports = s.fixed.ports := by
  simp [State.unitReset]
@[simp] theorem State.resetUnits_portCount (s : State) (uid seq : Nat) (us fails : List Nat) : (s.resetUnits uid seq us fails).fixed.ports = s.fixed.ports := by
  simp [State.resetUnits]
@[simp] theorem State.abortReply_fixed (s : State) (a : AbortSt) : (s.abortReply a).fixed = s.fixed := by
  unfold State.abortReply
  (repeat' split) <;> simp
@[simp] theorem State.abortsSettle_portCount (s : State) : (s.abortsSettle).fixed.ports = s.fixed.ports := by
  simp [State.abortsSettle]
@[simp] theorem State.abortLeaves_fixed (s : State) (u : Nat) : (s.abortLeaves u).fixed = s.fixed := by
  simp [State.abortLeaves]
@[simp] theorem State.abortFenced_portCount (s : State) : (s.abortFenced).fixed.ports = s.fixed.ports := by
  simp [State.abortFenced]

/-! ### Power -/

@[simp] theorem State.powerWork_fixed (s : State) : (s.powerWork).fixed = s.fixed := by
  unfold State.powerWork
  (repeat' split) <;> simp

/-! ### Pages -/

@[simp] theorem State.seqWatch_fixed (s : State) : (s.seqWatch).fixed = s.fixed := by
  simp [State.seqWatch]

/-! ### Fire -/

@[simp] theorem State.estSync_fixed (s : State) (p : Nat) : (s.estSync p).fixed = s.fixed := by
  simp [State.estSync]
@[simp] theorem State.tempSync_fixed (s : State) (p : Nat) : (s.tempSync p).fixed = s.fixed := by
  simp [State.tempSync]
@[simp] theorem State.reliefWaits_portCount (s : State) (p : Nat) : (s.reliefWaits p).fixed.ports = s.fixed.ports := by
  simp [State.reliefWaits]

/-! ### Queues -/

@[simp] theorem State.ringLost_fixed (s : State) (p : Nat) : (s.ringLost p).fixed = s.fixed := by
  unfold State.ringLost
  dsimp only
  (repeat' split) <;> simp
@[simp] theorem State.poolLost_fixed (s : State) : (s.poolLost).fixed = s.fixed := by
  unfold State.poolLost
  dsimp only
  (repeat' split) <;> simp
@[simp] theorem State.chanLost_fixed (s : State) (k : Nat) : (s.chanLost k).fixed = s.fixed := by
  simp [State.chanLost]
@[simp] theorem State.unitQueueLost_fixed (s : State) (u : Nat) : (s.unitQueueLost u).fixed = s.fixed := by
  unfold State.unitQueueLost
  (repeat' split) <;> simp
@[simp] theorem State.queueLost_fixed (s : State) (q : Nat × Nat) : (s.queueLost q).fixed = s.fixed := by
  unfold State.queueLost
  (repeat' split) <;> simp
@[simp] theorem State.queueCheck_fixed (s before : State) : (s.queueCheck before).fixed = s.fixed := by
  simp [State.queueCheck]

/-! ### Settle -/

@[simp] theorem State.workSt_fixed (s : State) (u : Nat) (st : UState) : (s.workSt u st).fixed = s.fixed := by
  unfold State.workSt
  (repeat' split) <;> simp
@[simp] theorem State.portParts_fixed (s : State) (p : Nat) : (s.portParts p).fixed = s.fixed := by
  simp [State.portParts]
@[simp] theorem State.clusterParts_fixed (s : State) (k : Nat) : (s.clusterParts k).fixed = s.fixed := by
  simp [State.clusterParts]
@[simp] theorem State.lightParts_fixed (s : State) : (s.lightParts).fixed = s.fixed := by
  simp [State.lightParts]
@[simp] theorem State.capLights_fixed (s before : State) (g : Nat) : (s.capLights before g).fixed = s.fixed := by
  simp [State.capLights]
@[simp] theorem State.takeUp_fixed (s before : State) : (s.takeUp before).fixed = s.fixed := by
  simp [State.takeUp]
@[simp] theorem State.tableHolds_fixed (s : State) : (s.tableHolds).fixed = s.fixed := by
  simp [State.tableHolds]
@[simp] theorem State.reliefsGoOn_portCount (s : State) : (s.reliefsGoOn).fixed.ports = s.fixed.ports := by
  simp [State.reliefsGoOn]
@[simp] theorem State.jobsGoOn_portCount (s : State) : (s.jobsGoOn).fixed.ports = s.fixed.ports := by
  simp [State.jobsGoOn]
@[simp] theorem State.ringLevels_fixed (s : State) (p : Nat) : (s.ringLevels p).fixed = s.fixed := by
  simp [State.ringLevels]
@[simp] theorem State.derive_fixed (s before : State) : (s.derive before).fixed = s.fixed := by
  unfold State.derive
  simp
@[simp] theorem State.goesOn_portCount (s before : State) : (s.goesOn before).fixed.ports = s.fixed.ports := by
  simp [State.goesOn]
@[simp] theorem State.keepsRest_portCount (r s : State) : (r.keepsRest s).fixed.ports = r.fixed.ports := (rfl)
@[simp] theorem State.settle_portCount (s before : State) : (s.settle before).fixed.ports = s.fixed.ports := by
  unfold State.settle
  simp
end Sys2Proof.Machine
end

section
/-! Jobs: the boundary, staging and the start of the next job (R133, R438 to R446, R52). -/
namespace Sys2Proof.Machine
open R

theorem exec_jobBoundary (s : State) (t : Nat) (h : (s.advance t).isLive = true) :
    exec (.jobBoundary t) s = .next (s.went t (s.advance t).jobBoundary) := congrArg _ (s.onCore_went t _ h)
theorem exec_stagingDone (s : State) (t : Nat) (ues : List Nat) (h : (s.advance t).isLive = true) :
    exec (.stagingDone t ues) s = .next (s.went t ((s.advance t).stagingDone ues)) := congrArg _ (s.onCore_went t _ h)
theorem exec_newJobStart (s : State) (t : Nat) (h : (s.advance t).isLive = true) :
    exec (.newJobStart t) s = .next (s.went t (s.advance t).newJobStart) := congrArg _ (s.onCore_went t _ h)

/-! ### The boundary -/

/-- No sample point has come, or the drain runs already. -/
theorem State.jobBoundary_idle (s : State) (h : s.job.at_ = none ∨ s.jobState = 4) : s.jobBoundary = s := by
  unfold State.jobBoundary
  cases hat : s.job.at_ with
  | none => rfl
  | some sp => exact if_pos (h.resolve_left (by simp [hat]))
/-- The state in which the drain begins at the sample point sp, before the closing fires (R133, R445). -/
def State.drainBegun (s : State) (sp : Nat) : State :=
  { ((s.set devU Job.JOB_STATE 4).set devU Job.END_PENDING 0).set devU Job.DUE_REPEAT 0xFFFFFFFF with
    job := { s.job with starts := s.job.startTick.isSome && !s.job.endOnly, lastS := sp, endTick := none } }
theorem State.jobBoundary_drains (s : State) (sp : Nat) (hat : s.job.at_ = some sp) (hst : s.jobState ≠ 4)
    (h : s.job.startTick = none ∨ s.job.endOnly = true ∨ s.stageMissing = none) :
    s.jobBoundary = (s.drainBegun sp).portsRunning.foldl (fun (r : State) p => if r.fenced (portU p) then r else r.closingFire p sp) (s.drainBegun sp) := by
  have hstay : (s.job.startTick.isSome && !s.job.endOnly) = false ∨ s.stageMissing = none := by
    rcases h with h | h | h
    · exact .inl (by simp [h])
    · exact .inl (by simp [h])
    · exact .inr h
  unfold State.jobBoundary
  simp only [hat, hst, if_false]
  split
  · next hstarts hmiss => simp_all
  · rfl
theorem State.jobBoundary_loses (s : State) (sp cause : Nat) (hat : s.job.at_ = some sp) (hst : s.jobState ≠ 4) (htick : s.job.startTick.isSome = true)
    (hend : s.job.endOnly = false) (hmiss : s.stageMissing = some cause) :
    s.jobBoundary = ({ s with job := { s.job with at_ := none } } : State).stageLost cause 0 := by
  simp only [State.jobBoundary, hat, hst, if_false, htick, hend, hmiss, Bool.not_false, Bool.and_true]

/-! ### Staging -/

theorem State.stagingDone_none (s : State) (ues : List Nat) (h : s.stagingWork = none) : s.stagingDone ues = s := by
  rw [State.stagingDone, h]
/-- The steps of staging have ended it. -/
theorem State.stagingDone_ended (s : State) (ues : List Nat) (w : Work) (hw : s.stagingWork = some w) (hstep : w.step = 0)
    (hend : (s.stageSteps w (nth w.params 0 % 1024) ues).stagingWork = none) : s.stagingDone ues = s.stageSteps w (nth w.params 0 % 1024) ues := by
  simp only [State.stagingDone, hw, hstep, if_true, hend]
theorem State.stageSteps_empty (s : State) (w : Work) (slot : Nat) (ues : List Nat) (hop : w.op = 0x62) (hslot : s.slotRec slot = none) :
    s.stageSteps w slot ues = s.stageFail w St.NO_RECIPE [slot] := by
  simp [State.stageSteps, hop, hslot]
theorem State.stageSteps_changed (s : State) (w : Work) (slot : Nat) (ues : List Nat) (x : SlotRec) (hop : w.op = 0x62) (hslot : s.slotRec slot = some x)
    (hread : s.stageRead (slotBaseR slot) x.length ues = none) (hdigest : slotDigest s.dram (slotBaseR slot) x.length ≠ x.digest) :
    s.stageSteps w slot ues = (s.modSlot slot (fun y => { y with loaded := false })).stageFail w St.RECIPE_DIGEST [slot] := by
  simp [State.stageSteps, hop, hslot, hread, hdigest]

section
variable (s : State) (ues : List Nat) (w : Work) (hw : s.stagingWork = some w) (hstep : w.step = 1)
include hw hstep
/-- The steps are over and reliefs still run: staging waits. -/
theorem State.stagingDone_waits (h : s.stageReliefs = true) : s.stagingDone ues = s := by
  simp [State.stagingDone, hw, hstep, h]
/-- The state in which staging that is over shows STAGED, unless a drain keeps JOB_STATE (log entry 45). -/
def State.stagedShown (s : State) : State := if s.jobState = 4 then s else s.set devU Job.JOB_STATE 2
theorem State.stagingDone_stage (h : s.stageReliefs = false) (hop : w.op = 0x62) :
    s.stagingDone ues = s.stagedShown.workEnd w St.OK [s.stagedShown.reg devU Job.STAGE_SEQ] := by
  simp [State.stagingDone, hw, hstep, h, hop, State.stagedShown]
theorem State.stagingDone_start (h : s.stageReliefs = false) (hop : w.op ≠ 0x62) :
    s.stagingDone ues = ({ s.stagedShown with works := s.stagedShown.works.map (fun x => if x = w then { w with step := 3 } else x) } : State).startAfterLoad { w with step := 3 } := by
  simp [State.stagingDone, hw, hstep, h, hop, State.stagedShown]
end
theorem State.startAfterLoad_goes (s : State) (w : Work) (hend : s.reg devU Job.END_PENDING = 0) (hst : s.jobState ≠ 4) (hbusy : s.scopeBusy s.job.scope = false)
    (href : s.startRefuse s.stagedPorts = none) :
    s.startAfterLoad w = s.startGo (nth w.params 0 % 1024) (nth w.params 0) (nth w.params 1) (tbit w.flags 9) := by
  simp [State.startAfterLoad, hend, hst, hbusy, href]
/-- Staging of a LOAD_NOW that is over, where no drain runs and no JOB_END waits, starts its job where the conditions of a start hold (R443, R444). -/
theorem State.stagingDone_goes (s : State) (ues : List Nat) (w : Work) (hw : s.stagingWork = some w) (hstep : w.step = 1) (h : s.stageReliefs = false) (hop : w.op ≠ 0x62)
    (hst : s.jobState ≠ 4) (hend : s.reg devU Job.END_PENDING = 0) :
    let c : State := { s.stagedShown with works := s.stagedShown.works.map (fun x => if x = w then { w with step := 3 } else x) }
    c.scopeBusy c.job.scope = false → c.startRefuse c.stagedPorts = none →
    s.stagingDone ues = c.startGo (nth w.params 0 % 1024) (nth w.params 0) (nth w.params 1) (tbit w.flags 9) := by
  intro c hbusy href
  have hset : s.stagedShown = s.set devU Job.JOB_STATE 2 := if_neg hst
  have hshown : c.jobState = 2 := by
    show s.stagedShown.reg devU Job.JOB_STATE = 2
    rw [hset, State.reg_set]
    rfl
  have hpend : c.reg devU Job.END_PENDING = 0 := by
    show s.stagedShown.reg devU Job.END_PENDING = 0
    rw [hset, State.reg_set_ne _ _ _ _ _ _ _ _ (by decide), hend]
  exact (s.stagingDone_start ues w hw hstep h hop).trans (c.startAfterLoad_goes _ hpend (by rw [hshown]; decide) hbusy href)

/-! ### The next job -/

theorem State.newJobStart_waits (s : State) (h : s.jobState ≠ 4 ∨ s.job.starts = false ∨ s.drainDone = false) : s.newJobStart = s := by
  unfold State.newJobStart
  refine if_pos ?_
  rcases h with h | h | h <;> simp [h]
/-- The recipe's record with one more use at the sample point sp, for the job `id`, under the firmware version `fw` (R446). -/
def SlotRec.usedBy (x : SlotRec) (sp id fw : Nat) : SlotRec :=
  { x with uses := min (x.uses + 1) 0xFFFFFFFF, lastTime := sp, lastJobId := id, lastFw := fw }
/-- The job's record after the next job has started: no queued start is left, the new lead port leads (R52). -/
def JobSt.begun (j : JobSt) : JobSt :=
  { j with lead := j.newLead, at_ := none, startTick := none, startRope := none, starts := false, remote := false, changeDue := true, scope := [], images := [],
           imagesOn := j.images }
theorem State.slots_eq {r s : State} (h : r.fixed = s.fixed) : r.slots = s.slots := congrArg Fixed.slots h
theorem State.job_eq {r s : State} (h : r.fixed = s.fixed) : r.job = s.job := congrArg Fixed.job h
theorem State.modSlot_job (s : State) (slot : Nat) (f : SlotRec → SlotRec) : (s.modSlot slot f).job = s.job := (rfl)
theorem State.modSlot_begun (r s : State) (slot : Nat) (f : SlotRec → SlotRec) (j : JobSt) (h : r.fixed = s.fixed) :
    ({ r.modSlot slot f with job := j } : State).slots = putSlot s.slots slot ((s.slotRec slot).map f) := by
  have hslots := State.slots_eq h
  show putSlot r.slots slot ((r.slotRec slot).map f) = _
  rw [State.slotRec, State.slotRec, hslots]

/-- The start writes the recipe's record and the job's own in one step each; what it does before and after to ports, lamps, chain and log leaves both alone. -/
theorem State.newJobStart_writes (s : State) (hst : s.jobState = 4) (hstarts : s.job.starts = true) (hdone : s.drainDone = true) :
    ∃ fw, s.newJobStart.slots = putSlot s.slots s.job.startSlot ((s.slotRec s.job.startSlot).map (fun x => x.usedBy (s.ropeAt s.job.lastS) s.job.startId fw)) ∧
      s.newJobStart.job = s.job.begun := by
  unfold State.newJobStart
  rw [if_neg (by simp [hst, hstarts, hdone])]
  extract_lets j slot ps sp q s1 s2 us s3 s4 s5 fw s6 j6 s7 s8 s9 s10 s11 s12 s13 s14 s15 x s16
  have h5 : s5.fixed = s.fixed := by simp [s5, s4, s3, s2, s1, q]
  clear_value s5
  have hj6 : j6 = s.job := (State.modSlot_job s5 slot _).trans (State.job_eq h5)
  have hslots : s7.slots = putSlot s.slots slot ((s.slotRec slot).map (fun x => x.usedBy sp j.startId fw)) :=
    State.modSlot_begun s5 s slot _ _ h5
  have hjob : s7.job = s.job.begun := by
    dsimp only [s7]
    rw [hj6]
    rfl
  clear_value s7
  have h14 : s14.fixed = s7.fixed := by
    simp [s14, s13, s12, s11, s10, s9, s8]
  clear_value s14
  have h15 : s15.fixed = s7.fixed := by
    dsimp only [s15]
    split <;> simp [h14]
  have h : (s16.raise Ev.JOB_BOUNDARY devU (slot + j.startId % 65536 * 65536)).fixed = s7.fixed := by
    rw [State.raise_fixed, State.audit_fixed, h15]
  exact ⟨fw, (State.slots_eq h).trans hslots, (State.job_eq h).trans hjob⟩

/-- Settles O26: each row is its operation on a live device, and each case of the operation is the equation above; of the start of the next job, only what it writes. -/
theorem jobBoundariesAndStarts : Obligations.Job_boundaries_and_starts := by
  refine ⟨fun s t ues hlive => ?_, fun s t hlive => ?_⟩
  · intro a
    have hstage := exec_stagingDone s t ues hlive
    refine ⟨fun hidle => ?_, fun sp hat hst => ⟨fun hstay => ?_, fun cause htick hend hmiss => ?_⟩, fun hnone => ?_,
      fun w hw hstep hop => ⟨fun hslot hend => ?_, fun x hslot hread hdigest => ?_⟩, fun w hw hstep => ⟨fun hrel => ?_, fun hrel => ?_⟩⟩
    · rw [exec_jobBoundary s t hlive, State.jobBoundary_idle _ hidle]
    · rw [exec_jobBoundary s t hlive, State.jobBoundary_drains _ sp hat hst hstay]
      rfl
    · rw [exec_jobBoundary s t hlive, State.jobBoundary_loses _ sp cause hat hst htick hend hmiss]
    · rw [hstage, State.stagingDone_none _ ues hnone]
    · have hsteps := a.stageSteps_empty w _ ues hop hslot
      rw [hstage, State.stagingDone_ended _ ues w hw hstep (by rw [hsteps]; exact hend), hsteps]
    · intro r hend
      have hsteps := a.stageSteps_changed w _ ues x hop hslot hread hdigest
      rw [hstage, State.stagingDone_ended _ ues w hw hstep (by rw [hsteps]; exact hend), hsteps]
    · rw [hstage, State.stagingDone_waits _ ues w hw hstep hrel]
    · intro b
      refine ⟨fun hop => ?_, fun hop hst hpend => ?_⟩
      · rw [hstage, State.stagingDone_stage _ ues w hw hstep hrel hop]
        rfl
      · intro c hbusy href
        rw [hstage, a.stagingDone_goes ues w hw hstep hrel hop hst hpend hbusy href]
        rfl
  · intro a
    refine ⟨fun hst hstarts hdone => ?_, fun hwait => ?_⟩
    · obtain ⟨fw, hslots, hjob⟩ := a.newJobStart_writes hst hstarts hdone
      refine ⟨a.newJobStart, fw, exec_newJobStart s t hlive, ?_, ?_, ?_, ?_, hslots⟩ <;> rw [hjob] <;> rfl
    · rw [exec_newJobStart s t hlive, State.newJobStart_waits _ hwait]
end Sys2Proof.Machine
end

section
/-! The imaging commands: AFE_CALIBRATE cannot take a channel up on a state that holds fewer port records than eight (R157, R159). -/
namespace Sys2Proof.Machine
open R
@[simp] theorem State.tagged_fixed (s : State) (o : Op) (k : Pkt) : (s.tagged o k).fixed = s.fixed := by
  simp [State.tagged]
@[simp] theorem State.cmdRegs_fixed (s : State) : s.cmdRegs.fixed = s.fixed := by
  simp [State.cmdRegs]
@[simp] theorem State.keepsPins_fixed (r s : State) : (r.keepsPins s).fixed = r.fixed := (rfl)
@[simp] theorem State.ends_fixed (s : State) (t : Nat) (r : State) : (s.ends t r).fixed = r.fixed := (rfl)
@[simp] theorem State.after_portCount (r b : State) : (r.after b).fixed.ports = r.fixed.ports := by
  cases h : r.isLive with
  | true => rw [r.after_live b h, State.settle_portCount]
  | false => rw [r.after_idle b h]
theorem Sent.answered_portCount (x : Sent) (s : State) (r : Answer) : (x.answered s r).ports.length = r.1.ports.length := by
  show (x.answered s r).fixed.ports = r.1.fixed.ports
  simp [Sent.answered, State.ran]
theorem State.port_of_no_ports (s : State) (p : Nat) (h : s.ports.length = 0) : s.port p = {} := by
  rw [State.port, List.eq_nil_of_length_eq_zero h]
  rfl
theorem State.needsSpare_of_idle (s : State) (p : Nat) (c : Nat × Nat) (h : (s.port p).jobOn = false) : s.needsSpare p c = false := by
  simp [State.needsSpare, h]

/-- Refutes O36: the statement is about every state, also one that holds no port records at all. There AFE_CALIBRATE of port 7 is taken and answered with ST_OK,
but no port record stands in which its first channel could be taken up; and since neither the answer nor what follows it adds a port
record, no state `r` as the statement asks for exists. -/
theorem not_portPacketsComplete : ¬ Obligations.Port_packets_complete := by
  intro h
  obtain ⟨-, h⟩ := h
  let unported : State := { State.reset with sys := { State.reset.sys with inReset := false }, ports := [] }
  let s : State := ((unported.set devU Pd.READY 1).set bar0 Cmd.SEQ_RUNNING 1).cmdRegs
  let x : Sent := ⟨0, false, .afeCalibrate, 1, portU 7, 0, [], none, []⟩
  let a := x.before s
  have htaken : x.taken s = true := by decide +kernel
  have hport (p : Nat) : a.port p = {} := a.port_of_no_ports p (by decide +kernel)
  have hidle (p : Nat) : (a.port p).jobOn = false := by rw [hport]
  have hworks (w : Work) : w ∉ a.works := by
    rw [show a.works = [] by decide +kernel]
    exact List.not_mem_nil
  have hcal : a.calTargets (portU 7) 7 = [(8, 15)] := by decide +kernel
  obtain ⟨hafe, -⟩ := h s 0 false 1 (portU 7) 0 [] none
  obtain ⟨r, hr, hr'⟩ := hafe htaken (fun p c _ _ => a.needsSpare_of_idle p c (hidle p))
  obtain ⟨-, hup⟩ := hr' 7 (8, 15) [] (by decide) (by decide) (by decide +kernel) hcal (fun w hw => absurd hw (hworks w))
    (.inr (.inr (congrArg PortSt.queueCal (hport 7))))
  obtain ⟨⟨z, hz, -⟩, -⟩ := hup (hidle 7) (congrArg PortSt.relief (hport 7)) (congrArg PortSt.capture (hport 7)) (congrArg PortSt.queueCal (hport 7))
  have hans : x.answered s (r, St.OK, []) = x.answered s (a.runOp .afeCalibrate (x.pkt s) none) :=
    Host.Outcome.next.inj (hr.symm.trans (x.exec_taken s htaken (.inr rfl) (by decide) (by decide)))
  have hlen : r.ports.length = (a.runOp .afeCalibrate (x.pkt s) none).1.ports.length := by
    rw [← x.answered_portCount s (r, St.OK, []), hans, x.answered_portCount]
  have hnone := r.port_of_no_ports 7 (hlen.trans (by decide +kernel))
  rw [hnone] at hz
  cases hz
end Sys2Proof.Machine
end

section
/-! Ports from lane to ring: the rows of the lanes, of the lines they give, of a shading capture and of an idle block each run their operation on a port that serves, and each
operation has one equation for each thing it can find due (R155, R162 to R167, R200, R225 to R227, R242, R254, R314, R418). -/
namespace Sys2Proof.Machine
open R

section
variable (s : State) (t p : Nat) (hp : p < 8) (h : (s.advance t).serves (portU p) = true)
include hp h
theorem exec_laneLineReceived (words : List (List Nat)) (came : Arrival) :
    exec (.laneLineReceived t p words came) s = .next (s.went t ((s.advance t).laneReceived p words came.sol came.clk0 came.clk1)) :=
  congrArg _ (s.onUnit_went t p 8 _ _ hp h)
theorem exec_wordLock (lane bit word : Nat) (seen : List Nat) :
    exec (.wordLock t p lane bit word seen) s = .next (s.went t ((s.advance t).wordLock p lane bit word seen)) := congrArg _ (s.onUnit_went t p 8 _ _ hp h)
theorem exec_latencyMaxExpiry : exec (.latencyMaxExpiry t p) s = .next (s.went t ((s.advance t).latencyMax p)) := congrArg _ (s.onUnit_went t p 8 _ _ hp h)
theorem exec_lineCorrected (ce ue : Nat) :
    exec (.lineCorrected t p ce ue) s = .next (s.went t ((s.advance t).lineCorrected p ce ue)) := congrArg _ (s.onUnit_went t p 8 _ _ hp h)
theorem exec_lineCompared (ecc : Bool) (chk : Option Nat) :
    exec (.lineCompared t p ecc chk) s = .next (s.went t ((s.advance t).lineCompared p ecc chk)) := congrArg _ (s.onUnit_went t p 8 _ _ hp h)
theorem exec_captureAttemptEnd : exec (.captureAttemptEnd t p) s = .next (s.went t ((s.advance t).capAttempt p)) := congrArg _ (s.onUnit_went t p 8 _ _ hp h)
theorem exec_blockIdleExpiry : exec (.blockIdleExpiry t p) s = .next (s.went t ((s.advance t).blockIdle p)) := congrArg _ (s.onUnit_went t p 8 _ _ hp h)
end

/-! ### Lanes -/

/-- A started port whose cycle captures from lanes takes the line (R162, R165). -/
theorem State.laneReceived_lanes (s : State) (p sol clk0 clk1 : Nat) (words : List (List Nat)) (hstart : (s.port p).started = true)
    (hcap : vw s (s.port p).pgSet (portU p) Port.CAPTURE = 1) : s.laneReceived p words sol clk0 clk1 = s.laneLine p words sol clk0 clk1 := by
  rw [State.laneReceived, hstart, hcap]
  exact if_neg (by decide)

/-- The delays found for a lane are in place, and it counts afresh what it misses and how far it drifts. -/
def State.laneAligned (s : State) (p j bit word : Nat) : State :=
  ((s.modPort p (fun x => { x with missed := upd x.missed j (fun _ => 0), drift := upd x.drift j (fun _ => 0) })).set (rxU p) LaneRx.BIT_DELAY (bit % 64) j).set (rxU p)
    LaneRx.WORD_DELAY (word % 4) j

section
variable (s : State) (p j bit word : Nat) (seen : List Nat) (hj : j < 16) (hcap : s.act (portU p) Port.CAPTURE ≠ 0)
  (hen : tbit (s.act (rxU p) LaneRx.LANE_EN) j = true)
include hj hcap hen
/-- A lane without lock that is due gets its delays and lock (R164). -/
theorem State.wordLock_gains (hlock : tbit (s.reg (rxU p) LaneRx.LOCKED) j = false) (hdue : s.lockDue p j seen = true) :
    s.wordLock p j bit word seen =
      (s.laneAligned p j bit word).set (rxU p) LaneRx.LOCKED (setBit ((s.laneAligned p j bit word).reg (rxU p) LaneRx.LOCKED) j true) := by
  simp only [State.wordLock, State.laneAligned, Nat.not_le.2 hj, hcap, hen, hlock, hdue, Bool.not_true, Bool.false_eq_true, or_self, if_false]
/-- A lane with lock that has drifted for 256 words moves its bit delay one step towards the delay reported (R164). -/
theorem State.wordLock_drifts (hlock : tbit (s.reg (rxU p) LaneRx.LOCKED) j = true) (hdrift : 256 ≤ nth (s.port p).drift j)
    (hbit : bit ≠ s.reg (rxU p) LaneRx.BIT_DELAY j) :
    s.wordLock p j bit word seen =
      (s.modPort p (fun x => { x with drift := upd x.drift j (fun _ => 0) })).set (rxU p) LaneRx.BIT_DELAY
        (if s.reg (rxU p) LaneRx.BIT_DELAY j < bit then s.reg (rxU p) LaneRx.BIT_DELAY j + 1 else s.reg (rxU p) LaneRx.BIT_DELAY j - 1) j := by
  simp only [State.wordLock, Nat.not_le.2 hj, hcap, hen, hlock, Nat.not_lt.2 hdrift, hbit, Bool.not_true, Bool.false_eq_true, or_self, if_false, if_true]
end

/-- The cycle before the present one has waited its LATENCY_MAX for a line: it is the one that is late (R165). -/
theorem State.latencyMax_waiting (s : State) (p : Nat) (r : Readout) (m : RegMap) (hwait : (s.port p).lineWait = some (r, m))
    (hdue : r.start + vw s m (rxU p) LaneRx.LATENCY_MAX ≤ s.now) : s.latencyMax p = s.laneOld p (fun x => x.laneLate p) := by
  simp only [State.latencyMax, hwait, Nat.not_lt.2 hdue, if_false]
/-- None waits before the present cycle, which has had its LATENCY_MAX (R165, R167). -/
theorem State.latencyMax_present (s : State) (p : Nat) (c : Readout) (hwait : (s.port p).lineWait = none) (hcycle : (s.port p).cycle = some c)
    (hcap : vw s (s.port p).pgSet (portU p) Port.CAPTURE ≠ 0) (hdue : c.start + vw s (s.port p).pgSet (rxU p) LaneRx.LATENCY_MAX ≤ s.now) :
    s.latencyMax p = s.laneLate p := by
  simp only [State.latencyMax, hwait, hcycle, hcap, Nat.not_lt.2 hdue, or_self, if_false]

/-- Settles O4: each row runs its operation, and each clause is what that operation finds due. -/
theorem lanesReceiveLockAndMiss : Obligations.Lanes_receive_lock_and_miss := by
  intro s t p hp hserves a
  refine ⟨fun words sol clk0 clk1 hstart hcap => ?_, fun lane bit word seen hlane hcap hen => ⟨fun hlock hdue => ?_, fun hlock hdrift hbit => ?_⟩,
    fun r m hwait hdue => ?_, fun c hwait hcycle hcap hdue => ?_⟩
  · rw [exec_laneLineReceived s t p hp hserves, State.laneReceived_lanes _ p sol clk0 clk1 words hstart hcap]
  · rw [exec_wordLock s t p hp hserves, State.wordLock_gains _ p lane bit word seen hlane hcap hen hlock hdue]
    rfl
  · rw [exec_wordLock s t p hp hserves, State.wordLock_drifts _ p lane bit word seen hlane hcap hen hlock hdrift hbit]
  · rw [exec_latencyMaxExpiry s t p hp hserves, State.latencyMax_waiting _ p r m hwait hdue]
  · rw [exec_latencyMaxExpiry s t p hp hserves, State.latencyMax_present _ p c hwait hcycle hcap hdue]

/-! ### Lines -/

/-- A line that stages 1 to 7 have made, `st` its rows, the readouts behind its planes and its flags: it goes out, or into the shading capture of the port (R225, R226, R418). -/
def State.lineGoes (s : State) (p : Nat) (f : Fire) (st : List (List Nat) × List (Option Readout) × Nat) : Option Capture → State
  | none => s.lineOut p f st.1 st.2.1 st.2.2
  | some c =>
    let x := s.staleRun p f.line (f.flags ||| st.2.2)
    if c.kind = 3 then x.deltaLine p c f st.1 (f.flags ||| st.2.2) else x.capLine p c st.1 st.2.1 (f.flags ||| st.2.2) f.temp
/-- The oldest line read out, on a port that the errors of its banks do not fence, is taken and goes where its port sends it (R200, R222). -/
theorem State.lineCorrected_ready (s : State) (p ce ue : Nat) (r : Readout) (f : Fire) (hready : s.lineReady p = some (r, f))
    (hfence : (s.bankErrors p ce ue).fenced (portU p) = false) :
    let b := (s.bankErrors p ce ue).lineTake p f.set r f
    s.lineCorrected p ce ue = b.lineGoes p f (b.lineStage1 p f.set f.line (b.port p).delay) (b.port p).capture := by
  intro b
  simp only [State.lineCorrected, hready, hfence, Bool.false_eq_true, if_false]
  cases hcap : (b.port p).capture <;> simp only [State.lineGoes, b]

/-- A lane of a running port that has detected an internal fault is fenced (R242). -/
def State.laneChecked (s : State) (p k : Nat) : Option Nat → State
  | some i => if (lanesOf s s.active k p).contains i && (s.eb p).on then s.unitFence (clU k + i + 1) Fr.LANE_CHECK else s
  | none => s
/-- The oldest line that waits is compared by the cluster of its port, and the lane reported is checked (R242, R254). -/
theorem State.lineCompared_waiting (s : State) (p k : Nat) (ecc : Bool) (chk : Option Nat) (cl : CLine) (l : List CLine) (hqueue : (s.eb p).queue = cl :: l)
    (hcluster : clusterOf s s.active p = some k) : s.lineCompared p ecc chk = (s.compareNext p k cl l ecc).laneChecked p k chk := by
  rw [State.lineCompared, hqueue, hcluster]
  cases chk <;> rfl

theorem State.capAttempt_complete (s : State) (p : Nat) (c : Capture) (hcap : (s.port p).capture = some c) (hphase : c.phase = 3) :
    s.capAttempt p = s.capJudge p c := by
  rw [State.capAttempt, hcap]
  exact if_neg (by simp [hphase])
theorem State.blockIdle_due (s : State) (p : Nat) (b : Block) (hopen : (s.ring p).blocks.getLast? = some b)
    (hdue : b.lastAt + s.act (portU p) Ring.BLOCK_IDLE ≤ s.now) : s.blockIdle p = (((s.lampGiveUp p (fun _ => true)).endBlock p).closeBlocks p).flushHeld p := by
  rw [State.blockIdle, hopen]
  exact if_neg (Nat.not_lt.2 hdue)

/-- Settles O5: a line by where its port sends it, a comparison by the lane reported, and the other two rows by what is due. -/
theorem linesAreCorrectedAndCompared : Obligations.Lines_are_corrected_and_compared := by
  intro s t p hp hserves a
  refine ⟨fun ce ue r f hready hfence => ?_, fun ecc cl l k hqueue hcluster => ?_, fun c hcap hphase => ?_, fun b hopen hdue => ?_⟩
  · intro b st
    rw [exec_lineCorrected s t p hp hserves, State.lineCorrected_ready _ p ce ue r f hready hfence]
    refine ⟨fun hcap => ?_, fun c hcap => ⟨fun hkind => ?_, fun hkind => ?_⟩⟩
    · rw [hcap]
      rfl
    · rw [hcap]
      exact congrArg (fun r => Host.Outcome.next (s.went t r)) (if_neg hkind)
    · rw [hcap]
      exact congrArg (fun r => Host.Outcome.next (s.went t r)) (if_pos hkind)
  · intro b
    refine ⟨?_, fun i hlane hon => ?_⟩
    · rw [exec_lineCompared s t p hp hserves, State.lineCompared_waiting _ p k ecc none cl l hqueue hcluster]
      rfl
    · rw [exec_lineCompared s t p hp hserves, State.lineCompared_waiting _ p k ecc (some i) cl l hqueue hcluster]
      exact congrArg (fun r => Host.Outcome.next (s.went t r)) (if_pos (by rw [hlane, hon]; rfl))
  · rw [exec_captureAttemptEnd s t p hp hserves, State.capAttempt_complete _ p c hcap hphase]
  · rw [exec_blockIdleExpiry s t p hp hserves, State.blockIdle_due _ p b hopen hdue]
end Sys2Proof.Machine
end

section
/-! What leaves the encoder inputs as they were: events, and what a line clock does at a counted edge or at a counting fault (R172, R177 to R187).
One lemma for each operation, in the order of the model's files. -/
namespace Sys2Proof.Machine
open R

/-! ### Choices, folds and ops -/

@[simp] theorem State.ite_encs {c : Prop} [Decidable c] (a b : State) : (if c then a else b).encs = if c then a.encs else b.encs := apply_ite ..
@[simp] theorem State.foldl_encs {α : Type} (g : State → α → State) (hg : ∀ (s : State) x, (g s x).encs = s.encs) (l : List α) (s : State) :
    (l.foldl g s).encs = s.encs := by
  induction l generalizing s with
  | nil => rfl
  | cons x l ih => rw [List.foldl_cons, ih, hg]
@[simp] theorem State.bumpC_encs (s : State) (u ctx : Nat) (f : Field) (i n : Nat) : (s.bumpC u ctx f i n).encs = s.encs := (rfl)
@[simp] theorem State.setSt_encs (s : State) (u : Nat) (st : UState) (reason : Nat) : (s.setSt u st reason).encs = s.encs := by
  simp [State.setSt]
@[simp] theorem State.evtLost_encs (s : State) : s.evtLost.encs = s.encs := (rfl)
@[simp] theorem State.evtWrite_encs (s : State) (e : Event) : (s.evtWrite e).encs = s.encs := by
  simp [State.evtWrite]
@[simp] theorem State.msixGo_encs (s : State) (v : Nat) : (s.msixGo v).encs = s.encs := (rfl)
@[simp] theorem State.msixSend_encs (s : State) (v : Nat) : (s.msixSend v).encs = s.encs := by
  unfold State.msixSend
  (repeat' split) <;> simp
@[simp] theorem State.irq_encs (s : State) (src : Nat) : (s.irq src).encs = s.encs := by
  simp [State.irq]
@[simp] theorem State.raise_encs (s : State) (src uid detail : Nat) : (s.raise src uid detail).encs = s.encs := by
  simp [State.raise]
@[simp] theorem State.signal_encs (s : State) (e : SigEv) : (s.signal e).encs = s.encs := (rfl)

/-! ### Ring and pool -/

@[simp] theorem State.ringWrite_encs (s : State) (p o : Nat) (bytes : List Nat) : (s.ringWrite p o bytes).encs = s.encs := by
  induction bytes generalizing s o with
  | nil => rfl
  | cons b bs ih => exact (ih ..).trans rfl
@[simp] theorem State.ringRegs_encs (s : State) (p : Nat) : (s.ringRegs p).encs = s.encs := (rfl)
@[simp] theorem State.ringCommit_encs (s : State) (p : Nat) : (s.ringCommit p).encs = s.encs := (rfl)
@[simp] theorem State.ringReserve_encs (s : State) (p size typ first last : Nat) : (s.ringReserve p size typ first last).encs = s.encs := by
  simp [State.ringReserve]
@[simp] theorem State.ringDone_encs (s : State) (p off : Nat) : (s.ringDone p off).encs = s.encs := by
  simp [State.ringDone]
@[simp] theorem State.recWrite_encs (s : State) (p typ first last : Nat) (body : List Nat) : (s.recWrite p typ first last body).encs = s.encs := by
  simp [State.recWrite]
@[simp] theorem State.produce_encs (s : State) (p typ : Nat) (wait : Option Nat) (first last : Nat) (body : List Nat) :
    (s.produce p typ wait first last body).encs = s.encs := by
  simp [State.produce]
@[simp] theorem State.gap_encs (s : State) (p cause queue first last lines rep winFirst winLast time timeEnd : Nat) :
    (s.gap p cause queue first last lines rep winFirst winLast time timeEnd).encs = s.encs := by
  simp [State.gap]
@[simp] theorem State.ptrFound_encs (s : State) (code i u : Nat) : (s.ptrFound code i u).encs = s.encs := by
  simp [State.ptrFound]
@[simp] theorem State.recsLost_encs (s : State) (p : Nat) : (s.recsLost p).encs = s.encs := by
  simp [State.recsLost]
@[simp] theorem State.emit_encs (s : State) (p typ : Nat) (wait : Option Nat) (first last : Nat) (body : List Nat) :
    (s.emit p typ wait first last body).encs = s.encs := by
  simp [State.emit]
@[simp] theorem State.windowFeed_encs (s : State) (p : Nat) (b : Block) (only : Nat → Bool) : (s.windowFeed p b only).encs = s.encs := (rfl)
@[simp] theorem State.poolRegs_encs (s : State) : s.poolRegs.encs = s.encs := (rfl)
@[simp] theorem State.poolWrite_encs (s : State) (o : Nat) (bytes : List Nat) : (s.poolWrite o bytes).encs = s.encs := by
  induction bytes generalizing s o with
  | nil => rfl
  | cons b bs ih => exact (ih ..).trans rfl
@[simp] theorem State.windowClose_encs (s : State) (w : Window) : (s.windowClose w).encs = s.encs := by
  simp [State.windowClose]
@[simp] theorem State.windowsDone_encs (s : State) (p : Nat) : (s.windowsDone p).encs = s.encs := by
  simp [State.windowsDone]
@[simp] theorem State.windowsCut_encs (s : State) (p line flag : Nat) : (s.windowsCut p line flag).encs = s.encs := by
  simp [State.windowsCut]
@[simp] theorem State.windowOpen_encs (s : State) (p : Nat) (defect : Bool) (srcSeq lt le pre post reqFirst reqLast : Nat) :
    (s.windowOpen p defect srcSeq lt le pre post reqFirst reqLast).1.encs = s.encs := by
  unfold State.windowOpen
  dsimp only
  (repeat' split) <;> simp

/-! ### Eyebright -/

@[simp] theorem State.blobClose_encs (s : State) (p k flags : Nat) (b : Blob) : (s.blobClose p k flags b).encs = s.encs := by
  simp [State.blobClose]
@[simp] theorem State.verdicts_encs (s : State) (p k : Nat) : (s.verdicts p k).encs = s.encs := by
  simp [State.verdicts]
@[simp] theorem State.ebRegs_encs (s : State) (p k : Nat) : (s.ebRegs p k).encs = s.encs := (rfl)
@[simp] theorem State.blobsTruncate_encs (s : State) (p k : Nat) : (s.blobsTruncate p k).encs = s.encs := by
  simp [State.blobsTruncate]
@[simp] theorem State.ebGapAt_encs (s : State) (p g : Nat) : (s.ebGapAt p g).encs = s.encs := by
  unfold State.ebGapAt
  (repeat' split) <;> simp

/-! ### Port and line clock -/

@[simp] theorem State.portRefresh_encs (s : State) (p : Nat) : (s.portRefresh p).encs = s.encs := by
  simp [State.portRefresh]
@[simp] theorem State.lcRegs_encs (s : State) (p : Nat) : (s.lcRegs p).encs = s.encs := (rfl)
@[simp] theorem State.pulsePass_encs (s : State) (p n : Nat) : (s.pulsePass p n).encs = s.encs := (rfl)
@[simp] theorem State.lcAdvance_encs (s : State) (p n : Nat) : (s.lcAdvance p n).encs = s.encs := by
  simp [State.lcAdvance]
@[simp] theorem State.lcSilent_encs (s : State) (p n : Nat) : (s.lcSilent p n).encs = s.encs := by
  simp [State.lcSilent]
@[simp] theorem State.lcPass_encs (s : State) (p : Nat) (pos : Int) (te : Nat) : (s.lcPass p pos te).encs = s.encs := by
  simp [State.lcPass]
@[simp] theorem State.estClear_encs (s : State) (p st : Nat) : (s.estClear p st).encs = s.encs := by
  simp [State.estClear]
@[simp] theorem State.lcForward_encs (s : State) (p : Nat) (pos : Int) (te : Nat) : (s.lcForward p pos te).encs = s.encs := by
  simp only [State.lcForward, State.portRefresh_encs, State.lcPass_encs]
  split <;> simp only [State.ite_encs, State.set_encs, State.lcRegs_encs, State.modLc_encs, ite_self]
@[simp] theorem State.lcReverse_encs (s : State) (p : Nat) : (s.lcReverse p).encs = s.encs := by
  simp [State.lcReverse]
@[simp] theorem State.lcFault_encs (s : State) (p : Nat) : (s.lcFault p).encs = s.encs := by
  simp [State.lcFault]
end Sys2Proof.Machine
end

section
/-! Encoder inputs: what ENCODER_EDGE makes of the record of an input, ENCODER_EDGE and Z_EDGE run their operation on a device that works, and WEB_STOPPED its own on a line
clock that serves (R170 to R173, R185). -/
namespace Sys2Proof.Machine
open R

/-! ### Records of a list -/

theorem upd_upd {α : Type} (l : List α) (i : Nat) (f g : α → α) : upd (upd l i f) i g = upd l i (fun x => g (f x)) := List.modify_modify_eq f g i l
/-- Updates that agree on the record read at an index agree, also where no record stands there. -/
theorem upd_congr {α : Type} (l : List α) (i : Nat) (d : α) (f g : α → α) (h : f (l.getD i d) = g (l.getD i d)) : upd l i f = upd l i g := by
  refine List.ext_getElem? fun j => ?_
  simp only [upd, List.getElem?_modify]
  cases hj : l[j]? with
  | none => rfl
  | some x =>
    have hget (hij : i = j) : l.getD i d = x := by rw [hij, List.getD_eq_getElem?_getD, hj, Option.getD_some]
    by_cases hij : i = j
    · rw [hget hij] at h
      simp [hij, h]
    · simp [hij]
theorem upd_eq_self {α : Type} (l : List α) (i : Nat) (d : α) (f : α → α) (h : f (l.getD i d) = l.getD i d) : upd l i f = l :=
  (upd_congr l i d f id h).trans (List.modify_id i l)
/-- Updates that agree on the record of an input give the same inputs. -/
theorem State.updEnc_congr (s : State) (i : Nat) (f g : EncSt → EncSt) (h : f (s.enc i) = g (s.enc i)) : upd s.encs i f = upd s.encs i g :=
  upd_congr s.encs i {} f g h
theorem State.updEnc_eq_self (s : State) (i : Nat) (f : EncSt → EncSt) (h : f (s.enc i) = s.enc i) : upd s.encs i f = s.encs := upd_eq_self s.encs i {} f h
@[simp] theorem State.modEnc_encs (s : State) (i : Nat) (f : EncSt → EncSt) : (s.modEnc i f).encs = upd s.encs i f := rfl
theorem State.modEnc_reg (s : State) (i : Nat) (f : EncSt → EncSt) (u : Nat) (x : Field) (k : Nat) : (s.modEnc i f).reg u x k = s.reg u x k := rfl

/-! ### The record of an input -/

/-- A counted edge: up or down, with the tick `te` of its crossing (R170, R172, R173). -/
def EncSt.counted (e : EncSt) (up : Bool) (te : Nat) : EncSt :=
  { e with
    count := if up then e.count + 1 else e.count - 1, zUp := e.zUp || up, zDown := e.zDown || !up, lastEdge := some te,
    qerrAt := (e.qerrAt.map (· + 1)).filter (fun n => decide (n < 1024)) }
/-- The levels A and B become a and b, and the change counts as the type of the input says (R170). -/
def EncSt.accept (e : EncSt) (typ : Nat) (a b : Bool) (te : Nat) : EncSt :=
  match encStep typ e.a e.b a b with
  | some up => ({ e with a := a, b := b } : EncSt).counted up te
  | none => { e with a := a, b := b }

theorem encStep_same (typ : Nat) (a b : Bool) : encStep typ a b a b = none := by simp [encStep]
theorem EncSt.accept_same (e : EncSt) (typ te : Nat) : e.accept typ e.a e.b te = e := by
  rw [EncSt.accept, encStep_same]
theorem EncSt.accept_accept (e : EncSt) (typ typ' : Nat) (a b : Bool) (te te' : Nat) : (e.accept typ a b te).accept typ' a b te' = e.accept typ a b te := by
  have hlevels : (e.accept typ a b te).a = a ∧ (e.accept typ a b te).b = b := by
    unfold EncSt.accept
    split <;> exact ⟨rfl, rfl⟩
  obtain ⟨ha, hb⟩ := hlevels
  simpa only [ha, hb] using (e.accept typ a b te).accept_same typ' te'
theorem EncSt.accept_stands (e : EncSt) (typ te : Nat) (a b : Bool) (h : encStep typ e.a e.b a b = none) : e.accept typ a b te = { e with a := a, b := b } := by
  rw [EncSt.accept, h]
theorem EncSt.accept_counts (e : EncSt) (typ te : Nat) (a b up : Bool) (h : encStep typ e.a e.b a b = some up) :
    e.accept typ a b te = ({ e with a := a, b := b } : EncSt).counted up te := by
  rw [EncSt.accept, h]

/-! ### ENCODER_EDGE -/

theorem State.encCount_encs (s : State) (i : Nat) (up : Bool) (te : Nat) : (s.encCount i up te).encs = upd s.encs i (fun e => e.counted up te) := by
  have hlist : (s.encCount i up te).encs = upd s.encs i (fun e => { e with
      count := if up then (s.enc i).count + 1 else (s.enc i).count - 1, zUp := e.zUp || up, zDown := e.zDown || !up, lastEdge := some te,
      qerrAt := (e.qerrAt.map (· + 1)).filter (fun n => decide (n < 1024)) }) := by
    simp [State.encCount]
  exact hlist.trans (s.updEnc_congr i _ _ rfl)
/-- Where the levels of an input are accepted, its record alone changes. -/
theorem State.encAccept_encs (s : State) (i : Nat) (a b : Bool) (te : Nat) :
    (s.encAccept i a b te).encs = upd s.encs i (fun e => e.accept (s.reg encU Enc.TYPE i) a b te) := by
  simp only [State.encAccept, State.modEnc_reg]
  cases hstep : encStep (s.reg encU Enc.TYPE i) (s.enc i).a (s.enc i).b a b with
  | none => exact s.updEnc_congr i _ _ (EncSt.accept_stands _ _ te a b hstep).symm
  | some up =>
    rw [State.encCount_encs, State.modEnc_encs, upd_upd]
    exact s.updEnc_congr i _ _ (EncSt.accept_counts _ _ te a b up hstep).symm
/-- Levels accepted already move nothing. -/
theorem State.encAccept_again_encs (s : State) (i : Nat) (a b : Bool) (te te' : Nat) :
    ((s.encAccept i a b te).encAccept i a b te').encs = (s.encAccept i a b te).encs := by
  simp only [State.encAccept_encs, upd_upd, EncSt.accept_accept]
/-- The levels that stand already change nothing at all, so that what is accepted after them counts as it would have counted. -/
theorem State.encAccept_same (s : State) (i te : Nat) : s.encAccept i (s.enc i).a (s.enc i).b te = s := by
  have henc : s.modEnc i (fun e => { e with a := (s.enc i).a, b := (s.enc i).b }) = s :=
    congrArg (fun l => { s with encs := l }) (s.updEnc_eq_self i _ rfl)
  simp only [State.encAccept, encStep_same, henc]

section
variable (s : State) (i ga gb : Nat) (a b : Bool)
theorem State.encBoth_eq_false (h : (s.enc i).a = a ∨ (s.enc i).b = b) : s.encBoth i a b ga gb = false := by
  rcases h with h | h <;> simp [State.encBoth, h]
/-- Both levels have stood for FILTER ticks, and one of them stands already: the other alone is accepted, at the tick of its own crossing. -/
theorem State.encEdge_encs (ha : s.reg encU Enc.FILTER i ≤ ga) (hb : s.reg encU Enc.FILTER i ≤ gb) (hone : (s.enc i).a = a ∨ (s.enc i).b = b) :
    (s.encEdge i a b ga gb).encs = (s.encAccept i a b (s.now - if (s.enc i).a = a then gb else ga)).encs := by
  simp only [State.encEdge, s.encBoth_eq_false i ga gb a b hone, ha, hb, if_true, Bool.false_eq_true, if_false]
  by_cases hsame : (s.enc i).a = a
  · subst hsame
    split
    · rw [State.encAccept_again_encs, if_pos rfl]
    · rw [State.encAccept_same, if_pos rfl]
  · obtain rfl := hone.resolve_left hsame
    split
    · rw [State.encAccept_same]
    · rw [State.encAccept_again_encs]
/-- Levels that have not stood for FILTER ticks change nothing. -/
theorem State.encEdge_pulse (ha : ga < s.reg encU Enc.FILTER i) (hb : gb < s.reg encU Enc.FILTER i) : s.encEdge i a b ga gb = s := by
  simp only [State.encEdge, Nat.not_le.2 ha, Nat.not_le.2 hb, Nat.not_le.2 (Nat.lt_of_le_of_lt (Nat.min_le_left ga gb) ha), if_false, State.encAccept_same, ite_self]
/-- A and B have both changed within one FILTER interval (R172). -/
theorem State.encEdge_both (htype : s.reg encU Enc.TYPE i ≠ 3) (ha : (s.enc i).a ≠ a) (hb : (s.enc i).b ≠ b)
    (hclose : max ga gb - min ga gb < max 1 (s.reg encU Enc.FILTER i)) (hfilter : s.reg encU Enc.FILTER i ≤ min ga gb) :
    s.encEdge i a b ga gb = (s.modEnc i (fun e => { e with a := a, b := b })).encQuad i := by
  have hboth : s.encBoth i a b ga gb = true := by simp [State.encBoth, htype, ha, hb, hclose]
  simp only [State.encEdge, hboth, hfilter, if_true]
end

theorem exec_encoderEdge (s : State) (t i ga gb : Nat) (a b : Bool) (hi : i < 4) (h : (s.advance t).isLive = true) :
    exec (.encoderEdge t i a b ga gb) s = .next (s.went t ((s.advance t).encEdge i a b ga gb)) := by
  have hrow := s.onPins_went t (fun r => if 4 ≤ i then r else r.modEnc i (fun e => { e with a := a, b := b }))
    (fun r => if 4 ≤ i then r else r.encEdge i a b ga gb) h
  rw [if_neg (Nat.not_le.2 hi)] at hrow
  exact congrArg _ hrow
@[simp] theorem State.after_encs (r b : State) : (r.after b).encs = r.encs := by
  cases h : r.isLive with
  | true => rw [r.after_live b h, State.settle, State.keepsRest_encs]
  | false => rw [r.after_idle b h]
/-- What an event has made of the encoder inputs is what the command leaves of them. -/
@[simp] theorem State.went_encs (s : State) (t : Nat) (r : State) : (s.went t r).encs = r.encs := by
  simp [State.went]

/-- Settles O7: of the two levels that are accepted one after the other, the one that stands already moves nothing, and the other counts. -/
theorem encoderEdgesCount : Obligations.Encoder_edges_count := by
  intro s t i ga gb a b hi hlive x e typ
  rw [exec_encoderEdge s t i ga gb a b hi hlive]
  refine ⟨fun up ha hb hone hstep => ⟨_, rfl, ?_⟩, fun ha hb => ⟨_, rfl, ?_⟩⟩
  · rw [State.went_encs, State.encEdge_encs _ i ga gb a b ha hb hone, State.encAccept_encs]
    exact State.updEnc_congr x i _ _ (EncSt.accept_counts e typ _ a b up hstep)
  · rw [State.went_encs, State.encEdge_pulse _ i ga gb a b ha hb]

/-! ### Z_EDGE -/

section
variable (s : State) (i g : Nat)
theorem State.encZ_pulse (h : g < s.reg encU Enc.FILTER i) : s.encZ i g = s := if_pos h
variable (h : s.reg encU Enc.FILTER i ≤ g)
include h
/-- The count of an edge of Z is kept whatever the edge tells, as events and counters leave the inputs alone (R173). -/
theorem State.encZ_encs : (s.encZ i g).encs = upd s.encs i (fun e => { e with zCount := some e.count, zUp := false, zDown := false }) := by
  cases hlast : (s.enc i).zCount <;>
    simp only [State.encZ, Nat.not_lt.2 h, if_false, hlast, State.ite_encs, State.raise_encs, State.bump_encs, State.modEnc_encs, ite_self]
/-- Where a revolution ends with another count than CPR, it is told (R173). -/
theorem State.encZ_miscounts (c : Int) (hcpr : s.reg encU Enc.CPR i ≠ 0) (hen : s.reg encU Enc.Z_EN i ≠ 0)
    (hdir : s.reg encU Enc.DIR i = s.reg encU Enc.Z_DOWN i) (hother : (if s.reg encU Enc.Z_DOWN i = 1 then (s.enc i).zUp else (s.enc i).zDown) = false)
    (hlast : (s.enc i).zCount = some c) (hdist : ((s.enc i).count - c).natAbs ≠ s.reg encU Enc.CPR i) :
    s.encZ i g = ((s.modEnc i (fun e => { e with zCount := some e.count, zUp := false, zDown := false })).bump encU Enc.ZERR 1 i).raise Ev.ENC_FAULT encU (i + 8) := by
  simp only [State.encZ, Nat.not_lt.2 h, if_false, hlast, hdist]
  refine if_neg ?_
  rintro (hno | hno | hno | hno)
  · exact hcpr hno
  · exact hen hno
  · exact Bool.false_ne_true (hother.symm.trans hno)
  · exact bne_iff_ne.1 hno hdir
end

theorem exec_zEdge (s : State) (t i g : Nat) (hi : i < 4) (h : (s.advance t).isLive = true) :
    exec (.zEdge t i g) s = .next (s.went t ((s.advance t).encZ i g)) := by
  have hrow := s.onCore_went t (fun r => if 4 ≤ i then r else r.encZ i g) h
  rw [if_neg (Nat.not_le.2 hi)] at hrow
  exact congrArg _ hrow

/-! ### WEB_STOPPED -/

/-- The last counted edge of a web that has not been told to stand lies STOP_TICKS back (R185). -/
theorem State.webStopped_due (s : State) (p l : Nat) (hweb : s.webMode p = true) (hstate : s.reg (lcU p) Lc.EST_STATE ≠ 2)
    (hlast : (s.enc (s.act (lcU p) Lc.ENC_SEL)).lastEdge = some l) (hdue : l + s.act (lcU p) Lc.STOP_TICKS ≤ s.now) :
    s.webStopped p = (s.estClear p 2).raise Ev.WEB_STATE (lcU p) 2 := by
  simp [State.webStopped, hweb, hstate, hlast, Nat.not_lt.2 hdue]
theorem exec_webStopped (s : State) (t p : Nat) (hp : p < 8) (h : (s.advance t).serves (lcU p) = true) :
    exec (.webStopped t p) s = .next (s.went t ((s.advance t).webStopped p)) := congrArg _ (s.onUnit_went t p 8 _ _ hp h)

/-- Settles O8: each row runs its operation, and each clause is one of its branches; the count kept at an edge of Z by what events leave alone. -/
theorem encoderFaultsAndStops : Obligations.Encoder_faults_and_stops := by
  intro s t i p ga gb g a b hi hlive x e z
  rw [exec_encoderEdge s t i ga gb a b hi hlive, exec_zEdge s t i g hi hlive]
  refine ⟨fun htype ha hb hclose hfilter => ?_, fun hfilter => ⟨_, rfl, ?_⟩, fun c hfilter hcpr hen hdir hother hlast hdist => ?_, fun hpulse => ?_,
    fun l hp hserves hweb hstate hlast hdue => ?_⟩
  · rw [State.encEdge_both _ i ga gb a b htype ha hb hclose hfilter]
  · rw [State.went_encs, State.encZ_encs _ i g hfilter]
  · rw [State.encZ_miscounts _ i g hfilter c hcpr hen hdir hother hlast hdist]
  · rw [State.encZ_pulse _ i g hpulse]
  · rw [exec_webStopped s t p hp hserves, State.webStopped_due _ p l hweb hstate hlast hdue]
end Sys2Proof.Machine
end

section
/-! Trigger inputs and outputs: the rows of the trigger engine each run their operation on an engine that serves, MARK_REPORT on a line clock that serves, and SOFT_FIRE
reaches the engine through its window (R191, R277, R281, R283, R286, R293, R294). -/
namespace Sys2Proof.Machine
open R

section
variable (s : State) (t : Nat)
theorem exec_markReport (p : Nat) (hp : p < 8) (h : (s.advance t).serves (lcU p) = true) :
    exec (.markReport t p) s = .next (s.went t ((s.advance t).markReport p)) := congrArg _ (s.onUnit_went t p 8 _ _ hp h)
variable (h : (s.advance t).serves trigU = true)
include h
theorem exec_splice : exec (.splice t) s = .next (s.went t (s.advance t).splice) := congrArg _ (s.onUnit_went t 0 1 _ _ Nat.one_pos h)
theorem exec_placeWaitExpiry : exec (.placeWaitExpiry t) s = .next (s.went t (s.advance t).placeExpiry) :=
  congrArg _ (s.onUnit_went t 0 1 _ _ Nat.one_pos h)
theorem exec_holdExpiry (c : Nat) (hc : c < 32) : exec (.holdExpiry t c) s = .next (s.went t ((s.advance t).holdExpiry c)) :=
  congrArg _ (s.onUnit_went t c 32 _ _ hc h)
theorem exec_aOutPulseStart : exec (.aOutPulseStart t) s = .next (s.went t (s.advance t).pulseStart) := congrArg _ (s.onUnit_went t 0 1 _ _ Nat.one_pos h)
theorem exec_aOutPulseEnd : exec (.aOutPulseEnd t) s = .next (s.went t (s.advance t).pulseEnd) := congrArg _ (s.onUnit_went t 0 1 _ _ Nat.one_pos h)
theorem exec_armAt : exec (.armAt t) s = .next (s.went t (s.advance t).armDue) := congrArg _ (s.onUnit_went t 0 1 _ _ Nat.one_pos h)
end

/-- An engine that serves shows its page in a window (R70). -/
theorem State.windowOk_trig (s : State) (h : s.serves trigU = true) : s.windowOk trigU = true := by
  obtain ⟨-, hfrozen, hpowered, hfused⟩ := (s.serves_iff trigU).1 h
  simp [State.windowOk, show uidOk trigU = true by decide, hfrozen, hpowered, hfused]
theorem exec_softFire (s : State) (t : Nat) (h : (s.advance t).serves trigU = true) (hreached : (s.advance t).reached = true) :
    exec (.softFire t) s = .next (s.ran t (s.advance t).softFire) := by
  have hrow := s.onBarThen_ran t (fun r => if r.windowOk trigU then r.softFire else r) hreached
  rw [if_pos ((s.advance t).windowOk_trig h)] at hrow
  exact congrArg _ hrow

/-- The pulses whose start has come (R294). -/
def State.pulsesDue (s : State) : List OutPulse := s.trig.pulses.filter (fun q => match q.startAt with | some t => t ≤ s.now | none => false)
/-- A pulse begins, and lengthens what is active on its pin (R294). -/
def State.pulseBegin (s : State) (q : OutPulse) : State :=
  s.modTrig (fun x => { x with
    pulses := x.pulses.erase q,
    active := x.active.filter (fun y => y.1 != q.gpio) ++
      [(q.gpio, ((x.active.filter (fun y => y.1 == q.gpio)).map (·.2.1)).foldl max (q.startAt.getD 0 + q.width), q.low)] })
theorem State.pulseStart_eq_foldl (s : State) : s.pulseStart = s.pulsesDue.foldl State.pulseBegin s := rfl

section
variable (s : State)
theorem State.markReport_oldest (p : Nat) (r : Nat × Nat) (h : s.trig.reports.find? (fun x => x.1 == p) = some r) :
    s.markReport p = (s.modTrig (fun x => { x with reports := x.reports.erase r })).lcMark p r.2 := by
  rw [State.markReport, h]
/-- The splice input has held its level since tick d, for SPLICE_MIN (R277). -/
theorem State.splice_held (d : Nat) (hsplice : s.trig.spliceT = some d) (hdue : d + s.act trigU Trig.SPLICE_MIN * 16 ≤ s.now) :
    s.splice = (s.modTrig (fun x => { x with spliceT := none })).signal
      { sig := 56, port := 0, t := s.ropeAt d, line := 0, frac := 0, pix := none, cls := 0, node := 0 } := by
  rw [State.splice, hsplice]
  exact if_neg (Nat.not_lt.2 hdue)
/-- The one trigger that waits has waited for PLACE_WAIT (R286). -/
theorem State.placeExpiry_one (w : Waiting) (hwaiting : s.trig.waiting = [w]) (hdue : w.t + s.act trigU Trig.PLACE_WAIT ≤ s.now)
    (hnext : s.trigNext w.t = false) (hfenced : s.fenced (portU w.port) = false) (hopen : (s.ring w.port).jobOpen = true) :
    s.placeExpiry = s.trigLast w := by
  simp [State.placeExpiry, hwaiting, Nat.not_lt.2 hdue, hnext, hfenced, hopen]
theorem State.armDue_reached (d : Nat) (on : Bool) (hat : s.trig.armAt = some (d, on)) (hdue : d ≤ s.rope) : s.armDue = s.armNow on false := by
  rw [State.armDue, hat]
  exact if_neg (Nat.not_lt.2 hdue)
end

/-- Settles O9: each row runs its operation, and each clause is what that operation finds due. -/
theorem triggerInputsAndOutputsAct : Obligations.Trigger_inputs_and_outputs_act := by
  intro s t h a
  refine ⟨fun p r hp hclock hreport => ?_, fun d hsplice hdue => ?_, fun w hwaiting hdue hnext hfenced hopen => ?_, fun c hc => exec_holdExpiry s t h c hc,
    fun q hq => ?_, exec_aOutPulseEnd s t h, fun d on hat hdue => ?_, fun hreached => exec_softFire s t h hreached⟩
  · rw [exec_markReport s t p hp hclock, State.markReport_oldest _ p r hreport]
  · rw [exec_splice s t h, State.splice_held _ d hsplice hdue]
  · rw [exec_placeWaitExpiry s t h, State.placeExpiry_one _ w hwaiting hdue hnext hfenced hopen]
  · have hdue : a.pulsesDue = [q] := hq
    rw [exec_aOutPulseStart s t h, State.pulseStart_eq_foldl, hdue]
    rfl
  · rw [exec_armAt s t h, State.armDue_reached _ d on hat hdue]
end Sys2Proof.Machine
end

section
/-! Front ends: the rows of the temperature sensor, of the rotation and of a calibration each run their operation on a port that serves, and each operation has one equation
for each thing it can find due (R149, R150, R156, R157, R205). -/
namespace Sys2Proof.Machine
open R

section
variable (s : State) (t p : Nat) (hp : p < 8) (h : (s.advance t).serves (portU p) = true)
include hp h
theorem exec_tsenseReading (code : Nat) : exec (.tsenseReading t p code) s = .next (s.went t ((s.advance t).tsenseReading p code)) :=
  congrArg _ (s.onUnit_went t p 8 _ _ hp h)
theorem exec_reliefDue : exec (.reliefDue t p) s = .next (s.went t ((s.advance t).reliefDue p)) := congrArg _ (s.onUnit_went t p 8 _ _ hp h)
theorem exec_calibrationDone (mLo mHi : Nat) :
    exec (.calibrationDone t p mLo mHi) s = .next (s.went t ((s.advance t).calDone p mLo mHi)) := congrArg _ (s.onUnit_went t p 8 _ _ hp h)
end

/-! ### Temperature -/

section
variable (s : State) (p code : Nat)
/-- A temperature from -60 to 150 degrees is taken as it is read (R205). -/
theorem State.tsenseReading_inRange (hlow : -960 ≤ tsense (s.reg calU CalRef.REF_USE_UV) code) (hhigh : tsense (s.reg calU CalRef.REF_USE_UV) code ≤ 2400) :
    s.tsenseReading p code =
      (s.modPort p (fun x => { x with tempLast := some (tsense (s.reg calU CalRef.REF_USE_UV) code) })).set (pipeU p) Pipe.TEMP_BAD 0 :=
  if_pos ⟨hlow, hhigh⟩
/-- The first reading above the range on a pipeline that uses the sensor is a fault of it (R205). -/
theorem State.tsenseReading_firstAbove (habove : 2400 < tsense (s.reg calU CalRef.REF_USE_UV) code) (hsrc : s.act (pipeU p) Pipe.TEMP_SRC = 2)
    (hbad : s.reg (pipeU p) Pipe.TEMP_BAD = 0) :
    s.tsenseReading p code =
      (s.raise Ev.TEMP_FAULT (pipeU p) (low 16 (tsense (s.reg calU CalRef.REF_USE_UV) code))).set (pipeU p) Pipe.TEMP_BAD 1 := by
  have hout : ¬ (-960 ≤ tsense (s.reg calU CalRef.REF_USE_UV) code ∧ tsense (s.reg calU CalRef.REF_USE_UV) code ≤ 2400) := fun hin => Int.not_le.2 habove hin.2
  simp only [State.tsenseReading, hout, hsrc, hbad, if_false, if_true]
end

/-! ### Rotation -/

/-- Nothing runs or waits on the port, the spare is free where a job needs it, and the share of ROT_PERIOD of one tap has passed: the tap picked is relieved (R156, R157). -/
theorem State.reliefDue_passed (s : State) (p k : Nat) (hen : s.reg (portU p) Port.ROT_EN = 1) (hcap : s.act (portU p) Port.CAPTURE = 0)
    (hrelief : (s.port p).relief = none) (hcapture : (s.port p).capture = none) (hqueue : (s.port p).queueCal = []) (htaps : s.rotTaps p ≠ [])
    (hspare : (s.port p).jobOn = true → s.spareFree p = true)
    (hdue : (s.port p).lastRelief + s.rotMs p / (s.rotTaps p).length * msTicks ≤ s.now) (hpick : s.rotPick p = some k) :
    s.reliefDue p = (s.modPort p (fun x => { x with queueCal := [s.mkRelief p k [s.act (portU p) Tap.GAIN_CODE k]] })).reliefNext p := by
  have hjob : ((s.port p).jobOn && !s.spareFree p) = false := by
    cases hon : (s.port p).jobOn with
    | false => rfl
    | true => simp [hspare hon]
  simp [State.reliefDue, hen, hcap, hrelief, hcapture, hqueue, htaps, hjob, Nat.not_lt.2 hdue, hpick]

/-! ### Calibration -/

section
variable (s : State) (p mLo mHi : Nat) (r : Relief) (hrelief : (s.port p).relief = some r) (hphase : r.phase = 1 ∨ r.phase = 3)
include hrelief hphase
/-- The first calibration of an attempt gives its first coefficients, and both points are measured again (R149, R150). -/
theorem State.calSums_first (hfirst : r.first = none) :
    s.calSums p mLo mHi =
      (s.modPort p (fun x => { x with relief := some { r with first := some (calResult mLo mHi), points := 0, reqAt := s.now } }), false) := by
  rcases hphase with hphase | hphase <;> simp [State.calSums, hrelief, hphase, hfirst]
/-- The second calibration of an attempt, which no capture holds off, is compared with the first (R150, R157). -/
theorem State.calSums_second (r1 : Int × Int × Nat) (hfirst : r.first = some r1) (hcapture : (s.port p).capture = none) :
    s.calSums p mLo mHi = s.attemptJudge p r r1 (calResult mLo mHi) s.now := by
  rcases hphase with hphase | hphase <;> simp [State.calSums, hrelief, hphase, hfirst, hcapture]
end
theorem State.attemptJudge_agrees (s : State) (p : Nat) (r : Relief) (a b : Int × Int × Nat) (at_ : Nat) (ok : Int × Nat) (h : attempt a b = some ok) :
    s.attemptJudge p r a b at_ = (s.attemptOk p r ok at_, false) := by
  rw [State.attemptJudge, h]
/-- Both points have been measured, and no earlier result waits for a capture to end: the sums are taken (R149, R157). -/
theorem State.calibrationDone_measured (s : State) (p mLo mHi : Nat) (r : Relief) (hrelief : (s.dacRun.port p).relief = some r) (hpoints : 2 ≤ r.points)
    (hwait : r.wait = none) : s.calibrationDone p mLo mHi = s.dacRun.calSums p mLo mHi := by
  simp [State.calibrationDone, hrelief, Nat.not_lt.2 hpoints, hwait]
/-- A calibration that costs the port no enabled tap fences nothing (R153). -/
theorem State.calDone_of_notLost (s : State) (p mLo mHi : Nat) (r : State) (h : s.calibrationDone p mLo mHi = (r, false)) : s.calDone p mLo mHi = r := by
  rw [State.calDone, h]
  rfl

/-- Settles O6: each row runs its operation; a reading by its range, a relief by what is due, and sums by whether they are the first or the second of their attempt. -/
theorem frontEndsAreReadAndCalibrated : Obligations.Front_ends_are_read_and_calibrated := by
  intro s t p hp hserves a
  refine ⟨fun code => ⟨fun hlow hhigh => ?_, fun habove hsrc hbad => ?_⟩, fun k hen hcap hrelief hcapture hqueue htaps hspare hdue hpick => ?_, ?_⟩
  · rw [exec_tsenseReading s t p hp hserves, State.tsenseReading_inRange _ p code hlow hhigh]
  · rw [exec_tsenseReading s t p hp hserves, State.tsenseReading_firstAbove _ p code habove hsrc hbad]
  · rw [exec_reliefDue s t p hp hserves, State.reliefDue_passed _ p k hen hcap hrelief hcapture hqueue htaps hspare hdue hpick]
  · intro b r mLo mHi hrelief hphase hpoints hwait
    have hdone : a.calibrationDone p mLo mHi = b.calSums p mLo mHi := a.calibrationDone_measured p mLo mHi r hrelief hpoints hwait
    rw [exec_calibrationDone s t p hp hserves]
    refine ⟨fun hfirst => ?_, fun r1 ok hfirst hcapture hagree => ?_⟩
    · rw [State.calDone_of_notLost _ p mLo mHi _ (hdone.trans (b.calSums_first p mLo mHi r hrelief hphase hfirst))]
    · rw [State.calDone_of_notLost _ p mLo mHi _ ((hdone.trans (b.calSums_second p mLo mHi r hrelief hphase r1 hfirst hcapture)).trans
        (b.attemptJudge_agrees p r r1 _ _ ok hagree))]
end Sys2Proof.Machine
end

section
/-! What leaves the records of the trigger engine and of the Rope unit as they were: states of units, events, inputs of line clocks and messages that go out
(R20, R94 to R100, R192, R462, R463). -/
namespace Sys2Proof.Machine
open R

/-- A fold keeps what each of its steps keeps. -/
theorem foldl_keeps {α β γ : Type} (π : α → β) (g : α → γ → α) (hg : ∀ a x, π (g a x) = π a) (l : List γ) (a : α) : π (l.foldl g a) = π a := by
  induction l generalizing a with
  | nil => rfl
  | cons x l ih => rw [List.foldl_cons, ih, hg]

/-! ### States of units and events -/

/-- The record of the trigger engine and that of the Rope unit. -/
def State.trigRope (s : State) : TrigSt × RopeSt := (s.trig, s.ropeS)

@[simp] theorem State.ite_trigRope {c : Prop} [Decidable c] (a b : State) : (if c then a else b).trigRope = if c then a.trigRope else b.trigRope := apply_ite ..
@[simp] theorem State.set_trigRope (s : State) (u : Nat) (f : Field) (v i : Nat) : (s.set u f v i).trigRope = s.trigRope := (rfl)
@[simp] theorem State.bump_trigRope (s : State) (u : Nat) (f : Field) (n i : Nat) : (s.bump u f n i).trigRope = s.trigRope := (rfl)
@[simp] theorem State.evt_trigRope (s : State) (x : EventSt) : ({ s with evt := x } : State).trigRope = s.trigRope := (rfl)
@[simp] theorem State.host_trigRope (s : State) (x : Mem) : ({ s with host := x } : State).trigRope = s.trigRope := (rfl)
@[simp] theorem State.modUnit_trigRope (s : State) (u : Nat) (f : UnitSt → UnitSt) : (s.modUnit u f).trigRope = s.trigRope := (rfl)
@[simp] theorem State.logEvent_trigRope (s : State) (e : Event) : (s.logEvent e).trigRope = s.trigRope := (rfl)
@[simp] theorem State.msixGo_trigRope (s : State) (v : Nat) : (s.msixGo v).trigRope = s.trigRope := (rfl)
@[simp] theorem State.setSt_trigRope (s : State) (u : Nat) (st : UState) (reason : Nat) : (s.setSt u st reason).trigRope = s.trigRope := by
  simp [State.setSt]
@[simp] theorem State.evtWrite_trigRope (s : State) (e : Event) : (s.evtWrite e).trigRope = s.trigRope := by
  simp [State.evtWrite]
@[simp] theorem State.msixSend_trigRope (s : State) (v : Nat) : (s.msixSend v).trigRope = s.trigRope := by
  unfold State.msixSend
  (repeat' split) <;> simp
@[simp] theorem State.irq_trigRope (s : State) (src : Nat) : (s.irq src).trigRope = s.trigRope := by
  simp [State.irq]
@[simp] theorem State.raise_trigRope (s : State) (src uid detail : Nat) : (s.raise src uid detail).trigRope = s.trigRope := by
  simp [State.raise, State.evtLost]
/-- What shows the state of the engine changes nothing of it. -/
@[simp] theorem State.trigState_trigRope (s : State) (late : Bool) : (s.trigState late).trigRope = s.trigRope := by
  simp [State.trigState]

@[simp] theorem State.raise_ropeS (s : State) (src uid detail : Nat) : (s.raise src uid detail).ropeS = s.ropeS := congrArg Prod.snd (s.raise_trigRope src uid detail)
@[simp] theorem State.trigState_trig (s : State) (late : Bool) : (s.trigState late).trig = s.trig := congrArg Prod.fst (s.trigState_trigRope late)
@[simp] theorem State.trigState_ropeS (s : State) (late : Bool) : (s.trigState late).ropeS = s.ropeS := congrArg Prod.snd (s.trigState_trigRope late)

/-! ### Inputs of line clocks -/

@[simp] theorem State.lcInput_trig (s : State) (p te : Nat) : (s.lcInput p te).trig = s.trig := by
  unfold State.lcInput
  dsimp only
  split
  · rfl
  split
  · rfl
  · rfl

/-! ### Messages -/

@[simp] theorem State.pump_lastArm (s : State) (k : Nat) : (s.pump k).ropeS.lastArm = s.ropeS.lastArm := by
  unfold State.pump
  split
  · rfl
  split
  · rfl
  · rfl
@[simp] theorem State.msgDropped_lastArm (s : State) (k : Nat) (m : RMsg) : (s.msgDropped k m).ropeS.lastArm = s.ropeS.lastArm := by
  rw [State.msgDropped, State.raise_ropeS, State.bump_ropeS]
@[simp] theorem State.ropeSend_lastArm (s : State) (k : Nat) (m : RMsg) (link : Bool) : (s.ropeSend k m link).ropeS.lastArm = s.ropeS.lastArm := by
  unfold State.ropeSend
  split
  · exact State.pump_lastArm ..
  · exact s.msgDropped_lastArm k m
@[simp] theorem State.ropeFlood_lastArm (s : State) (m : RMsg) (from_ : Nat) (up down : Bool) : (s.ropeFlood m from_ up down).ropeS.lastArm = s.ropeS.lastArm :=
  foldl_keeps (fun r => r.ropeS.lastArm) _ (fun r k => r.ropeSend_lastArm k _ _) _ s
end Sys2Proof.Machine
end

section
/-! Trigger slots and GPIO edges: TRIGGER_SLOT runs its operation on an engine that serves, GPIO_EDGE on a device that works; one that does not keeps the level
(R277, R278, R295). -/
namespace Sys2Proof.Machine
open R

section
variable (s : State) (t : Nat)
theorem exec_triggerSlot (h : (s.advance t).serves trigU = true) : exec (.triggerSlot t) s = .next (s.ran t (s.advance t).triggerSlot) := by
  obtain ⟨hreset, hfrozen, hpowered, -⟩ := (State.serves_iff _ _).1 h
  have hrow := s.onSeq_ran t (fun r => if r.powered trigU then r.triggerSlot else r) ((State.isLive_iff _).2 ⟨hreset, hfrozen⟩)
  rw [if_pos hpowered] at hrow
  exact congrArg _ hrow
variable (k g : Nat) (level : Bool) (hk : k < 32)
include hk
theorem exec_gpioEdge (h : (s.advance t).isLive = true) : exec (.gpioEdge t k level g) s = .next (s.went t ((s.advance t).gpioEdge k level g)) := by
  have hrow := s.onPins_went t (fun r => if 32 ≤ k then r else r.gpioLevel k level) (fun r => if 32 ≤ k then r else r.gpioEdge k level g) h
  rw [if_neg (Nat.not_le.2 hk)] at hrow
  exact congrArg _ hrow
theorem exec_gpioEdge_idle (h : (s.advance t).isLive = false) : exec (.gpioEdge t k level g) s = .next (s.ends t ((s.advance t).gpioLevel k level)) := by
  have hrow := s.onPins_idle t (fun r => if 32 ≤ k then r else r.gpioLevel k level) (fun r => if 32 ≤ k then r else r.gpioEdge k level g) h
  rw [if_neg (Nat.not_le.2 hk)] at hrow
  exact congrArg _ hrow
end

theorem State.triggerSlot_done (s : State) (h : s.trig.lastSlotDone = some s.slotDue) : s.triggerSlot = s := by
  have hslot : s.trigSlot = (s, false) := by simp [State.trigSlot, State.trigSlotAt, h]
  rw [State.triggerSlot, hslot]
  rfl
theorem State.gpioEdge_short (s : State) (k g : Nat) (level : Bool) (h : g < s.reg trigU Trig.GPIO_FILTER) : s.gpioEdge k level g = s := by
  simp [State.gpioEdge, h]
/-- A new level that has stood for GPIO_FILTER is kept, with the Rope time of its edge, whatever the edge means to the splice input and to the line clocks (R277). -/
theorem State.gpioEdge_stood (s : State) (k g : Nat) (level : Bool) (hstood : s.reg trigU Trig.GPIO_FILTER ≤ g) (hnew : tbit s.trig.gpio k ≠ level) :
    (s.gpioEdge k level g).trig.gpio = setBit s.trig.gpio k level ∧
      (s.gpioEdge k level g).trig.levelT = s.trig.levelT ++ [(k, s.ropeAt (s.now - g))] := by
  have hinput (r : State) (p te : Nat) (c : Prop) [Decidable c] : (if c then r.lcInput p te else r).trig = r.trig := by
    split
    · exact r.lcInput_trig p te
    · rfl
  unfold State.gpioEdge
  rw [if_neg (by simp [Nat.not_lt.2 hstood, hnew])]
  dsimp only
  rw [foldl_keeps State.trig _ (fun r p => hinput r p _ _)]
  split
  · exact ⟨rfl, rfl⟩
  · exact ⟨rfl, rfl⟩

/-- Settles O10: each row runs its operation; a slot by whether it is done, an edge by how long its level has stood. -/
theorem triggerSlotsAndGpioEdges : Obligations.Trigger_slots_and_gpio_edges := by
  refine ⟨fun s t hserves _ => ⟨fun _ => exec_triggerSlot s t hserves, fun hdone => ?_⟩,
    fun s t k g level hk => ⟨fun hlive hstood hnew => ?_, fun hlive hshort => ?_, fun hidle => exec_gpioEdge_idle s t k g level hk hidle⟩⟩
  · rw [exec_triggerSlot s t hserves, State.triggerSlot_done _ hdone]
  · exact ⟨_, exec_gpioEdge s t k g level hk hlive, State.gpioEdge_stood _ k g level hstood hnew⟩
  · rw [exec_gpioEdge s t k g level hk hlive, State.gpioEdge_short _ k g level hshort]
end Sys2Proof.Machine
end

section
/-! The packets of triggers, channels and movers: TRIG_ARM of the host and over the Rope, DMA_START and MOVE where nothing refuses them (R281, R282, R327, R341, R567). -/
namespace Sys2Proof.Machine
open R

/-! ### TRIG_ARM -/

/-- TRIG_ARM answers with STATE of the engine. -/
def State.armAnswer (s : State) : Answer := (s, St.OK, [s.reg trigU Trig.STATE])
/-- The instant that the packet names: its Rope time with flag 8, none without (R567). -/
def Pkt.armTime (k : Pkt) : Option Nat := if k.flag 8 then some (k.p 2 * 2 ^ 32 + k.p 1) else none
/-- The ARM message of a request (R282, R461). -/
def State.armMsg (s : State) (on : Bool) (at_ : Option Nat) : RMsg :=
  { typ := 1, up := false, src := s.node, dst := allNodes, pay := [b2n on, (at_.getD s.rope) % 2 ^ 32, (at_.getD s.rope) / 2 ^ 32 % 2 ^ 32] }
/-- The leader sends a request over the Rope (R282). -/
def State.armSent (s : State) (m : RMsg) : State := (s.modRope (fun r => { r with lastArm := some m })).ropeFlood m 5 false true

theorem Pkt.headD_params (k : Pkt) : k.params.headD 0 = k.p 0 := by
  cases hparams : k.params <;> simp [Pkt.p, nth, hparams]
theorem Pkt.armTime_now (k : Pkt) (h : k.flag 8 = false) : k.armTime = none := by simp [Pkt.armTime, h]
theorem Pkt.armTime_later (k : Pkt) (h : k.flag 8 = true) : k.armTime = some (k.p 2 * 2 ^ 32 + k.p 1) := by simp [Pkt.armTime, h]
/-- The parameters of TRIG_ARM are in their ranges (R567). -/
theorem State.cmdArm_passes (s : State) (k : Pkt) (hon : k.p 0 < 2) (hat : k.flag 8 = false → k.p 1 = 0 ∧ k.p 2 = 0) : s.cmdArm k = s.cmdTrigArm k := by
  have hp (i : Nat) (hi : k.flag 8 = false → k.p i = 0) : (k.flag 8 || k.p i == 0) = true := by
    cases hflag : k.flag 8 with
    | true => rfl
    | false => simp [hi hflag]
  simp [State.cmdArm, badParam, need, firstOf, State.unless, hon, hp 1 (fun h => (hat h).1), hp 2 (fun h => (hat h).2)]
theorem State.cmdTrigArm_host (s : State) (k : Pkt) (h : s.reg trigU Trig.ARM_SRC ≠ 1) :
    s.cmdTrigArm k = (s.armReq (tbit (k.p 0) 0) k.armTime false).armAnswer := by
  have hsrc : (s.reg trigU Trig.ARM_SRC == 1) = false := by simpa using h
  simp only [State.cmdTrigArm, hsrc, k.headD_params]
  rfl
theorem State.cmdTrigArm_leader (s : State) (k : Pkt) (hsrc : s.reg trigU Trig.ARM_SRC = 1) (hrole : s.role = 1) :
    s.cmdTrigArm k = ((s.armSent (s.armMsg (tbit (k.p 0) 0) k.armTime)).armReq (tbit (k.p 0) 0) k.armTime false).armAnswer := by
  simp only [State.cmdTrigArm, hsrc, hrole, k.headD_params]
  rfl

theorem State.armReq_later (s : State) (on tell : Bool) (d : Nat) (h : s.rope < d) :
    s.armReq on (some d) tell = (s.modTrig (fun x => { x with armAt := some (d, on) })).trigState false := if_neg (Nat.not_le.2 h)
@[simp] theorem State.armNow_ropeS (s : State) (on late : Bool) : (s.armNow on late).ropeS = s.ropeS := by
  simp only [State.armNow, State.trigState_ropeS, State.modTrig_ropeS]
  split
  · rfl
  · rfl
@[simp] theorem State.armReq_ropeS (s : State) (on : Bool) (at_ : Option Nat) (tell : Bool) : (s.armReq on at_ tell).ropeS = s.ropeS := by
  unfold State.armReq
  split
  · exact s.armNow_ropeS on false
  split
  · exact s.armNow_ropeS on tell
  · exact State.trigState_ropeS ..
theorem State.armSent_lastArm (s : State) (m : RMsg) : (s.armSent m).ropeS.lastArm = some m := State.ropeFlood_lastArm ..

/-! ### DMA_START and MOVE -/

/-- A stopped channel with a chain and a status address starts at the head of its chain (R327). -/
theorem State.cmdDmaStart_starts (s : State) (c : Nat) (hst : (s.dma c).st = 0)
    (hchain : s.reg (dmaU c) Dma.CHAIN_HI * 2 ^ 32 + s.reg (dmaU c) Dma.CHAIN_LO * 32 ≠ 0)
    (hstatus : s.reg (dmaU c) Dma.STATUS_HI * 2 ^ 32 + s.reg (dmaU c) Dma.STATUS_LO * 32 ≠ 0) :
    s.cmdDmaStart c = (((((s.set (dmaU c) Dma.XFER_SEQ 0).set (dmaU c) Dma.BYTES_LO 0).set (dmaU c) Dma.BYTES_HI 0).modDma c DmaSt.clear).dmaGo c
      (s.reg (dmaU c) Dma.CHAIN_HI * 2 ^ 32 + s.reg (dmaU c) Dma.CHAIN_LO * 32), St.OK, []) := by
  unfold State.cmdDmaStart
  dsimp only
  rw [if_neg (by simp [hst]), if_neg (not_or.2 ⟨hchain, hstatus⟩)]
/-- A copy that keeps to the rules of R340 and finds room in the queue of its mover becomes work of that mover (R341). -/
theorem State.cmdMove_starts (s : State) (u : Nat) (k : Pkt) (hsrc : (k.p 1 * 2 ^ 32 + k.p 0) % 64 = 0) (hdst : (k.p 3 * 2 ^ 32 + k.p 2) % 64 = 0) (hlen : k.p 4 % 64 = 0)
    (hlen0 : k.p 4 ≠ 0)
    (hfrom : if tbit k.flags 8 then k.p 1 * 2 ^ 32 + k.p 0 + k.p 4 ≤ 2 ^ 23 else k.p 1 * 2 ^ 32 + k.p 0 + k.p 4 ≤ s.fitted)
    (hto : k.p 3 * 2 ^ 32 + k.p 2 + k.p 4 ≤ s.fitted) (hown : s.ownedRange (k.p 3 * 2 ^ 32 + k.p 2) (k.p 4) = false) (hroom : (s.moves u).length < 4) :
    s.cmdMove u k = ((s.workStart k u []).moverRegs u, St.OK, []) := by
  have hinside : ¬ (if tbit k.flags 8 then 2 ^ 23 < k.p 1 * 2 ^ 32 + k.p 0 + k.p 4 else s.fitted < k.p 1 * 2 ^ 32 + k.p 0 + k.p 4) := by
    by_cases hsram : tbit k.flags 8 = true
    · rw [if_pos hsram] at hfrom ⊢
      exact Nat.not_lt.2 hfrom
    · rw [if_neg hsram] at hfrom ⊢
      exact Nat.not_lt.2 hfrom
  have haligned (n : Nat) (h : n = 0) : ¬ (n != 0) = true := by simp [h]
  unfold Pkt.p at *
  unfold State.cmdMove
  dsimp only
  rw [if_neg (haligned _ hsrc), if_neg (haligned _ hdst), if_neg (haligned _ hlen), if_neg hinside,
    if_neg (not_or.2 ⟨Nat.not_lt.2 hto, ne_true_of_eq_false hown⟩), if_neg hlen0, if_neg (Nat.not_le.2 hroom)]

/-! ### The rows -/

/-- Settles O37: a packet taken runs its command, and nothing refuses it; TRIG_ARM by its source and by whether it names an instant. -/
theorem triggerAndTransferPacketsComplete : Obligations.Trigger_and_transfer_packets_complete := by
  intro s t urgent tag uid flags params env x b k
  have hrow (o : Op) (r : Answer) (htaken : (x o).taken s = true) (h1 : o ≠ .abort) (h2 : o ≠ .resetUnit) (hr : (b o).runOp o (k o) env = r) :
      exec (x o).row s = .next ((x o).answered s r) :=
    ((x o).exec_taken s htaken (.inr rfl) h1 h2).trans (congrArg (fun r => Host.Outcome.next ((x o).answered s r)) hr)
  refine ⟨fun htaken hon hsrc => ?_, fun htaken hon hsrc hrole hat => ?_, ?_, ?_⟩
  · have hhost (hat : (k .trigArm).flag 8 = false → (k .trigArm).p 1 = 0 ∧ (k .trigArm).p 2 = 0) := hrow .trigArm _ htaken nofun nofun
      (((b .trigArm).cmdArm_passes (k .trigArm) hon hat).trans ((b .trigArm).cmdTrigArm_host (k .trigArm) hsrc))
    refine ⟨fun hflag hp1 hp2 => ⟨_, hhost fun _ => ⟨hp1, hp2⟩, ?_⟩, fun hflag hlater => ⟨_, hhost fun h => ?_, ?_⟩⟩
    · rw [(k .trigArm).armTime_now hflag]
      rfl
    · exact absurd (hflag.symm.trans h) nofun
    · rw [(k .trigArm).armTime_later hflag, State.armReq_later _ _ _ _ hlater, State.trigState_trig]
      exact ⟨rfl, rfl⟩
  · refine ⟨_, (b .trigArm).armMsg (tbit ((k .trigArm).p 0) 0) (k .trigArm).armTime, hrow .trigArm _ htaken nofun nofun
      (((b .trigArm).cmdArm_passes (k .trigArm) hon hat).trans ((b .trigArm).cmdTrigArm_leader (k .trigArm) hsrc hrole)), ?_, rfl, rfl, rfl⟩
    rw [State.armReq_ropeS, State.armSent_lastArm]
  · intro htaken a c chain hst hchain hstatus
    exact hrow .dmaStart _ htaken nofun nofun (a.cmdDmaStart_starts c hst hchain hstatus)
  · intro htaken a u src dst len hsrc hdst hlen hlen0 hfrom hto hown hroom
    exact hrow .move _ htaken nofun nofun (a.cmdMove_starts u (k .move) hsrc hdst hlen hlen0 hfrom hto hown hroom)
end Sys2Proof.Machine
end

section
/-! Channels and movers: the rows of a DMA channel and MOVER_COPY_DONE run their operation on a unit that serves (R61, R329, R331, R332, R334, R335, R339, R341). -/
namespace Sys2Proof.Machine
open R

section
variable (s : State) (t k : Nat) (hk : k < 64) (h : (s.advance t).serves (dmaU k) = true)
include hk h
theorem exec_doorbell (hd3 : (s.advance t).d3hot = false) : exec (.doorbell t k) s = .next (s.ran t ((s.advance t).dmaDoorbell k)) := by
  obtain ⟨hreset, hfrozen, hpowered, -⟩ := (State.serves_iff _ _).1 h
  have hrow := s.onBarThen_ran t (fun r => if 64 ≤ k || r.frozen || !r.powered (dmaU k) then r else r.dmaDoorbell k) ((State.reached_iff _).2 ⟨hreset, hd3⟩)
  rw [hfrozen, hpowered, if_neg (by simpa using hk)] at hrow
  exact congrArg _ hrow
theorem exec_descriptorReadDone (ws : List Nat) :
    exec (.descriptorReadDone t k ws) s = .next (s.went t ((s.advance t).dmaDescDone k ws)) := congrArg _ (s.onUnit_went t k 64 _ _ hk h)
theorem exec_descReadTimeout (error : Bool) :
    exec (.descReadTimeout t k error) s = .next (s.went t ((s.advance t).dmaDescFail k error)) := congrArg _ (s.onUnit_went t k 64 _ _ hk h)
theorem exec_flushTicksExpiry : exec (.flushTicksExpiry t k) s = .next (s.went t ((s.advance t).dmaServe (k / 16))) :=
  congrArg _ (s.onUnit_went t k 64 _ _ hk h)
theorem exec_barrierReadDone : exec (.barrierReadDone t k) s = .next (s.went t ((s.advance t).dmaBarrierDone k)) := congrArg _ (s.onUnit_went t k 64 _ _ hk h)
theorem exec_dmaTransferEnd : exec (.dmaTransferEnd t k) s = .next (s.went t ((s.advance t).dmaTransferEnd k)) := congrArg _ (s.onUnit_went t k 64 _ _ hk h)
end
theorem exec_moverCopyDone (s : State) (t i : Nat) (hi : i < 8) (h : (s.advance t).serves (movU i) = true) :
    exec (.moverCopyDone t i) s = .next (s.went t ((s.advance t).moverDone (movU i))) := congrArg _ (s.onUnit_went t i 8 _ _ hi h)

/-! ### Doorbells (R329) -/

section
variable (s : State) (k : Nat)
theorem State.dmaDoorbell_parked (hst : (s.dma k).st = 2) (hread : (s.dma k).reading = none) :
    s.dmaDoorbell k = s.dmaTo k (fun d => { d with reading := some (d.cur, true, s.now) }) := by
  simp [State.dmaDoorbell, hst, hread]
theorem State.dmaDoorbell_reading (hst : (s.dma k).st = 2) (hread : (s.dma k).reading ≠ none) :
    s.dmaDoorbell k = s.modDma k (fun d => { d with more := d.more + 1 }) := by
  simp [State.dmaDoorbell, hst, Option.isSome_iff_ne_none.2 hread]
theorem State.dmaDoorbell_ignored (hst : (s.dma k).st ≠ 2) : s.dmaDoorbell k = s.bump (dmaU k) Dma.DB_IGNORED := if_neg hst
end

/-! ### Descriptors (R328, R329, R339) -/

/-- The descriptor that the words read at an address hold (R328). -/
def descOfWords (at_ : Nat) (ws : List Nat) : Desc where
  at_ := at_
  addr := nth ws 1 * 2 ^ 32 + nth ws 0
  len := nth ws 2 % 2 ^ 24
  segEnd := tbit (nth ws 3) 0
  barrier := tbit (nth ws 3) 1
  eoc := (linkOfWords (nth ws 4) (nth ws 5)).2.1
  link := (linkOfWords (nth ws 4) (nth ws 5)).2.2
/-- The descriptor read breaks a rule of R328, or its segment one of R329 (R339). -/
def State.descBad (s : State) (k : Nat) (ws : List Nat) (x : Desc) : Bool :=
  nth ws 2 / 2 ^ 24 != 0 || nth ws 3 / 4 != 0 || (linkOfWords (nth ws 4) (nth ws 5)).1 || x.len == 0 || decide (2 ^ 64 < x.addr + x.len) ||
    decide (64 < ((s.dma k).seg ++ [x]).length) || decide (s.act (dmaU k) Dma.CHUNK * 65536 < (((s.dma k).seg ++ [x]).map (·.len)).foldl (· + ·) 0)
theorem State.descBad_eq_false_iff (s : State) (k : Nat) (ws : List Nat) (x : Desc) :
    s.descBad k ws x = false ↔ nth ws 2 / 2 ^ 24 = 0 ∧ nth ws 3 / 4 = 0 ∧ (linkOfWords (nth ws 4) (nth ws 5)).1 = false ∧ x.len ≠ 0 ∧ x.addr + x.len ≤ 2 ^ 64 ∧
      (s.dma k).seg.length < 64 ∧ (((s.dma k).seg.map (·.len)).foldl (· + ·) 0) + x.len ≤ s.act (dmaU k) Dma.CHUNK * 65536 := by
  simp only [State.descBad, Bool.or_eq_false_iff, bne_eq_false_iff_eq, beq_eq_false_iff_ne, decide_eq_false_iff_not, Nat.not_lt, List.length_append,
    List.length_singleton, Nat.add_one_le_iff, List.map_append, List.map_cons, List.map_nil, List.foldl_append, List.foldl_cons, List.foldl_nil, and_assoc]
/-- A sound descriptor joins its segment: the last one makes the segment ready, any other leads on to the next read. -/
theorem State.dmaDescDone_sound (s : State) (k p since : Nat) (ws : List Nat) (hd3 : s.d3hot = false) (hread : (s.dma k).reading = some (p, false, since))
    (hsound : s.descBad k ws (descOfWords p ws) = false) :
    s.dmaDescDone k ws =
      if (descOfWords p ws).segEnd || (descOfWords p ws).eoc
      then s.dmaTo k (fun d => { d with seg := (s.dma k).seg ++ [descOfWords p ws], segOk := true, reading := none })
      else s.dmaTo k (fun d => { d with
        seg := (s.dma k).seg ++ [descOfWords p ws], cur := (descOfWords p ws).link, reading := some ((descOfWords p ws).link, false, s.now) }) := by
  unfold State.dmaDescDone
  simp only [hd3, hread, Bool.false_eq_true, if_false]
  exact if_neg (ne_true_of_eq_false hsound)

/-- A read that failed, or is overdue, fences the channel; an overdue one is a completion timeout as well (R61, R339). -/
theorem State.dmaDescFail_fences (s : State) (k : Nat) (error : Bool) (x : Nat × Bool × Nat) (hd3 : s.d3hot = false) (hread : (s.dma k).reading = some x)
    (hkept : (s.dma k).kept = none) (h : error = true ∨ x.2.2 + 16000000 ≤ s.now) :
    s.dmaDescFail k error = (if error then s else s.aerTimeout).dmaFence k Fr.DESC_READ := by
  cases error with
  | true => simp [State.dmaDescFail, hd3, hread, hkept]
  | false => simp [State.dmaDescFail, hd3, hread, hkept, h.resolve_left Bool.false_ne_true]

/-! ### The next transfer of an engine (R331, R332) -/

/-- The channels of engine e in the order in which it looks for its next transfer, `c` places on. -/
def engineOrder (e c : Nat) : List Nat := (List.range 16).map (fun i => e * 16 + (c + i) % 16)
theorem mem_engineOrder (e c n : Nat) : n ∈ engineOrder e c ↔ ∃ j, j < 16 ∧ n = e * 16 + j := by
  simp only [engineOrder, List.mem_map, List.mem_range]
  constructor
  · rintro ⟨i, -, rfl⟩
    exact ⟨(c + i) % 16, Nat.mod_lt _ (by decide), rfl⟩
  · rintro ⟨j, hj, rfl⟩
    exact ⟨(j + 16 - c % 16) % 16, Nat.mod_lt _ (by decide), by omega⟩
/-- Where one channel alone of an engine meets a test, the search finds it, wherever it begins. -/
theorem find?_engineOrder (k c : Nat) (ready : Nat → Bool) (hk : ready k = true) (hrest : ∀ j, j < 16 → k / 16 * 16 + j ≠ k → ready (k / 16 * 16 + j) = false) :
    (engineOrder (k / 16) c).find? ready = some k := by
  have hmem : k ∈ engineOrder (k / 16) c := (mem_engineOrder ..).2 ⟨k % 16, Nat.mod_lt _ (by decide), by omega⟩
  obtain ⟨n, hn⟩ := Option.isSome_iff_exists.1 (List.find?_isSome.2 ⟨k, hmem, hk⟩)
  obtain ⟨j, hj, rfl⟩ := (mem_engineOrder ..).1 (List.mem_of_find?_eq_some hn)
  have honly : k / 16 * 16 + j = k :=
    Decidable.byContradiction fun hne => absurd (List.find?_some hn) (ne_true_of_eq_false (hrest j hj hne))
  rw [hn, honly]
/-- Channel k is the one that its engine has served last. -/
def State.dmaServed (s : State) (k : Nat) : State :=
  ((List.range 16).map (k / 16 * 16 + ·)).foldl (fun (r : State) j => r.modDma j (fun d => { d with last := j == k })) s
/-- An engine without a transfer serves its only ready channel. -/
theorem State.dmaServe_only (s : State) (k n : Nat)
    (hidle : ∀ j, j < 16 → (s.dma (k / 16 * 16 + j)).inXfer = false ∧ (s.dma (k / 16 * 16 + j)).waitBarrier = false) (hready : s.dmaReady k = some n)
    (hrest : ∀ j, j < 16 → k / 16 * 16 + j ≠ k → s.dmaReady (k / 16 * 16 + j) = none) :
    s.dmaServe (k / 16) = (s.dmaServed k).dmaTo k (fun d => { d with
      inXfer := true, bytes := n, xferWin := if (s.dmaServed k).act (dmaU k) Dma.SRC_KIND = 2 then (s.dmaServed k).poolNext.map (·.seq) else none }) := by
  have hnone : ((List.range 16).map (k / 16 * 16 + ·)).any (fun k => (s.dma k).inXfer || (s.dma k).waitBarrier) = false := by
    simpa using hidle
  have hfind (c : Nat) : ((List.range 16).map (fun i => k / 16 * 16 + (c + i) % 16)).find? (fun k => (s.dmaReady k).isSome) = some k :=
    find?_engineOrder k c (fun k => (s.dmaReady k).isSome) (by rw [hready]; rfl) (fun j hj hne => by rw [hrest j hj hne]; rfl)
  simp only [State.dmaServe, hnone, Bool.false_eq_true, if_false, hfind, hready]
  rfl

/-! ### The end of a transfer (R334, R335) -/

theorem State.dmaBarrierDone_finishes (s : State) (k : Nat) (hd3 : s.d3hot = false) (hwait : (s.dma k).waitBarrier = true) (hst : (s.dma k).st ≠ 3) :
    s.dmaBarrierDone k = s.dmaFinish k := by
  simp [State.dmaBarrierDone, hd3, hwait, hst]
/-- The data of a transfer are delivered; a segment with a barrier then waits for its read. -/
theorem State.dmaTransferEnd_delivers (s : State) (k : Nat) (hd3 : s.d3hot = false) (hxfer : (s.dma k).inXfer = true) (hwait : (s.dma k).waitBarrier = false)
    (hst : (s.dma k).st ≠ 3) :
    s.dmaTransferEnd k = if (s.dma k).seg.any (·.barrier) then (s.dmaData k (s.dma k).bytes).dmaTo k (fun d => { d with waitBarrier := true })
      else (s.dmaData k (s.dma k).bytes).dmaFinish k := by
  simp [State.dmaTransferEnd, hd3, hxfer, hwait, hst]

/-! ### What leaves LPDDR5X as it is -/

@[simp] theorem State.ite_dram {c : Prop} [Decidable c] (a b : State) : (if c then a else b).dram = if c then a.dram else b.dram := apply_ite ..
@[simp] theorem State.setSt_dram (s : State) (u : Nat) (st : UState) (reason : Nat) : (s.setSt u st reason).dram = s.dram := by
  simp [State.setSt]
@[simp] theorem State.evtWrite_dram (s : State) (e : Event) : (s.evtWrite e).dram = s.dram := by
  simp [State.evtWrite]
@[simp] theorem State.msixSend_dram (s : State) (v : Nat) : (s.msixSend v).dram = s.dram := by
  unfold State.msixSend
  split
  · rfl
  split
  · rfl
  split
  · rfl
  · rfl
@[simp] theorem State.irq_dram (s : State) (src : Nat) : (s.irq src).dram = s.dram := by
  simp [State.irq]
@[simp] theorem State.raise_dram (s : State) (src uid detail : Nat) : (s.raise src uid detail).dram = s.dram := by
  simp [State.raise, State.evtLost]
@[simp] theorem State.audit_dram (s : State) (kind uid : Nat) (detail : List Nat) : (s.audit kind uid detail).dram = s.dram := by
  simp [State.audit, State.auditRegs]
@[simp] theorem State.putResult_dram (s : State) (u tag : Nat) (ws : List Nat) : (s.putResult u tag ws).dram = s.dram := by
  simp [State.putResult]
@[simp] theorem State.commitForce_dram (s : State) (u : Nat) (cs : List Commit) (kind line rep time : Nat) :
    (s.commitForce u cs kind line rep time).dram = s.dram := by
  unfold State.commitForce
  split
  · rfl
  · exact (foldl_keeps State.dram _ (fun r d => by simp) _ _).trans rfl
@[simp] theorem State.forceHeld_dram (s : State) (u : Nat) : (s.forceHeld u).dram = s.dram := State.commitForce_dram ..
@[simp] theorem State.workDone_dram (s : State) (w : Work) (status : Nat) : (s.workDone w status).dram = s.dram :=
  (foldl_keeps State.dram _ State.forceHeld_dram _ _).trans (State.raise_dram ..)
@[simp] theorem State.workEnd_dram (s : State) (w : Work) (status : Nat) (data : List Nat) : (s.workEnd w status data).dram = s.dram := by
  simp [State.workEnd]
@[simp] theorem State.retireQueue_dram (s : State) (page : Nat) : (s.retireQueue page).dram = s.dram := by
  simp [State.retireQueue]
@[simp] theorem State.memUE_dram (s : State) (a : Nat) : (s.memUE a).dram = s.dram := by
  simp [State.memUE]
@[simp] theorem State.meetPoison_dram (s : State) (a len : Nat) : (s.meetPoison a len).dram = s.dram := by
  unfold State.meetPoison
  split
  · rfl
  · exact foldl_keeps State.dram _ (fun r u => r.memUE_dram _) _ s
@[simp] theorem State.moverRegs_dram (s : State) (u : Nat) : (s.moverRegs u).dram = s.dram := by
  simp [State.moverRegs]

/-! ### Movers (R341) -/

/-- What a MOVE names: its source, its destination and its length. -/
def Work.src (w : Work) : Nat := nth w.params 1 * 2 ^ 32 + nth w.params 0
def Work.dst (w : Work) : Nat := nth w.params 3 * 2 ^ 32 + nth w.params 2
def Work.len (w : Work) : Nat := nth w.params 4
/-- One copy fewer stands before the device's own copies on a mover. -/
def State.ownCloser (s : State) (u : Nat) : State :=
  { s with memS := { s.memS with own := s.memS.own.map (fun x => if x.1 = u then (u, x.2.1, x.2.2 - 1) else x) } }
/-- A copy whose bytes are written ends: BYTES counts its units, and the work ends with ST_OK and their number. -/
def State.copyEnds (s : State) (u : Nat) (w : Work) : State := ((s.bump u Mover.BYTES (w.len / 64)).workEnd w St.OK [w.len / 64]).moverRegs u

theorem State.copyEnds_dram (s : State) (u : Nat) (w : Work) : (s.copyEnds u w).dram = s.dram := by
  simp [State.copyEnds]
theorem State.meetPoison_eccOff (s : State) (a len : Nat) (h : s.eccOn = false) : s.meetPoison a len = s := by
  simp [State.meetPoison, h]
theorem State.dramWrite_eccOn (s : State) (a : Nat) (bs : List Nat) : (s.dramWrite a bs).eccOn = s.eccOn := rfl

section
variable (s : State) (u : Nat) (w : Work) (l : List Work) (hmoves : s.moves u = w :: l) (hown : (s.ownMoves u).find? (fun x => x.2.2 == 0) = none)
include hmoves hown
theorem State.moverDone_fromSram (hflag : tbit w.flags 8 = true) :
    s.moverDone u = ((s.ownCloser u).dramWrite w.dst (Machine.Mem.read s.sram w.src w.len)).copyEnds u w := by
  simp only [State.moverDone, hown, hmoves, hflag, if_true, Bool.true_or]
  rfl
/-- A copy from LPDDR5X meets the poisoned units of its source, and those of its destination take their code (R479). -/
theorem State.moverDone_fromDram (hflag : tbit w.flags 8 = false) :
    let b := ((s.ownCloser u).meetPoison w.src w.len).dramWrite w.dst (Machine.Mem.read s.dram w.src w.len)
    s.moverDone u = (if !b.eccOn then b else b.poisonCopy w.src w.dst w.len).copyEnds u w := by
  simp only [State.moverDone, hown, hmoves, hflag, Bool.false_eq_true, if_false, Bool.false_or]
  rfl
theorem State.moverDone_eccOff (hflag : tbit w.flags 8 = false) (hecc : (s.ownCloser u).eccOn = false) :
    s.moverDone u = ((s.ownCloser u).dramWrite w.dst (Machine.Mem.read s.dram w.src w.len)).copyEnds u w := by
  rw [s.moverDone_fromDram u w l hmoves hown hflag, State.meetPoison_eccOff _ _ _ hecc]
  exact congrArg (fun r => State.copyEnds r u w) (if_pos (by rw [State.dramWrite_eccOn, hecc]; rfl))
theorem State.moverDone_dram (hflag : tbit w.flags 8 = false) :
    (s.moverDone u).dram = Machine.Mem.write s.dram w.dst (Machine.Mem.read s.dram w.src w.len) := by
  have hpoison (b : State) : (if !b.eccOn then b else b.poisonCopy w.src w.dst w.len).dram = b.dram := by
    rw [State.ite_dram]
    exact ite_self _
  rw [s.moverDone_fromDram u w l hmoves hown hflag, State.copyEnds_dram, hpoison]
  exact congrArg (fun m => Machine.Mem.write m w.dst _) (State.meetPoison_dram ..)
end

/-! ### The rows -/

/-- Settles O11: each row runs its operation, and each clause is one of its cases; of a copy with ECC on, what it leaves in LPDDR5X. -/
theorem channelsAndMoversRun : Obligations.Channels_and_movers_run := by
  refine ⟨fun s t k hk hserves hd3 => ?_, fun s t i w l hi hserves hmoves hown => ?_⟩
  · intro a
    refine ⟨fun hst hread => ?_, fun hst hread => ?_, fun hst => ?_, ?_, fun x error hread hkept hover => ?_, fun n hidle hready hrest => ?_,
      fun hwait hst => ?_, fun hxfer hwait hst => ?_⟩
    · rw [exec_doorbell s t k hk hserves hd3, State.dmaDoorbell_parked _ k hst hread]
    · rw [exec_doorbell s t k hk hserves hd3, State.dmaDoorbell_reading _ k hst hread]
    · rw [exec_doorbell s t k hk hserves hd3, State.dmaDoorbell_ignored _ k hst]
    · intro p w0 w1 w2 w3 w4 w5 w6 w7 since hread h2 h3 hlink hlen haddr hcount htotal x
      have hsound : a.descBad k [w0, w1, w2, w3, w4, w5, w6, w7] x = false :=
        (State.descBad_eq_false_iff ..).2 ⟨h2, h3, hlink, hlen, haddr, hcount, htotal⟩
      have hdone := (exec_descriptorReadDone s t k hk hserves [w0, w1, w2, w3, w4, w5, w6, w7]).trans
        (congrArg (fun r => Host.Outcome.next (s.went t r)) (a.dmaDescDone_sound k p since _ hd3 hread hsound))
      exact ⟨fun hend => hdone.trans (congrArg (fun r => Host.Outcome.next (s.went t r)) (if_pos hend)),
        fun hend => hdone.trans (congrArg (fun r => Host.Outcome.next (s.went t r)) (if_neg (ne_true_of_eq_false hend)))⟩
    · rw [exec_descReadTimeout s t k hk hserves, State.dmaDescFail_fences _ k error x hd3 hread hkept hover]
    · rw [exec_flushTicksExpiry s t k hk hserves, State.dmaServe_only _ k n hidle hready hrest]
      rfl
    · rw [exec_barrierReadDone s t k hk hserves, State.dmaBarrierDone_finishes _ k hd3 hwait hst]
    · rw [exec_dmaTransferEnd s t k hk hserves, State.dmaTransferEnd_delivers _ k hd3 hxfer hwait hst]
      exact ⟨fun hbarrier => by rw [if_pos hbarrier], fun hbarrier => by rw [if_neg (ne_true_of_eq_false hbarrier)]⟩
  · intro a src dst len
    rw [exec_moverCopyDone s t i hi hserves]
    refine ⟨fun hsram => ?_, fun hdram hecc => ?_, fun hdram _ => ⟨_, rfl, fun x => ?_⟩⟩
    · rw [State.moverDone_fromSram _ _ w l hmoves hown hsram]
      rfl
    · rw [State.moverDone_eccOff _ _ w l hmoves hown hdram hecc]
      rfl
    · rw [State.moverDone_dram _ _ w l hmoves hown hdram]
      rfl
end Sys2Proof.Machine
end

section
/-! What leaves the samples of the motor supplies as they were: events, ends of work, records and blocks of a ring, and what a fault of an axis does to it and
to its scan (R364, R366, R370, R402). One lemma for each operation, in the order of the model's files. -/
namespace Sys2Proof.Machine
open R

@[simp] theorem State.ite_vmot {c : Prop} [Decidable c] (a b : State) : (if c then a else b).vmot = if c then a.vmot else b.vmot := apply_ite ..
@[simp] theorem foldl_vmot {α : Type} (g : State → α → State) (hg : ∀ (s : State) x, (g s x).vmot = s.vmot) (l : List α) (s : State) :
    (l.foldl g s).vmot = s.vmot := foldl_keeps State.vmot g hg l s

/-! ### Units and events -/

@[simp] theorem State.setSt_vmot (s : State) (u : Nat) (st : UState) (reason : Nat) : (s.setSt u st reason).vmot = s.vmot := by
  simp [State.setSt]
@[simp] theorem State.evtWrite_vmot (s : State) (e : Event) : (s.evtWrite e).vmot = s.vmot := by
  simp [State.evtWrite]
@[simp] theorem State.msixSend_vmot (s : State) (v : Nat) : (s.msixSend v).vmot = s.vmot := by
  unfold State.msixSend
  (repeat' split) <;> rfl
@[simp] theorem State.irq_vmot (s : State) (src : Nat) : (s.irq src).vmot = s.vmot := by
  simp [State.irq]
@[simp] theorem State.raise_vmot (s : State) (src uid detail : Nat) : (s.raise src uid detail).vmot = s.vmot := by
  simp [State.raise, State.evtLost]
@[simp] theorem State.fenceUnit_vmot (s : State) (u reason : Nat) : (s.fenceUnit u reason).vmot = s.vmot := by
  simp [State.fenceUnit]

/-! ### The end of work -/

@[simp] theorem State.commitForce_vmot (s : State) (u : Nat) (cs : List Commit) (kind line rep time : Nat) :
    (s.commitForce u cs kind line rep time).vmot = s.vmot := by
  unfold State.commitForce
  split
  · rfl
  · exact (foldl_vmot _ (fun r d => by simp) _ _).trans rfl
@[simp] theorem State.audit_vmot (s : State) (kind uid : Nat) (detail : List Nat) : (s.audit kind uid detail).vmot = s.vmot := by
  simp [State.audit, State.auditRegs]
@[simp] theorem State.putResult_vmot (s : State) (u tag : Nat) (ws : List Nat) : (s.putResult u tag ws).vmot = s.vmot := by
  simp [State.putResult]
@[simp] theorem State.workEnd_vmot (s : State) (w : Work) (status : Nat) (data : List Nat) : (s.workEnd w status data).vmot = s.vmot := by
  simp [State.workEnd, State.workDone, State.forceHeld]

/-! ### Rings -/

@[simp] theorem State.ringWrite_vmot (s : State) (p o : Nat) (l : List Nat) : (s.ringWrite p o l).vmot = s.vmot := by
  induction l generalizing s o with
  | nil => rfl
  | cons b l ih => exact (ih ..).trans rfl
@[simp] theorem State.poolWrite_vmot (s : State) (o : Nat) (l : List Nat) : (s.poolWrite o l).vmot = s.vmot := by
  induction l generalizing s o with
  | nil => rfl
  | cons b l ih => exact (ih ..).trans rfl
@[simp] theorem State.ringReserve_vmot (s : State) (p size typ first last : Nat) : (s.ringReserve p size typ first last).vmot = s.vmot := by
  simp [State.ringReserve]
@[simp] theorem State.ringDone_vmot (s : State) (p off : Nat) : (s.ringDone p off).vmot = s.vmot := by
  simp [State.ringDone, State.ringCommit, State.ringRegs]
@[simp] theorem State.recWrite_vmot (s : State) (p typ first last : Nat) (body : List Nat) : (s.recWrite p typ first last body).vmot = s.vmot := by
  simp [State.recWrite]
@[simp] theorem State.produce_vmot (s : State) (p typ : Nat) (wait : Option Nat) (first last : Nat) (body : List Nat) :
    (s.produce p typ wait first last body).vmot = s.vmot := by
  simp [State.produce]
@[simp] theorem State.recsLost_vmot (s : State) (p : Nat) : (s.recsLost p).vmot = s.vmot := by
  simp [State.recsLost, State.gap, State.ptrFound, State.signal]
@[simp] theorem State.emit_vmot (s : State) (p typ : Nat) (wait : Option Nat) (first last : Nat) (body : List Nat) :
    (s.emit p typ wait first last body).vmot = s.vmot := by
  simp [State.emit]
@[simp] theorem State.fenceRec_vmot (s : State) (p uid reason : Nat) (self : Bool) : (s.fenceRec p uid reason self).vmot = s.vmot := by
  simp [State.fenceRec]
@[simp] theorem State.windowsDone_vmot (s : State) (p : Nat) : (s.windowsDone p).vmot = s.vmot := by
  simp [State.windowsDone, State.windowClose, State.poolRegs]
@[simp] theorem State.blockWrite_vmot (s : State) (p : Nat) (b : Block) : (s.blockWrite p b).vmot = s.vmot := by
  simp [State.blockWrite, State.windowFeed]
@[simp] theorem State.endBlock_vmot (s : State) (p : Nat) : (s.endBlock p).vmot = s.vmot := by
  simp [State.endBlock, State.closeBlocks]

/-! ### Axes and their scans -/

@[simp] theorem State.portRefresh_vmot (s : State) (p : Nat) : (s.portRefresh p).vmot = s.vmot := by
  simp [State.portRefresh]
@[simp] theorem State.axisRegs_vmot (s : State) (a : Nat) : (s.axisRegs a).vmot = s.vmot := by
  simp [State.axisRegs]
@[simp] theorem State.axisDisturb_vmot (s : State) (a : Nat) : (s.axisDisturb a).vmot = s.vmot := by
  simp [State.axisDisturb]
@[simp] theorem State.linkStop_vmot (s : State) (l : AxLink) : (s.linkStop l).vmot = s.vmot := by
  simp [State.linkStop, State.modLink]
@[simp] theorem State.axisStop_vmot (s : State) (a dec : Nat) : (s.axisStop a dec).vmot = s.vmot := by
  unfold State.axisStop
  cases s.linkOf a with
  | none => simp
  | some l => exact s.linkStop_vmot l
@[simp] theorem State.axisHalt_vmot (s : State) (a : Nat) : (s.axisHalt a).vmot = s.vmot := by
  unfold State.axisHalt
  cases s.linkOf a with
  | none => simp
  | some l => simp
@[simp] theorem State.axisWorkEnd_vmot (s : State) (a op status : Nat) (data : List Nat) : (s.axisWorkEnd a op status data).vmot = s.vmot := by
  unfold State.axisWorkEnd
  dsimp only
  split
  · simp
  · simp
@[simp] theorem State.axisFault_vmot (s : State) (a code : Nat) : (s.axisFault a code).vmot = s.vmot := by
  simp [State.axisFault]
@[simp] theorem State.setBelay_vmot (s : State) (a st : Nat) : (s.setBelay a st).vmot = s.vmot := by
  simp [State.setBelay]
@[simp] theorem State.scanLost_vmot (s : State) (a cause : Nat) : (s.scanLost a cause).vmot = s.vmot := by
  simp [State.scanLost]
@[simp] theorem State.axisAfter_vmot (s : State) (a : Nat) : (s.axisAfter a).vmot = s.vmot := by
  simp [State.axisAfter]
@[simp] theorem State.went_vmot (s : State) (t : Nat) (r : State) : (s.went t r).vmot = r.vmot := by
  simp [State.went, State.after]
/-- The two newest samples join those of their supplies, the newest first, four of each (R370). -/
theorem State.vmotSample_vmot (s : State) (mv0 mv1 : Nat) :
    (s.vmotSample mv0 mv1).vmot = [(mv0 :: s.vmot.getD 0 []).take 4, (mv1 :: s.vmot.getD 1 []).take 4] := by
  unfold State.vmotSample
  exact foldl_vmot _ (fun r a => by simp) _ _
end Sys2Proof.Machine
end

section
/-! The rows of an axis that serves, and of its scan: each runs its operation, and each operation by what it finds due (R349, R364, R367, R370, R374, R392, R400). -/
namespace Sys2Proof.Machine
open R

section
variable (s : State) (t k : Nat) (hk : k < 8) (h : (s.advance t).serves (axU k) = true)
include hk h
theorem exec_axisUpdate : exec (.axisUpdate t k) s = .next (s.went t ((s.advance t).axisTick k)) := congrArg _ (s.onUnit_went t k 8 _ _ hk h)
theorem exec_pwmPeriod (cycle : Option Nat) :
    exec (.pwmPeriod t k cycle) s = .next (s.went t (((s.advance t).pwmPeriod k (s.advance t).now cycle).axisAfter k)) :=
  congrArg _ (s.onUnit_went t k 8 _ _ hk h)
theorem exec_driverFault : exec (.driverFault t k) s = .next (s.went t ((s.advance t).axisDriverFault k)) := congrArg _ (s.onUnit_went t k 8 _ _ hk h)
theorem exec_speedwellEval : exec (.speedwellEval t k) s = .next (s.went t ((s.advance t).speedwell k)) := congrArg _ (s.onUnit_went t k 8 _ _ hk h)
theorem exec_belayParkMax : exec (.belayParkMax t k) s = .next (s.went t ((s.advance t).parkMax k)) := congrArg _ (s.onUnit_went t k 8 _ _ hk h)
end
theorem exec_vmotSample (s : State) (t mv0 mv1 : Nat) (h : (s.advance t).serves (axU 0) = true) :
    exec (.vmotSample t mv0 mv1) s = .next (s.went t
      ([0, 1, 2, 3, 4, 5, 6, 7].foldl (fun (r : State) a => r.axisAfter a) ((s.advance t).vmotSample mv0 mv1))) :=
  congrArg Host.Outcome.next (s.onUnit_went t 0 1 (axU 0)
    (fun r => [0, 1, 2, 3, 4, 5, 6, 7].foldl (fun (r : State) a => r.axisAfter a) (r.vmotSample mv0 mv1)) Nat.one_pos h)

section
variable (s : State) (k : Nat)
theorem State.axisTick_due (h : (s.axis k).upd < s.now / 16 * 16) :
    s.axisTick k = ((s.axisUpdate k (s.now / 16 * 16)).scanUpdate k (s.now / 16 * 16)).axisAfter k := if_neg (Nat.not_le.2 h)
theorem State.axisTick_made (h : s.now / 16 * 16 ≤ (s.axis k).upd) : s.axisTick k = s := if_pos h
theorem State.axisDriverFault_driven (h : s.act (axU k) Axis.MODE ≠ 0) : s.axisDriverFault k = (s.axisFault k 5).axisAfter k := if_neg h
theorem State.speedwell_due (hports : s.boundPorts k ≠ []) (hdue : (s.belay k).evalAt + 16000 ≤ s.now) : s.speedwell k = s.swEval k := by
  simp [State.speedwell, hports, Nat.not_lt.2 hdue]
theorem State.parkMax_due (hparked : s.belayState k = 4) (hfirst : (s.belay k).parkMax = false)
    (hdue : (s.belay k).parkFrom + s.act (axU k) Belay.PARK_MAX * 1600000 ≤ s.now) :
    s.parkMax k = (s.modBelay k (fun b => { b with parkMax := true })).raise Ev.BELAY_PARK_MAX (axU k) (sat32 ((s.now - (s.belay k).parkFrom) / 1600000)) := by
  simp [State.parkMax, hparked, hfirst, Nat.not_lt.2 hdue]
end

/-- Settles O12: each row runs its operation, and each operation finds its work due; of a reading of the motor supplies, that nothing after it touches the samples. -/
theorem axesUpdateDriveAndPark : Obligations.Axes_update_drive_and_park := by
  refine ⟨?_, fun s t mv0 mv1 hserves => ⟨_, exec_vmotSample s t mv0 mv1 hserves, ?_⟩⟩
  · intro s t k hk hserves a
    refine ⟨fun hdue => ?_, fun hmade => ?_, fun cycle _ _ _ _ => exec_pwmPeriod s t k hk hserves cycle, fun hdriven => ?_, fun hports hdue => ?_,
      fun hparked hfirst hdue => ?_⟩
    · rw [exec_axisUpdate s t k hk hserves, a.axisTick_due k hdue]
    · rw [exec_axisUpdate s t k hk hserves, a.axisTick_made k hmade]
    · rw [exec_driverFault s t k hk hserves, a.axisDriverFault_driven k hdriven]
    · rw [exec_speedwellEval s t k hk hserves, a.speedwell_due k hports hdue]
    · rw [exec_belayParkMax s t k hk hserves, a.parkMax_due k hparked hfirst hdue]
  · rw [State.went_vmot, foldl_vmot _ (fun r a => r.axisAfter_vmot a), State.vmotSample_vmot]
end Sys2Proof.Machine
end

section
/-! IDENTIFY_PHASE_DONE: the first value of a phase that measures at rest also restarts the drive for the second one (R376). -/
namespace Sys2Proof.Machine
open R

theorem exec_identifyPhaseDone (s : State) (t k val : Nat) (hk : k < 8) (h : (s.advance t).serves (axU k) = true) :
    exec (.identifyPhaseDone t k val) s = .next (s.went t ((s.advance t).identPhase k val)) := congrArg _ (s.onUnit_went t k 8 _ _ hk h)
/-- The first value of a phase that measures at rest is kept, and the drive of the second value holds from now on (R376). -/
theorem State.identPhase_first (s : State) (k val : Nat) (i : IdentSt) (hident : (s.axis k).ident = some i) (hback : i.back = false) (hfirst : i.first = none)
    (hphase : i.phase < 2) (htries : i.tries < 4) :
    s.identPhase k val = ({ s with draw := s.draw + 1 } : State).modAxis k (fun x => { x with ident := some { i with since := s.now, first := some val } }) := by
  have hran : s.identRan k i = true := by simp [State.identRan, Nat.ne_of_lt hphase]
  unfold State.identPhase
  simp only [hident, hback, hran, hfirst, Nat.ne_of_lt hphase, Nat.ne_of_lt htries, Bool.not_true, Bool.false_eq_true, if_false]

/-- Refutes O13, by its last clause: with the first value the statement keeps `since`, the tick from which the drive of the identification holds, but the row
moves it to the instant of that value, from which the drive of the second measurement holds. Where the drive holds from tick 0 and the first value comes at
tick 1, `since` is then 1, not 0. -/
theorem not_axisInputsCount : ¬ Obligations.Axis_inputs_count := by
  intro h
  let i : IdentSt := { speed := 10240, dist := 51200, start := 0 }
  let s : State := ({ State.reset with sys := { State.reset.sys with inReset := false } } : State).modAxis 7 (fun x => { x with ident := some i })
  have hserves : (s.advance 1).serves (axU 7) = true := by decide +kernel
  have hident : ((s.advance 1).axis 7).ident = some i := by decide +kernel
  obtain ⟨-, -, -, -, -, hphase⟩ := h s 1 7 0 false (by decide) (by decide)
  have hclaim := hphase i 5 hserves hident rfl rfl (by decide) (by decide)
  rw [exec_identifyPhaseDone s 1 7 5 (by decide) hserves, State.identPhase_first _ 7 5 i hident rfl rfl (by decide) (by decide)] at hclaim
  have hsince := congrArg (fun r : State => (r.axis 7).ident.map (·.since)) (Host.Outcome.next.inj hclaim)
  exact absurd hsince (by decide +kernel)
end Sys2Proof.Machine
end

section
/-! What the checks of a command ask for, what a packet taken is answered with, and the record of one axis, said once (R348, R555). -/
namespace Sys2Proof.Machine
open R

/-! ### Checks -/

theorem firstOf_eq_none_iff (l : List Refuse) : firstOf l = none ↔ ∀ r ∈ l, r = none := by
  induction l with
  | nil => simp [firstOf]
  | cons r l ih => cases r with
    | none => simpa [firstOf] using ih
    | some x => simp [firstOf]
@[simp] theorem need_eq_none_iff (ok : Bool) (st : Nat) (ws : List Nat) : need ok st ws = none ↔ ok = true := by
  cases ok <;> simp [need]
@[simp] theorem badParam_eq_none_iff (ok : Bool) (i : Nat) : badParam ok i = none ↔ ok = true := need_eq_none_iff ..
@[simp] theorem State.busyUnless_eq_none_iff (s : State) (ok : Bool) (u : Nat) : s.busyUnless ok u = none ↔ ok = true := need_eq_none_iff ..
/-- A command whose checks all pass is carried out. -/
theorem State.unless_passes (s : State) (l : List Refuse) (go : Unit → Answer) (h : ∀ r ∈ l, r = none) : s.unless (firstOf l) go = go () := by
  rw [(firstOf_eq_none_iff l).2 h]
  rfl

/-! ### Packets -/

/-- A packet taken is answered with what its command answers. -/
theorem Sent.exec_answered (x : Sent) (s : State) (r : Answer) (htaken : x.taken s = true) (hfails : x.fails = []) (h1 : x.op ≠ .abort) (h2 : x.op ≠ .resetUnit)
    (hr : (x.before s).runOp x.op (x.pkt s) x.env = r) : exec x.row s = .next (x.answered s r) :=
  (x.exec_taken s htaken (.inr hfails) h1 h2).trans (congrArg (fun r => Host.Outcome.next (x.answered s r)) hr)

/-! ### The record of an axis -/

theorem State.modAxis_congr (s : State) (a : Nat) (f g : AxisSt → AxisSt) (h : f (s.axis a) = g (s.axis a)) : s.modAxis a f = s.modAxis a g :=
  congrArg (fun l => { s with axes := l }) (upd_congr s.axes a {} f g h)
theorem State.axis_modAxis_same (s : State) (a : Nat) (f : AxisSt → AxisSt) (h : a < s.axes.length) : (s.modAxis a f).axis a = f (s.axis a) := by
  simp [State.axis, State.modAxis, upd, List.getD_eq_getElem?_getD, h]
/-- An axis that moves is one of those that the state holds. -/
theorem State.lt_axes_of_moving (s : State) (a : Nat) (h : (s.axis a).prof.v ≠ 0) : a < s.axes.length := by
  refine Decidable.byContradiction fun hlen => h ?_
  have hnone : s.axis a = {} := by rw [State.axis, List.getD_eq_getElem?_getD, List.getElem?_eq_none (Nat.le_of_not_lt hlen), Option.getD_none]
  rw [hnone]
end Sys2Proof.Machine
end

section
/-! The packets that move an axis: AXIS_MOVE, AXIS_LINEAR, AXIS_STOP and AXIS_RESUME, each by what it does where none of its checks refuses it
(R353, R358, R359, R361, R362, R399, R570, R571). -/
namespace Sys2Proof.Machine
open R

/-! ### Links of coordinated moves -/

@[simp] theorem State.setSt_links (s : State) (u : Nat) (st : UState) (reason : Nat) : (s.setSt u st reason).links = s.links := by
  simp [State.setSt, apply_ite State.links]
@[simp] theorem State.axisRegs_links (s : State) (a : Nat) : (s.axisRegs a).links = s.links := by
  simp [State.axisRegs, apply_ite State.links]

/-! ### AXIS_MOVE -/

/-- The move that an AXIS_MOVE asks for (R353, R571). -/
def State.askedMove (s : State) (a : Nat) (k : Pkt) : AxMove where
  target := sgn 40 (low 40 ((if !k.flag 8 then 0 else if k.flag 9 then (s.axis a).whole else (s.axis a).endOf) + k.pos 0))
  speed := k.p 2
  accel := k.p 3
  decel := k.p 4
  jerk := k.p 5
  tag := k.tag
  notify := k.flag 0
/-- An axis without its queue and its remainder, whose next move replaces them (R358). -/
def State.movesDropped (s : State) (a : Nat) : State := s.modAxis a (fun x => { x with queue := [], kept := none, replaced := true })
/-- A move takes the place of all moves of its axis (R358). -/
def State.moveReplaced (s : State) (a : Nat) (m : AxMove) : State :=
  if (s.axis a).prof.v = 0 then (s.movesDropped a).modAxis a (fun x => { x with gen := 0, move := none, after := 0, queue := [m] })
  else (s.movesDropped a).modAxis a (fun x => { x.turnTo m (x.ownDec (convA m.decel)) with set := RegMap.ofUid (s.movesDropped a).active (axU a) })
/-- What AXIS_MOVE answers: the moves that then wait in the queue of its axis. -/
def State.moveAnswer (s : State) (a : Nat) : Answer := (s.axisRegs a, St.OK, [((s.axisRegs a).axis a).queue.length])

section
variable (s : State) (a : Nat) (k : Pkt) (hpos : k.p 1 < 256) (hspeed1 : 1 ≤ k.p 2) (hspeed : k.p 2 ≤ s.act (axU a) Axis.VMAX)
  (haccel1 : 1 ≤ k.p 3) (haccel : k.p 3 ≤ s.act (axU a) Axis.AMAX) (hdecel1 : 1 ≤ k.p 4) (hdecel : k.p 4 ≤ s.act (axU a) Axis.AMAX)
  (hmove : s.moveRefuse a (s.askedMove a k) (k.flag 9) = none)
include hpos hspeed1 hspeed haccel1 haccel hdecel1 hdecel hmove
/-- A move within its limits joins the queue (R353). -/
theorem State.cmdAxisMove_joins (hjoin : k.flag 9 = false) :
    s.cmdAxisMove a k = (s.modAxis a (fun x => { x with queue := x.queue ++ [s.askedMove a k] })).moveAnswer a := by
  unfold State.cmdAxisMove
  rw [State.unless_passes]
  · simp only [hjoin]
    rw [State.askedMove, hjoin]
    rfl
  · rw [State.askedMove, hjoin] at hmove
    simpa [hpos, hspeed1, hspeed, haccel1, haccel, hdecel1, hdecel, hjoin] using hmove
/-- With REPLACE it takes the place of all moves of an axis that no link holds (R358). -/
theorem State.cmdAxisMove_replaces (hreplace : k.flag 9 = true) (hlink : s.linkOf a = none) :
    s.cmdAxisMove a k = (s.moveReplaced a (s.askedMove a k)).moveAnswer a := by
  unfold State.cmdAxisMove
  rw [State.unless_passes]
  · simp only [hreplace]
    rw [State.askedMove, hreplace]
    rfl
  · rw [State.askedMove, hreplace] at hmove
    simpa [hpos, hspeed1, hspeed, haccel1, haccel, hdecel1, hdecel, hreplace, hlink] using hmove
end

section
variable (s : State) (a : Nat) (m : AxMove)
theorem State.moveReplaced_rest (hv : (s.axis a).prof.v = 0) :
    s.moveReplaced a m = (s.movesDropped a).modAxis a (fun x => { x with gen := 0, move := none, after := 0, queue := [m] }) := if_pos hv
variable (hv : (s.axis a).prof.v ≠ 0)
include hv
theorem State.movesDropped_axis : (s.movesDropped a).axis a = { s.axis a with queue := [], kept := none, replaced := true } :=
  s.axis_modAxis_same a _ (s.lt_axes_of_moving a hv)
theorem State.moveReplaced_blends
    (hreach : Int.ofNat (brakeDist (s.axis a).prof.v 0 (convA m.decel)) ≤ (m.target * ustep - (s.axis a).pos) * (s.axis a).dir * 2 ^ 16) :
    s.moveReplaced a m = (s.movesDropped a).modAxis a (fun x => { x with
      gen := 1, after := 0, move := some m, prof := { v := (s.axis a).prof.v }, set := RegMap.ofUid (s.movesDropped a).active (axU a) }) := by
  rw [State.moveReplaced, if_neg hv]
  apply State.modAxis_congr
  simp only [s.movesDropped_axis a hv, AxisSt.turnTo, if_neg hv, if_pos hreach]
theorem State.moveReplaced_stops
    (hreach : ¬ Int.ofNat (brakeDist (s.axis a).prof.v 0 (convA m.decel)) ≤ (m.target * ustep - (s.axis a).pos) * (s.axis a).dir * 2 ^ 16) :
    s.moveReplaced a m = (s.movesDropped a).modAxis a (fun x => { x.brake ((s.axis a).ownDec (convA m.decel)) 1 with
      move := some m, set := RegMap.ofUid (s.movesDropped a).active (axU a) }) := by
  rw [State.moveReplaced, if_neg hv]
  apply State.modAxis_congr
  simp only [s.movesDropped_axis a hv, AxisSt.turnTo, if_neg hv, if_neg hreach]
  rfl
end

/-! ### AXIS_LINEAR -/

/-- The link that an AXIS_LINEAR makes of its moves (R359). -/
def State.askedLink (s : State) (k : Pkt) : AxLink where
  id := s.linkId
  members := (s.linearMoves k).map (fun x => (x.1, 0, 0))
  dmax := 0
  speed := k.p 1
  accel := k.p 2
  decel := k.p 3
  jerk := k.p 4
@[simp] theorem State.linearMoves_length (s : State) (k : Pkt) : (s.linearMoves k).length = k.axes.length := by simp [State.linearMoves]
section
variable (s : State) (k : Pkt) (hlen : k.params.length = 5 + 2 * k.axes.length) (haxes : k.p 0 < 256) (htwo : 2 ≤ k.axes.length)
  (hspeed1 : 1 ≤ k.p 1) (hspeed : k.p 1 ≤ s.act (axU (s.linearLongest (s.linearMoves k))) Axis.VMAX)
  (haccel1 : 1 ≤ k.p 2) (haccel : k.p 2 ≤ s.act (axU (s.linearLongest (s.linearMoves k))) Axis.AMAX)
  (hdecel1 : 1 ≤ k.p 3) (hdecel : k.p 3 ≤ s.act (axU (s.linearLongest (s.linearMoves k))) Axis.AMAX)
  (hpos : ∀ j, j < k.axes.length → k.p (6 + 2 * j) < 256) (hmoves : ∀ x ∈ s.linearMoves k, s.moveRefuse x.1 x.2 false = none)
include hlen haxes htwo hspeed1 hspeed haccel1 haccel hdecel1 hdecel hpos hmoves
/-- Moves within their limits join the queues of their axes, linked (R359). -/
theorem State.cmdAxisLinear_links : ∃ r, s.cmdAxisLinear k = (r, St.OK, [0]) ∧ r.links = s.links ++ [s.askedLink k] := by
  unfold State.cmdAxisLinear
  dsimp only
  rw [if_neg (by simp [hlen]), State.unless_passes]
  · refine ⟨_, rfl, ?_⟩
    rw [foldl_keeps State.links _ (fun r x => by simp)]
    rfl
  · have hlimits : ∀ x ∈ (s.linearMoves k).zipIdx, k.p (6 + 2 * x.2) < 256 := fun x hx =>
      hpos x.2 (by simpa using (List.mem_zipIdx hx).2.1)
    simp only [List.mem_append, List.mem_map, or_imp, forall_and, List.forall_mem_cons, forall_exists_index, and_imp, forall_apply_eq_imp_iff₂,
      badParam_eq_none_iff, decide_eq_true_eq, Bool.and_eq_true]
    exact ⟨⟨⟨⟨haxes, htwo⟩, ⟨hspeed1, hspeed⟩, ⟨haccel1, haccel⟩, ⟨hdecel1, hdecel⟩, nofun⟩, hlimits⟩, hmoves⟩
end

/-! ### AXIS_STOP and AXIS_RESUME -/

section
variable (s : State) (k : Pkt)
theorem State.cmdStop_one (hone : uInst k.uid < 8) (hpowered : s.powered (axU (uInst k.uid)) = true) :
    s.cmdStop k = (s.cmdAxisStop (uInst k.uid) (k.flag 8), St.OK, [(s.cmdAxisStop (uInst k.uid) (k.flag 8)).reg k.uid Axis.REMAIN_LO]) := by
  have hne : uInst k.uid ≠ 15 := by omega
  simp [State.cmdStop, hne, hpowered]
theorem State.cmdStop_all (hall : uInst k.uid = 15) :
    s.cmdStop k = (([0, 1, 2, 3, 4, 5, 6, 7].filter (fun i => s.powered (axU i))).foldl (fun (r : State) i => r.cmdAxisStop i (k.flag 8)) s, St.OK, [0]) := by
  simp only [State.cmdStop, hall, if_true]
end
section
variable (s : State) (a : Nat)
/-- The move that a stop has kept goes back to the head of the queue (R362). -/
theorem State.cmdAxisResume_kept (m : AxMove) (hfree : s.owned a = false) (hfence : s.fenced (axU a) = false) (hkept : (s.axis a).kept = some m)
    (hepoch : (s.axis a).keptEpoch = s.reg (axU a) Axis.POS_EPOCH) (hlimit : s.limitAt a (m.target - (s.axis a).whole) = none) (hsingle : m.link = 0)
    (hlink : s.linkOf a = none) (hsoft : s.softOk a m.target = true) :
    s.cmdAxisResume a = ((s.modAxis a (fun x => { x with kept := none, queue := m :: x.queue })).axisRegs a, St.OK, [0]) := by
  unfold State.cmdAxisResume
  simp only [hfree, hkept, hlink, hsingle, Bool.false_eq_true, if_false, if_true]
  rw [State.unless_passes]
  · rw [List.foldl_cons, List.foldl_nil, s.modAxis_congr a _ (fun x => { x with kept := none, queue := m :: x.queue })]
    simp only [hkept, hsingle, if_true]
  · simp [hkept, hfence, hepoch, hlimit, hsoft]
/-- The hold of the host on the scan of an axis ends (R399). -/
theorem State.cmdAxisResume_scan (howned : s.owned a = true) (hheld : tbit (s.reg (axU a) Belay.CAUSES) 2 = true) :
    s.cmdAxisResume a = (s.set (axU a) Belay.CAUSES (setBit (s.reg (axU a) Belay.CAUSES) 2 false), St.OK, [0]) := by
  rw [State.cmdAxisResume, if_pos howned, if_pos hheld]
end

/-! ### The rows -/

/-- Settles O38: a packet taken runs its command, and nothing refuses it; AXIS_MOVE by whether it replaces, and then by what its axis does. -/
theorem axisMovesComplete : Obligations.Axis_moves_complete := by
  intro s t urgent tag uid flags params env x b k
  have hrow (o : Op) (r : Answer) (htaken : (x o).taken s = true) (h1 : o ≠ .abort) (h2 : o ≠ .resetUnit) (hr : (b o).runOp o (k o) env = r) :=
    (x o).exec_answered s r htaken rfl h1 h2 hr
  refine ⟨?_, ?_, fun htaken hone hpowered => ?_, fun htaken hall => ?_, ?_, ?_⟩
  · intro htaken a q i m hpos hspeed1 hspeed haccel1 haccel hdecel1 hdecel hmove
    refine ⟨fun hjoin => ⟨_, ?_, rfl⟩, fun hreplace hlink hv => ⟨_, ?_, rfl⟩, ?_⟩
    · exact hrow .axisMove _ htaken nofun nofun (a.cmdAxisMove_joins i q hpos hspeed1 hspeed haccel1 haccel hdecel1 hdecel hmove hjoin)
    · have hanswer := a.cmdAxisMove_replaces i q hpos hspeed1 hspeed haccel1 haccel hdecel1 hdecel hmove hreplace hlink
      rw [a.moveReplaced_rest i _ hv] at hanswer
      exact hrow .axisMove _ htaken nofun nofun hanswer
    · intro hreplace hlink hv c reaches dec set
      have hanswer := a.cmdAxisMove_replaces i q hpos hspeed1 hspeed haccel1 haccel hdecel1 hdecel hmove hreplace hlink
      refine ⟨_, hrow .axisMove _ htaken nofun nofun hanswer, fun hreach => ?_, fun hreach => ?_⟩
      · exact congrArg (fun r => State.axisRegs r i) (a.moveReplaced_blends i m hv (of_decide_eq_true hreach))
      · exact congrArg (fun r => State.axisRegs r i) (a.moveReplaced_stops i m hv (of_decide_eq_false hreach))
  · intro htaken a q ms v hlen haxes htwo hspeed1 hspeed haccel1 haccel hdecel1 hdecel hpos hmoves
    obtain ⟨r, hr, hlinks⟩ := a.cmdAxisLinear_links q hlen haxes htwo hspeed1 hspeed haccel1 haccel hdecel1 hdecel hpos hmoves
    exact ⟨r, hrow .axisLinear _ htaken nofun nofun hr, hlinks⟩
  · exact ⟨_, hrow .axisStop _ htaken nofun nofun ((b .axisStop).cmdStop_one (k .axisStop) hone hpowered), rfl⟩
  · exact hrow .axisStop _ htaken nofun nofun ((b .axisStop).cmdStop_all (k .axisStop) hall)
  · intro m htaken a i hfree hfence hkept hepoch hlimit hsingle hlink hsoft
    exact hrow .axisResume _ htaken nofun nofun (a.cmdAxisResume_kept i m hfree hfence hkept hepoch hlimit hsingle hlink hsoft)
  · intro htaken a u howned hheld
    exact hrow .axisResume _ htaken nofun nofun (a.cmdAxisResume_scan _ howned hheld)
end Sys2Proof.Machine
end

section
/-! The packets that give a resting axis its position: AXIS_SET_POSITION, AXIS_IDENTIFY and AXIS_HOME, each where none of its checks refuses it
(R365, R376, R377, R379, R380, R571). -/
namespace Sys2Proof.Machine
open R

section
variable (s : State) (a : Nat) (k : Pkt) (hrest : s.reg (axU a) Axis.MOTION = 0) (hfree : s.owned a = false)
include hrest hfree
/-- A resting axis takes the position up at its next update (R365). -/
theorem State.cmdAxisSetPos_passes (hpos : k.p 1 < 256) :
    ∃ r, s.cmdAxisSetPos a k = (r, St.OK, [r.reg (axU a) Axis.POS_EPOCH]) ∧
      r = (((s.modAxis a (fun x => { x with setPos := some (k.pos 0), kept := none, queue := [] })).epochStep a).set (axU a) Axis.REF_UNVERIFIED 0).axisRegs a := by
  unfold State.cmdAxisSetPos
  rw [State.unless_passes]
  · exact ⟨_, rfl, rfl⟩
  · simp [hrest, hfree, hpos]
/-- With CLEAR an AXIS_IDENTIFY forgets what was measured (R377). -/
theorem State.cmdAxisIdentify_clears (hkept : (s.axis a).kept = none) (hmode : s.act (axU a) Axis.MODE = 1) (hclear : k.flag 8 = true) :
    s.cmdAxisIdentify a k = ((s.set (axU a) Axis.ID_VALID 0).set (axU a) Axis.UNIDENTIFIED 1, St.OK, [0]) := by
  unfold State.cmdAxisIdentify
  rw [State.unless_passes]
  · exact if_pos hclear
  · simp [hrest, hkept, hmode, hfree, hclear]
/-- Without it the first measurement starts (R376). -/
theorem State.cmdAxisIdentify_starts (hkept : (s.axis a).kept = none) (hmode : s.act (axU a) Axis.MODE = 1) (hstart : k.flag 8 = false)
    (hspeed1 : 10240 ≤ k.p 0) (hspeed : k.p 0 ≤ 1024000) (hdist : 51200 ≤ k.p 1) :
    s.cmdAxisIdentify a k = ((((s.epochStep a).workStart k (axU a) []).modAxis a (fun x => { x with
      ident := some { speed := k.p 0, dist := k.p 1, start := x.whole, since := s.now },
      set := RegMap.ofUid ((s.epochStep a).workStart k (axU a) []).active (axU a) })).axisRegs a, St.OK, [0]) := by
  unfold State.cmdAxisIdentify
  rw [State.unless_passes]
  · exact if_neg (ne_true_of_eq_false hstart)
  · simp [hrest, hkept, hmode, hfree, hspeed1, hspeed, hdist]
/-- An axis whose homing has begun, before the first step of its sequence (R379). -/
def State.homeBegun (s : State) (a : Nat) (k : Pkt) : State :=
  ((s.epochStep a).workStart k (axU a) []).modAxis a (fun x => { x with
    kept := none, queue := [], home := some k.home, prof := {}, set := RegMap.ofUid ((s.epochStep a).workStart k (axU a) []).active (axU a) })
/-- A homing with its parameters in their limits starts its sequence (R379, R571). -/
theorem State.cmdAxisHome_starts
    (hstop : k.p 0 % 8 = 4 → s.act (axU a) Axis.MODE ≠ 2 ∧ s.reg (axU a) Axis.ID_VALID = 1) (hseq1 : 1 ≤ k.p 0 % 8) (hseq : k.p 0 % 8 ≤ 6) (hkind : k.p 0 < 32)
    (hswitch : k.p 0 % 8 ≤ 3 → tbit (s.act (axU a) Axis.IN_EN) k.home.switch = true)
    (hindex : k.p 0 % 8 = 2 ∨ k.p 0 % 8 = 5 → tbit (s.act (axU a) Axis.IN_EN) 3 = true)
    (hsearch1 : 1 ≤ k.p 1) (hsearch : k.p 1 ≤ s.act (axU a) Axis.VMAX) (hlatch1 : 1 ≤ k.p 2) (hlatch : k.p 2 ≤ s.act (axU a) Axis.VMAX) (hslower : k.p 2 ≤ k.p 1)
    (haccel1 : 1 ≤ k.p 3) (haccel : k.p 3 ≤ s.act (axU a) Axis.AMAX) (hmax : 1 ≤ k.p 5) (hpos : k.p 7 < 256)
    (hcurrent : if k.p 0 % 8 = 4 then 1 ≤ k.p 8 ∧ k.p 8 ≤ s.act (axU a) Axis.I_RUN else k.p 8 = 0) :
    s.cmdAxisHome a k = ((if k.p 0 % 8 = 6 then s.homeBegun a k else (s.homeBegun a k).homeNext a 8).axisRegs a, St.OK, [0]) := by
  unfold State.cmdAxisHome
  rw [State.unless_passes]
  · rfl
  · have hdriven := Decidable.not_or_of_imp fun h => (hstop h).1
    have hidentified := Decidable.not_or_of_imp fun h => (hstop h).2
    have hswitched := (Nat.lt_or_ge 3 (k.p 0 % 8)).imp_right hswitch
    have hindexed := (Decidable.not_or_of_imp hindex).imp_left not_or.1
    simpa [hrest, hfree, hseq1, hseq, hkind, hsearch1, hsearch, hlatch1, hlatch, hslower, haccel1, haccel, hmax, hpos]
      using And.intro hdriven ⟨hidentified, ⟨hswitched, hindexed⟩, hcurrent⟩
end

/-- Settles O39: a packet taken runs its command, and nothing refuses it; AXIS_IDENTIFY by its CLEAR flag. -/
theorem axisPositionsComplete : Obligations.Axis_positions_complete := by
  intro s t urgent tag uid flags params env x b k
  have hrow (o : Op) (r : Answer) (htaken : (x o).taken s = true) (h1 : o ≠ .abort) (h2 : o ≠ .resetUnit) (hr : (b o).runOp o (k o) env = r) :=
    (x o).exec_answered s r htaken rfl h1 h2 hr
  refine ⟨?_, ?_, ?_⟩
  · intro htaken a i hrest hfree hpos
    obtain ⟨r, hr, hset⟩ := a.cmdAxisSetPos_passes i (k .axisSetPosition) hrest hfree hpos
    exact ⟨r, hrow .axisSetPosition _ htaken nofun nofun hr, hset⟩
  · intro htaken a q i hrest hkept hmode hfree
    exact ⟨fun hclear => hrow .axisIdentify _ htaken nofun nofun (a.cmdAxisIdentify_clears i q hrest hfree hkept hmode hclear),
      fun hstart hspeed1 hspeed hdist =>
        hrow .axisIdentify _ htaken nofun nofun (a.cmdAxisIdentify_starts i q hrest hfree hkept hmode hstart hspeed1 hspeed hdist)⟩
  · intro htaken a q i n hrest hfree hstop hseq1 hseq hkind hswitch hindex hsearch1 hsearch hlatch1 hlatch hslower haccel1 haccel hmax hpos hcurrent c
    exact hrow .axisHome _ htaken nofun nofun (a.cmdAxisHome_starts i q hrest hfree hstop hseq1 hseq hkind hswitch hindex hsearch1 hsearch hlatch1 hlatch
      hslower haccel1 haccel hmax hpos hcurrent)
end Sys2Proof.Machine
end

section
/-! The rows of a lamp group that serves: each runs its operation, and each operation by what it finds due: strobes and their ends, the faults that the comparator
and the bucks find, diagnosis pulses, the relight and the measurements (R409, R410, R413, R414, R416 to R418). -/
namespace Sys2Proof.Machine
open R

/-! ### The rows -/

section
variable (s : State) (t g : Nat) (hg : g < 8) (h : (s.advance t).serves (lampU g) = true)
include hg h
theorem exec_strobeStart : exec (.strobeStart t g) s = .next (s.went t ((s.advance t).strobeStart g)) := congrArg _ (s.onUnit_went t g 8 _ _ hg h)
theorem exec_strobeEnd : exec (.strobeEnd t g) s = .next (s.went t ((s.advance t).strobeEnd g)) := congrArg _ (s.onUnit_went t g 8 _ _ hg h)
theorem exec_diagPulse : exec (.diagPulse t g) s = .next (s.went t ((s.advance t).diagPulse g)) := congrArg _ (s.onUnit_went t g 8 _ _ hg h)
theorem exec_lampRelight : exec (.lampRelight t g) s = .next (s.went t ((s.advance t).lampRelight g)) := congrArg _ (s.onUnit_went t g 8 _ _ hg h)
variable (k : Nat)
theorem exec_ovpTrip : exec (.ovpTrip t g k) s = .next (s.went t ((s.advance t).ovpTrip g k)) := congrArg _ (s.onUnit_went t g 8 _ _ hg h)
theorem exec_buckSwitchOnTimeout : exec (.buckSwitchOnTimeout t g k) s = .next (s.went t ((s.advance t).buckTimeout g k)) :=
  congrArg _ (s.onUnit_went t g 8 _ _ hg h)
variable (mv ua : Nat)
theorem exec_lampMeasurement (mean : Nat) : exec (.lampMeasurement t g k mv ua mean) s = .next (s.went t ((s.advance t).lampMeasure g k mv ua)) :=
  congrArg _ (s.onUnit_went t g 8 _ _ hg h)
theorem exec_continuousMeasure : exec (.continuousMeasure t g k mv ua) s = .next (s.went t ((s.advance t).lampContinuous g k mv ua)) :=
  congrArg _ (s.onUnit_went t g 8 _ _ hg h)
end

/-! ### Strobes and their ends -/

/-- The group has come to the strobe of a fire; its next one belongs to a later line (R410). -/
def State.strobeMet (s : State) (g : Nat) (f : Fire) : State := s.modLamp g (fun l => { l with next := f.tick + 1 })
/-- What keeps a group dark in a strobe: a lamp window that is over, a group that is off or dark, a capture that holds it dark, or a port that runs nothing
(R224, R410, R412). -/
def State.strobeBarred (s : State) (g p : Nat) (f : Fire) (d : Nat) : Bool :=
  (lampWindow s p f).2.any (fun e => decide (e ≤ d)) || !s.lampOn g || s.reg (lampU g) Lamp.DARK == 1 || s.capDark p ||
    !((s.port p).jobOn || (s.port p).capture.isSome)
/-- The ILLUM strings that may be lit are, each with its buck (R407, R410). -/
def State.strobeLit (s : State) (g : Nat) : State :=
  (s.slotsAs g [1]).foldl (fun (r : State) j => if r.slotOk g j then
    (r.setLit g j true).modStr g j (fun x => { x with buckOn := x.buckOn.orElse (fun _ => some r.now) }) else r) s
/-- A pulse of the ILLUM strings that are lit is over (R413). -/
def State.pulsesDone (s : State) (g : Nat) (line : Option Nat) (d len : Nat) : State :=
  [1, 2, 3, 4, 5].foldl (fun (r : State) j => if (r.str g j).lit ∧ r.roleOf g j = 1 then r.pulseDone g j line d len else r) s

theorem State.strobeBarred_eq_false (s : State) (g p : Nat) (f : Fire) (d : Nat) (hwindow : ∀ e, (lampWindow s p f).2 = some e → d < e) (hon : s.lampOn g = true)
    (hdark : s.reg (lampU g) Lamp.DARK ≠ 1) (hcap : s.capDark p = false) (hruns : (s.port p).jobOn = true ∨ (s.port p).capture.isSome = true) :
    s.strobeBarred g p f d = false := by
  have hopen : (lampWindow s p f).2.any (fun e => decide (e ≤ d)) = false := by
    cases hw : (lampWindow s p f).2 with
    | none => rfl
    | some e => exact decide_eq_false (Nat.not_le.2 (hwindow e hw))
  have hruns' : ((s.port p).jobOn || (s.port p).capture.isSome) = true := by simpa using hruns
  simp [State.strobeBarred, hopen, hon, hdark, hcap, hruns']
theorem State.strobeBarred_of_off (s : State) (g p : Nat) (f : Fire) (d : Nat) (hoff : s.lampOn g = false) : s.strobeBarred g p f d = true := by
  simp [State.strobeBarred, hoff]

section
variable (s : State) (g : Nat)
/-- The start of the strobe of the next line: it takes place, or has length 0 (R410). -/
theorem State.strobeStart_due (p : Nat) (f : Fire) (d : Nat) (hnext : s.strobeNext g = some (p, f, d)) (hdue : d ≤ s.now) (hclosed : (s.lamp g).strobe = none) :
    s.strobeStart g = if (s.strobeMet g f).strobeBarred g p f d then (s.strobeMet g f).strobeMeas g p f.line 0
      else ((s.strobeMet g f).strobeLit g).modLamp g (fun l => { l with strobe := some (f.line, d) }) := by
  have hpasses : ¬ (s.now < d ∨ (s.lamp g).strobe.isSome = true) := by simp [hclosed, hdue]
  unfold State.strobeStart
  rw [hnext]
  dsimp only
  rw [if_neg hpasses]
  unfold State.strobeBarred State.strobeMet
  cases (lampWindow (s.modLamp g (fun l => { l with next := f.tick + 1 })) p f).2 with
  | none => rfl
  | some e => rfl
/-- In a window whose end is not known a strobe ends STROBE_LEN after its start (R410). -/
theorem State.strobeEnd_strobe (line d p : Nat) (f : Fire) (hstrobe : (s.lamp g).strobe = some (line, d)) (hport : s.lampPort g = some p)
    (hfire : s.fireOf p line = some f) (hwindow : (lampWindow s p f).2 = none) (hlen : vw s f.set (lampU g) Lamp.STROBE_LEN ≠ 0)
    (hdue : d + vw s f.set (lampU g) Lamp.STROBE_LEN ≤ s.now) :
    s.strobeEnd g = ((s.strobeMeas g p line (vw s f.set (lampU g) Lamp.STROBE_LEN)).pulsesDone g (some line) d (vw s f.set (lampU g) Lamp.STROBE_LEN)).modLamp g
      (fun l => { l with strobe := none }) := by
  simp only [State.strobeEnd, hstrobe, hport, hfire, hwindow, if_neg hlen, if_neg (Nat.not_lt.2 hdue), Nat.add_sub_cancel_left]
  rfl
/-- Without a strobe it is the diagnosis pulse that ends, 3,200 ticks after its start (R414). -/
theorem State.strobeEnd_diag (d : Nat) (hstrobe : (s.lamp g).strobe = none) (hdiag : (s.lamp g).diag = some d) (hdue : d + 3200 ≤ s.now) :
    s.strobeEnd g = (s.pulsesDone g none d 3200).modLamp g (fun l => { l with diag := none }) := by
  simp only [State.strobeEnd, hstrobe, hdiag, if_neg (Nat.not_lt.2 hdue)]
  rfl

/-! ### Faults that the comparator and the bucks find -/

section
variable (k : Nat)
theorem State.litPulse_strobe (line d p : Nat) (hrole : s.roleOf g k = 1) (hcal : (s.lamp g).calAt = none) (hstrobe : (s.lamp g).strobe = some (line, d))
    (hport : s.lampPort g = some p) : s.litPulse g k = some (d, s.strobeSpan g p line d, some line) := by
  simp [State.litPulse, hrole, hcal, hstrobe, hport]
theorem State.litPulse_indicator (hrole : s.roleOf g k = 3) (hcal : (s.lamp g).calAt = none) (hlit : s.now % 65536 < (s.str g k).duty) :
    s.litPulse g k = some (s.now / 65536 * 65536, (s.str g k).duty, none) := by
  simp [State.litPulse, State.indicatorLit, hrole, hcal, hlit]
/-- A trip in the first 320 ticks of a pulse of 80 ticks or more is an OPEN fault of the slot (R413, R416). -/
theorem State.ovpTrip_pulse (d len : Nat) (line : Option Nat) (hlit : (s.str g k).lit = true) (hrole : s.roleOf g k ≠ 2)
    (hpulse : s.litPulse g k = some (d, len, line)) (hearly : s.now ≤ d + 320) (hlen : 80 ≤ len) : s.ovpTrip g k = s.lampFault g k 1 d line := by
  simp [State.ovpTrip, hlit, hrole, hpulse, Nat.not_lt.2 hearly, Nat.not_lt.2 hlen]
/-- In a CONTINUOUS string that is lit a trip is one at any time (R415). -/
theorem State.ovpTrip_continuous (hlit : (s.str g k).lit = true) (hrole : s.roleOf g k = 2) (hcal : (s.lamp g).calAt = none) :
    s.ovpTrip g k = s.lampFault g k 1 (s.str g k).measAt none := by
  simp [State.ovpTrip, hlit, hrole, hcal]
theorem State.buckTimeout_due (d : Nat) (hbuck : (s.str g k).buckOn = some d) (hmeas : (s.str g k).measAt ≤ d) (hdue : d + 160000 ≤ s.now) :
    s.buckTimeout g k = s.lampFault g k 4 d none := by
  simp [State.buckTimeout, hbuck, Nat.not_lt.2 hmeas, Nat.not_lt.2 hdue]
end

/-! ### Diagnosis pulses and the relight -/

/-- With SHUTTER 1 a due diagnosis pulse begins 160 ticks after the last exposure, where it ends 160 ticks or more before the next (R414). -/
theorem State.diagPulse_due (p te : Nat) (d : Nat × Bool) (hport : s.lampPort g = some p) (hpends : (s.lamp g).diagDue = true) (hstrobe : (s.lamp g).strobe = none)
    (hdiag : (s.lamp g).diag = none) (hon : s.lampOn g = true) (hdark : s.reg (lampU g) Lamp.DARK ≠ 1) (hcap : s.capDark p = false)
    (hjob : (s.port p).jobOn = true) (hshutter : s.act (portU p) Port.SHUTTER = 1) (hlast : (s.port p).lastTe = some te) (hclosed : (s.port p).openLine = none)
    (hdue : te + 160 ≤ s.now) (hline : s.lcDue p = some d) (hroom : te + 3520 ≤ d.1 + s.act (portU p) Port.EXP_DELAY) :
    s.diagPulse g = (((s.slotsAs g [1]).foldl (fun (r : State) j => if r.slotOk g j then r.setLit g j true else r) s).modLamp g
      (fun l => { l with diag := some (te + 160), diagDue := false, diagRow := none })).bump (lampU g) Lamp.DIAG_PULSES := by
  simp [State.diagPulse, hport, hpends, hstrobe, hdiag, hon, hdark, hcap, hjob, hshutter, hlast, hclosed, hline, hroom, Nat.not_lt.2 hdue]
/-- The boundary at which a group is relit, with its repeat; without a port it is 200 µs after the detection, with repeat 0 (R417). -/
def State.relightAt (s : State) (g rep : Nat) : Prop :=
  (∃ p tk, s.lampPort g = some p ∧ (s.lamp g).relit = some (tk, rep)) ∨
    (s.lampPort g = none ∧ (s.lamp g).relit = none ∧ rep = 0 ∧ (s.lamp g).detected + 320000 ≤ s.now)
/-- The spare stands in for slot j (R417). -/
def State.spareIn (s : State) (g j : Nat) : State :=
  (((s.set (lampU g) Lamp.DARK 0).set (lampU g) Lamp.RELIGHT_PENDING 0).set (lampU g) Lamp.SPARE_USED 1).modLamp g (fun l => { l with
    spareFor := some j, spareSp := spareSetpoint (s.act (strU g j) Str.SETPOINT) (s.reg (strU g j) Str.SPARE_DELTA), relit := none, faultSlot := none })
theorem State.lampRelight_due (j rep : Nat) (hpends : s.reg (lampU g) Lamp.RELIGHT_PENDING = 1) (hslot : (s.lamp g).faultSlot = some j) (hat : s.relightAt g rep) :
    s.lampRelight g = ((((s.spareIn g j).raise Ev.LAMP_SPARE_IN (lampU g) (j + rep % 2 ^ 24 * 256)).audit 7 (strU g j)
      (leBytes 4 (strU g 5))).lampLights g).lampRefresh g := by
  unfold State.lampRelight State.spareIn
  rcases hat with ⟨p, tk, hport, hrelit⟩ | ⟨hport, hrelit, rfl, hdue⟩
  · simp [hpends, hslot, hport, hrelit]
  · simp [hpends, hslot, hport, hrelit, hdue]

/-! ### Measurements -/

section
variable (k mv ua : Nat)
theorem State.lampMeasure_cal (w : Work) (hwork : s.workOf 0x50 (lampU g) = some w) (hkind : nth w.params 0 ≠ 2) :
    s.lampMeasure g k mv ua = s.lampCalMeasure g w mv ua := by
  simp only [State.lampMeasure, hwork, if_neg hkind]
/-- Without a LAMP_CAL, and in its DELTA run, a measurement is one of the last pulse (R413, R418). -/
theorem State.lampMeasure_pulse (h : s.workOf 0x50 (lampU g) = none ∨ ∃ w, s.workOf 0x50 (lampU g) = some w ∧ nth w.params 0 = 2) :
    s.lampMeasure g k mv ua = s.pulseMeasure g k mv ua := by
  rcases h with hwork | ⟨w, hwork, hkind⟩
  · simp only [State.lampMeasure, hwork]
  · simp only [State.lampMeasure, hwork, if_pos hkind]
theorem State.lampReads_measured (d : Nat) (line : Option Nat) (h : k ≠ 5 ∨ (s.lamp g).delta = none) :
    s.lampReads g k mv ua d line = s.measured g k mv ua d line := by
  have hnospare : ¬ (k = 5 ∧ (s.lamp g).delta.isSome = true) := by
    rcases h with hk | hdelta
    · exact fun hs => hk hs.1
    · simp [hdelta]
  exact if_neg hnospare
theorem State.pulseMeasure_long (line : Option Nat) (d len : Nat) (hpulse : (s.str g k).pulse = some (line, d, len)) (hlen : 2400 ≤ len) :
    s.pulseMeasure g k mv ua = s.lampReads g k mv (s.senseUa g k ua) d line := by
  simp only [State.pulseMeasure, hpulse, if_neg (Nat.not_lt.2 hlen)]
theorem State.pulseMeasure_short (line : Option Nat) (d len : Nat) (hpulse : (s.str g k).pulse = some (line, d, len)) (hlen : len < 2400) :
    s.pulseMeasure g k mv ua = s := by
  simp only [State.pulseMeasure, hpulse, if_pos hlen]
theorem State.lampContinuous_due (hrole : s.roleOf g k = 2) (hlit : (s.str g k).lit = true) (hdue : (s.str g k).measAt + 1600000 ≤ s.now) :
    s.lampContinuous g k mv ua = s.lampReads g k mv (s.senseUa g k ua) (s.str g k).measAt none := by
  simp [State.lampContinuous, hrole, hlit, Nat.not_lt.2 hdue]
end
end

/-- Settles O14: each row runs its operation, and each clause is what that operation finds due or lit. -/
theorem lampsPulseAndAreMeasured : Obligations.Lamps_pulse_and_are_measured := by
  refine ⟨?_, ?_⟩
  · intro s t g k hg h a
    refine ⟨?_, fun line d p f hstrobe hport hfire hwindow hlen hdue => ?_, fun d hstrobe hdiag hdue => ?_,
      fun line d p hlit hrole hcal hstrobe hport hearly hlen => ?_,
      fun hlit hrole hcal hduty hearly hlen => ?_, fun hlit hrole hcal => ?_, fun d hbuck hmeas hdue => ?_,
      fun p te d hport hpends hstrobe hdiag hon hdark hcap hjob hshutter hlast hclosed hdue hline hroom => ?_, fun j rep hpends hslot hat => ?_⟩
    · intro p f d hnext hdue hclosed b
      rw [exec_strobeStart s t g hg h, a.strobeStart_due g p f d hnext hdue hclosed]
      refine ⟨fun hwindow hon hdark hcap hruns => ?_, fun hoff => ?_⟩
      · rw [if_neg (ne_true_of_eq_false ((a.strobeMet g f).strobeBarred_eq_false g p f d hwindow hon hdark hcap hruns))]
        rfl
      · rw [if_pos ((a.strobeMet g f).strobeBarred_of_off g p f d hoff)]
        rfl
    · intro m
      rw [exec_strobeEnd s t g hg h, a.strobeEnd_strobe g line d p f hstrobe hport hfire hwindow hlen hdue]
      rfl
    · rw [exec_strobeEnd s t g hg h, a.strobeEnd_diag g d hstrobe hdiag hdue]
      rfl
    · rw [exec_ovpTrip s t g hg h, a.ovpTrip_pulse g k _ _ _ hlit (by simp [hrole]) (a.litPulse_strobe g k line d p hrole hcal hstrobe hport) hearly hlen]
    · have hstart : a.now ≤ a.now / 65536 * 65536 + 320 := by omega
      rw [exec_ovpTrip s t g hg h, a.ovpTrip_pulse g k _ _ _ hlit (by simp [hrole]) (a.litPulse_indicator g k hrole hcal hduty) hstart hlen]
    · rw [exec_ovpTrip s t g hg h, a.ovpTrip_continuous g k hlit hrole hcal]
    · rw [exec_buckSwitchOnTimeout s t g hg h, a.buckTimeout_due g k d hbuck hmeas hdue]
    · rw [exec_diagPulse s t g hg h, a.diagPulse_due g p te d hport hpends hstrobe hdiag hon hdark hcap hjob hshutter hlast hclosed hdue hline hroom]
    · intro b
      rw [exec_lampRelight s t g hg h, a.lampRelight_due g j rep hpends hslot hat]
      rfl
  · intro s t g k mv ua mean hg h a
    refine ⟨fun w hwork hkind => ?_, fun line d len hwork hpulse => ⟨fun hlen hspare => ?_, fun hlen => ?_⟩, fun hspare hrole hlit hdue => ?_⟩
    · rw [exec_lampMeasurement s t g hg h, a.lampMeasure_cal g k mv ua w hwork hkind]
    · rw [exec_lampMeasurement s t g hg h, a.lampMeasure_pulse g k mv ua hwork, a.pulseMeasure_long g k mv ua line d len hpulse hlen,
        a.lampReads_measured g k mv _ d line hspare]
    · rw [exec_lampMeasurement s t g hg h, a.lampMeasure_pulse g k mv ua hwork, a.pulseMeasure_short g k mv ua line d len hpulse hlen]
    · rw [exec_continuousMeasure s t g hg h, a.lampContinuous_due g k mv ua hrole hlit hdue, a.lampReads_measured g k mv _ _ none hspare]
end Sys2Proof.Machine
end

section
/-! The rows of the chain port that serves, and of a Harebell engine: each runs its operation, and each operation by what it finds due (R422 to R425). -/
namespace Sys2Proof.Machine
open R

/-! ### The rows -/

/-- A unit that serves shows its page in a window (R70). -/
theorem State.windowOk_of_serves (s : State) (u : Nat) (huid : uidOk u = true) (h : s.serves u = true) : s.windowOk u = true := by
  obtain ⟨-, hfrozen, hpowered, hfused⟩ := (s.serves_iff u).1 h
  simp [State.windowOk, huid, hfrozen, hpowered, hfused]

section
variable (s : State) (t : Nat)
theorem exec_harebellTick (e : Nat) (he : e < 4) (h : (s.advance t).serves (hareU e) = true) :
    exec (.harebellTick t e) s = .next (s.went t ((s.advance t).hareTick e)) := congrArg _ (s.onUnit_went t e 4 _ _ he h)
variable (h : (s.advance t).serves chainU = true)
include h
theorem exec_chainLatch : exec (.chainLatch t) s = .next (s.went t (s.advance t).chainLatch) := congrArg _ (s.onUnit_went t 0 1 _ _ Nat.one_pos h)
theorem exec_chainShiftDone (ret count : Nat) : exec (.chainShiftDone t ret count) s = .next (s.went t ((s.advance t).chainShiftDone ret count)) :=
  congrArg _ (s.onUnit_went t 0 1 _ _ Nat.one_pos h)
theorem exec_chainRestart (hreached : (s.advance t).reached = true) : exec (.chainRestart t) s = .next (s.ran t (s.advance t).chainRestart) := by
  have hrow := s.onBarThen_ran t (fun r => if r.windowOk chainU then r.chainRestart else r) hreached
  rw [if_pos ((s.advance t).windowOk_of_serves chainU (by decide) h)] at hrow
  exact congrArg _ hrow
end

/-! ### The chain port -/

section
variable (s : State)
/-- With no shift to come after a latch nothing begins (R423). -/
theorem State.chainBegins_none (h : s.chain.begin_ = none) : s.chainBegins = s := by
  rw [State.chainBegins, h]
/-- A latch that is due, while no shift runs or is to come (R423). -/
theorem State.chainLatch_due (d : Nat) (hon : s.chain.on = true) (hruns : s.chain.stopped = false) (hat : s.chain.due = some d) (hdue : d ≤ s.now)
    (hshift : s.chain.shift = none) (hbegin : s.chain.begin_ = none) :
    s.chainLatch = (s.bump chainU Chain.FRAMES).modChain (fun c => { c with
      due := none, lastLatch := d, latched := some c.frame, image := c.loaded.getD c.image, loaded := none, begin_ := some (d + 64) }) := by
  simp [State.chainLatch, s.chainBegins_none hbegin, hon, hruns, hat, hshift, hbegin, Nat.not_lt.2 hdue]

section
variable (d ret count : Nat) (hbegin : s.chain.begin_ = none) (hshift : s.chain.shift = some d)
  (hdue : d + chainN s s.active * chainTb s s.active ≤ s.now)
include hbegin hshift hdue
/-- The marker has come back: its count is the length measured, and is the chain's or stops it (R424). -/
theorem State.chainShiftDone_marker (hmarker : s.chain.marker = true) :
    s.chainShiftDone ret count =
      let b := (s.set chainU Chain.LEN_MEASURED count).modChain (fun c => { c with shift := none, marker := false })
      if count = chainN s s.active then b.chainShift else (b.set chainU Chain.LEN_FAULT 1).chainStop 4 := by
  simp [State.chainShiftDone, s.chainBegins_none hbegin, hshift, hmarker, Nat.not_lt.2 hdue, ite_not]
/-- A frame that comes back as it was latched ends the run of mismatches (R424). -/
theorem State.chainShiftDone_whole (f : Nat) (hmarker : s.chain.marker = false) (hlatched : s.chain.latched = some f)
    (hwhole : ret % 2 ^ chainN s s.active = f % 2 ^ chainN s s.active) :
    s.chainShiftDone ret count = ((s.modChain (fun c => { c with shift := none })).modChain (fun c => { c with bad := 0, pend := [] })).lampDecide
      (s.act chainU Chain.CHAIN_PORT) := by
  simp only [State.chainShiftDone, s.chainBegins_none hbegin, hshift, hmarker, hlatched, if_neg (Nat.not_lt.2 hdue), if_pos hwhole, Bool.false_eq_true, if_false]
  rfl
end

/-- That CHAIN_RESTART reads 0 again fences nothing. -/
theorem State.fenced_set_chainRestart (v u : Nat) : (s.set chainU Chain.CHAIN_RESTART v).fenced u = s.fenced u := by
  have hpowered : (s.set chainU Chain.CHAIN_RESTART v).powered u = s.powered u := by
    unfold State.powered
    rw [State.reg_set_ne _ _ _ _ _ _ _ _ (by decide)]
  unfold State.fenced State.stOf
  rw [hpowered]
  rfl
theorem State.chainRestart_sends (hen : s.act chainU Chain.CHAIN_EN = 1) (hfenced : s.fenced chainU = false) :
    s.chainRestart = (s.set chainU Chain.CHAIN_RESTART 0).chainMarker :=
  if_pos ⟨hen, (s.fenced_set_chainRestart 0 chainU).trans hfenced⟩

/-! ### Harebell -/

theorem State.setSt_reg (u : Nat) (st : UState) (reason v : Nat) (f : Field) (i : Nat) : (s.setSt u st reason).reg v f i = s.reg v f i := by
  unfold State.setSt
  split
  · rfl
  · rfl
theorem State.hareState_reg (e v : Nat) (f : Field) (i : Nat) : (s.hareState e).reg v f i = s.reg v f i := by
  unfold State.hareState
  split
  · rfl
  · exact s.setSt_reg ..
/-- An engine with neither an effect nor an indication, and no strings to drive, computes brightness 0 for each of its targets (R425). -/
theorem State.hareTick_idle (e : Nat) (hbegin : s.chain.begin_ = none) (hfenced : s.fenced (hareU e) = false) (hdue : (s.hare e).last + 1600000 ≤ s.now)
    (hind : (s.hare e).ind = none) (hrun : (s.hare e).run = none) (hstr : s.reg (hareU e) Hare.TARGET_STR ≠ 1) :
    s.hareTick e = (s.modHare e (fun x => { x with
      last := s.now, outs := List.replicate (min 4096 (s.reg (hareU e) Hare.COUNT)) (gammaOf (s.reg (hareU e) Hare.GAMMA) 0) })).hareState e := by
  have hnostr (f : HareSt → HareSt) : ((s.modHare e f).hareState e).reg (hareU e) Hare.TARGET_STR ≠ 1 := by
    rw [State.hareState_reg]
    exact hstr
  simp [State.hareTick, s.chainBegins_none hbegin, hfenced, hind, hrun, hnostr, Nat.not_lt.2 hdue, List.map_const']
end

/-- Settles O15: each row runs its operation, and each clause is what that operation finds due. -/
theorem chainLatchesAndShifts : Obligations.Chain_latches_and_shifts := by
  intro s t h a
  refine ⟨fun d hon hruns hat hdue hshift hbegin => ?_, fun d ret count hbegin hshift hdue hmarker => ?_,
    fun d f ret count hbegin hshift hdue hmarker hlatched hwhole => ?_, fun hreached hen hfenced => ?_,
    fun e he hbegin hserves hfenced hdue hind hrun hstr => ?_⟩
  · rw [exec_chainLatch s t h, a.chainLatch_due d hon hruns hat hdue hshift hbegin]
  · rw [exec_chainShiftDone s t h, a.chainShiftDone_marker d ret count hbegin hshift hdue hmarker]
    exact ⟨fun hlen => by rw [if_pos hlen], fun hlen => by rw [if_neg hlen]⟩
  · rw [exec_chainShiftDone s t h, a.chainShiftDone_whole d ret count hbegin hshift hdue f hmarker hlatched hwhole]
  · rw [exec_chainRestart s t h hreached, a.chainRestart_sends hen hfenced]
  · rw [exec_harebellTick s t e he hserves, a.hareTick_idle e hbegin hfenced hdue hind hrun hstr]
end Sys2Proof.Machine
end

section
/-! Runs of the device: a step takes the front of the queue, always goes on, and leaves the rest of it (log entry 17). -/
namespace Sys2Proof.Machine

/-- A step goes on, and leaves the queue without its front command. -/
theorem step_goes_on (s : State) : ∃ r, step s = .next r ∧ r.pending = s.pending.tail := by
  unfold step
  split
  · next hempty => exact ⟨s, rfl, by rw [hempty]; rfl⟩
  · next c rest hqueue =>
    obtain ⟨x, hx⟩ := exec_ends c { s with pending := rest }
    exact ⟨_, hx, by rw [hqueue]; rfl⟩

/-- No run meets a fault or a refusal, since no step does. -/
theorem safeRun_always (n : Nat) (s : State) : safeRun s n = true := by
  induction n generalizing s with
  | zero => rfl
  | succ n ih =>
    obtain ⟨r, hstep, -⟩ := step_goes_on s
    rw [safeRun, hstep]
    exact ih r

/-- A step of a run is a step of the machine. -/
theorem run_succ (n : Nat) (s r : State) (h : step s = .next r) : Sys2Proof.core.run (n + 1) s = Sys2Proof.core.run n r := by
  have hcore : Sys2Proof.core.step s = .next r := h
  have hrun := Host.Core.run.eq_2 Sys2Proof.core s n
  rw [hcore] at hrun
  exact hrun

/-- As many steps as commands wait empty the queue, with the part kept and a clock that has not run back. -/
theorem run_drains (queue : List Instr) (s : State) (hqueue : s.pending = queue) :
    ∃ r, Sys2Proof.core.run queue.length s = .next r ∧ r.pending = [] ∧ s.now ≤ r.now ∧ r.part = s.part := by
  induction queue generalizing s with
  | nil => exact ⟨s, rfl, hqueue, Nat.le_refl _, rfl⟩
  | cons c rest ih =>
    obtain ⟨m, hstep, hpending⟩ := step_goes_on s
    obtain ⟨hpart, hnow⟩ := step_part_now s m hstep
    obtain ⟨r, hrun, hempty, hlater, hsame⟩ := ih m (by rw [hpending, hqueue]; rfl)
    exact ⟨r, (run_succ _ _ _ hstep).trans hrun, hempty, Nat.le_trans hnow hlater, hsame.trans hpart⟩

/-- Settles O48: the run over the queue drains it, and no step of any run stops the device. -/
theorem queueDrainsWithoutAStop : Obligations.Queue_drains_without_a_stop := by
  intro s
  obtain ⟨r, hrun, hempty, hnow, hpart⟩ := run_drains s.pending s rfl
  exact ⟨r, hrun, hempty, hnow, hpart, fun n => safeRun_always n s⟩

/-- Settles O46: the two cases of `step`. -/
theorem stepRunsTheFrontCommand : Obligations.Step_runs_the_front_command := by
  refine ⟨fun s c rest => rfl, fun s hempty => ?_⟩
  unfold step
  rw [hempty]

end Sys2Proof.Machine
end

section
/-! The rows of the Rope unit that serves: each runs its operation, and each operation by what it finds due (R450, R459 to R472). -/
namespace Sys2Proof.Machine
open R

/-! ### Pitches -/

section
variable (s : State) (t k : Nat)
theorem exec_pitchSymbolLock (h : s.sys.inReset = false) :
    exec (.pitchSymbolLock t k) s = .next (s.did t ((s.advance t).pitchLock k true)) := congrArg _ (s.onHostThen_did t _ h)
theorem exec_pitchLockLoss (h : s.sys.inReset = false) :
    exec (.pitchLockLoss t k) s = .next (s.did t ((s.advance t).pitchLock k false)) := congrArg _ (s.onHostThen_did t _ h)
end

section
variable (s : State) (t k : Nat) (h : (s.advance t).serves ropeU = true)
include h
theorem exec_linkRetry : exec (.linkRetry t k) s = .next (s.went t ((s.advance t).linkRetry k)) := congrArg _ (s.onUnit_went t 0 1 _ _ Nat.zero_lt_one h)
theorem exec_delayExchange (d : Int) :
    exec (.delayExchange t k d) s = .next (s.went t ((s.advance t).delayExchange k d)) := congrArg _ (s.onUnit_went t 0 1 _ _ Nat.zero_lt_one h)
theorem exec_ropeAck (q : Nat) (ok : Bool) :
    exec (.ropeAck t k q ok) s = .next (s.went t ((s.advance t).ropeAck k q ok)) := congrArg _ (s.onUnit_went t 0 1 _ _ Nat.zero_lt_one h)
theorem exec_ropeAckTimeout (q : Nat) :
    exec (.ropeAckTimeout t k q) s = .next (s.went t ((s.advance t).ropeAckTimeout k q)) := congrArg _ (s.onUnit_went t 0 1 _ _ Nat.zero_lt_one h)
theorem exec_timeSend : exec (.timeSend t) s = .next (s.went t (s.advance t).timeSend) := congrArg _ (s.onUnit_went t 0 1 _ _ Nat.zero_lt_one h)
theorem exec_time (crc : Bool) (at64 delay : Nat) (up : Bool) (depth : Nat) : exec (.time t crc at64 delay up depth) s =
    .next (s.went t ((s.advance t).received 4 crc (fun x => x.timeMsg at64 delay up depth))) := congrArg _ (s.onUnit_went t 0 1 _ _ Nat.zero_lt_one h)
theorem exec_timeTimeout : exec (.timeTimeout t) s = .next (s.went t (s.advance t).timeTimeout) := congrArg _ (s.onUnit_went t 0 1 _ _ Nat.zero_lt_one h)
theorem exec_reportTimer : exec (.reportTimer t) s = .next (s.went t (s.advance t).reportTimer) := congrArg _ (s.onUnit_went t 0 1 _ _ Nat.zero_lt_one h)
end

section
variable (s : State) (k : Nat)
theorem State.pitchLock_gained (hk : k < 5) : s.pitchLock k true = (s.modPitch k (fun x => { x with locked := true })).linkUp k :=
  if_neg (Nat.not_le.2 hk)
theorem State.pitchLock_lost (hk : k < 5) : s.pitchLock k false = (s.modPitch k (fun x => { x with locked := false })).pitchBreak k :=
  if_neg (Nat.not_le.2 hk)
theorem State.linkRetry_due (hk : k < 5) (hlink : s.linkSt k < 2) (hdue : (s.pitch k).retryAt ≤ s.now) :
    s.linkRetry k = ((s.setLink k 0 0).pitchClear k).linkUp k := by
  simp [State.linkRetry, Nat.not_le.2 hk, Nat.not_le.2 hlink, Nat.not_lt.2 hdue]
end

/-! ### The delay exchange (R460) -/

section
variable (s : State) (k : Nat) (d : Int) (hk : k < 4) (hlink : s.linkSt k = 1) (hphase : (s.pitch k).phase = 2)
include hk hlink hphase
theorem State.delayExchange_counts (hlen : (s.pitch k).exch.length < 15) :
    s.delayExchange k d = s.modPitch k (fun x => { x with exch := (s.pitch k).exch ++ [d] }) := by
  simp [State.delayExchange, Nat.not_le.2 hk, hlink, hphase, show (s.pitch k).exch.length + 1 < 16 by omega]
theorem State.delayExchange_joins (hlen : (s.pitch k).exch.length = 15)
    (hclose : (((s.pitch k).exch ++ [d]).max?.getD 0) - (((s.pitch k).exch ++ [d]).min?.getD 0) ≤ 4) :
    s.delayExchange k d = (s.set ropeU Rope.DELAY (pitchDelay ((s.pitch k).exch ++ [d])) k).childJoined k := by
  simp only [State.delayExchange, Nat.not_le.2 hk, hlink, hphase, List.length_append, hlen, Int.not_lt.2 hclose, decide_false, bne_self_eq_false, Bool.or_self,
    Bool.false_eq_true, if_false]
  rfl
theorem State.delayExchange_again (hlen : (s.pitch k).exch.length = 15)
    (hwide : 4 < (((s.pitch k).exch ++ [d]).max?.getD 0) - (((s.pitch k).exch ++ [d]).min?.getD 0)) (hreps : (s.pitch k).reps < 4) :
    s.delayExchange k d = s.modPitch k (fun x => { x with exch := [], reps := x.reps + 1 }) := by
  simp only [State.delayExchange, Nat.not_le.2 hk, hlink, hphase, List.length_append, hlen, hwide, hreps, decide_false, bne_self_eq_false, Bool.or_self,
    Bool.false_eq_true, if_false, if_true]
  rfl
end

/-! ### Acknowledgements (R462) -/

/-- The retransmission of a message that has not been acknowledged. -/
def State.sentAgain (s : State) (k : Nat) (m : RSent) : State :=
  ((s.bump ropeU Rope.RETRIES).modRope (fun r => { r with sent := (k, m.msg.words m.lseq) :: r.sent })).modPitch k
    (fun x => { x with unacked := x.unacked.map (fun y => if y.lseq = m.lseq then { y with tries := y.tries + 1, at_ := s.now } else y) })

theorem State.resend_again (s : State) (k : Nat) (m : RSent) (h : m.tries < 3) : s.resend k m = s.sentAgain k m := if_neg (Nat.not_le.2 h)
theorem State.resend_breaks (s : State) (k : Nat) (m : RSent) (h : 3 ≤ m.tries) : s.resend k m = s.pitchBreak k := if_pos h

section
variable (s : State) (k q : Nat) (m : RSent) (hm : (s.pitch k).unacked.find? (fun y => y.lseq == q) = some m)
include hm
theorem State.ropeAck_taken : s.ropeAck k q true = (s.modPitch k (fun x => { x with unacked := x.unacked.filter (fun y => y.lseq != q) })).pump k := by
  simp only [State.ropeAck, hm, if_true]
theorem State.ropeAck_refused : s.ropeAck k q false = s.resend k m := by
  simp only [State.ropeAck, hm, Bool.false_eq_true, if_false]
theorem State.ropeAckTimeout_due (hdue : m.at_ + 3200 ≤ s.now) : s.ropeAckTimeout k q = s.resend k m := by
  simp only [State.ropeAckTimeout, hm, Nat.not_lt.2 hdue, if_false]
theorem State.ropeAckTimeout_early (hearly : s.now < m.at_ + 3200) : s.ropeAckTimeout k q = s := by
  simp only [State.ropeAckTimeout, hm, hearly, if_true]
end

/-- Settles O27: each row runs its operation, and each clause is what that operation finds due. -/
theorem pitchesLinkAndAcknowledge : Obligations.Pitches_link_and_acknowledge := by
  refine ⟨?_, ?_⟩
  · intro s t k d hk a
    refine ⟨fun hreset => ?_, fun hreset => ?_, fun hserves hlink hdue => ?_, fun hserves hk hlink hphase => ⟨fun hlen => ?_, fun hlen hclose => ?_, fun hlen hwide hreps => ?_⟩⟩
    · rw [exec_pitchSymbolLock s t k (by simpa [a] using hreset), State.pitchLock_gained _ k hk]
    · rw [exec_pitchLockLoss s t k (by simpa [a] using hreset), State.pitchLock_lost _ k hk]
    · rw [exec_linkRetry s t k hserves, State.linkRetry_due _ k hk hlink hdue]
    · rw [exec_delayExchange s t k hserves, State.delayExchange_counts _ k d hk hlink hphase hlen]
    · rw [exec_delayExchange s t k hserves, State.delayExchange_joins _ k d hk hlink hphase hlen hclose]
    · rw [exec_delayExchange s t k hserves, State.delayExchange_again _ k d hk hlink hphase hlen hwide hreps]
  · intro s t k q m hserves hm a again
    have hagain : again = a.sentAgain k m := rfl
    rw [hagain]
    refine ⟨?_, fun htries => ?_, fun htries => ?_, fun htries hdue => ?_, fun hearly => ?_⟩
    · rw [exec_ropeAck s t k hserves, State.ropeAck_taken _ k q m hm]
    · rw [exec_ropeAck s t k hserves, State.ropeAck_refused _ k q m hm, State.resend_again _ k m htries]
    · rw [exec_ropeAck s t k hserves, State.ropeAck_refused _ k q m hm, State.resend_breaks _ k m htries]
    · rw [exec_ropeAckTimeout s t k hserves, State.ropeAckTimeout_due _ k q m hm hdue, State.resend_again _ k m htries]
    · rw [exec_ropeAckTimeout s t k hserves, State.ropeAckTimeout_early _ k q m hm hearly]

/-! ### Rope time and reports (R464, R465, R469) -/

/-- The instant of the next whole millisecond is noted, and the device goes on. -/
theorem State.timeSend_due (s : State) (hdue : s.ropeS.timeNext ≤ s.now) (hrole : s.role ≠ 0) (hfenced : s.fenced ropeU = false) (hfrozen : s.frozen = false) :
    s.timeSend = (s.modRope (fun r => { r with timeNext := s.now / 1600000 * 1600000 + 1600000 })).downs.foldl (fun (r : State) k => r.sendTime k)
      (s.modRope (fun r => { r with timeNext := s.now / 1600000 * 1600000 + 1600000 })) := by
  simp only [State.timeSend, Nat.not_lt.2 hdue, beq_false_of_ne hrole, hfenced, hfrozen, decide_false, Bool.or_self, Bool.false_eq_true, if_false]
theorem State.timeTimeout_due (s : State) (hrole : s.role = 2) (hdue : s.ropeS.lastTime + 6400000 ≤ s.now) :
    s.timeTimeout = ({ s with ropeT := { s.ropeT with slew := 0 } } : State).setAligned false := by
  simp only [State.timeTimeout, hrole, Nat.not_lt.2 hdue, bne_self_eq_false, decide_false, Bool.or_self, Bool.false_eq_true, if_false]
theorem State.reportTimer_due (s : State) (hdue : s.ropeS.reportNext ≤ s.now) (hrole : s.role = 2) (hlink : s.linkSt 4 = 2) (hfrozen : s.frozen = false) :
    s.reportTimer = (s.modRope (fun r => { r with reportNext := s.now / 1600000 * 1600000 + 1600000 })).sendReport := by
  simp only [State.reportTimer, Nat.not_lt.2 hdue, hrole, hlink, hfrozen, bne_self_eq_false, decide_false, Bool.or_self, Bool.false_eq_true, if_false]

section
variable (s : State) (k : Nat) (hk : k < 5) (hlink : s.linkSt k = 1 ∨ s.linkSt k = 2) (act : State → State)
include hk hlink
theorem State.received_good : s.received k true act = act s := by
  rcases hlink with hlink | hlink <;> simp [State.received, Nat.not_le.2 hk, hlink]
theorem State.received_bad : s.received k false act = s.bump ropeU Rope.CRC_ERRORS := by
  rcases hlink with hlink | hlink <;> simp [State.received, Nat.not_le.2 hk, hlink]
end
theorem State.received_down (s : State) (k : Nat) (hlink : s.linkSt k = 0) (crc : Bool) (act : State → State) : s.received k crc act = s := by
  simp [State.received, hlink]

/-- Settles O28: each row runs its operation, whose instant has come. -/
theorem ropeTimeIsSentAndFollowed : Obligations.Rope_time_is_sent_and_followed := by
  intro s t hserves a
  obtain ⟨-, hfrozen, -, -⟩ := (State.serves_iff _ _).1 hserves
  refine ⟨fun hdue hrole hfenced => ?_, fun at64 delay up depth hlink hrole => ⟨?_, ?_⟩, fun hrole hdue => ?_, fun hdue hrole hlink => ?_⟩
  · rw [exec_timeSend s t hserves, State.timeSend_due _ hdue hrole hfenced hfrozen]
  · rw [exec_time s t hserves, State.received_good _ 4 (by decide) (.inr hlink)]
  · rw [exec_time s t hserves, State.received_bad _ 4 (by decide) (.inr hlink)]
  · rw [exec_timeTimeout s t hserves, State.timeTimeout_due _ hrole hdue]
  · rw [exec_reportTimer s t hserves, State.reportTimer_due _ hdue hrole hlink hfrozen]

/-! ### Messages (R450, R459 to R462, R468 to R471) -/

section
variable (s : State) (t k : Nat) (crc : Bool) (h : (s.advance t).serves ropeU = true)
include h
theorem exec_arm (src x y z : Nat) : exec (.arm t k crc src x y z) s = .next (s.went t ((s.advance t).received k crc (fun r => r.rxArm k src x y z))) :=
  congrArg _ (s.onUnit_went t 0 1 _ _ Nat.zero_lt_one h)
theorem exec_fire (src y z : Nat) : exec (.fire t k crc src y z) s = .next (s.went t ((s.advance t).received k crc (fun r => r.rxFire k src y z))) :=
  congrArg _ (s.onUnit_went t 0 1 _ _ Nat.zero_lt_one h)
theorem exec_job (src x y : Nat) : exec (.job t k crc src x y) s = .next (s.went t ((s.advance t).received k crc (fun r => r.rxJob k src x y))) :=
  congrArg _ (s.onUnit_went t 0 1 _ _ Nat.zero_lt_one h)
theorem exec_mark (src x y z w : Nat) : exec (.mark t k crc src x y z w) s = .next (s.went t ((s.advance t).received k crc (fun r => r.rxMark k src x y z w))) :=
  congrArg _ (s.onUnit_went t 0 1 _ _ Nat.zero_lt_one h)
theorem exec_report (x y z w : Nat) : exec (.report t k crc x y z w) s = .next (s.went t ((s.advance t).received k crc (fun r => r.reportMsg k x y z w))) :=
  congrArg _ (s.onUnit_went t 0 1 _ _ Nat.zero_lt_one h)
theorem exec_join (src x y z w : Nat) : exec (.join t k crc src x y z w) s = .next (s.went t ((s.advance t).received k crc (fun r => r.rxJoin k src x y z w))) :=
  congrArg _ (s.onUnit_went t 0 1 _ _ Nat.zero_lt_one h)
theorem exec_statusAbort (purge tag : Nat) : exec (.statusAbort t k crc purge tag) s =
    .next (s.went t ((s.advance t).received k crc (fun r => r.rxStop k purge tag false []))) := congrArg _ (s.onUnit_went t 0 1 _ _ Nat.zero_lt_one h)
theorem exec_statusReset (tag : Nat) (fails : List Nat) : exec (.statusReset t k crc tag fails) s =
    .next (s.went t ((s.advance t).received k crc (fun r => r.rxStop k 0 tag true fails))) := congrArg _ (s.onUnit_went t 0 1 _ _ Nat.zero_lt_one h)
theorem exec_done (tag : Nat) : exec (.done t k crc tag) s = .next (s.went t ((s.advance t).received k crc (fun r => r.rxDone k tag))) :=
  congrArg _ (s.onUnit_went t 0 1 _ _ Nat.zero_lt_one h)
theorem exec_lost (src : Nat) : exec (.lost t k crc src) s = .next (s.went t ((s.advance t).received k crc (fun r => r.rxLost k src))) :=
  congrArg _ (s.onUnit_went t 0 1 _ _ Nat.zero_lt_one h)
theorem exec_jobReply (src x y : Nat) : exec (.jobReply t k crc src x y) s = .next (s.went t ((s.advance t).received k crc (fun r => r.rxJobReply k src x y))) :=
  congrArg _ (s.onUnit_went t 0 1 _ _ Nat.zero_lt_one h)
end

section
variable (s : State)
theorem State.rxLost_above (src : Nat) (hlink : s.linkSt 4 = 2) :
    s.rxLost 4 src = (s.setAligned false).ropeFlood { typ := 6, up := false, src := src, dst := allNodes, pay := [5] } 4 false true := by
  simp [State.rxLost, hlink]
theorem State.rxStop_above (purge tag : Nat) (reset : Bool) (fails : List Nat) (hlink : s.linkSt 4 = 2) : s.rxStop 4 purge tag reset fails = s.abortBegin
    { uid := 0, waiting := [], tag := tag % 65536, seq := s.cmdSeq, flags := purge % 2 * 4, urgent := true, reset := reset, rope := true,
      src := tag / 65536 % 2 ^ 18, fails := fails } := by
  simp [State.rxStop, hlink]
theorem State.rxFire_up (k src lo hi : Nat) (hlink : s.linkSt k = 2) :
    s.rxFire k src lo hi = (s.ropeFlood { typ := 2, up := false, src := src, dst := allNodes, pay := [lo, hi] } k true true).signal
      { sig := 57, port := 0, t := hi * 2 ^ 32 + lo, line := 0, frac := 0, pix := none, cls := 0, node := src } := by
  simp [State.rxFire, hlink]
end

/-- Settles O29: a message on a pitch that is up, with a good CRC, acts as its type says. -/
theorem ropeMessagesAreReceived : Obligations.Rope_messages_are_received := by
  intro s t k src x y z w hserves hk a
  refine ⟨fun hlink hk4 => ?_, fun hlink _ => ⟨?_, ?_, ?_⟩, fun hlink => ⟨?_, ?_⟩, fun hlink => ?_, fun hlink => ?_, fun hlink => ?_⟩
  · subst hk4
    have hgood := State.received_good a 4 hk (.inr hlink)
    refine ⟨?_, ?_, ?_, ?_, fun fails => ?_⟩
    · rw [exec_arm s t 4 true hserves, hgood]
    · rw [exec_job s t 4 true hserves, hgood]
    · rw [exec_lost s t 4 true hserves, hgood, a.rxLost_above src hlink]
    · rw [exec_statusAbort s t 4 true hserves, hgood, a.rxStop_above x y false [] hlink]
    · rw [exec_statusReset s t 4 true hserves, hgood, a.rxStop_above 0 y true fails hlink]
  · rw [exec_report s t k true hserves, State.received_good a k hk (.inr hlink)]
  · rw [exec_done s t k true hserves, State.received_good a k hk (.inr hlink)]
  · rw [exec_jobReply s t k true hserves, State.received_good a k hk (.inr hlink)]
  · rw [exec_fire s t k true hserves, State.received_good a k hk (.inr hlink), a.rxFire_up k src y z hlink]
  · rw [exec_mark s t k true hserves, State.received_good a k hk (.inr hlink)]
  · rw [exec_join s t k true hserves, State.received_good a k hk hlink]
  · rw [exec_fire s t k false hserves, State.received_bad a k hk hlink]
  · rw [exec_fire s t k true hserves, State.received_down a k hlink]
end Sys2Proof.Machine
end

section
/-! What raising an event and an audit entry leave alone (R94 to R100, R514 to R516). -/
namespace Sys2Proof.Machine
open R

/-- A state that differs from another in its live registers, in the record of its events and in the host's memory alone. -/
def State.Wrote (r s : State) : Prop := ∃ live host evt, r = { s with live := live, host := host, evt := evt }

theorem State.Wrote.trans {a b c : State} (h : a.Wrote b) (h' : b.Wrote c) : a.Wrote c := by
  obtain ⟨_, _, _, rfl⟩ := h
  obtain ⟨_, _, _, rfl⟩ := h'
  exact ⟨_, _, _, rfl⟩
theorem State.evtWrite_wrote (s : State) (e : Event) : (s.evtWrite e).Wrote s := by
  unfold State.evtWrite
  extract_lets wr ph base w0 r q
  split
  · exact ⟨_, _, _, rfl⟩
  · exact ⟨_, _, _, rfl⟩
theorem State.irq_wrote (s : State) (src : Nat) : (s.irq src).Wrote s := by
  unfold State.irq State.msixSend
  (repeat' split) <;> exact ⟨_, _, _, rfl⟩
/-- Raising an event writes registers, the event log and what the host sees of it, and nothing else. -/
theorem State.raise_wrote (s : State) (src uid detail : Nat) : (s.raise src uid detail).Wrote s := by
  unfold State.raise
  extract_lets e ringEn r q
  have hlog : r.Wrote s := ⟨_, _, _, rfl⟩
  have hring : q.Wrote r := by
    unfold q
    split
    · exact ⟨_, _, _, rfl⟩
    split
    · exact r.evtWrite_wrote e
    · exact ⟨_, _, _, rfl⟩
  split
  · exact ⟨_, _, _, rfl⟩
  · exact ((q.irq_wrote src).trans hring).trans hlog

@[simp] theorem State.raise_memS (s : State) (src uid detail : Nat) : (s.raise src uid detail).memS = s.memS := by
  obtain ⟨_, _, _, h⟩ := s.raise_wrote src uid detail
  rw [h]
@[simp] theorem State.raise_sec (s : State) (src uid detail : Nat) : (s.raise src uid detail).sec = s.sec := by
  obtain ⟨_, _, _, h⟩ := s.raise_wrote src uid detail
  rw [h]

/-- What an audit entry changes of the security unit: the log, and what marks how far it is filled. -/
theorem State.audit_sec (s : State) (kind uid : Nat) (detail : List Nat) :
    ∃ gone log wrapped low, (s.audit kind uid detail).sec = { s.sec with gone := gone, audit := log, wrapped := wrapped, low := low } := by
  unfold State.audit
  extract_lets seq d e full old lost first gone x s2 s3 s4 s5 s6 y
  have h6 : s6.sec = s2.sec := by simp [s6, s5, s4, s3, State.auditRegs, apply_ite State.sec]
  split
  · exact ⟨_, _, _, _, by rw [State.raise_sec]; simp only [y, h6]; rfl⟩
  · exact ⟨_, _, _, _, h6⟩
@[simp] theorem State.audit_memS (s : State) (kind uid : Nat) (detail : List Nat) : (s.audit kind uid detail).memS = s.memS := by
  simp [State.audit, State.auditRegs, apply_ite State.memS]
@[simp] theorem State.audit_slots (s : State) (kind uid : Nat) (detail : List Nat) : (s.audit kind uid detail).slots = s.slots :=
  congrArg Fixed.slots (s.audit_fixed kind uid detail)
end Sys2Proof.Machine
end

section
/-! The upkeep of memory, and the temperature (R321, R476, R480, R481, R543, R584, R585). -/
namespace Sys2Proof.Machine
open R

/-! ### The rows -/

@[simp] theorem State.tjUpdate_frozen (s : State) (tj : Int) : (s.tjUpdate tj).frozen = s.frozen := by
  simp only [State.tjUpdate, State.tjWarn, State.set_frozen]

section
variable (s : State) (t : Nat) (h : (s.advance t).isLive = true)
include h
theorem exec_scrubPass (ce ue : List Nat) : exec (.scrubPass t ce ue) s = .next (s.went t ((s.advance t).scrubPass ce ue)) := congrArg _ (s.onCore_went t _ h)
theorem exec_pageRetireDone : exec (.pageRetireDone t) s = .next (s.went t (s.advance t).retireDone) := congrArg _ (s.onCore_went t _ h)
theorem exec_tjUpdate_live (tj : Int) (ups : List (Nat × Nat)) :
    exec (.tjUpdate t tj ups) s = .next (s.went t (ups.foldl (fun (r : State) q => r.upset q) ((s.advance t).tjUpdate tj))) := by
  obtain ⟨hreset, hfrozen⟩ := (State.isLive_iff _).1 h
  have hrow := s.onHostThen_did t (fun r => if r.frozen then r.tjUpdate tj else (ups.foldl (fun (r : State) q => r.upset q) (r.tjUpdate tj)).keepsHost r)
    (by simpa using hreset)
  rw [hfrozen, if_neg Bool.false_ne_true] at hrow
  exact congrArg _ hrow
end
theorem exec_tjUpdate_frozen (s : State) (t : Nat) (tj : Int) (ups : List (Nat × Nat)) (hfrozen : (s.advance t).frozen = true)
    (hreset : (s.advance t).sys.inReset = false) : exec (.tjUpdate t tj ups) s = .next (s.ends t ((s.advance t).tjUpdate tj)) := by
  have hrow := s.onHostThen_did t (fun r => if r.frozen then r.tjUpdate tj else (ups.foldl (fun (r : State) q => r.upset q) (r.tjUpdate tj)).keepsHost r)
    (by simpa using hreset)
  rw [hfrozen, if_pos rfl] at hrow
  have hidle : ((s.advance t).tjUpdate tj).isLive = false := by
    simp only [State.isLive, State.tjUpdate_frozen, hfrozen, Bool.not_true, Bool.and_false]
  rw [State.did, State.after_idle _ _ hidle] at hrow
  exact congrArg _ hrow
theorem exec_wckTracking (s : State) (t : Nat) (osc : List Nat) (h : (s.advance t).sys.inReset = false) :
    exec (.wckTracking t osc) s = .next (s.ends t { s.advance t with memS := { (s.advance t).memS with wck := osc } }) :=
  congrArg _ (s.onHost_ends t _ (by simpa using h))

/-! ### Scrubbing and retirement (R480, R481) -/

theorem State.scrubPass_clean (s : State) (h : s.reg memU R.Mem.SCRUB_HOURS ≠ 0) : s.scrubPass [] [] = s.bump memU R.Mem.SCRUB_PASSES := if_neg h
theorem State.scrubPass_error (s : State) (e : Nat) (h : s.reg memU R.Mem.SCRUB_HOURS ≠ 0) (he : e < s.fitted) :
    s.scrubPass [] [e] = (s.memUE e).bump memU R.Mem.SCRUB_PASSES := by
  simp [State.scrubPass, h, he]
/-- The oldest copy ends while the reserve has room: its page is in the table, at the next page of the reserve; beside it only the marks of the events move. -/
theorem State.retireDone_memS (s : State) (page : Nat) (rest : List Nat) (hcopies : s.memS.copies = page :: rest) (hroom : s.reserveUsed < s.reservePages) :
    ∃ low empty, s.retireDone.memS = { s.memS with
      copies := rest, retired := s.memS.retired ++ [(page, s.reserveBase * 256 + s.reserveUsed)], lowRaised := low, emptyRaised := empty } := by
  unfold State.retireDone
  split
  · next hnone => exact absurd (hcopies.symm.trans hnone) (List.cons_ne_nil _ _)
  · next page' rest' hsome =>
    obtain ⟨rfl, rfl⟩ := List.cons.inj (hcopies.symm.trans hsome)
    extract_lets m r used total m2 r2 r3 m3 r4 m4
    have hr3 : r3.memS = r2.memS := by simp [r3]
    have hr4 : ∃ low, r4.memS = { r2.memS with lowRaised := low } := by
      unfold r4
      split
      · exact ⟨true, by rw [State.raise_memS]; simp only [m3, hr3]⟩
      · exact ⟨_, hr3⟩
    obtain ⟨low, hr4⟩ := hr4
    have hopen : ¬ total ≤ used := Nat.not_le.2 hroom
    rw [if_neg hopen]
    split
    · exact ⟨low, true, by rw [State.raise_memS]; simp only [m4, hr4]; rfl⟩
    · exact ⟨low, _, hr4⟩

/-! ### The temperature (R584, R585) -/

theorem low_lt (w : Nat) (i : Int) : low w i < 2 ^ w := by
  have hpos : (0 : Int) < Int.ofNat (2 ^ w) := Int.natCast_pos.2 (Nat.two_pow_pos w)
  exact (Int.toNat_lt (Int.emod_nonneg i (Int.ne_of_gt hpos))).2 (Int.emod_lt_of_pos i hpos)
theorem b2n_mod_two (b : Bool) : b2n b % 2 = b2n b := by cases b <;> rfl

/-- The registers of a reading. -/
theorem State.tjUpdate_regs (s : State) (tj : Int) :
    (s.tjUpdate tj).reg devU Th.TJ = low 16 tj ∧ (s.tjUpdate tj).reg devU Th.TJ_PEAK = low 16 (max tj (sgn 16 (s.reg devU Th.TJ_PEAK))) ∧
    (s.tjUpdate tj).reg devU Th.WARN = b2n (decide (sgn 16 (s.reg devU Th.TJ_WARN) ≤ tj)) ∧
    (s.tjUpdate tj).reg devU Th.ABOVE_RATE = b2n (decide (s.tjLimit < tj)) := by
  have hne (r : State) (f g : Field) (v : Nat) (hkey : regKey devU 0 g 0 ≠ regKey devU 0 f 0) : (r.set devU f v).reg devU g = r.reg devU g :=
    r.reg_set_ne devU f 0 v devU g 0 hkey
  unfold State.tjUpdate State.tjWarn
  refine ⟨?_, ?_, ?_, ?_⟩
  · rw [hne _ Th.ABOVE_RATE Th.TJ _ (by decide), hne _ Th.WARN Th.TJ _ (by decide), hne _ Th.TJ_PEAK Th.TJ _ (by decide), State.reg_set]
    exact Nat.mod_eq_of_lt (low_lt 16 tj)
  · rw [hne _ Th.ABOVE_RATE Th.TJ_PEAK _ (by decide), hne _ Th.WARN Th.TJ_PEAK _ (by decide), State.reg_set]
    exact Nat.mod_eq_of_lt (low_lt 16 _)
  · rw [hne _ Th.ABOVE_RATE Th.WARN _ (by decide), State.reg_set, hne _ Th.TJ_PEAK Th.TJ_WARN _ (by decide), hne _ Th.TJ Th.TJ_WARN _ (by decide)]
    exact b2n_mod_two _
  · rw [State.reg_set]
    exact b2n_mod_two _

/-- Settles O30: each row runs its operation, and each clause is what that operation finds. -/
theorem memoryUpkeepAndTemperature : Obligations.Memory_upkeep_and_temperature := by
  refine ⟨?_, fun s t tj ups hfrozen hreset => exec_tjUpdate_frozen s t tj ups hfrozen hreset⟩
  intro s t hlive a
  refine ⟨fun hhours => ?_, fun e hhours he => ?_, fun page rest hcopies hroom => ?_, fun osc => ?_, fun tj => ?_, fun tj ups => ?_⟩
  · rw [exec_scrubPass s t hlive, State.scrubPass_clean _ hhours]
  · rw [exec_scrubPass s t hlive, State.scrubPass_error _ e hhours he]
  · obtain ⟨low, empty, hmem⟩ := a.retireDone_memS page rest hcopies hroom
    exact ⟨_, exec_pageRetireDone s t hlive, by rw [hmem], by rw [hmem]⟩
  · exact exec_wckTracking s t osc ((State.isLive_iff _).1 hlive).1
  · exact ⟨_, exec_tjUpdate_live s t hlive tj [], a.tjUpdate_regs tj⟩
  · exact exec_tjUpdate_live s t hlive tj ups
end Sys2Proof.Machine
end

section
/-! Events of the security unit (R84, R107, R499, R509). -/
namespace Sys2Proof.Machine
open R

theorem exec_challengeLapse (s : State) (t : Nat) (h : (s.advance t).sys.inReset = false) :
    exec (.challengeLapse t) s = .next (s.ends t (s.advance t).challengeLapse) := congrArg _ (s.onHost_ends t _ (by simpa using h))
theorem exec_firmwareReady (s : State) (t : Nat) (h : (s.advance t).isLive = true) :
    exec (.firmwareReady t) s = .next (s.went t (s.advance t).firmwareReady) := congrArg _ (s.onCore_went t _ h)
theorem exec_longWorkEnd (s : State) (t op : Nat) (env : Option Nat) (h : (s.advance t).isLive = true) :
    exec (.longWorkEnd t op env) s = .next (s.went t ((s.advance t).longWorkEnd op env)) := congrArg _ (s.onCore_went t _ h)

section
variable (s : State) (nonce : List Nat) (issued : Nat) (h : s.sec.challenge = some (nonce, issued))
include h
theorem State.challengeLapse_late (hlate : issued + 960000000000 ≤ s.now) : s.challengeLapse = { s with sec := { s.sec with challenge := none } } := by
  simp only [State.challengeLapse, h, if_pos hlate]
theorem State.challengeLapse_early (hearly : s.now < issued + 960000000000) : s.challengeLapse = s := by
  simp only [State.challengeLapse, h, if_neg (Nat.not_le.2 hearly)]
end

/-- Firmware runs after the boot: the resets that waited for it are answered. -/
theorem State.firmwareReady_runs (s : State) (h : s.bootEnds.reg bar0 Cmd.SEQ_RUNNING = 1) : s.firmwareReady =
    (s.bootEnds.aborts.filter (·.boot)).foldl (fun (r : State) x => r.abortReply x) { s.bootEnds with aborts := s.bootEnds.aborts.filter (fun x => !x.boot) } :=
  if_neg (by rw [h]; decide)
theorem State.firmwareReady_none (s : State) (h : s.bootEnds.reg bar0 Cmd.SEQ_RUNNING = 0) : s.firmwareReady = s.bootEnds := if_pos h

/-- What the end of each sequencer-driven work does (R84). -/
theorem State.longWorkEnd_eq (s : State) (op : Nat) (env : Option Nat) (w : Work) (h : s.workOf op secU = some w) : s.longWorkEnd op env =
    if op = 0x81 then s.attestEnd w else if op = 0x8B then s.auditExportEnd w else if op = 0x8C then s.bundleExportEnd w
    else if op = 0x8D then s.bundleImportEnd w env else if op = 0x87 then s.fwUpdateEnd w env else s := by
  simp only [State.longWorkEnd, h]

/-- Settles O32: each row runs its operation, by the branches of it. -/
theorem securityEventsAct : Obligations.Security_events_act := by
  intro s t a
  refine ⟨fun x d hreset hstands hlate => ?_, fun x d hreset hstands hearly => ?_, fun hlive hruns => ?_, fun hlive hnone => ?_, fun w env hlive => ?_⟩
  · rw [exec_challengeLapse s t hreset, State.challengeLapse_late _ x d hstands hlate]
  · rw [exec_challengeLapse s t hreset, State.challengeLapse_early _ x d hstands hearly]
  · rw [exec_firmwareReady s t hlive, State.firmwareReady_runs _ hruns]
  · rw [exec_firmwareReady s t hlive, State.firmwareReady_none _ hnone]
  · have hend (op : Nat) (hw : a.workOf op secU = some w) := (exec_longWorkEnd s t op env hlive).trans (by rw [State.longWorkEnd_eq _ op env w hw])
    refine ⟨fun hw => ?_, fun hw => ?_, fun hw => ?_, fun hw => ?_, fun hw => ?_⟩
    · rw [hend 0x81 hw, if_pos rfl]
    · rw [hend 0x8B hw, if_neg (by decide), if_pos rfl]
    · rw [hend 0x8C hw, if_neg (by decide), if_neg (by decide), if_pos rfl]
    · rw [hend 0x8D hw, if_neg (by decide), if_neg (by decide), if_neg (by decide), if_pos rfl]
    · rw [hend 0x87 hw, if_neg (by decide), if_neg (by decide), if_neg (by decide), if_neg (by decide), if_pos rfl]
end Sys2Proof.Machine
end

section
/-! The sideband: SMBus and JTAG answer in every condition of the device (R518, R519, R549, R598 to R600). -/
namespace Sys2Proof.Machine
open R

theorem State.smbReset_goes (s : State) (v : Nat) (u : StartUp) (hv : v % 256 = 0xA5) (h : s.sys.inReset = false) : s.smbReset v u = s.deviceReset.poresetRise u := by
  simp [State.smbReset, hv, h]
theorem State.smbReset_other (s : State) (v : Nat) (u : StartUp) (hv : v % 256 ≠ 0xA5) : s.smbReset v u = s := by
  simp [State.smbReset, hv]
theorem State.jtagFreezeRead_open (s : State) (sel : Nat) (h : s.debugClosed 1 = false) : s.jtagFreezeRead sel =
    (s.jtag 0x30).shows ((List.range 1024).map (fun i => if s.readoutOk then s.bankWordAt (sel % 65536) (bits sel 23 16) i else 0)) :=
  if_neg (by rw [h]; decide)
theorem State.jtagFreezeRead_closed (s : State) (sel : Nat) (h : s.debugClosed 1 = true) : s.jtagFreezeRead sel = (s.jtag 0xFF).shows [] := if_pos h
theorem State.jtagScanState_open (s : State) (sel : Nat) (h : s.debugClosed 2 = false) (hu : uidOk (sel % 65536) = true) :
    s.jtagScanState sel = (s.jtag 0x31).shows (s.statusBlock (sel % 65536)) := by
  simp [State.jtagScanState, h, hu]
/-- A good signature over a scope opens it (R519). -/
theorem State.jtagUnlock_good (s r : State) (scope : Nat) (sig nonce : List Nat) (hscope : scope = 1 ∨ scope = 2) (h : s.ownerAuth 0 [scope] sig = (r, .inr nonce)) :
    s.jtagUnlock scope sig = r.debugOpen scope nonce true := by
  simp only [State.jtagUnlock, h, if_pos hscope]
theorem length_freshWords (d n : Nat) : (freshWords d n).length = n := by simp [freshWords]

/-- The rows that show what they read. -/
theorem exec_shows (s : State) (t : Nat) :
    exec (.smbStatus t) s = .next (s.ends t ((s.advance t).shows [(s.advance t).smbStatus])) ∧
    exec (.smbTemp t) s = .next (s.ends t ((s.advance t).shows [(s.advance t).reg devU Th.TJ])) ∧
    exec (.smbPower t) s = .next (s.ends t ((s.advance t).shows [(s.advance t).reg devU Pd.PD_STAT])) ∧
    exec (.smbVcore t) s = .next (s.ends t ((s.advance t).shows [(s.advance t).reg devU Th.VCORE_READ])) := ⟨rfl, rfl, rfl, rfl⟩
/-- The rows that show what the part fixes. -/
theorem exec_showsPart (s : State) (t : Nat) :
    exec (.smbIdentity t) s = .next (s.ends t ((s.advance t).shows (s.part.word :: s.part.serials))) ∧
    exec (.idcode t) s = .next (s.ends t (((s.advance t).jtag 1).shows [s.part.idcode])) := by
  constructor
  · rw [← s.advance_part t]
    rfl
  · rw [← s.advance_part t]
    rfl

/-- A boundary-scan instruction keeps the bits shifted in, and shows what no rule fixes (R598). -/
theorem State.bscan_eq (s : State) (ir x : Nat) : s.bscan ir x = { s with
    sys := { s.sys with jtagIr := ir, extest := ir == 0 || ir == 3 || ir == 4, bscan := x }, rdata := [Config.freeNat s.draw], draw := s.draw + 1 } := rfl
theorem exec_scans (s : State) (t x : Nat) :
    exec (.extest t x) s = .next (s.ends t ((s.advance t).bscan 0 x)) ∧ exec (.samplePreload t x) s = .next (s.ends t ((s.advance t).bscan 2 x)) ∧
    exec (.extestPulse t x) s = .next (s.ends t ((s.advance t).bscan 3 x)) ∧ exec (.extestTrain t x) s = .next (s.ends t ((s.advance t).bscan 4 x)) := ⟨rfl, rfl, rfl, rfl⟩
/-- CHALLENGE shifts out the serial number and a nonce, which is the challenge that stands (R518). -/
theorem State.jtagChallenge_issues (s : State) : s.jtagChallenge.rdata = s.part.serials ++ freshWords s.draw 16 ∧
    s.jtagChallenge.sec.challenge = some (wordBytes (freshWords s.draw 16), s.now) := ⟨rfl, rfl⟩

/-- Settles O33: every row acts on the state at its instant, whatever the condition of the device. -/
theorem sidebandAnswers : Obligations.Sideband_answers := by
  refine ⟨?_, ?_⟩
  · intro s t v u a
    obtain ⟨hstatus, htemp, hpower, hvcore⟩ := exec_shows s t
    have hreset : exec (.deviceReset t v u) s = .next (s.ends t (a.smbReset v u)) := rfl
    refine ⟨?_, htemp, hpower, (exec_showsPart s t).1, hvcore, fun hv hout => ?_, fun hv => ?_⟩
    · rw [hstatus]
      rfl
    · rw [hreset, a.smbReset_goes v u hv hout]
    · rw [hreset, a.smbReset_other v u hv]
  · intro s t x code a
    obtain ⟨hextest, hsample, hpulse, htrain⟩ := exec_scans s t x
    have hchallenge : exec (.challenge t) s = .next (s.ends t a.jtagChallenge) := rfl
    have hfreeze : exec (.freezeRead t x) s = .next (s.ends t (a.jtagFreezeRead x)) := rfl
    have hscan : exec (.scanState t x) s = .next (s.ends t (a.jtagScanState x)) := rfl
    refine ⟨(exec_showsPart s t).2, rfl, ⟨Config.freeNat a.draw, ?_, ?_, ?_, ?_⟩, ⟨_, freshWords a.draw 16, hchallenge, ?_, length_freshWords _ _, ?_⟩, fun hopen => ?_,
      fun hclosed => ?_, fun hopen hu => ?_, fun scope sig nonce r hscope hauth => ?_⟩
    · rw [hextest, State.bscan_eq]
      rfl
    · rw [hsample, State.bscan_eq]
      rfl
    · rw [hpulse, State.bscan_eq]
      rfl
    · rw [htrain, State.bscan_eq]
      rfl
    · exact a.jtagChallenge_issues.1.trans (by rw [Part.serials, s.advance_part t])
    · exact a.jtagChallenge_issues.2
    · rw [hfreeze, a.jtagFreezeRead_open x hopen]
      rfl
    · rw [hfreeze, a.jtagFreezeRead_closed x hclosed]
      rfl
    · rw [hscan, a.jtagScanState_open x hopen hu]
      rfl
    · have hrow : exec (.unlock t scope sig) s = .next (s.ends t ((a.jtag 0x21).jtagUnlock scope sig)) := rfl
      rw [hrow, (a.jtag 0x21).jtagUnlock_good r scope sig nonce hscope hauth]
end Sys2Proof.Machine
end

section
/-! The packets of the recipe store: RECIPE_LOAD and RECIPE_INFO (R431, R432). -/
namespace Sys2Proof.Machine
open R

/-- A slot that was written shows the record that was put. -/
theorem find?_putSlot_some (l : List (Nat × SlotRec)) (n : Nat) (z : SlotRec) : (putSlot l n (some z)).find? (fun p => p.1 == n) = some (n, z) := by
  induction l with
  | nil => simp [putSlot]
  | cons p l ih =>
    rw [putSlot]
    split
    · next hlow => rw [List.find?_cons_of_neg (by simpa using Nat.ne_of_lt hlow), ih]
    · split <;> simp
theorem State.slotRec_setSlot_same (s : State) (n : Nat) (z : SlotRec) : (s.setSlot n (some z)).slotRec n = some z :=
  congrArg (Option.map Prod.snd) (find?_putSlot_some s.slots n z)
@[simp] theorem State.audit_slotRec (s : State) (kind uid : Nat) (detail : List Nat) (n : Nat) : (s.audit kind uid detail).slotRec n = s.slotRec n := by
  simp [State.slotRec]

section
variable (s : State) (k : Pkt) (env : Option Nat) (hslot : k.p 3 < 1024) (hfree : s.slotInUse (k.p 3) = false)
include hslot hfree
/-- With CLEAR the slot is EMPTY afterwards. -/
theorem State.cmdRecipeLoad_clears (hclear : k.flag 8 = true) :
    ∃ r, s.cmdRecipeLoad k env = (r, St.OK, [0, 0]) ∧ r.slots = putSlot s.slots (k.p 3) none := by
  unfold State.cmdRecipeLoad
  simp only [hclear, hfree, Nat.not_le.2 hslot, if_false, if_true, Bool.not_true, Bool.false_and, Bool.false_eq_true]
  exact ⟨_, rfl, State.audit_slots ..⟩
/-- A sound record makes an EMPTY slot's record, with no use of it yet. -/
theorem State.cmdRecipeLoad_loads (y : Rec) (hload : k.flag 8 = false) (hbase : (k.p 1 * 2 ^ 32 + k.p 0) % 64 = 0) (hlen : k.p 2 % 64 = 0)
    (hfit : s.inDram (k.p 1 * 2 ^ 32 + k.p 0) (min 65536 (max 256 (k.p 2))) = true) (hread : s.readError (k.p 1 * 2 ^ 32 + k.p 0) (k.p 2) env = none)
    (hsound : s.recChecks (k.p 1 * 2 ^ 32 + k.p 0) (k.p 2) = .inr y) (hempty : s.slotRec (k.p 3) = none) :
    ∃ r, s.cmdRecipeLoad k env = (r, St.OK, [1, 0]) ∧ ∃ z, r.slotRec (k.p 3) = some z ∧ z.loaded = true ∧ z.length = k.p 2 ∧ z.level = y.level ∧
      z.digest = recDigest s.dram (k.p 1 * 2 ^ 32 + k.p 0) y ∧ z.uses = 0 := by
  unfold State.cmdRecipeLoad
  simp only [hload, hfree, hbase, hlen, hfit, hread, hsound, hempty, Nat.not_le.2 hslot, if_false, Bool.not_false, Bool.not_true, Bool.true_and, Bool.false_eq_true,
    bne_self_eq_false, b2n]
  exact ⟨_, rfl, _, (State.audit_slotRec ..).trans (State.slotRec_setSlot_same ..), rfl, rfl, rfl, rfl, rfl⟩
end

/-- Settles O41: RECIPE_LOAD by its flag, RECIPE_INFO by its one check. -/
theorem recipePacketsComplete : Obligations.Recipe_packets_complete := by
  intro s t urgent tag uid flags params env x b k
  have hrow (o : Op) (r : Answer) (htaken : (x o).taken s = true) (h1 : o ≠ .abort) (h2 : o ≠ .resetUnit) (hr : (b o).runOp o (k o) env = r) :=
    (x o).exec_answered s r htaken rfl h1 h2 hr
  refine ⟨?_, fun htaken hslot => hrow .recipeInfo _ htaken nofun nofun (if_neg (Nat.not_le.2 hslot))⟩
  intro htaken a q base hslot hfree
  refine ⟨fun hclear => ?_, fun y hload hbase hlen hfit hread hsound hempty => ?_⟩
  · obtain ⟨r, hr, hslots⟩ := a.cmdRecipeLoad_clears q env hslot hfree hclear
    exact ⟨r, hrow .recipeLoad _ htaken nofun nofun hr, hslots⟩
  · obtain ⟨r, hr, hrec⟩ := a.cmdRecipeLoad_loads q env hslot hfree y hload hbase hlen hfit hread hsound hempty
    exact ⟨r, hrow .recipeLoad _ htaken nofun nofun hr, hrec⟩
end Sys2Proof.Machine
end

section
/-! The packets of jobs: JOB_STAGE, JOB_UNSTAGE, JOB_START and JOB_END (R438, R439, R443, R447, R448). -/
namespace Sys2Proof.Machine
open R

section
variable (s : State) (k : Pkt)
theorem State.cmdJobStage_passes (hslot : k.p 0 < 1024) (hbank : s.noStageBank = false) (hidle : s.jobState = 0) (hgood : s.stageRefuse (k.p 0) = none) :
    s.cmdJobStage k = (s.stageBegin k (k.p 0), St.OK, []) := by
  unfold State.cmdJobStage
  rw [State.unless_passes]
  simp [hslot, hbank, hidle, hgood]
theorem State.cmdJobUnstage_withdraws (hstaged : s.jobState = 1 ∨ s.jobState = 2) :
    s.cmdJobUnstage k = ((s.stagingEnds St.ABORTED [k.seq]).stageWithdraw, St.OK, [s.reg devU Job.STAGED_SLOT]) := by
  unfold State.cmdJobUnstage
  rw [if_neg (by omega), if_neg (by omega)]
theorem State.cmdJobUnstage_empty (hempty : s.jobState = 0) : s.cmdJobUnstage k = (s, St.OK, [0xFFFFFFFF]) := by
  unfold State.cmdJobUnstage
  rw [if_neg (by omega), if_pos hempty]
theorem State.cmdJobEnd_passes (hrun : s.reg devU Job.ACTIVE_VALID = 1) (hend : s.reg devU Job.END_PENDING = 0) (hdrain : s.jobState ≠ 4) :
    let w := (if s.jobState = 3 then (s.startEnds St.ABORTED).set devU Job.JOB_STATE 2 else s).workStart k devU []
    let c : State := { w with job := { w.job with endTick := some w.now, at_ := if k.flag 8 then some w.now else w.job.at_ } }
    s.cmdJobEnd k = (c.set devU Job.END_PENDING (if k.flag 8 then 0 else 1), St.OK, []) := by
  intro w c
  have hvalid : ¬ s.reg devU Job.ACTIVE_VALID = 0 := by omega
  have hfree : ¬ (s.reg devU Job.END_PENDING = 1 ∨ s.jobState = 4) := by omega
  rw [State.cmdJobEnd, if_neg hvalid, if_neg hfree]

section
variable (hresv : bits (k.p 0) 15 10 = 0) (hhigh : k.p 0 / 2 ^ 24 = 0)
  (hmargin : if k.flag 9 then 1 ≤ bits (k.p 0) 23 16 ∧ s.role = 1 else bits (k.p 0) 23 16 = 0) (hend : s.reg devU Job.END_PENDING = 0)
include hresv hhigh hmargin hend
/-- A start of what is staged pends. -/
theorem State.cmdJobStart_pends (hload : k.flag 8 = false) (hstaged : s.jobState = 2) (hslot : s.reg devU Job.STAGED_SLOT = k.p 0 % 1024)
    (hports : s.startRefuse (s.scopePorts s.job.scope) = none) (hidle : s.scopeBusy s.job.scope = false) (habort : s.job.scope.any s.aborting = false) :
    s.cmdJobStart k = ((s.workStart k devU []).startGo (k.p 0 % 1024) (k.p 0) (k.p 1) (k.flag 9), St.OK, []) := by
  unfold State.cmdJobStart
  extract_lets slot load rope st margin resv us
  have hus : us = s.job.scope := if_neg (ne_true_of_eq_false hload)
  rw [State.unless_passes]
  · exact if_neg (ne_true_of_eq_false hload)
  · cases hrope : k.flag 9 <;> simp_all [slot, load, rope, st, margin, resv]
/-- With LOAD_NOW the slot named is staged first, in place of what is staged. -/
theorem State.cmdJobStart_loads (hload : k.flag 8 = true) (hbank : s.noStageBank = false) (hstate : s.jobState = 0 ∨ s.jobState = 2)
    (hports : s.startRefuse (s.scopePorts (s.slotScope (k.p 0 % 1024))) = none) (hidle : s.scopeBusy (s.slotScope (k.p 0 % 1024)) = false)
    (habort : (s.slotScope (k.p 0 % 1024)).any s.aborting = false) :
    s.cmdJobStart k = ((if s.jobState = 2 then s.stageWithdraw else s).stageBegin k (k.p 0 % 1024), St.OK, []) := by
  unfold State.cmdJobStart
  extract_lets slot load rope st margin resv us
  have hus : us = s.slotScope (k.p 0 % 1024) := if_pos hload
  rw [State.unless_passes]
  · exact if_pos hload
  · rcases hstate with hstate | hstate <;> cases hrope : k.flag 9 <;> simp_all [slot, load, rope, st, margin, resv]
end
end

/-- Settles O42: each packet passes its checks. -/
theorem jobPacketsComplete : Obligations.Job_packets_complete := by
  intro s t urgent tag uid flags params env x b k
  have hrow (o : Op) (r : Answer) (htaken : (x o).taken s = true) (h1 : o ≠ .abort) (h2 : o ≠ .resetUnit) (hr : (b o).runOp o (k o) env = r) :=
    (x o).exec_answered s r htaken rfl h1 h2 hr
  refine ⟨?_, fun htaken hstaged => ?_, fun htaken hempty => ?_, ?_, ?_⟩
  · intro htaken a hslot hbank hidle hgood
    exact hrow .jobStage _ htaken nofun nofun (a.cmdJobStage_passes _ hslot hbank hidle hgood)
  · exact hrow .jobUnstage _ htaken nofun nofun ((b .jobUnstage).cmdJobUnstage_withdraws _ hstaged)
  · exact hrow .jobUnstage _ htaken nofun nofun ((b .jobUnstage).cmdJobUnstage_empty _ hempty)
  · intro htaken a q hresv hhigh hmargin hend
    refine ⟨fun hload hstaged hslot hports hidle habort => ?_, fun hload hbank hstate hports hidle habort => ?_⟩
    · exact hrow .jobStart _ htaken nofun nofun (a.cmdJobStart_pends q hresv hhigh hmargin hend hload hstaged hslot hports hidle habort)
    · exact hrow .jobStart _ htaken nofun nofun (a.cmdJobStart_loads q hresv hhigh hmargin hend hload hbank hstate hports hidle habort)
  · intro htaken a hrun hend hdrain w c
    exact hrow .jobEnd _ htaken nofun nofun (a.cmdJobEnd_passes _ hrun hend hdrain)
end Sys2Proof.Machine
end

section
/-! The packets of certificates, reports, bundles and images (R502 to R506, R517, R521, R522). -/
namespace Sys2Proof.Machine
open R

/-- The certificate chain fits its buffer. -/
theorem length_certChain_le : certChain.length ≤ 8192 := by
  have hmod : ((Config.secretByte 0 0).toNat * 256 + (Config.secretByte 0 1).toNat) % 8189 < 8189 := Nat.mod_lt _ (by decide)
  have hword (n : Nat) : (leBytes 4 n).length = 4 := rfl
  simp only [certChain, secretBytes, List.length_append, List.length_map, List.length_range, hword]
  omega

section
variable (s : State) (k : Pkt)
theorem State.cmdIdCert_passes (halign : k.addr 0 % 64 = 0) (hroom : 8192 ≤ k.p 2) :
    s.cmdIdCert k = ({ s with host := Machine.Mem.write s.host (k.addr 0) certChain }, St.OK, [certChain.length]) := by
  unfold State.cmdIdCert
  rw [State.unless_passes]
  · rfl
  · simp [State.hostBuf, halign, hroom]
theorem State.cmdAttest_passes (halign : k.addr 16 % 64 = 0) :
    s.cmdAttest k = (s.workStart k secU (s.attestBody (paramBytes k.params 0 64)), St.OK, []) := by
  unfold State.cmdAttest
  rw [State.hostBuf, (badParam_eq_none_iff _ _).2 (by simpa using halign)]
  rfl
theorem State.cmdAuditExport_passes (hold : s.auditOldest ≤ k.p 0) (hnext : k.p 0 < s.reg secU Sec.AUDIT_SEQ) (hone : 1 ≤ k.p 1) (hmany : k.p 1 ≤ 4096)
    (halign : k.addr 18 % 64 = 0) (hroom : 128 * k.p 1 + 512 ≤ k.p 20) :
    let last := min (k.p 0 + k.p 1 - 1) (s.reg secU Sec.AUDIT_SEQ - 1)
    s.cmdAuditExport k = (s.workStart k secU (last :: s.auditTake (k.p 0) last), St.OK, []) := by
  unfold State.cmdAuditExport
  rw [State.unless_passes]
  simp [State.hostBuf, hold, hnext, hone, hmany, halign, hroom]
theorem State.cmdBundleExport_passes (halign : k.addr 4 % 64 = 0) (hroom : 131072 ≤ k.p 6) :
    s.cmdBundleExport k = (s.workStart k secU (s.bundleBody (paramBytes k.params 0 16)), St.OK, []) := by
  unfold State.cmdBundleExport
  rw [State.unless_passes]
  simp [State.hostBuf, halign, hroom]
theorem State.cmdBundleImport_passes (halign : k.addr 0 % 64 = 0) (hfit : s.inDram (k.addr 0) (k.p 2) = true) (hlen : k.p 2 ≤ 131072) :
    s.cmdBundleImport k = (s.workStart k secU [], St.OK, []) := by
  unfold State.cmdBundleImport
  rw [State.unless_passes]
  simp [halign, hfit, hlen]
theorem State.cmdFwUpdate_passes (halign : k.addr 0 % 64 = 0) (hfit : s.inDram (k.addr 0) 0x308 = true) : s.cmdFwUpdate k = (s.workStart k secU [], St.OK, []) := by
  unfold State.cmdFwUpdate
  rw [State.unless_passes]
  simp [halign, hfit]
end

/-- Settles O45: each packet passes its checks, and a write of at most 8,192 bytes leaves what lies outside them. -/
theorem trustPacketsComplete : Obligations.Trust_packets_complete := by
  intro s t urgent tag uid flags params env x b k
  have hrow (o : Op) (r : Answer) (htaken : (x o).taken s = true) (h1 : o ≠ .abort) (h2 : o ≠ .resetUnit) (hr : (b o).runOp o (k o) env = r) :=
    (x o).exec_answered s r htaken rfl h1 h2 hr
  refine ⟨fun htaken halign hroom => ⟨?_, fun y hout => ?_⟩, fun htaken halign => ?_, ?_, fun htaken halign hroom => ?_, fun htaken halign hfit hlen => ?_, fun htaken halign hfit => ?_⟩
  · exact hrow .idCert _ htaken nofun nofun ((b .idCert).cmdIdCert_passes _ halign hroom)
  · have hlen := length_certChain_le
    exact Mem.get_write_outside _ _ _ _ (by omega)
  · exact hrow .attest _ htaken nofun nofun ((b .attest).cmdAttest_passes _ halign)
  · intro htaken a first n next hold hnext hone hmany halign hroom
    exact hrow .auditExport _ htaken nofun nofun (a.cmdAuditExport_passes _ hold hnext hone hmany halign hroom)
  · exact hrow .bundleExport _ htaken nofun nofun ((b .bundleExport).cmdBundleExport_passes _ halign hroom)
  · exact hrow .bundleImport _ htaken nofun nofun ((b .bundleImport).cmdBundleImport_passes _ halign hfit hlen)
  · exact hrow .fwUpdate _ htaken nofun nofun ((b .fwUpdate).cmdFwUpdate_passes _ halign hfit)
end Sys2Proof.Machine
end

section
/-! The packets of the device as a whole: ROPE_MARK, MEM_RETIRE, SPARE_LEDGER, LOG_READ and POWER_SET (R98, R468, R481, R490, R527). -/
namespace Sys2Proof.Machine
open R

section
variable (s : State) (k : Pkt)
theorem State.cmdRopeMark_passes (hdst : k.p 0 < 2 ^ 18) (hrole : s.role ≠ 0) (hjoined : s.reg ropeU Rope.UP_STATE = 2)
    (hroom : ∀ p, p < 5 → ((s.pitch p).wait.filter (fun m => m.typ == 5)).length < 16) :
    s.cmdRopeMark k = (s.ropeFlood { typ := 5, up := false, src := s.node, dst := k.p 0, pay := [k.p 1, lo32 s.rope, hi32 s.rope] } 5 true true, St.OK, []) := by
  have hfull : [0, 1, 2, 3, 4].any (fun p => decide (16 ≤ ((s.pitch p).wait.filter (fun m => m.typ == 5)).length)) = false := by
    rw [List.any_eq_false]
    intro p hp
    have hlt : p < 5 := by revert p; decide
    simpa using hroom p hlt
  unfold State.cmdRopeMark
  rw [State.unless_passes]
  rw [hfull]
  simpa [hrole, hjoined] using hdst
/-- With no copy waiting, a page is retired at once, at the next page of the reserve. -/
theorem State.cmdMemRetire_retires (a : Nat) (hfit : s.inDram a 1 = true) (hlow : a < s.reserveBase * 2 ^ 20) (hnew : s.pageRetired (a / 4096) = false)
    (hcopies : s.memS.copies = []) (hroom : s.reserveUsed < s.reservePages) :
    ∃ r, s.cmdMemRetire a false = (r, St.OK, [r.reserveUsed]) ∧ r.memS.retired = s.memS.retired ++ [(a / 4096, s.reserveBase * 256 + s.reserveUsed)] := by
  have hgood : (!s.inDram a 1 || decide (s.reserveBase * 2 ^ 20 ≤ a) || s.pageRetired (a / 4096) || s.memS.copies.contains (a / 4096)) = false := by
    simpa [hfit, hnew, hcopies] using hlow
  have hfree : ¬ s.reservePages ≤ s.reserveUsed + s.memS.copies.length := by simpa [hcopies] using hroom
  unfold State.cmdMemRetire
  rw [if_neg Bool.false_ne_true, hgood, if_neg Bool.false_ne_true, if_neg hfree, hcopies]
  refine ⟨_, rfl, ?_⟩
  obtain ⟨low, empty, h⟩ := ({ s with memS := { s.memS with copies := [a / 4096] } } : State).retireDone_memS (a / 4096) [] rfl hroom
  exact congrArg MemSt.retired h
theorem State.cmdRetire_of_page (hflag : k.flag 8 = false) : s.cmdRetire k = s.cmdMemRetire (k.addr 0) false := by
  unfold State.cmdRetire
  rw [hflag]
  exact if_neg Bool.false_ne_true
/-- Flag 8 marks the table to be cleared, and is audited. -/
theorem State.cmdRetire_clears (hflag : k.flag 8 = true) : ∃ r, s.cmdRetire k = (r, St.OK, [s.reserveUsed]) ∧ r.memS.clear = true := by
  unfold State.cmdRetire
  rw [hflag]
  exact ⟨_, rfl, congrArg MemSt.clear (State.audit_memS ..)⟩
theorem State.cmdLogRead_passes (hone : 1 ≤ k.p 1) (hmany : k.p 1 ≤ 126) :
    let es := (s.evt.log.drop (k.p 0)).take (k.p 1)
    s.cmdLogRead k = (s, St.OK, es.length :: es.flatMap eventWords) := by
  unfold State.cmdLogRead
  rw [(badParam_eq_none_iff _ _).2 (by simpa using ⟨hone, hmany⟩)]
  rfl
/-- POWER_SET where nothing refuses it: the domains named go off from the highest down, and on from the lowest up. -/
theorem State.cmdPowerSet_passes (hon : k.p 0 < 2 ^ 24) (hoff : k.p 1 < 2 ^ 24) (hdisjoint : (k.p 0 &&& k.p 1) = 0) (hpairOn : tbit (k.p 0) 14 = tbit (k.p 0) 15)
    (hpairOff : tbit (k.p 1) 14 = tbit (k.p 1) 15) (hfixed : ∀ d, d < 24 → tbit (k.p 0) d = true ∨ tbit (k.p 1) d = true → d ≠ 0 ∧ d ≠ 13 ∧ d ≠ 16 ∧ d ≠ 17)
    (hpart : s.part.part = 0x8140 → ∀ d, 5 ≤ d → d ≤ 8 → tbit (k.p 0) d = false)
    (hdep : powerDep ((List.range 24).foldl (fun (m : Nat) d => m + b2n ((tbit (s.reg devU Pd.PD_STAT) d || tbit (k.p 0) d) && !tbit (k.p 1) d) * 2 ^ d) 0) (k.p 0) = none)
    (hidle : ∀ d, d ∈ maskBits (k.p 1) → tbit (s.reg devU Pd.PD_STAT) d = true → s.mayGoOff d = true) :
    let ups := (maskBits (k.p 0)).filter (fun d => !tbit (s.reg devU Pd.PD_STAT) d)
    let c := ups.foldl (fun (r : State) d => r.powerOn d)
      (((maskBits (k.p 1)).filter (fun d => tbit (s.reg devU Pd.PD_STAT) d)).reverse.foldl (fun (r : State) d => r.powerOff d) (s.workStart k devU ups))
    let e := if k.flag 8 then c.set devU Pd.PD_BOOT (c.reg devU Pd.PD_STAT) else c
    s.cmdPowerSet k = (e.raise Ev.POWER_CHANGE devU (e.reg devU Pd.PD_STAT), St.OK, []) := by
  intro ups c e
  unfold State.cmdPowerSet
  extract_lets on off stat next fixed
  have hmovable : fixed = none := by
    unfold fixed
    rw [List.find?_eq_none]
    intro d hd hbad
    have hlt : d < 24 := List.mem_range.1 hd
    simp only [Bool.or_eq_true, Bool.and_eq_true, beq_iff_eq, decide_eq_true_eq, List.contains_cons, List.contains_nil, Bool.or_false] at hbad
    obtain ⟨hnamed, hkept⟩ | ⟨⟨⟨hsmall, hset⟩, hge⟩, hle⟩ := hbad
    · have := hfixed d hlt hnamed
      omega
    · exact Bool.false_ne_true ((hpart hsmall d hge hle).symm.trans hset)
  have hstay : (maskBits off).find? (fun d => tbit stat d && !s.mayGoOff d) = none := by
    rw [List.find?_eq_none]
    intro d hd hbad
    rw [Bool.and_eq_true, Bool.not_eq_true'] at hbad
    exact Bool.false_ne_true (hbad.2.symm.trans (hidle d hd hbad.1))
  have hnext : powerDep next on = none := hdep
  rw [State.unless_passes]
  simpa [on, off, hdisjoint, hpairOn, hpairOff, hmovable, hstay, hnext] using ⟨hon, hoff⟩
end

/-- Settles O43: each packet passes its checks; MEM_RETIRE by its flag. -/
theorem devicePacketsComplete : Obligations.Device_packets_complete := by
  intro s t urgent tag uid flags params env x b k
  have hrow (o : Op) (r : Answer) (htaken : (x o).taken s = true) (h1 : o ≠ .abort) (h2 : o ≠ .resetUnit) (hr : (b o).runOp o (k o) env = r) :=
    (x o).exec_answered s r htaken rfl h1 h2 hr
  refine ⟨?_, ?_, fun htaken => ?_, fun htaken hone hmany => ?_, ?_⟩
  · intro htaken a hdst hrole hjoined hroom
    exact hrow .ropeMark _ htaken nofun nofun (a.cmdRopeMark_passes _ hdst hrole hjoined hroom)
  · intro htaken a base
    refine ⟨fun hflag hfit hlow hnew hcopies hroom => ?_, fun hflag => ?_⟩
    · obtain ⟨r, hr, hretired⟩ := a.cmdMemRetire_retires base hfit hlow hnew hcopies hroom
      exact ⟨r, hrow .memRetire _ htaken nofun nofun ((a.cmdRetire_of_page _ hflag).trans hr), hretired⟩
    · obtain ⟨r, hr, hclear⟩ := a.cmdRetire_clears _ hflag
      exact ⟨r, hrow .memRetire _ htaken nofun nofun hr, hclear⟩
  · exact hrow .spareLedger _ htaken nofun nofun rfl
  · exact hrow .logRead _ htaken nofun nofun ((b .logRead).cmdLogRead_passes _ hone hmany)
  · intro htaken a on off stat next hon hoff hdisjoint hpairOn hpairOff hfixed hpart hdep hidle
    exact hrow .powerSet _ htaken nofun nofun (a.cmdPowerSet_passes _ hon hoff hdisjoint hpairOn hpairOff hfixed hpart hdep hidle)
end Sys2Proof.Machine
end

section
/-! The registers below those of BAR0 that events and audit entries leave alone (R94 to R100, R514 to R516). -/
namespace Sys2Proof.Machine
open R

theorem le_regKey_of_bar0 (u : Nat) (f : Field) (i : Nat) (h : bar0 ≤ u) : 2 ^ 40 ≤ regKey u 0 f i := by
  unfold regKey bar0 at *
  omega
section
variable (s : State) (u : Nat) (f : Field) (i : Nat) (h : regKey u 0 f i < 2 ^ 40)
include h
theorem State.reg_set_above (u' : Nat) (f' : Field) (v i' : Nat) (hu : bar0 ≤ u') : (s.set u' f' v i').reg u f i = s.reg u f i :=
  s.reg_set_ne _ _ _ _ _ _ _ (Nat.ne_of_lt (Nat.lt_of_lt_of_le h (le_regKey_of_bar0 u' f' i' hu)))
theorem State.evtWrite_reg (e : Event) : (s.evtWrite e).reg u f i = s.reg u f i := by
  unfold State.evtWrite
  extract_lets wr ph base w0 r q
  have hq : q.reg u f i = s.reg u f i := r.reg_set_above u f i h _ _ _ _ (Nat.le_refl _)
  split
  · exact (q.reg_set_above u f i h _ _ _ _ (Nat.le_refl _)).trans hq
  · exact hq
theorem State.irq_reg (src : Nat) : (s.irq src).reg u f i = s.reg u f i := by
  unfold State.irq State.msixSend
  split
  · rfl
  split
  · rfl
  split
  · exact s.reg_set_above u f i h _ _ _ _ (by decide)
  split <;> rfl
theorem State.raise_reg (src uid detail : Nat) : (s.raise src uid detail).reg u f i = s.reg u f i := by
  unfold State.raise
  extract_lets e ringEn r q
  have hq : q.reg u f i = r.reg u f i := by
    unfold q
    split
    · rfl
    split
    · exact r.evtWrite_reg u f i h e
    · exact r.reg_set_above u f i h _ _ _ _ (Nat.le_refl _)
  split
  · rfl
  · exact (q.irq_reg u f i h src).trans hq
/-- An audit entry moves three registers of the security unit, and those of the events that it raises. -/
theorem State.audit_reg (kind uid : Nat) (detail : List Nat) (hseq : regKey u 0 f i ≠ regKey secU 0 Sec.AUDIT_SEQ 0)
    (hover : regKey u 0 f i ≠ regKey secU 0 Sec.AUDIT_OVERWRITTEN 0) (hout : regKey u 0 f i ≠ regKey secU 0 Sec.AUDIT_UNEXPORTED 0) :
    (s.audit kind uid detail).reg u f i = s.reg u f i := by
  unfold State.audit
  extract_lets seq d e full old lost first gone x s2 s3 s4 s5 s6 y
  have h3 : s3.reg u f i = s.reg u f i := s2.reg_set_ne _ _ _ _ _ _ _ hseq
  have h4 : s4.reg u f i = s3.reg u f i := by
    unfold s4
    split
    · exact s3.reg_set_ne _ _ _ _ _ _ _ hover
    · rfl
  have h5 : s5.reg u f i = s4.reg u f i := by
    unfold s5
    split
    · exact s4.raise_reg u f i h ..
    · rfl
  have h6 : s6.reg u f i = s5.reg u f i := s5.reg_set_ne _ _ _ _ _ _ _ hout
  split
  · rw [State.raise_reg _ u f i h]
    exact ((h6.trans h5).trans h4).trans h3
  · exact ((h6.trans h5).trans h4).trans h3
end
theorem State.audit_counter (s : State) (kind uid : Nat) (detail : List Nat) : (s.audit kind uid detail).reg secU Sec.COUNTER = s.reg secU Sec.COUNTER :=
  s.audit_reg _ _ _ (by decide) _ _ _ (by decide) (by decide) (by decide)
end Sys2Proof.Machine
end

section
/-! The packets of the owner: policy, keys, challenges, firmware trials and the debug lock (R496, R503, R509 to R511, R519). -/
namespace Sys2Proof.Machine
open R

theorem State.signed_unsigned (s : State) (k : Pkt) (must : Bool) (go : State → List Nat → Answer) (h : must = false) : s.signed k must go = go s [] := by
  rw [State.signed, h]
  rfl
/-- A good owner signature behind n parameters: the command is carried out, with the challenge consumed. -/
theorem State.signed_good (s : State) (k : Pkt) (must : Bool) (go : State → List Nat → Answer) (n : Nat) (r : State) (nonce : List Nat) (h : must = true)
    (hlen : k.params.length = n + 33) (hauth : s.ownerAuth k.op (k.params.take n) (paramBytes k.params n 132) = (r, .inr nonce)) : s.signed k must go = go r nonce := by
  have hn : k.params.length - 33 = n := by omega
  simp only [State.signed, h, hn, hauth, Bool.not_true, Bool.false_eq_true, if_false]
@[simp] theorem State.audit_ownerHash (s : State) (kind uid : Nat) (detail : List Nat) : (s.audit kind uid detail).sec.ownerHash = s.sec.ownerHash := by
  obtain ⟨_, _, _, _, h⟩ := s.audit_sec kind uid detail
  rw [h]
@[simp] theorem State.audit_scope (s : State) (kind uid : Nat) (detail : List Nat) : (s.audit kind uid detail).sec.scope = s.sec.scope := by
  obtain ⟨_, _, _, _, h⟩ := s.audit_sec kind uid detail
  rw [h]
@[simp] theorem State.audit_bootSlot (s : State) (kind uid : Nat) (detail : List Nat) : (s.audit kind uid detail).sec.bootSlot = s.sec.bootSlot := by
  obtain ⟨_, _, _, _, h⟩ := s.audit_sec kind uid detail
  rw [h]
@[simp] theorem State.audit_bootTrial (s : State) (kind uid : Nat) (detail : List Nat) : (s.audit kind uid detail).sec.bootTrial = s.sec.bootTrial := by
  obtain ⟨_, _, _, _, h⟩ := s.audit_sec kind uid detail
  rw [h]

/-! ### What each command does once its signature is not asked for or good -/

/-- The policy is set, and audited with the one before. -/
def State.policySet (s : State) (v : Nat) : State := (s.set secU Sec.POLICY v).audit 3 secU (leBytes 4 (s.reg secU Sec.POLICY) ++ leBytes 4 v)

section
variable (s : State) (k : Pkt) (r : State) (nonce : List Nat)
theorem State.cmdPolicySet_of_signed (hsigned : ∀ go, s.signed k s.locked go = go r nonce) (howner : tbit (k.p 0) 31 = true → r.sec.ownerHash ≠ [])
    (hbits : k.p 0 % 2 ^ 31 < 4) : s.cmdPolicySet k = (r.policySet (k.p 0), St.OK, [k.p 0]) := by
  unfold State.cmdPolicySet
  rw [hsigned, State.unless_passes]
  · rfl
  · have hfused : (!(tbit (k.p 0) 31 && r.sec.ownerHash == [])) = true := by
      cases hlock : tbit (k.p 0) 31
      · rfl
      · simpa using howner hlock
    intro c hc
    simp only [List.mem_cons, List.not_mem_nil, or_false] at hc
    obtain rfl | rfl := hc
    · exact (need_eq_none_iff _ _ _).2 hfused
    · exact (badParam_eq_none_iff _ _).2 (decide_eq_true hbits)
theorem State.cmdKeyInstall_of_signed (hsigned : ∀ go, s.signed k s.locked go = go r nonce) (hslot : k.p 0 < 4) (hkey : keyOk ((paramBytes k.params 1 136).take 133) = true)
    (hpad : ((paramBytes k.params 1 136).drop 133).all (· == 0) = true) : s.cmdKeyInstall k = r.keyChange (k.p 0) ((paramBytes k.params 1 136).take 133) false := by
  unfold State.cmdKeyInstall
  rw [hsigned, State.unless_passes]
  intro c hc
  simp only [List.mem_cons, List.not_mem_nil, or_false] at hc
  obtain rfl | rfl | rfl := hc
  · exact (badParam_eq_none_iff _ _).2 (decide_eq_true hslot)
  · exact (badParam_eq_none_iff _ _).2 hkey
  · exact (badParam_eq_none_iff _ _).2 hpad
theorem State.cmdKeyRevoke_of_signed (hsigned : ∀ go, s.signed k s.locked go = go r nonce) (hslot : k.p 0 < 4) :
    s.cmdKeyRevoke k = r.keyChange (k.p 0) [] true := by
  unfold State.cmdKeyRevoke
  rw [hsigned, (badParam_eq_none_iff _ _).2 (decide_eq_true hslot)]
  rfl
theorem State.cmdDebugUnlock_of_signed (hsigned : ∀ go, s.signed k true go = go r nonce) (hscope : k.p 0 = 1 ∨ k.p 0 = 2) :
    s.cmdDebugUnlock k = (r.debugOpen (k.p 0) nonce false, St.OK, [k.p 0]) := by
  unfold State.cmdDebugUnlock
  rw [hsigned, (badParam_eq_none_iff _ _).2 (by simpa using hscope)]
  rfl
end

section
variable (s : State) (k : Pkt)
/-- The key that the running image carries is fused once. -/
theorem State.cmdOwnerFuse_fuses (hunfused : s.sec.ownerHash = []) (hkey : keyOk ((paramBytes k.params 0 136).take 133) = true)
    (hcarried : (paramBytes k.params 0 136).take 133 = s.sec.ownerPub) (hpad : ((paramBytes k.params 0 136).drop 133).all (· == 0) = true) (hword : k.p 34 = 0x4F574E52) :
    ∃ r, s.cmdOwnerFuse k = (r, St.OK, [0]) ∧ r.sec.ownerHash = sha512 ((paramBytes k.params 0 136).take 133) := by
  unfold State.cmdOwnerFuse
  rw [State.unless_passes]
  · exact ⟨_, rfl, State.audit_ownerHash ..⟩
  intro c hc
  simp only [List.mem_cons, List.not_mem_nil, or_false] at hc
  obtain rfl | rfl | rfl | rfl := hc
  · exact (need_eq_none_iff _ _ _).2 (by simp [hunfused])
  · exact (badParam_eq_none_iff _ _).2 (by rw [hkey, beq_iff_eq.2 hcarried]; rfl)
  · exact (badParam_eq_none_iff _ _).2 hpad
  · exact (badParam_eq_none_iff _ _).2 (beq_iff_eq.2 hword)
theorem State.cmdFwAccept_settled (h : s.reg secU Sec.TRIAL = 0) : s.cmdFwAccept = (s, St.OK, [s.reg secU Sec.COUNTER]) := if_pos h
/-- A trial ends: the image that runs is the one to boot. -/
theorem State.cmdFwAccept_trial (h : s.reg secU Sec.TRIAL ≠ 0) :
    ∃ r, s.cmdFwAccept = (r, St.OK, [r.reg secU Sec.COUNTER]) ∧ r.sec.bootSlot = s.reg secU Sec.BOOT_SLOT ∧ r.sec.bootTrial = false := by
  unfold State.cmdFwAccept
  rw [if_neg h]
  extract_lets svn sec begun done digest
  rw [← done.audit_counter 5 secU (leBytes 4 (done.reg bar0 Id.FW_VERSION) ++ leBytes 4 svn ++ digest)]
  exact ⟨_, rfl, State.audit_bootSlot .., State.audit_bootTrial ..⟩
end

/-- Settles O44: a command that needs no signature or has a good one passes its checks; the others by their one or two cases. -/
theorem ownerPacketsComplete : Obligations.Owner_packets_complete := by
  intro s t urgent tag uid flags params env x b k
  have hrow (o : Op) (r : Answer) (htaken : (x o).taken s = true) (h1 : o ≠ .abort) (h2 : o ≠ .resetUnit) (hr : (b o).runOp o (k o) env = r) :=
    (x o).exec_answered s r htaken rfl h1 h2 hr
  have hopen (o : Op) (h : (b o).locked = false) (go : State → List Nat → Answer) : (b o).signed (k o) (b o).locked go = go (b o) [] :=
    (b o).signed_unsigned _ _ go h
  refine ⟨?_, fun htaken r nonce hlocked hauth howner hbits hlen => ?_, ?_, ?_, fun htaken hlocked hslot => ?_, fun htaken r nonce hlocked hlen hslot hauth => ?_, ?_,
    fun htaken => ?_, ?_, fun htaken r nonce hlen hscope hauth => ?_, fun htaken => ?_⟩
  · intro htaken a v hlocked howner hbits
    exact ⟨_, hrow .policySet _ htaken nofun nofun (a.cmdPolicySet_of_signed _ _ _ (hopen _ hlocked) howner hbits), rfl⟩
  · exact hrow .policySet _ htaken nofun nofun
      ((b .policySet).cmdPolicySet_of_signed _ r nonce (fun go => (b .policySet).signed_good _ _ go 1 r nonce hlocked hlen hauth) howner hbits)
  · intro htaken a key hlocked hslot hkey hpad
    exact hrow .keyInstall _ htaken nofun nofun (a.cmdKeyInstall_of_signed _ _ _ (hopen _ hlocked) hslot hkey hpad)
  · intro htaken key r nonce hlocked hlen hauth hslot hkey hpad
    exact hrow .keyInstall _ htaken nofun nofun
      ((b .keyInstall).cmdKeyInstall_of_signed _ r nonce (fun go => (b .keyInstall).signed_good _ _ go 35 r nonce hlocked hlen hauth) hslot hkey hpad)
  · exact hrow .keyRevoke _ htaken nofun nofun ((b .keyRevoke).cmdKeyRevoke_of_signed _ _ _ (hopen _ hlocked) hslot)
  · exact hrow .keyRevoke _ htaken nofun nofun
      ((b .keyRevoke).cmdKeyRevoke_of_signed _ r nonce (fun go => (b .keyRevoke).signed_good _ _ go 1 r nonce hlocked hlen hauth) hslot)
  · intro htaken a key hunfused hkey hcarried hpad hword
    obtain ⟨r, hr, hhash⟩ := a.cmdOwnerFuse_fuses _ hunfused hkey hcarried hpad hword
    exact ⟨r, hrow .ownerFuse _ htaken nofun nofun hr, hhash⟩
  · exact ⟨_, _, hrow .authChallenge _ htaken nofun nofun rfl, length_freshWords .., rfl⟩
  · intro htaken a
    refine ⟨fun hsettled => ?_, fun htrial => ?_⟩
    · exact hrow .fwAccept _ htaken nofun nofun (a.cmdFwAccept_settled hsettled)
    · obtain ⟨r, hr, hboot⟩ := a.cmdFwAccept_trial htrial
      exact ⟨r, hrow .fwAccept _ htaken nofun nofun hr, hboot⟩
  · exact hrow .debugUnlock _ htaken nofun nofun
      ((b .debugUnlock).cmdDebugUnlock_of_signed _ r nonce (fun go => (b .debugUnlock).signed_good _ _ go 1 r nonce rfl hlen hauth) hscope)
  · exact ⟨_, hrow .debugRelock _ htaken nofun nofun rfl, State.audit_scope ..⟩
end Sys2Proof.Machine
end

section
/-! What every operation of the device but freezing and thawing leaves alone: the clock, the freeze, and the record of the domains and the freeze pin. One lemma for each
operation that a fence, a lamp group going dark or a pitch that breaks calls, in the order of the model's files, so that the operations that call it follow by `simp`. The lemmas
that hold by unfolding alone are proved by `(rfl)`, which keeps `simp` from using them as definitional unfoldings. -/
namespace Sys2Proof.Machine
open R

/-- What the operations below leave as it was: the clock, whether the device is frozen, and the record of its domains and of the freeze pin. -/
structure Halt where
  now : Nat
  frozen : Bool
  pow : PowSt
/-- That part of the state. -/
def State.halt (s : State) : Halt := ⟨s.now, s.frozen, s.pow⟩

/-! ### Updates of another field -/

@[simp] theorem State.memS_halt (s : State) (x : MemSt) : ({ s with memS := x } : State).halt = s.halt := (rfl)
@[simp] theorem State.works_halt (s : State) (x : List Work) : ({ s with works := x } : State).halt = s.halt := (rfl)
@[simp] theorem State.sec_halt (s : State) (x : SecSt) : ({ s with sec := x } : State).halt = s.halt := (rfl)
@[simp] theorem State.aborts_halt (s : State) (x : List AbortSt) : ({ s with aborts := x } : State).halt = s.halt := (rfl)
@[simp] theorem State.ropeT_halt (s : State) (x : RopeTime) : ({ s with ropeT := x } : State).halt = s.halt := (rfl)
@[simp] theorem State.results_halt (s : State) (x : List (Nat × List Nat)) : ({ s with results := x } : State).halt = s.halt := (rfl)
@[simp] theorem State.skews_halt (s : State) (x : List (Nat × Nat)) : ({ s with skews := x } : State).halt = s.halt := (rfl)
@[simp] theorem State.normalQ_halt (s : State) (x : CmdFifo) : ({ s with normalQ := x } : State).halt = s.halt := (rfl)

/-! ### Choices and folds -/

@[simp] theorem State.ite_halt {c : Prop} [Decidable c] (a b : State) : (if c then a else b).halt = if c then a.halt else b.halt := apply_ite ..
@[simp] theorem State.foldl_halt {α : Type} (g : State → α → State) (hg : ∀ (s : State) x, (g s x).halt = s.halt) (l : List α) (s : State) :
    (l.foldl g s).halt = s.halt := by
  induction l generalizing s with
  | nil => rfl
  | cons x l ih => rw [List.foldl_cons, ih, hg]

/-! ### Ops -/

@[simp] theorem State.setC_halt (s : State) (u ctx : Nat) (f : Field) (i v : Nat) : (s.setC u ctx f i v).halt = s.halt := (rfl)
@[simp] theorem State.set_halt (s : State) (u : Nat) (f : Field) (v : Nat) (i : Nat) : (s.set u f v i).halt = s.halt := (rfl)
@[simp] theorem State.bumpC_halt (s : State) (u ctx : Nat) (f : Field) (i n : Nat) : (s.bumpC u ctx f i n).halt = s.halt := (rfl)
@[simp] theorem State.bump_halt (s : State) (u : Nat) (f : Field) (n : Nat) (i : Nat) : (s.bump u f n i).halt = s.halt := (rfl)
@[simp] theorem State.modUnit_halt (s : State) (u : Nat) (f : UnitSt → UnitSt) : (s.modUnit u f).halt = s.halt := (rfl)
@[simp] theorem State.setSt_halt (s : State) (u : Nat) (st : UState) (reason : Nat) : (s.setSt u st reason).halt = s.halt := by
  simp [State.setSt]
@[simp] theorem State.modPort_halt (s : State) (p : Nat) (f : PortSt → PortSt) : (s.modPort p f).halt = s.halt := (rfl)
@[simp] theorem State.modLc_halt (s : State) (p : Nat) (f : LcSt → LcSt) : (s.modLc p f).halt = s.halt := (rfl)
@[simp] theorem State.modEb_halt (s : State) (p : Nat) (f : EbSt → EbSt) : (s.modEb p f).halt = s.halt := (rfl)
@[simp] theorem State.modRing_halt (s : State) (p : Nat) (f : RingSt → RingSt) : (s.modRing p f).halt = s.halt := (rfl)
@[simp] theorem State.modDma_halt (s : State) (k : Nat) (f : DmaSt → DmaSt) : (s.modDma k f).halt = s.halt := (rfl)
@[simp] theorem State.modAxis_halt (s : State) (a : Nat) (f : AxisSt → AxisSt) : (s.modAxis a f).halt = s.halt := (rfl)
@[simp] theorem State.modBelay_halt (s : State) (a : Nat) (f : BelaySt → BelaySt) : (s.modBelay a f).halt = s.halt := (rfl)
@[simp] theorem State.modLamp_halt (s : State) (g : Nat) (f : LampSt → LampSt) : (s.modLamp g f).halt = s.halt := (rfl)
@[simp] theorem State.modStr_halt (s : State) (g k : Nat) (f : StrSt → StrSt) : (s.modStr g k f).halt = s.halt := by
  simp [State.modStr]
@[simp] theorem State.modHare_halt (s : State) (e : Nat) (f : HareSt → HareSt) : (s.modHare e f).halt = s.halt := (rfl)
@[simp] theorem State.modChain_halt (s : State) (f : ChainSt → ChainSt) : (s.modChain f).halt = s.halt := (rfl)
@[simp] theorem State.modTrig_halt (s : State) (f : TrigSt → TrigSt) : (s.modTrig f).halt = s.halt := (rfl)
@[simp] theorem State.raise_halt (s : State) (src uid detail : Nat) : (s.raise src uid detail).halt = s.halt := by
  obtain ⟨_, _, _, h⟩ := s.raise_wrote src uid detail
  rw [h]
  rfl
@[simp] theorem State.commitForce_halt (s : State) (u : Nat) (cs : List Commit) (kind line rep time : Nat) :
    (s.commitForce u cs kind line rep time).halt = s.halt := by
  unfold State.commitForce
  split
  · rfl
  · exact (State.foldl_halt _ (fun r d => by simp) _ _).trans rfl
@[simp] theorem State.forceHeld_halt (s : State) (u : Nat) : (s.forceHeld u).halt = s.halt := by
  simp [State.forceHeld]
@[simp] theorem State.signal_halt (s : State) (e : SigEv) : (s.signal e).halt = s.halt := by
  simp [State.signal]
@[simp] theorem State.fenceUnit_halt (s : State) (u reason : Nat) : (s.fenceUnit u reason).halt = s.halt := by
  simp [State.fenceUnit]

/-! ### Audit -/

@[simp] theorem State.auditRegs_halt (s : State) : (s.auditRegs).halt = s.halt := by
  simp [State.auditRegs]
@[simp] theorem State.audit_halt (s : State) (kind uid : Nat) (detail : List Nat) : (s.audit kind uid detail).halt = s.halt := by
  simp [State.audit]

/-! ### Operands -/

@[simp] theorem State.putResult_halt (s : State) (u tag : Nat) (ws : List Nat) : (s.putResult u tag ws).halt = s.halt := by
  simp [State.putResult]

/-! ### Ring -/

@[simp] theorem State.ringWrite_halt (s : State) (p : Nat) (x : Nat) (y : List Nat) : (s.ringWrite p x y).halt = s.halt := by
  induction y generalizing s x with
  | nil => rfl
  | cons b bs ih => exact (ih ..).trans rfl
@[simp] theorem State.ringRegs_halt (s : State) (p : Nat) : (s.ringRegs p).halt = s.halt := by
  simp [State.ringRegs]
@[simp] theorem State.ringCommit_halt (s : State) (p : Nat) : (s.ringCommit p).halt = s.halt := by
  simp [State.ringCommit]
@[simp] theorem State.ringReserve_halt (s : State) (p size typ first last : Nat) : (s.ringReserve p size typ first last).halt = s.halt := by
  simp [State.ringReserve]
@[simp] theorem State.ringDone_halt (s : State) (p off : Nat) : (s.ringDone p off).halt = s.halt := by
  simp [State.ringDone]
@[simp] theorem State.recWrite_halt (s : State) (p typ first last : Nat) (body : List Nat) : (s.recWrite p typ first last body).halt = s.halt := by
  simp [State.recWrite]
@[simp] theorem State.produce_halt (s : State) (p typ : Nat) (wait : Option Nat) (first last : Nat) (body : List Nat) :
    (s.produce p typ wait first last body).halt = s.halt := by
  simp [State.produce]
@[simp] theorem State.flushHeld_halt (s : State) (p : Nat) : (s.flushHeld p).halt = s.halt := by
  simp [State.flushHeld]
@[simp] theorem State.gap_halt (s : State) (p cause queue first last lines rep winFirst winLast time timeEnd : Nat) :
    (s.gap p cause queue first last lines rep winFirst winLast time timeEnd).halt = s.halt := by
  simp [State.gap]
@[simp] theorem State.ptrFound_halt (s : State) (code i u : Nat) : (s.ptrFound code i u).halt = s.halt := by
  simp [State.ptrFound]
@[simp] theorem State.recsLost_halt (s : State) (p : Nat) : (s.recsLost p).halt = s.halt := by
  simp [State.recsLost]
@[simp] theorem State.emit_halt (s : State) (p typ : Nat) (wait : Option Nat) (first last : Nat) (body : List Nat) :
    (s.emit p typ wait first last body).halt = s.halt := by
  simp [State.emit]
@[simp] theorem State.fenceRec_halt (s : State) (p uid reason : Nat) (self : Bool) : (s.fenceRec p uid reason self).halt = s.halt := by
  simp [State.fenceRec]
@[simp] theorem State.windowFeed_halt (s : State) (p : Nat) (b : Block) (only : Nat → Bool) : (s.windowFeed p b only).halt = s.halt := by
  simp [State.windowFeed]
@[simp] theorem State.poolRegs_halt (s : State) : (s.poolRegs).halt = s.halt := by
  simp [State.poolRegs]
@[simp] theorem State.poolWrite_halt (s : State) (x : Nat) (y : List Nat) : (s.poolWrite x y).halt = s.halt := by
  induction y generalizing s x with
  | nil => rfl
  | cons b bs ih => exact (ih ..).trans rfl
@[simp] theorem State.windowClose_halt (s : State) (w : Window) : (s.windowClose w).halt = s.halt := by
  simp [State.windowClose]
@[simp] theorem State.windowsDone_halt (s : State) (p : Nat) : (s.windowsDone p).halt = s.halt := by
  simp [State.windowsDone]
@[simp] theorem State.windowsEnd_halt (s : State) (p flag : Nat) : (s.windowsEnd p flag).halt = s.halt := by
  simp [State.windowsEnd]
@[simp] theorem State.windowsDrop_halt (s : State) (p : Nat) : (s.windowsDrop p).halt = s.halt := by
  simp [State.windowsDrop]
@[simp] theorem State.blockWrite_halt (s : State) (p : Nat) (b : Block) : (s.blockWrite p b).halt = s.halt := by
  simp [State.blockWrite]
@[simp] theorem State.closeBlocks_halt (s : State) (p : Nat) : (s.closeBlocks p).halt = s.halt := by
  simp [State.closeBlocks]
@[simp] theorem State.endBlock_halt (s : State) (p : Nat) : (s.endBlock p).halt = s.halt := by
  simp [State.endBlock]
@[simp] theorem State.windowOpen_halt (s : State) (p : Nat) (defect : Bool) (srcSeq lt le pre post reqFirst reqLast : Nat) :
    (s.windowOpen p defect srcSeq lt le pre post reqFirst reqLast).1.halt = s.halt := by
  unfold State.windowOpen
  dsimp only
  (repeat' split) <;> simp

/-! ### Eyebright -/

@[simp] theorem State.blobClose_halt (s : State) (p k : Nat) (flags : Nat) (b : Blob) : (s.blobClose p k flags b).halt = s.halt := by
  simp [State.blobClose]
@[simp] theorem State.verdicts_halt (s : State) (p k : Nat) : (s.verdicts p k).halt = s.halt := by
  simp [State.verdicts]
@[simp] theorem State.ebRegs_halt (s : State) (p k : Nat) : (s.ebRegs p k).halt = s.halt := by
  simp [State.ebRegs]
@[simp] theorem State.blobsTruncate_halt (s : State) (p k : Nat) : (s.blobsTruncate p k).halt = s.halt := by
  simp [State.blobsTruncate]
@[simp] theorem State.blobsDrop_halt (s : State) (p k : Nat) : (s.blobsDrop p k).halt = s.halt := by
  simp [State.blobsDrop]
@[simp] theorem State.ebStop_halt (s : State) (p : Nat) : (s.ebStop p).halt = s.halt := by
  unfold State.ebStop
  (repeat' split) <;> simp
@[simp] theorem State.ebLeaves_halt (s : State) (p : Nat) (drop : Bool) : (s.ebLeaves p drop).halt = s.halt := by
  unfold State.ebLeaves
  dsimp only
  (repeat' split) <;> simp

/-! ### Reply -/

@[simp] theorem State.workDone_halt (s : State) (w : Work) (status : Nat) : (s.workDone w status).halt = s.halt := by
  simp [State.workDone]
@[simp] theorem State.workEnd_halt (s : State) (w : Work) (status : Nat) (data : List Nat) : (s.workEnd w status data).halt = s.halt := by
  simp [State.workEnd]

/-! ### Frontend -/

@[simp] theorem State.degrade_halt (s : State) (p cause : Nat) (on : Bool) : (s.degrade p cause on).halt = s.halt := by
  simp [State.degrade]
@[simp] theorem State.portRefresh_halt (s : State) (p : Nat) : (s.portRefresh p).halt = s.halt := by
  simp [State.portRefresh]
@[simp] theorem State.calFinish_halt (s : State) (stop : Option Nat) (p : Nat) : (s.calFinish stop p).halt = s.halt := by
  simp [State.calFinish]
@[simp] theorem State.reliefRegs_halt (s : State) (p : Nat) : (s.reliefRegs p).halt = s.halt := by
  unfold State.reliefRegs
  (repeat' split) <;> simp
@[simp] theorem State.reliefAbort_halt (s : State) (p : Nat) : (s.reliefAbort p).halt = s.halt := by
  unfold State.reliefAbort
  (repeat' split) <;> simp
@[simp] theorem State.reliefStop_halt (s : State) (p status : Nat) : (s.reliefStop p status).halt = s.halt := by
  simp [State.reliefStop]

/-! ### Port -/

@[simp] theorem State.pgRegs_halt (s : State) (p : Nat) : (s.pgRegs p).halt = s.halt := by
  simp [State.pgRegs]
@[simp] theorem State.portHalt_halt (s : State) (p : Nat) : (s.portHalt p).halt = s.halt := by
  simp [State.portHalt]
@[simp] theorem State.unverCount_halt (s : State) (g : Nat) (ls : List Nat) (fault : Bool) : (s.unverCount g ls fault).halt = s.halt := by
  unfold State.unverCount
  (repeat' split) <;> simp
@[simp] theorem State.settleFlags_halt (s : State) (p : Nat) : (s.settleFlags p).halt = s.halt := by
  simp [State.settleFlags]
@[simp] theorem State.gapStopped_halt (s : State) (p next timeEnd : Nat) : (s.gapStopped p next timeEnd).halt = s.halt := by
  unfold State.gapStopped
  (repeat' split) <;> simp
@[simp] theorem State.fencePort_halt (s : State) (p reason : Nat) : (s.fencePort p reason).halt = s.halt := by
  unfold State.fencePort
  split
  · rfl
  · extract_lets qp s1 s2 s3 s4 kept s5 s6 s7 s8
    have h4 : s4.halt = s.halt := by simp [s4, s3, s2, s1]
    have h8 : s8.halt = s.halt := by simp [s8, s7, s6, s5, h4]
    split <;> simp [h8]
@[simp] theorem State.fenceServing_halt (s : State) (u reason : Nat) (ps : List Nat) : (s.fenceServing u reason ps).halt = s.halt := by
  simp [State.fenceServing]
@[simp] theorem State.modFire_halt (s : State) (p line : Nat) (f : Fire → Fire) : (s.modFire p line f).halt = s.halt := by
  simp [State.modFire]

/-! ### Axis -/

@[simp] theorem State.axisRegs_halt (s : State) (a : Nat) : (s.axisRegs a).halt = s.halt := by
  simp [State.axisRegs]
@[simp] theorem State.axisDisturb_halt (s : State) (a : Nat) : (s.axisDisturb a).halt = s.halt := by
  simp [State.axisDisturb]
@[simp] theorem State.modLink_halt (s : State) (id : Nat) (f : AxLink → AxLink) : (s.modLink id f).halt = s.halt := (rfl)
@[simp] theorem State.linkStop_halt (s : State) (l : AxLink) : (s.linkStop l).halt = s.halt := by
  simp [State.linkStop]
@[simp] theorem State.axisHalt_halt (s : State) (a : Nat) : (s.axisHalt a).halt = s.halt := by
  unfold State.axisHalt
  (repeat' split) <;> simp
@[simp] theorem State.axisWorkEnd_halt (s : State) (a op status : Nat) (data : List Nat) : (s.axisWorkEnd a op status data).halt = s.halt := by
  unfold State.axisWorkEnd
  dsimp only
  (repeat' split) <;> simp

/-! ### Belay -/

@[simp] theorem State.setBelay_halt (s : State) (a st : Nat) : (s.setBelay a st).halt = s.halt := by
  simp [State.setBelay]
@[simp] theorem State.scanLost_halt (s : State) (a cause : Nat) : (s.scanLost a cause).halt = s.halt := by
  simp [State.scanLost]

/-! ### Capture -/

@[simp] theorem State.capEnd_halt (s : State) (p status rep : Nat) (detail : List Nat) : (s.capEnd p status rep detail).halt = s.halt := by
  unfold State.capEnd
  extract_lets data s1 s2 s3
  have h2 : s2.halt = s.halt := by simp [s2, s1]
  show s3.halt = s.halt
  dsimp only [s3]
  split <;> simp [h2]

/-! ### Dma -/

@[simp] theorem State.dmaRegs_halt (s : State) (k : Nat) : (s.dmaRegs k).halt = s.halt := by
  simp [State.dmaRegs]
@[simp] theorem State.dmaTo_halt (s : State) (k : Nat) (f : DmaSt → DmaSt) : (s.dmaTo k f).halt = s.halt := by
  simp [State.dmaTo]
@[simp] theorem State.dmaEvent_halt (s : State) (k : Nat) (parked : Bool) : (s.dmaEvent k parked).halt = s.halt := by
  simp [State.dmaEvent]
@[simp] theorem State.dmaFence_halt (s : State) (k reason : Nat) : (s.dmaFence k reason).halt = s.halt := by
  simp [State.dmaFence]

/-! ### Lamp -/

@[simp] theorem State.flagLines_halt (s : State) (p : Nat) (ls : List Nat) (flag : Nat) (done : Bool) : (s.flagLines p ls flag done).halt = s.halt := by
  simp [State.flagLines]
@[simp] theorem State.lampInvalidLines_halt (s : State) (g t : Nat) (ls : List Nat) : (s.lampInvalidLines g t ls).halt = s.halt := by
  unfold State.lampInvalidLines
  (repeat' split) <;> simp
@[simp] theorem State.lampInvalidFrom_halt (s : State) (g t : Nat) : (s.lampInvalidFrom g t).halt = s.halt := by
  simp [State.lampInvalidFrom]
@[simp] theorem State.setLit_halt (s : State) (g k : Nat) (on : Bool) : (s.setLit g k on).halt = s.halt := by
  simp [State.setLit]
@[simp] theorem State.strobeMeas_halt (s : State) (g p line m : Nat) : (s.strobeMeas g p line m).halt = s.halt := by
  simp [State.strobeMeas]
@[simp] theorem State.lampDark_halt (s : State) (g : Nat) : (s.lampDark g).halt = s.halt := by
  unfold State.lampDark
  (repeat' split) <;> simp
@[simp] theorem State.roleDark_halt (s : State) (g k : Nat) : (s.roleDark g k).halt = s.halt := by
  unfold State.roleDark
  (repeat' split) <;> simp
@[simp] theorem State.lampLights_halt (s : State) (g : Nat) : (s.lampLights g).halt = s.halt := by
  simp [State.lampLights]
@[simp] theorem State.calStop_halt (s : State) (g : Nat) : (s.calStop g).halt = s.halt := by
  unfold State.calStop
  dsimp only
  (repeat' split) <;> simp
@[simp] theorem State.lampGroupOff_halt (s : State) (g : Nat) : (s.lampGroupOff g).halt = s.halt := by
  unfold State.lampGroupOff
  dsimp only
  (repeat' split) <;> simp
@[simp] theorem State.lampFence_halt (s : State) (g reason : Nat) : (s.lampFence g reason).halt = s.halt := by
  unfold State.lampFence
  dsimp only
  (repeat' split) <;> simp

/-! ### Chain -/

@[simp] theorem State.chainHalt_halt (s : State) : (s.chainHalt).halt = s.halt := by
  simp [State.chainHalt]
@[simp] theorem State.hareStrings_halt (s : State) (e : Nat) (outs : List Nat) : (s.hareStrings e outs).halt = s.halt := by
  simp [State.hareStrings]
@[simp] theorem State.hareStop_halt (s : State) (e : Nat) : (s.hareStop e).halt = s.halt := by
  simp [State.hareStop]

/-! ### Rope -/

@[simp] theorem State.modRope_halt (s : State) (f : RopeSt → RopeSt) : (s.modRope f).halt = s.halt := (rfl)
@[simp] theorem State.modPitch_halt (s : State) (k : Nat) (f : PitchSt → PitchSt) : (s.modPitch k f).halt = s.halt := by
  simp [State.modPitch]
@[simp] theorem State.setLink_halt (s : State) (k st refuse : Nat) : (s.setLink k st refuse).halt = s.halt := by
  simp [State.setLink]
@[simp] theorem State.linkEvent_halt (s : State) (k : Nat) : (s.linkEvent k).halt = s.halt := by
  simp [State.linkEvent]
@[simp] theorem State.ropeRegs_halt (s : State) : (s.ropeRegs).halt = s.halt := by
  simp [State.ropeRegs]
@[simp] theorem State.ropeRefresh_halt (s : State) : (s.ropeRefresh).halt = s.halt := by
  simp [State.ropeRefresh]
@[simp] theorem State.setAligned_halt (s : State) (on : Bool) : (s.setAligned on).halt = s.halt := by
  simp [State.setAligned]
@[simp] theorem State.transmit_halt (s : State) (k : Nat) (m : RMsg) : (s.transmit k m).halt = s.halt := by
  simp [State.transmit]
@[simp] theorem State.pump_halt (s : State) (k : Nat) : (s.pump k).halt = s.halt := by
  unfold State.pump
  (repeat' split) <;> simp
@[simp] theorem State.msgDropped_halt (s : State) (k : Nat) (m : RMsg) : (s.msgDropped k m).halt = s.halt := by
  simp [State.msgDropped]
@[simp] theorem State.ropeSend_halt (s : State) (k : Nat) (m : RMsg) (link : Bool) : (s.ropeSend k m link).halt = s.halt := by
  simp [State.ropeSend]
@[simp] theorem State.ropeFlood_halt (s : State) (m : RMsg) (from_ : Nat) (up down : Bool) : (s.ropeFlood m from_ up down).halt = s.halt := by
  simp [State.ropeFlood]
@[simp] theorem State.pitchClear_halt (s : State) (k : Nat) : (s.pitchClear k).halt = s.halt := by
  simp [State.pitchClear]
@[simp] theorem State.subShow_halt (s : State) (k : Nat) : (s.subShow k).halt = s.halt := by
  simp [State.subShow]
@[simp] theorem State.nodesAway_halt (s : State) (k : Nat) : (s.nodesAway k).halt = s.halt := by
  simp [State.nodesAway]
@[simp] theorem State.subGone_halt (s : State) (k : Nat) : (s.subGone k).halt = s.halt := by
  simp [State.subGone]
@[simp] theorem State.sendLost_halt (s : State) (from_ : Nat) : (s.sendLost from_).halt = s.halt := by
  simp [State.sendLost]
@[simp] theorem State.pitchBreak_halt (s : State) (k : Nat) : (s.pitchBreak k).halt = s.halt := by
  simp [State.pitchBreak]

/-! ### Abort -/

@[simp] theorem State.comparisonStops_halt (s : State) (u : Nat) : (s.comparisonStops u).halt = s.halt := by
  simp [State.comparisonStops]
@[simp] theorem State.axisFence_halt (s : State) (a reason cause : Nat) : (s.axisFence a reason cause).halt = s.halt := by
  simp [State.axisFence]
@[simp] theorem State.ropeFence_halt (s : State) (reason : Nat) : (s.ropeFence reason).halt = s.halt := by
  simp [State.ropeFence]
@[simp] theorem State.unitFence_halt (s : State) (u reason : Nat) : (s.unitFence u reason).halt = s.halt := by
  unfold State.unitFence
  (repeat' split) <;> simp
end Sys2Proof.Machine
end

section
/-! The freeze pin and the packet THAW (R542 to R550). -/
namespace Sys2Proof.Machine
open R

/-! ### What is left alone -/

theorem State.now_of_halt {r s : State} (h : r.halt = s.halt) : r.now = s.now := congrArg Halt.now h
theorem State.frozen_of_halt {r s : State} (h : r.halt = s.halt) : r.frozen = s.frozen := congrArg Halt.frozen h
theorem State.pow_of_halt {r s : State} (h : r.halt = s.halt) : r.pow = s.pow := congrArg Halt.pow h
@[simp] theorem State.frzTime_halt (s : State) : s.frzTime.halt = s.halt := by
  simp [State.frzTime]
@[simp] theorem State.thawStep_halt (s : State) (len : Nat) : (s.thawStep len).halt = s.halt := by
  simp [State.thawStep]
@[simp] theorem State.thawWorks_halt (s : State) : s.thawWorks.halt = s.halt := by
  refine State.foldl_halt _ (fun r w => ?_) _ _
  (repeat' split) <;> simp
@[simp] theorem State.trigFroze_halt (s : State) : s.trigFroze.halt = s.halt := by
  unfold State.trigFroze
  split <;> simp
@[simp] theorem State.cmdRegs_halt (s : State) : s.cmdRegs.halt = s.halt := by
  simp [State.cmdRegs]
theorem State.lampsDark_halt (s : State) (l : List Nat) : (l.foldl (fun (s : State) g => (s.lampDark g).lampInvalidFrom g s.now) s).halt = s.halt :=
  State.foldl_halt _ (fun r g => by simp) _ _

/-! ### Freezing and thawing -/

/-- A freeze is dated at this instant. -/
theorem State.freeze_halt (s : State) (source : Nat) (h : s.frozen = false) :
    ∃ off, (s.freeze source).halt = { now := s.now, frozen := true, pow := { s.pow with haltAt := s.now, len := 0, pd22Off := off } } := by
  unfold State.freeze
  rw [if_neg (ne_true_of_eq_false h)]
  extract_lets dark idle broken was22 stat pow frozen shown counted
  have hdark : dark.halt = s.halt := s.lampsDark_halt _
  have hbroken : broken.halt = s.halt := (State.foldl_halt _ (fun r k => r.pitchBreak_halt k) _ _).trans ((dark.modTrig_halt _).trans hdark)
  have hstat : stat.halt = s.halt := (broken.set_halt ..).trans hbroken
  have hnow : stat.now = s.now := State.now_of_halt hstat
  have hpow : stat.pow = s.pow := State.pow_of_halt hstat
  have hfrozen : frozen.halt = { now := s.now, frozen := true, pow := { s.pow with haltAt := s.now, len := 0, pd22Off := !was22 } } := by
    simp only [State.halt, frozen, pow, hnow, hpow]
  have hshown : shown.halt = frozen.halt := (State.set_halt ..).trans ((State.set_halt ..).trans frozen.frzTime_halt)
  have hcounted : counted.halt = shown.halt := ((shown.bump _ _).set_halt ..).trans (shown.bump_halt ..)
  exact ⟨!was22, (counted.raise_halt ..).trans (hcounted.trans (hshown.trans hfrozen))⟩
/-- The device that thaws is not frozen. -/
theorem State.thawGo_frozen (s : State) : s.thawGo.frozen = false := by
  unfold State.thawGo
  extract_lets len pow resumed shown stepped waits ended fenced moved worked told
  have hshown : shown.halt = resumed.halt := ((resumed.set _ _ _).set_halt ..).trans (resumed.set_halt ..)
  have hwaits : waits.halt = resumed.halt := (stepped.aborts_halt _).trans ((shown.thawStep_halt len).trans hshown)
  have hended : ended.halt = waits.halt := State.foldl_halt _ (fun r p => r.windowsEnd_halt p _) _ _
  have hfenced : fenced.halt = ended.halt := State.foldl_halt _ (fun r u => r.unitFence_halt u _) _ _
  have hmoved : moved.halt = fenced.halt := by
    refine State.foldl_halt _ (fun r a => ?_) _ _
    split
    · exact r.axisDisturb_halt a
    · rfl
  have htold : told.halt = moved.halt := (State.raise_halt ..).trans ((State.trigFroze_halt _).trans moved.thawWorks_halt)
  have hfrozen : told.frozen = false := State.frozen_of_halt (htold.trans (hmoved.trans (hfenced.trans (hended.trans hwaits))))
  split
  · exact (told.set_frozen ..).trans hfrozen
  · exact hfrozen

/-! ### The words of a packet -/

theorem State.urgentQ_halt (s : State) (x : CmdFifo) : ({ s with urgentQ := x } : State).halt = s.halt := (rfl)
theorem State.cmdLost_halt (s : State) (urgent : Bool) : (s.cmdLost urgent).halt = s.halt := by
  cases urgent
  · exact (State.cmdRegs_halt _).trans ((State.raise_halt ..).trans (s.ptrFound_halt ..))
  · exact (State.cmdRegs_halt _).trans ((State.raise_halt ..).trans (s.ptrFound_halt ..))
/-- A word that does not make a packet whole starts none. -/
theorem State.cmdWord_halt (s : State) (urgent : Bool) (w : Nat) (env : Option Nat) (fails : List Nat) (h : whole ((s.fifo urgent).part ++ [w % 2 ^ 32]) = false) :
    (s.cmdWord urgent w true env fails).halt = s.halt := by
  unfold State.cmdWord
  extract_lets q put ws
  have hput (q' : CmdFifo) : (put s q').halt = s.halt := by
    unfold put
    cases urgent
    · exact s.normalQ_halt q'
    · exact s.urgentQ_halt q'
  have hpart : whole ws = false := h
  simp only [State.ite_halt, State.cmdRegs_halt, State.raise_halt, State.cmdLost_halt, hput, hpart, Bool.false_eq_true, if_false, ite_self]
/-- Nor do the words of a packet before its last. -/
theorem State.cmdWords_halt (s : State) (urgent : Bool) (ws : List Nat) (env : Option Nat) (fails : List Nat) (hw : ∀ w, w ∈ ws → w < 2 ^ 32) (hs : (s.fifo urgent).part = [])
    (ho : (s.fifo urgent).ovf = false) (hq : (s.fifo urgent).waiting = []) (hk : s.skewed 6 (if urgent then 0 else 1) = false) (hl : ws.length ≤ 257)
    (hn : ∀ n, n < ws.length → whole (ws.take n) = false) (n : Nat) (h : n < ws.length) : (s.cmdWords urgent (ws.take n) env fails).halt = s.halt := by
  induction n with
  | zero => rfl
  | succ n ih =>
    obtain ⟨hpart, -⟩ := s.cmdWords_part urgent ws env fails hw hs ho hq hk hl hn n (by omega)
    have htake : ws.take (n + 1) = ws.take n ++ [ws[n]] := by rw [List.take_succ_eq_append_getElem (by omega)]
    have hlast : ws[n] % 2 ^ 32 = ws[n] := Nat.mod_eq_of_lt (hw _ (List.getElem_mem _))
    rw [htake, State.cmdWords_snoc, State.cmdWord_halt, ih (by omega)]
    rw [hpart, hlast, ← htake]
    exact hn _ h
/-- A device that admits a packet has nothing of another in that FIFO. -/
theorem State.fifo_of_admits (s : State) (urgent : Bool) (op n : Nat) (h : s.admits urgent op n = true) :
    n ≤ 255 ∧ (s.fifo urgent).part = [] ∧ (s.fifo urgent).waiting = [] ∧ (s.fifo urgent).ovf = false ∧ s.skewed 6 (if urgent then 0 else 1) = false := by
  simp only [State.admits, Bool.and_eq_true, decide_eq_true_eq, beq_iff_eq, Bool.not_eq_true'] at h
  obtain ⟨⟨⟨⟨⟨⟨-, hlen⟩, hpart⟩, hwait⟩, hovf⟩, hskew⟩, -⟩ := h
  exact ⟨hlen, hpart, hwait, hovf, hskew⟩
/-- The clock, the freeze and the pin as the command of a packet finds them are those before the packet. -/
theorem Sent.before_halt (x : Sent) (s : State) (h : x.taken s = true) : (x.before s).halt = (s.advance x.at_).halt := by
  obtain ⟨hadmits, hparams, -⟩ := x.taken_iff s h
  obtain ⟨hlen, hpart, hwait, hovf, hskew⟩ := State.fifo_of_admits _ _ _ _ hadmits
  obtain ⟨-, hwhole⟩ := pktWords_whole x.op.code x.tag x.uid x.flags x.params hlen
  have hlt := pktWords_lt x.op.code x.tag x.uid x.flags x.params x.op.code_lt hlen hparams
  have hwords : x.words.length = x.params.length + 2 := by simp [Sent.words, pktWords]
  change ∀ w ∈ x.words, w < 2 ^ 32 at hlt
  change ∀ n, n < x.words.length → whole (x.words.take n) = false at hwhole
  have htaken : ((s.advance x.at_).cmdWords x.urgent x.words.dropLast x.env x.fails).halt = (s.advance x.at_).halt := by
    rw [List.dropLast_eq_take]
    exact State.cmdWords_halt _ _ _ _ _ hlt hpart hovf hwait hskew (by omega) hwhole _ (by omega)
  unfold Sent.before
  extract_lets a b
  have hb : b.halt = a.halt := by
    unfold b State.takeIn
    split
    · rfl
    · rw [State.cmdRegs_halt]
      rfl
  split
  · exact hb.trans htaken
  · exact hb.trans htaken

/-! ### The packet and the pin -/

theorem State.cmdThaw_waits (s : State) (h : s.pow.pinLow = true) : s.cmdThaw = (s, St.FROZEN, [0]) := if_pos h
theorem State.cmdThaw_resumes (s : State) (hpin : s.pow.pinLow = false) (hfrozen : s.frozen = true) :
    s.cmdThaw = (s.thawGo, St.OK, [lo32 s.thawGo.frzLen, hi32 s.thawGo.frzLen]) := by
  rw [State.cmdThaw, if_neg (ne_true_of_eq_false hpin), hfrozen]
  rfl

/-- Settles O56: the command finds the pin and the freeze as they were before the packet, and what a thaw ends and fences freezes nothing. -/
theorem thawWaitsForThePin : Obligations.Thaw_waits_for_the_pin := by
  intro s t urgent tag uid flags params env x htaken
  have hrow (r : Answer) (hr : (x.before s).runOp .thaw (x.pkt s) env = r) := x.exec_answered s r htaken rfl nofun nofun hr
  have hpow : (x.before s).pow = (s.advance t).pow := congrArg Halt.pow (x.before_halt s htaken)
  have hfrz : (x.before s).frozen = (s.advance t).frozen := congrArg Halt.frozen (x.before_halt s htaken)
  refine ⟨fun hlow => ?_, fun hhigh hfrozen => ⟨?_, State.thawGo_frozen _⟩, ?_⟩
  · exact hrow _ ((x.before s).cmdThaw_waits (by rw [hpow, hlow]))
  · exact hrow _ ((x.before s).cmdThaw_resumes (by rw [hpow, hhigh]) (by rw [hfrz, hfrozen]))
  · exact ⟨_, rfl, rfl, s.advance_frozen t⟩
end Sys2Proof.Machine
end

section
/-! Resets, the trip of the junction, the freeze pin and BOOT_RECOVER (R500, R537, R541, R542, R586). -/
namespace Sys2Proof.Machine
open R

theorem State.poresetRise_starts (s : State) (u : StartUp) (hreset : s.sys.inReset = true) (htrip : s.sys.tripped = false) :
    s.poresetRise u = ((s.startBoot u).startUnits u).startReady u := by
  rw [State.poresetRise, hreset, htrip]
  rfl
theorem State.poresetRise_tripped (s : State) (u : StartUp) (htrip : s.sys.tripped = true) : s.poresetRise u = s := by
  rw [State.poresetRise, htrip, Bool.or_true, if_pos rfl]
theorem State.thermTrip_trips (s : State) (tj : Int) (hlimit : (if s.part.grade = 2 then (2160 : Int) else 1920) ≤ tj) (hreset : s.sys.inReset = false) :
    s.thermTrip tj = { s.deviceReset with sys := { s.deviceReset.sys with tripped := true } } := by
  have hlow : ¬ tj < (if s.part.grade = 2 then 135 * 16 else 120 * 16 : Int) := Int.not_lt.2 hlimit
  have hgo : ¬ (decide (tj < (if s.part.grade = 2 then 135 * 16 else 120 * 16 : Int)) || s.sys.inReset) = true := by simpa [hreset] using hlow
  exact if_neg hgo
theorem State.freezePin_freezes (s : State) (h : (s.pinSet true).ready = true) : s.freezePin = (s.pinSet true).freeze 0 := if_pos h
theorem State.freezePin_notes (s : State) (h : (s.pinSet true).ready = false) : s.freezePin = s.pinSet true := if_neg (ne_true_of_eq_false h)
theorem exec_bootRecover (s : State) (t v : Nat) (hreach : (s.advance t).reached = true) (hwindow : (s.advance t).windowOk secU = true) :
    exec (.bootRecover t v) s = .next (s.ran t ((s.advance t).bootRecover (v / 64))) := by
  have hrow := s.onBarThen_ran t (fun r => if r.windowOk secU then r.bootRecover (v / 64) else r) hreach
  rw [if_pos hwindow] at hrow
  exact congrArg _ hrow

/-- Settles O31: each row by its branches; that the freeze dates from this instant is what the operations before it leave alone. -/
theorem resetsAndTheFreezePin : Obligations.Resets_and_the_freeze_pin := by
  refine ⟨?_, ?_⟩
  · intro s t tj u a
    refine ⟨?_, fun hlimit hreset => ?_, fun hreset htrip => ?_, fun htrip => ?_⟩
    · have hslots : (a.slots.map (fun x => (x.1, { x.2 with loaded := false }))).map (·.1) = s.slots.map (·.1) :=
        List.map_map.trans (congrArg (fun l => l.map (·.1)) (s.advance_slots t))
      exact ⟨_, rfl, rfl, rfl, rfl, rfl, rfl, rfl, rfl, rfl, rfl, rfl, rfl, rfl, rfl, hslots⟩
    · exact ⟨_, congrArg (fun r => Host.Outcome.next (s.ends t r)) (a.thermTrip_trips tj hlimit hreset), rfl, rfl, rfl, rfl⟩
    · exact congrArg (fun r => Host.Outcome.next (s.ends t r)) (a.poresetRise_starts u hreset htrip)
    · exact congrArg (fun r => Host.Outcome.next (s.ends t r)) (a.poresetRise_tripped u htrip)
  · intro s t v a b
    refine ⟨fun hready hfrozen => ?_, fun hready => ?_, rfl, fun hreach hwindow hrun => ?_, fun hreach hwindow hrun => ?_⟩
    · obtain ⟨off, hhalt⟩ := b.freeze_halt 0 hfrozen
      have hpow : (b.freeze 0).pow = { b.pow with haltAt := b.now, len := 0, pd22Off := off } := congrArg Halt.pow hhalt
      refine ⟨_, congrArg (fun r => Host.Outcome.next (s.ends t r)) (a.freezePin_freezes hready), congrArg Halt.frozen hhalt, ?_, ?_⟩
      · exact congrArg PowSt.pinLow hpow
      · exact congrArg PowSt.haltAt hpow
    · exact congrArg (fun r => Host.Outcome.next (s.ends t r)) (a.freezePin_notes hready)
    · rw [exec_bootRecover s t v hreach hwindow, State.bootRecover, if_neg hrun]
    · rw [exec_bootRecover s t v hreach hwindow, State.bootRecover, if_pos hrun]
end Sys2Proof.Machine
end

section
/-! The words of a packet and the opcode map: what the host writes is what the device holds (R75, R76, R79, R559). -/
namespace Sys2Proof.Machine
open R

/-- The opcode map gives back the command of each opcode (R559). -/
theorem opOf_code (o : Op) : opOf o.code = some o := by
  cases o <;> rfl
/-- No two commands share an opcode. -/
theorem Op.eq_of_opOf_code {o o' : Op} (h : opOf o'.code = opOf o.code) : o' = o := by
  rw [opOf_code, opOf_code] at h
  exact Option.some.inj h

/-- Two halves of a word are read back from it. -/
theorem halves_of_word {x y : Nat} (hx : x < 65536) (hy : y < 65536) : (x * 2 ^ 16 + y) / 65536 % 65536 = x ∧ (x * 2 ^ 16 + y) % 65536 = y := by
  omega
/-- What a device reads out of the words of a packet: each field cut to its width (R75, R76). -/
theorem pktOf_pktWords (urgent : Bool) (o : Op) (tag uid flags seq : Nat) (params : List Nat) (h : params.length ≤ 255) :
    pktOf urgent (pktWords o.code tag uid flags params) seq =
      { op := o.code, tag := tag % 65536, uid := uid % 65536, flags := flags % 65536, params := params, seq := seq, urgent := urgent } := by
  have hcode := o.code_lt
  have htag := Nat.mod_lt tag (show 0 < 65536 by decide)
  have hop : (o.code * 2 ^ 24 + params.length * 2 ^ 16 + tag % 65536) / 2 ^ 24 % 256 = o.code := by omega
  have hlow : (o.code * 2 ^ 24 + params.length * 2 ^ 16 + tag % 65536) % 65536 = tag % 65536 := by omega
  obtain ⟨huid, hflags⟩ := halves_of_word (Nat.mod_lt uid (show 0 < 65536 by decide)) (Nat.mod_lt flags (show 0 < 65536 by decide))
  simp only [pktOf, pktWords, nth, List.cons_append, List.nil_append, List.getD_cons_zero, List.getD_cons_succ, List.drop_succ_cons, List.drop_zero, hop, hlow, huid, hflags]

/-- Settles O54: the words give back each field, cut to the width that it has (`pktOf_pktWords`), and the opcode map has each command once. -/
theorem packetWordsGiveThePacketBack : Obligations.Packet_words_give_the_packet_back := by
  intro urgent o tag uid flags seq params htag huid hflags hlen ws
  obtain ⟨hwhole, hpart⟩ := pktWords_whole o.code tag uid flags params hlen
  have hpkt := pktOf_pktWords urgent o tag uid flags seq params hlen
  rw [Nat.mod_eq_of_lt htag, Nat.mod_eq_of_lt huid, Nat.mod_eq_of_lt hflags] at hpkt
  exact ⟨hpkt, opOf_code o, hwhole, hpart, fun _ => Op.eq_of_opOf_code⟩
end Sys2Proof.Machine
end

section
/-! The command windows and the two FIFOs: a word written, a packet accepted, a packet started, and a packet checked and run (R78 to R86, R321, R555). -/
namespace Sys2Proof.Machine
open R

/-! ### The rows -/

theorem exec_commandWordWrite (s : State) (t : Nat) (urgent : Bool) (w be : Nat) (env : Option Nat) (fails : List Nat) (h : (s.advance t).reached = true) :
    exec (.commandWordWrite t urgent w be env fails) s = .next (s.ran t ((s.advance t).cmdWord urgent w (be % 16 == 15) env fails)) :=
  congrArg _ (s.onBarThen_ran t _ h)
theorem exec_resyncUrgent (s : State) (t : Nat) (h : (s.advance t).reached = true) : exec (.resyncUrgent t) s = .next (s.ends t ((s.advance t).resync true)) :=
  congrArg _ (s.onBar_ends t _ h)
theorem exec_resyncNormal (s : State) (t : Nat) (h : (s.advance t).reached = true) : exec (.resyncNormal t) s = .next (s.ends t ((s.advance t).resync false)) :=
  congrArg _ (s.onBar_ends t _ h)
theorem exec_normalPacketStart (s : State) (t : Nat) (env : Option Nat) (fails : List Nat) (h : (s.advance t).isLive = true) :
    exec (.normalPacketStart t env fails) s = .next (s.ran t ((s.advance t).normalStart env fails)) :=
  congrArg _ (s.onSeq_ran t _ h)

/-! ### A word written to a window (R79, R82) -/

/-- The FIFO that a packet goes to, changed. -/
def State.withFifo (s : State) (urgent : Bool) (q : CmdFifo) : State := if urgent then { s with urgentQ := q } else { s with normalQ := q }
/-- The words that a FIFO has room for. -/
def fifoSize (urgent : Bool) : Nat := if urgent then 256 else 2048

section
variable (s : State) (urgent : Bool) (w : Nat) (full : Bool) (env : Option Nat) (fails : List Nat)
theorem State.cmdWord_overflown (hovf : (s.fifo urgent).ovf = true) : s.cmdWord urgent w full env fails = s := if_pos hovf
section
variable (hovf : (s.fifo urgent).ovf = false)
include hovf
theorem State.cmdWord_skewed (hskew : s.skewed 6 (if urgent then 0 else 1) = true) : s.cmdWord urgent w full env fails = s.cmdLost urgent :=
  (if_neg (ne_true_of_eq_false hovf)).trans (if_pos hskew)
variable (hskew : s.skewed 6 (if urgent then 0 else 1) = false)
include hskew
/-- While its FIFO has not overflowed and its pointers agree, a word overflows it, makes the packet whole, or joins it. -/
theorem State.cmdWord_eq : s.cmdWord urgent w full env fails =
    if !full || (!(urgent && whole ((s.fifo urgent).part ++ [w % 2 ^ 32])) && fifoSize urgent ≤ (s.fifo urgent).used) then
      ((s.withFifo urgent { s.fifo urgent with part := [], ovf := true }).raise Ev.CMD_OVERFLOW devU (if urgent then 1 else 2)).cmdRegs
    else if whole ((s.fifo urgent).part ++ [w % 2 ^ 32]) then s.accept urgent ((s.fifo urgent).part ++ [w % 2 ^ 32]) env fails
    else (s.withFifo urgent { s.fifo urgent with part := (s.fifo urgent).part ++ [w % 2 ^ 32] }).cmdRegs :=
  (if_neg (ne_true_of_eq_false hovf)).trans (if_neg (ne_true_of_eq_false hskew))
/-- Byte enables not all set overflow either FIFO; NORMAL overflows when it has no room. -/
theorem State.cmdWord_overflows (h : full = false ∨ urgent = false ∧ 2048 ≤ (s.fifo urgent).used) : s.cmdWord urgent w full env fails =
    ((s.withFifo urgent { s.fifo urgent with part := [], ovf := true }).raise Ev.CMD_OVERFLOW devU (if urgent then 1 else 2)).cmdRegs := by
  rw [s.cmdWord_eq urgent w full env fails hovf hskew]
  refine if_pos ?_
  rcases h with rfl | ⟨rfl, hused⟩
  · rfl
  · simpa [fifoSize] using .inr hused
/-- The word that makes a packet whole makes the device accept it; URGENT has room for it in any case (R81). -/
theorem State.cmdWord_completes (hroom : urgent = true ∨ (s.fifo urgent).used < 2048) (hwhole : whole ((s.fifo urgent).part ++ [w % 2 ^ 32]) = true) :
    s.cmdWord urgent w true env fails = s.accept urgent ((s.fifo urgent).part ++ [w % 2 ^ 32]) env fails := by
  rw [s.cmdWord_eq urgent w true env fails hovf hskew, if_pos hwhole, hwhole]
  refine if_neg ?_
  rcases hroom with rfl | hused
  · simp
  · cases urgent
    · simpa [fifoSize] using hused
    · simp
theorem State.cmdWord_joins (hroom : (s.fifo urgent).used < fifoSize urgent) (hwhole : whole ((s.fifo urgent).part ++ [w % 2 ^ 32]) = false) :
    s.cmdWord urgent w true env fails = (s.withFifo urgent { s.fifo urgent with part := (s.fifo urgent).part ++ [w % 2 ^ 32] }).cmdRegs := by
  rw [s.cmdWord_eq urgent w true env fails hovf hskew, hwhole]
  exact if_neg (by simpa using hroom)
end
end

/-- Settles O16: a word by what it can do in its window (`cmdWord_eq`); RESYNC is one operation on its FIFO. -/
theorem commandWindowsAssemblePackets : Obligations.Command_windows_assemble_packets := by
  intro s t w be env fails hreach hbe a
  have hrow (urgent : Bool) := exec_commandWordWrite s t urgent w be env fails hreach
  have hall (h : be = 15) : (be % 16 == 15) = true := by rw [h]; rfl
  have hpart (h : be ≠ 15) : (be % 16 == 15) = false := by rw [Nat.mod_eq_of_lt hbe]; exact beq_false_of_ne h
  refine ⟨fun hovf => ?_, fun hovf => ?_, fun hovf hskew => ?_, fun hovf hskew => ?_, fun hovf hskew hbytes => ?_, fun hovf hskew hlost => ?_,
    fun hovf hskew hbytes => ⟨fun hroom hwhole => ?_, fun hwhole => ?_⟩, fun hovf hskew hbytes hroom => ⟨fun hwhole => ?_, fun hwhole => ?_⟩,
    exec_resyncUrgent s t hreach, exec_resyncNormal s t hreach⟩
  · rw [hrow, State.cmdWord_overflown _ true _ _ _ _ hovf]
  · rw [hrow, State.cmdWord_overflown _ false _ _ _ _ hovf]
  · rw [hrow, State.cmdWord_skewed _ true _ _ _ _ hovf hskew]
  · rw [hrow, State.cmdWord_skewed _ false _ _ _ _ hovf hskew]
  · rw [hrow, State.cmdWord_overflows _ true _ _ _ _ hovf hskew (.inl (hpart hbytes))]
    rfl
  · rw [hrow, State.cmdWord_overflows _ false _ _ _ _ hovf hskew (hlost.imp hpart fun hused => ⟨rfl, hused⟩)]
    rfl
  · rw [hrow, hall hbytes, State.cmdWord_joins _ true _ _ _ hovf hskew hroom hwhole]
    rfl
  · rw [hrow, hall hbytes, State.cmdWord_completes _ true _ _ _ hovf hskew (.inl rfl) hwhole]
    rfl
  · rw [hrow, hall hbytes, State.cmdWord_joins _ false _ _ _ hovf hskew hroom hwhole]
    rfl
  · rw [hrow, hall hbytes, State.cmdWord_completes _ false _ _ _ hovf hskew (.inr hroom) hwhole]
    rfl

/-! ### The packets of NORMAL in their order (R83) -/

/-- The packet at the head of NORMAL leaves it and is executed (R83). -/
theorem State.normalStart_serves (s : State) (env : Option Nat) (fails : List Nat) (k : Pkt) (rest : List Pkt) (hwaits : s.normalQ.waiting = k :: rest)
    (hserves : s.normalServes k.op = true) (hskew : s.skewed 6 1 = false) :
    s.normalStart env fails = (({ s with normalQ := { s.normalQ with waiting := rest } } : State).execPkt k env fails).cmdRegs := by
  simp [State.normalStart, hwaits, hserves, hskew]
theorem State.normalStart_waits (s : State) (env : Option Nat) (fails : List Nat) (k : Pkt) (rest : List Pkt) (hwaits : s.normalQ.waiting = k :: rest)
    (hserves : s.normalServes k.op = false) : s.normalStart env fails = s := by
  simp [State.normalStart, hwaits, hserves]
/-- Behind a packet that waits, a packet accepted is taken in and waits (R80, R83). -/
theorem State.accept_waits (s : State) (ws : List Nat) (env : Option Nat) (fails : List Nat) (h : s.normalQ.waiting ≠ []) :
    s.accept false ws env fails = s.takeIn false (pktOf false ws s.nextSeq) := by
  simp [State.accept, h]
theorem State.takeIn_waiting (s : State) (k : Pkt) : (s.takeIn false k).normalQ.waiting = s.normalQ.waiting ++ [k] := by
  simp [State.takeIn]

/-- Settles O17: by whether NORMAL serves the packet at its head; one accepted behind it is only taken in. -/
theorem normalPacketsStartInOrder : Obligations.Normal_packets_start_in_order := by
  intro s t env fails k rest hlive hwaits
  refine ⟨fun hserves hskew => ?_, fun hserves => ?_, fun ws => ?_⟩
  · rw [exec_normalPacketStart s t env fails hlive, State.normalStart_serves _ env fails k rest hwaits hserves hskew]
  · rw [exec_normalPacketStart s t env fails hlive, State.normalStart_waits _ env fails k rest hwaits hserves]
  · rw [State.accept_waits _ ws env fails (by rw [hwaits]; exact List.cons_ne_nil k rest), State.takeIn_waiting, hwaits]

/-! ### A packet is checked, then it runs (R80, R86, R555) -/

/-- The device holds the fields of the packet that the host wrote. -/
theorem Sent.pkt_eq (x : Sent) (s : State) (h : x.params.length ≤ 255) : x.pkt s =
    { op := x.op.code, tag := x.tag % 65536, uid := x.uid % 65536, flags := x.flags % 65536, params := x.params, seq := (x.before s).cmdSeq, urgent := x.urgent } :=
  pktOf_pktWords x.urgent x.op x.tag x.uid x.flags _ x.params h

/-- Settles O53: the packet is executed in the state `before` (`Sent.exec_row`), by what the checks find. -/
theorem packetsAreCheckedThenRun : Obligations.Packets_are_checked_then_run := by
  intro x s hadmits hparams hfails
  obtain ⟨hrow, hseq⟩ := x.exec_row s hadmits hparams hfails
  have hpkt := x.pkt_eq s (State.fifo_of_admits _ _ _ _ hadmits).1
  refine ⟨fun r hrefused => ?_, fun hpass habort hreset => ?_, hseq, ?_, ?_, ?_⟩
  · rw [hrow, State.execPkt_inr _ _ _ _ r hrefused]
  · rw [hrow, State.execPkt_inl _ _ _ _ x.op hpass habort hreset, Sent.answered]
  · rw [hpkt]
  · rw [hpkt]
  · rw [hpkt]
end Sys2Proof.Machine
end

section
/-! How each command meets the device, said once over the opcode table, and what every way of meeting it leaves alone (R66, R67, R87, R541, R543). -/
namespace Sys2Proof.Machine

/-- The state that a command leaves by each way of meeting the device: `f` is what it makes of a device that it reaches, `g` the level that an edge on a pin leaves on one that does
not work. -/
def State.meets (s : State) (t : Nat) (g f : State → State) : Reach → State
  | .always => s.always t f
  | .pins => s.onPins t g f
  | .host => s.onHost t f
  | .reads => s.onBar t f
  | .writes => s.onBarThen t f
  | .event => s.onCore t f
  | .seqEvent => s.onSeq t f

theorem ite_keeps {α β : Type} (π : α → β) (c : Prop) [Decidable c] (x y : α) (h : π y = π x) : π (if c then x else y) = π x := by
  rw [apply_ite π, h, ite_self]
theorem State.axisLevel_sys (s : State) (a k : Nat) (level : Bool) : (s.axisLevel a k level).sys = s.sys := ite_keeps State.sys _ s _ rfl
/-- Every command meets the device as its row says; the level of a pin is none of the system's state. -/
theorem exec_meets (c : Instr) (s : State) : ∃ g f, exec c s = .next (s.meets c.at_ g f (reachOf c)) ∧ ∀ a : State, (g a).sys = a.sys := by
  by_cases halways : reachOf c = .always
  · obtain ⟨r, hr⟩ := exec_ends c s
    exact ⟨id, fun _ => r, by rw [halways]; exact hr, fun _ => rfl⟩
  · cases c
    case encoderEdge => exact ⟨_, _, rfl, fun x => ite_keeps State.sys _ x _ rfl⟩
    case gpioEdge => exact ⟨_, _, rfl, fun x => ite_keeps State.sys _ x _ rfl⟩
    case axisInputTransition => exact ⟨_, _, rfl, fun x => ite_keeps State.sys _ x _ (x.axisLevel_sys ..)⟩
    case thermtrip | poresetNFall | poresetNRise | freezeNFall | freezeNRise => exact absurd rfl halways
    case smbStatus | smbTemp | smbPower | smbIdentity | smbVcore | deviceReset => exact absurd rfl halways
    case extest | idcode | samplePreload | extestPulse | extestTrain | challenge | unlock | freezeRead | scanState | bypass => exact absurd rfl halways
    all_goals exact ⟨id, _, rfl, fun _ => rfl⟩

/-! ### What does not reach the device (O51) -/

/-- A device in reset is reached through a pin or in every condition, or not at all (R541). -/
theorem State.meets_reset (s : State) (t : Nat) (g f : State → State) (k : Reach) (halways : k ≠ .always) (hpins : k ≠ .pins) (h : s.sys.inReset = true) :
    s.meets t g f k = s.ends t (s.advance t) := by
  cases k
  case always => exact absurd rfl halways
  case pins => exact absurd rfl hpins
  case reads => exact s.onHost_reset t (fun a => if a.d3hot then a else f a) h
  all_goals exact s.onHost_reset t _ h
theorem State.meets_frozen (s : State) (t : Nat) (g f : State → State) (k : Reach) (hk : k = .event ∨ k = .seqEvent) (h : (s.advance t).frozen = true) :
    s.meets t g f k = s.ends t (s.advance t) := by
  have hidle : (s.advance t).isLive = false := by simp only [State.isLive, h, Bool.not_true, Bool.and_false]
  rcases hk with rfl | rfl
  · exact s.onCore_idle t f hidle
  · exact s.onSeq_idle t f hidle

/-- Settles O51: by how the command meets the device, each way as the laws of reach say. -/
theorem commandsReachTheDeviceByTheirKind : Obligations.Commands_reach_the_device_by_their_kind := by
  intro c s a
  obtain ⟨g, f, hexec, -⟩ := exec_meets c s
  have hd3hot : a.d3hot = s.d3hot := s.advance_d3hot _
  have hsys : a.sys = s.sys := s.advance_sys _
  rw [hexec, hd3hot, hsys]
  refine ⟨fun hreset halways hpins => ?_, fun hfrozen hk => ?_, fun hasleep hk => ?_, fun hasleep hout hk => ?_⟩
  · rw [s.meets_reset _ g f _ halways hpins hreset]
  · rw [s.meets_frozen _ g f _ hk hfrozen]
  · rw [hk]
    exact congrArg _ (s.onBar_d3hot _ f hasleep)
  · rw [hk]
    exact congrArg _ (s.onBarThen_d3hot _ f hout hasleep)

/-! ### What every way leaves alone (O52) -/

/-- What a command has started leaves alone (R66, R67, R170, R535): the freeze, the link's power state, the packet numbers, the URGENT FIFO, the encoders, the shading SRAM and the data of the last read. -/
theorem State.after_keeps (r b : State) : (r.after b).frozen = r.frozen ∧ (r.after b).d3hot = r.d3hot ∧ (r.after b).cmdSeq = r.cmdSeq ∧
    (r.after b).urgentQ = r.urgentQ ∧ (r.after b).encs = r.encs ∧ (r.after b).sram = r.sram ∧ (r.after b).rdata = r.rdata := by
  unfold State.after
  split
  · exact ⟨State.keepsRest_frozen .., State.keepsRest_d3hot .., State.keepsRest_cmdSeq .., State.keepsRest_urgentQ .., State.keepsRest_encs .., State.keepsRest_sram ..,
      State.keepsRest_rdata ..⟩
  · exact ⟨rfl, rfl, rfl, rfl, rfl, rfl, rfl⟩
theorem State.went_keeps (s : State) (t : Nat) (r : State) : (s.went t r).frozen = s.frozen ∧ (s.went t r).d3hot = s.d3hot ∧ (s.went t r).cmdSeq = s.cmdSeq ∧
    (s.went t r).urgentQ = s.urgentQ ∧ (s.went t r).rdata = s.rdata := by
  obtain ⟨hfrozen, hd3hot, hseq, hurgent, -, -, hrdata⟩ := (r.keepsHost (s.advance t)).after_keeps (s.advance t)
  exact ⟨hfrozen.trans (s.advance_frozen t), hd3hot.trans (s.advance_d3hot t), hseq.trans (s.advance_cmdSeq t), hurgent.trans (s.advance_urgentQ t),
    hrdata.trans (s.advance_rdata t)⟩
theorem State.ran_keeps (s : State) (t : Nat) (r : State) :
    (s.ran t r).d3hot = s.d3hot ∧ (s.ran t r).encs = s.encs ∧ (s.ran t r).sram = s.sram ∧ (s.ran t r).rdata = s.rdata := by
  obtain ⟨-, hd3hot, -, -, hencs, hsram, hrdata⟩ := (r.keepsPins (s.advance t)).after_keeps (s.advance t)
  exact ⟨hd3hot.trans (s.advance_d3hot t), hencs.trans (s.advance_encs t), hsram.trans (s.advance_sram t), hrdata.trans (s.advance_rdata t)⟩

/-- An event of the device goes on where the device works; else the time alone moves. -/
theorem State.onCore_cases (s : State) (t : Nat) (f : State → State) : (∃ r, s.onCore t f = s.went t r) ∨ s.onCore t f = s.ends t (s.advance t) := by
  cases h : (s.advance t).isLive with
  | true => exact .inl ⟨_, s.onCore_went t f h⟩
  | false => exact .inr (s.onCore_idle t f h)
/-- A write of the host, and an event that may freeze the device or start a packet, goes on where it reaches the device; else the time alone moves. -/
theorem State.meets_writes_cases (s : State) (t : Nat) (g f : State → State) (k : Reach) (hk : k = .writes ∨ k = .seqEvent) :
    (∃ r, s.meets t g f k = s.ran t r) ∨ s.meets t g f k = s.ends t (s.advance t) := by
  rcases hk with rfl | rfl
  · cases hreset : s.sys.inReset with
    | true => exact .inr (s.onHost_reset t _ hreset)
    | false =>
      cases hd3hot : s.d3hot with
      | true => exact .inl ⟨_, s.onBarThen_d3hot t f hreset hd3hot⟩
      | false => exact .inl ⟨_, s.onBarThen_ran t f ((State.reached_iff _).2 ⟨by rw [s.advance_sys, hreset], by rw [s.advance_d3hot, hd3hot]⟩)⟩
  · cases hlive : (s.advance t).isLive with
    | true => exact .inl ⟨_, s.onSeq_ran t f hlive⟩
    | false => exact .inr (s.onSeq_idle t f hlive)
/-- No command but one that acts in every condition ends a reset (R541). -/
theorem State.meets_inReset (s : State) (t : Nat) (g f : State → State) (k : Reach) (halways : k ≠ .always) (hg : ∀ a : State, (g a).sys = a.sys)
    (h : s.sys.inReset = true) : (s.meets t g f k).sys.inReset = true := by
  have hadvanced : (s.advance t).sys.inReset = true := by rw [s.advance_sys, h]
  by_cases hpins : k = .pins
  · subst hpins
    have hidle : (s.advance t).isLive = false := by simp only [State.isLive, hadvanced, Bool.not_true, Bool.false_and]
    have hkept : (s.onPins t g f).sys = (s.advance t).sys := by rw [s.onPins_idle t g f hidle, State.ends_sys, hg]
    exact (congrArg SysSt.inReset hkept).trans hadvanced
  · rw [s.meets_reset t g f k halways hpins h]
    exact hadvanced

/-- Settles O52: by how the command meets the device, and what each way leaves alone. -/
theorem rowsLeaveWhatIsNotTheirs : Obligations.Rows_leave_what_is_not_theirs := by
  intro c s r hr
  obtain ⟨g, f, hexec, hg⟩ := exec_meets c s
  obtain rfl : s.meets c.at_ g f (reachOf c) = r := Host.Outcome.next.inj (hexec.symm.trans hr)
  refine ⟨fun hk => ?_, fun hk => ?_, fun halways hreset => s.meets_inReset _ g f _ halways hg hreset⟩
  · have hcore : s.meets c.at_ g f (reachOf c) = s.onCore c.at_ f := by rw [hk]; rfl
    rw [hcore]
    rcases s.onCore_cases c.at_ f with ⟨x, hx⟩ | hx
    · rw [hx]
      exact s.went_keeps c.at_ x
    · rw [hx]
      exact ⟨s.advance_frozen _, s.advance_d3hot _, s.advance_cmdSeq _, s.advance_urgentQ _, s.advance_rdata _⟩
  · rcases s.meets_writes_cases c.at_ g f _ hk with ⟨x, hx⟩ | hx
    · rw [hx]
      exact s.ran_keeps c.at_ x
    · rw [hx]
      exact ⟨s.advance_d3hot _, s.advance_encs _, s.advance_sram _, s.advance_rdata _⟩
end Sys2Proof.Machine
end

section
/-! The event ring, the hold-off of a vector, the watches, and the PCIe function: its resets, its power states and its link (R39, R64, R66, R67, R96 to R100, R108, R536, R538).
That an FLR of a frozen device aborts nothing, and that the function is in D0 after it, are the model's choices (log entries 43, 70). -/
namespace Sys2Proof.Machine
open R

/-! ### The rows -/

section
variable (s : State) (t : Nat) (h : (s.advance t).reached = true)
include h
theorem exec_eventRingEnable (w : Nat) : exec (.eventRingEnable t w) s = .next (s.ends t ((s.advance t).evtEnable w)) := congrArg _ (s.onBar_ends t _ h)
theorem exec_evtRdWrite (w : Nat) : exec (.evtRdWrite t w) s = .next (s.ends t ((s.advance t).evtRd w)) := congrArg _ (s.onBar_ends t _ h)
theorem exec_supplyFailClear : exec (.supplyFailClear t) s = .next (s.ends t (s.advance t).supplyFailClear) := congrArg _ (s.onBar_ends t _ h)
theorem exec_minClear : exec (.minClear t) s = .next (s.ends t (s.advance t).minClear) := congrArg _ (s.onBar_ends t _ h)
end
section
variable (s : State) (t : Nat) (h : s.sys.inReset = false)
include h
theorem exec_eventHoldoffExpiry (v : Nat) : exec (.eventHoldoffExpiry t v) s = .next (s.ends t ((s.advance t).holdoffEnds v)) :=
  congrArg _ (s.onHost_ends t _ h)
theorem exec_seqWedged (beat : Bool) : exec (.seqWedged t beat) s = .next (s.did t ((s.advance t).seqWedged beat)) :=
  congrArg _ (s.onHostThen_did t _ h)
theorem exec_functionLevelReset : exec (.functionLevelReset t) s = .next (s.did t (s.advance t).flr) :=
  congrArg _ (s.onHostThen_did t _ h)
theorem exec_perstN : exec (.perstN t) s = .next (s.did t (s.advance t).perst) :=
  congrArg _ (s.onHostThen_did t _ h)
theorem exec_d3hotEntry : exec (.d3hotEntry t) s = .next (s.ends t (s.advance t).d3Enter) :=
  congrArg _ (s.onHost_ends t _ h)
theorem exec_d0Return (cfg : List (CfgReg × Nat)) : exec (.d0Return t cfg) s = .next (s.did t ((s.advance t).d0Return cfg)) :=
  congrArg _ (s.onHostThen_did t _ h)
theorem exec_linkRetrain (rate width : Nat) (cfg : List (CfgReg × Nat)) :
    exec (.linkRetrain t rate width cfg) s = .next (s.ends t (((s.advance t).linkTrain rate width).cfgWrites cfg)) :=
  congrArg _ (s.onHost_ends t _ h)
end

/-! ### The ring (R96 to R98) -/

/-- A ring that starts anew: position 0, phase 1, and what was lost is told first. -/
def State.ringStarts (s : State) : State :=
  ((((s.set bar0 Evt.ENABLE 1).set bar0 Evt.EVT_WR 0).set bar0 Evt.EVT_RD 0).set bar0 Evt.WR_PHASE 1).evtLostEntry

theorem State.evtEnable_stops (s : State) (w : Nat) (hbit : tbit w 0 = false) :
    s.evtEnable w = (s.set bar0 Evt.HOLDOFF (bits w 25 16)).set bar0 Evt.ENABLE 0 := by
  simp [State.evtEnable, hbit]
/-- ENABLE becomes 1 on a READY device that has deferred no event (R96, R98, R538). -/
theorem State.evtEnable_starts (s : State) (w : Nat) (hbit : tbit w 0 = true) (hready : (s.set bar0 Evt.HOLDOFF (bits w 25 16)).ready = true)
    (hstopped : (s.set bar0 Evt.HOLDOFF (bits w 25 16)).reg bar0 Evt.ENABLE = 0) (hnone : (s.set bar0 Evt.HOLDOFF (bits w 25 16)).ringStarts.evt.deferred = []) :
    s.evtEnable w = { (s.set bar0 Evt.HOLDOFF (bits w 25 16)).ringStarts with
      evt := { (s.set bar0 Evt.HOLDOFF (bits w 25 16)).ringStarts.evt with deferred := [] } } := by
  unfold State.ringStarts at hnone
  simp [State.evtEnable, State.ringStarts, hbit, hready, hstopped, hnone]

section
variable (s : State) (w : Nat) (hbit : tbit w 31 = false)
include hbit
theorem State.evtRd_takes (hspan : (w % 4096 + 4096 - s.reg bar0 Evt.EVT_RD) % 4096 ≤ (s.reg bar0 Evt.EVT_WR + 4096 - s.reg bar0 Evt.EVT_RD) % 4096) :
    s.evtRd w = (s.set bar0 Evt.EVT_RD (w % 4096)).evtLostEntry := by
  simp [State.evtRd, hbit, hspan]
theorem State.evtRd_errs (hspan : (s.reg bar0 Evt.EVT_WR + 4096 - s.reg bar0 Evt.EVT_RD) % 4096 < (w % 4096 + 4096 - s.reg bar0 Evt.EVT_RD) % 4096) :
    s.evtRd w = s.set bar0 Evt.RD_ERR 1 := by
  simp [State.evtRd, hbit, Nat.not_le.2 hspan]
end

/-! ### Watches (R100, R108) -/

/-- The end of a hold-off in which events came sends the vector's message (R100). -/
theorem State.holdoffEnds_sends (s : State) (v : Nat) (h : Nat × Nat × Bool) (hhold : s.evt.hold.find? (fun x => x.1 == v) = some h) (hend : h.2.1 ≤ s.now)
    (hcame : h.2.2 = true) (hd3hot : s.d3hot = false) :
    s.holdoffEnds v = ({ s with evt := { s.evt with hold := s.evt.hold.filter (fun x => x.1 != v) } } : State).msixSend v := by
  simp [State.holdoffEnds, hhold, hend, hcame, hd3hot]

section
variable (s : State) (hwaits : s.normalQ.waiting ≠ []) (hdone : s.sys.done = s.reg bar0 Cmd.NORMAL_DONE) (hlate : s.sys.doneAt + 400000000 ≤ s.now)
include hwaits hdone hlate
/-- NORMAL has waited 250 ms for a reply: what was raised before decides whether EV_SEQ_WEDGED is raised (R108). -/
theorem State.seqWedged_raises (harmed : s.sys.wedged = none ∨ ∃ h n, s.sys.wedged = some (h, n) ∧ h ≠ s.heartbeat ∧ n ≠ s.reg bar0 Cmd.NORMAL_DONE) :
    s.seqWedged false = ({ s with sys := { s.sys with wedged := some (s.heartbeat, s.reg bar0 Cmd.NORMAL_DONE) } } : State).raise Ev.SEQ_WEDGED secU s.heartbeat := by
  rcases harmed with hnone | ⟨h, n, hsome, hh, hn⟩
  · simp [State.seqWedged, hwaits, hdone, hlate, hnone]
  · simp [State.seqWedged, hwaits, hdone, hlate, hsome, hh.symm, hn.symm]
theorem State.seqWedged_keeps (h n : Nat) (hsome : s.sys.wedged = some (h, n)) (hstill : h = s.heartbeat ∨ n = s.reg bar0 Cmd.NORMAL_DONE) : s.seqWedged false = s := by
  rcases hstill with rfl | rfl <;> simp [State.seqWedged, hwaits, hdone, hlate, hsome]
end

/-- Settles O21: each row runs its operation, by the branches of it. -/
theorem eventRingAndWatches : Obligations.Event_ring_and_watches := by
  refine ⟨?_, ?_⟩
  · intro s t w hreach a rd span b
    refine ⟨fun hbit => ?_, fun hbit hready hstopped hnone => ?_, fun hbit hspan => ?_, fun hbit hspan => ?_⟩
    · rw [exec_eventRingEnable s t hreach, State.evtEnable_stops _ w hbit]
    · rw [exec_eventRingEnable s t hreach, State.evtEnable_starts _ w hbit hready hstopped hnone]
      rfl
    · rw [exec_evtRdWrite s t hreach, State.evtRd_takes _ w hbit hspan]
    · rw [exec_evtRdWrite s t hreach, State.evtRd_errs _ w hbit hspan]
  · intro s t v hreach a
    obtain ⟨hout, hd3hot⟩ := (State.reached_iff _).1 hreach
    have hreset : s.sys.inReset = false := by rwa [s.advance_sys] at hout
    refine ⟨fun h hhold hend hcame => ?_, exec_supplyFailClear s t hreach, exec_minClear s t hreach, fun hwaits hdone hlate => ⟨fun harmed => ?_, fun h n hsome hstill => ?_⟩⟩
    · rw [exec_eventHoldoffExpiry s t hreset, State.holdoffEnds_sends _ v h hhold hend hcame hd3hot]
    · rw [exec_seqWedged s t hreset, State.seqWedged_raises _ hwaits hdone hlate harmed]
    · rw [exec_seqWedged s t hreset, State.seqWedged_keeps _ hwaits hdone hlate h n hsome hstill]

/-! ### The function and its link (R64, R66, R67, R536) -/

/-- A function that leaves D3hot tells what was lost first, its channels go on, and the configuration writes follow (R67). -/
theorem State.d0Return_wakes (s : State) (cfg : List (CfgReg × Nat)) (h : s.d3hot = true) : s.d0Return cfg =
    ((List.range 64).foldl (fun (r : State) k => r.dmaBack k) ({ s with d3hot := false } : State).evtLostEntry).cfgWrites cfg :=
  if_neg (by rw [h]; decide)

/-- What LINK_STAT is set to when the link has trained (R64). -/
def State.linkShown (s : State) (rate width : Nat) : State :=
  ((s.set bar0 Tim.RATE rate).set bar0 Tim.WIDTH width).set bar0 Tim.DEGRADED (b2n (rate != 0 && (width < 4 || rate < 3)))
theorem State.linkTrain_changes (s : State) (rate width : Nat) (h : (s.linkShown rate width).linkStat ≠ s.linkStat) :
    s.linkTrain rate width = (s.linkShown rate width).raise Ev.LINK_CHANGE devU (s.linkShown rate width).linkStat := if_neg h
theorem State.linkTrain_keeps (s : State) (rate width : Nat) (h : (s.linkShown rate width).linkStat = s.linkStat) :
    s.linkTrain rate width = s.linkShown rate width := if_pos h

/-- Settles O23: each row is its operation; D0_RETURN and LINK_RETRAIN by their branches. -/
theorem functionResetsAndPowerStates : Obligations.Function_resets_and_power_states := by
  intro s t rate width cfg hout a reset
  have hreset : s.sys.inReset = false := by rwa [s.advance_sys] at hout
  refine ⟨exec_functionLevelReset s t hreset, exec_perstN s t hreset, exec_d3hotEntry s t hreset, fun hd3hot => ?_, fun hchanged => ?_, fun hsame => ?_⟩
  · rw [exec_d0Return s t hreset, State.d0Return_wakes _ cfg hd3hot]
  · rw [exec_linkRetrain s t hreset, State.linkTrain_changes _ rate width hchanged]
    rfl
  · rw [exec_linkRetrain s t hreset, State.linkTrain_keeps _ rate width hsame]
    rfl
end Sys2Proof.Machine
end

section
/-! BAR2 and LPDDR5X behind it: what an access may touch, what it changes, and what is denied (R72 to R74, R244, R479). An access while memory does not work is denied by the
model's choice (log entry 49). -/
namespace Sys2Proof.Machine
open R

theorem exec_bar2Read (s : State) (t off len : Nat) (env : Option Nat) (h : (s.advance t).reached = true) :
    exec (.bar2Read t off len env) s = .next (s.ends t ((s.advance t).bar2Read off len env)) := congrArg _ (s.onBar_ends t _ h)
theorem exec_bar2Write (s : State) (t off : Nat) (bs : List Nat) (h : (s.advance t).reached = true) :
    exec (.bar2Write t off bs) s = .next (s.ran t ((s.advance t).bar2Write off bs)) := congrArg _ (s.onBarThen_ran t _ h)

/-! ### What the device owns (R73) -/

/-- The device owns whole mebibytes. -/
theorem State.deviceOwned_page (s : State) {x y : Nat} (h : x / 2 ^ 20 = y / 2 ^ 20) : s.deviceOwned x = s.deviceOwned y := by
  simp only [State.deviceOwned, h]
/-- A byte of each mebibyte that a range touches, as a write looks at them. -/
def samples (a len : Nat) : List Nat := (List.range (len / 2 ^ 20 + 2)).map (fun i => min (a + i * 2 ^ 20) (a + len - 1))
theorem mem_samples {a len y : Nat} (h : y ∈ samples a len) (hlen : 0 < len) : a ≤ y ∧ y < a + len := by
  obtain ⟨i, -, rfl⟩ := List.mem_map.1 h
  omega
/-- Every byte of a range has a sample in its mebibyte. -/
theorem exists_sample {a len y : Nat} (hlo : a ≤ y) (hhi : y < a + len) : ∃ x ∈ samples a len, x / 2 ^ 20 = y / 2 ^ 20 := by
  refine ⟨_, List.mem_map.2 ⟨y / 2 ^ 20 - a / 2 ^ 20, List.mem_range.2 ?_, rfl⟩, ?_⟩
  · omega
  · omega
/-- The samples of a range meet memory of the device exactly where the range does. -/
theorem State.any_samples_owned (s : State) {a len : Nat} (hlen : 0 < len) :
    (samples a len).any s.deviceOwned = true ↔ ∃ y, a ≤ y ∧ y < a + len ∧ s.deviceOwned y = true := by
  rw [List.any_eq_true]
  constructor
  · rintro ⟨x, hx, hown⟩
    obtain ⟨hlo, hhi⟩ := mem_samples hx hlen
    exact ⟨x, hlo, hhi, hown⟩
  · rintro ⟨y, hlo, hhi, hown⟩
    obtain ⟨x, hx, hpage⟩ := exists_sample hlo hhi
    exact ⟨x, hx, (s.deviceOwned_page hpage).trans hown⟩

/-! ### Reads (R72, R74, R479) -/

section
variable (s : State) (off len : Nat) (env : Option Nat)
theorem State.bar2Read_denied (h : s.dramUp = false ∨ s.fitted < s.bar2Addr off + len) :
    s.bar2Read off len env = ({ s with rdata := List.replicate len 0xFF } : State).bar2Denied off := by
  refine if_pos ?_
  rcases h with h | h
  · simp [h]
  · simp [State.inDram, h]
section
variable (hup : s.dramUp = true) (hfits : s.bar2Addr off + len ≤ s.fitted)
include hup hfits
theorem State.bar2Read_served : s.bar2Read off len env = match s.readError (s.bar2Addr off) len env with
    | some e => ({ s with rdata := [] } : State).memUE e
    | none => { s with rdata := Machine.Mem.read s.dram (s.bar2Addr off) len } :=
  if_neg (by simp [hup, State.inDram, hfits])
end
end

/-! ### Writes (R73, R244) -/

/-- A write of a range is denied. -/
def State.bar2Refuses (s : State) (a len : Nat) : Bool := !s.dramUp || !s.inDram a len || s.reg bar0 Tim.WRITE_EN == 0 || (samples a len).any s.deviceOwned
theorem State.bar2Refuses_iff (s : State) (a len : Nat) (hlen : 0 < len) : s.bar2Refuses a len = true ↔
    s.dramUp = false ∨ s.fitted < a + len ∨ s.reg bar0 Tim.WRITE_EN = 0 ∨ ∃ y, a ≤ y ∧ y < a + len ∧ s.deviceOwned y = true := by
  simp only [State.bar2Refuses, Bool.or_eq_true, Bool.not_eq_true', beq_iff_eq, s.any_samples_owned hlen, State.inDram, decide_eq_false_iff_not, Nat.not_le, or_assoc]

section
variable (s : State) (off : Nat) (bs : List Nat)
theorem State.bar2Write_nil : s.bar2Write off [] = s := rfl
theorem State.bar2Write_cons (hbs : bs ≠ []) : s.bar2Write off bs =
    if s.bar2Refuses (s.bar2Addr off) bs.length then s.bar2Denied off else (s.dramWrite (s.bar2Addr off) bs).refTouched off (s.bar2Addr off) bs.length := by
  have hown : (List.range (bs.length / 2 ^ 20 + 2)).any (fun i => s.deviceOwned (min (s.bar2Addr off + i * 2 ^ 20) (s.bar2Addr off + bs.length - 1))) =
      (samples (s.bar2Addr off) bs.length).any s.deviceOwned := by
    rw [samples, List.any_map]
    rfl
  rw [State.bar2Write, if_neg hbs, hown, State.bar2Refuses]
end

/-! #### What leaves LPDDR5X as it is -/

theorem State.bar2Denied_dram (s : State) (off : Nat) : (s.bar2Denied off).dram = s.dram := State.raise_dram ..
@[simp] theorem State.stageWithdraw_dram (s : State) : s.stageWithdraw.dram = s.dram := ite_keeps State.dram _ _ _ rfl
@[simp] theorem State.startEnds_dram (s : State) (status : Nat) : (s.startEnds status).dram = s.dram := by
  unfold State.startEnds
  extract_lets job a b
  have hb : b.dram = s.dram := a.set_dram ..
  split
  · exact (b.workEnd_dram ..).trans hb
  · exact hb
@[simp] theorem State.stageLost_dram (s : State) (cause uid : Nat) : (s.stageLost cause uid).dram = s.dram := by
  unfold State.stageLost
  split
  · rfl
  · extract_lets pend told withdrawn job owed
    have hwithdrawn : withdrawn.dram = s.dram := told.stageWithdraw_dram.trans (s.raise_dram ..)
    have howed : owed.dram = s.dram := (apply_ite State.dram ..).trans ((ite_self _).trans hwithdrawn)
    split
    · exact ((State.startEnds_dram ..).trans (owed.raise_dram ..)).trans howed
    · exact howed
/-- A write into the staged reference slot loses the staged job, and no byte. -/
theorem State.refTouched_dram (s : State) (off a len : Nat) : (s.refTouched off a len).dram = s.dram := by
  simp [State.refTouched]

/-- Settles O22: a read and a write by what they are denied for; the bytes by what a memory reads after a write. -/
theorem bar2ReadsAndWritesMemory : Obligations.Bar2_reads_and_writes_memory := by
  intro s t off len env bs hreach a lo denied
  have hread := exec_bar2Read s t off len env hreach
  have hwrite := exec_bar2Write s t off bs hreach
  have hdram : a.dram = s.dram := s.advance_dram t
  refine ⟨rfl, fun hup hfits hnone => ?_, fun e hup hfits herror => ?_, fun h => ?_, fun hup hfits hopen hfree hbs => ⟨?_, fun x hx => ?_, fun i hi => ?_⟩,
    fun hbs h => ⟨?_, ?_⟩, exec_bar2Write s t off [] hreach⟩
  · rw [hread, State.bar2Read_served _ off len env hup hfits, hnone]
  · rw [hread, State.bar2Read_served _ off len env hup hfits, herror]
  · rw [hread, State.bar2Read_denied _ off len env h]
    rfl
  · have hgoes : a.bar2Refuses lo bs.length = false := by
      rw [Bool.eq_false_iff, ne_eq, a.bar2Refuses_iff lo _ (List.length_pos_of_ne_nil hbs)]
      rintro (h | h | h | ⟨y, hlo, hhi, hown⟩)
      · simp [hup] at h
      · omega
      · omega
      · simp [hfree y hlo hhi] at hown
    rw [hwrite, State.bar2Write_cons _ off bs hbs, if_neg (ne_true_of_eq_false hgoes)]
  · rw [State.refTouched_dram, ← hdram]
    exact Mem.get_write_outside _ _ _ _ hx
  · rw [State.refTouched_dram]
    exact Mem.get_write_inside _ _ _ _ hi
  · rw [hwrite, State.bar2Write_cons _ off bs hbs, if_pos ((a.bar2Refuses_iff lo _ (List.length_pos_of_ne_nil hbs)).2 h)]
    rfl
  · exact (a.bar2Denied_dram off).trans hdram
end Sys2Proof.Machine
end

section
/-! The packets of the URGENT machine: ABORT, RESET_UNIT, FREEZE, THAW and GET_STATUS (R18, R104, R106, R543 to R545, R560). -/
namespace Sys2Proof.Machine
open R

/-- A packet that passes the checks and answers for itself begins its abort (R104, R106). -/
theorem Sent.exec_aborts (x : Sent) (s : State) (htaken : x.taken s = true) (hfails : x.op = .resetUnit ∨ x.fails = []) (hop : x.op = .abort ∨ x.op = .resetUnit) :
    exec x.row s = .next (s.ran x.at_ (((x.before s).tagged x.op (x.pkt s)).cmdAbort (x.pkt s) (x.op == .resetUnit) x.fails).cmdRegs) := by
  obtain ⟨hadmits, hparams, hpass⟩ := x.taken_iff s htaken
  rw [(x.exec_row s hadmits hparams hfails).1, State.execPkt_abort _ _ _ _ x.op hpass hop]

/-- Settles O34: ABORT and RESET_UNIT by `Sent.exec_aborts`; the others answer what their command does, and a freeze is dated at its instant (`freeze_halt`). -/
theorem urgentPacketsComplete : Obligations.Urgent_packets_complete := by
  intro s t urgent tag uid flags params env fails x b k
  have hrow (o : Op) (r : Answer) (htaken : (x o).taken s = true) (h1 : o ≠ .abort) (h2 : o ≠ .resetUnit) (hr : (b o).runOp o (k o) env = r) :=
    (x o).exec_answered s r htaken (if_neg h2) h1 h2 hr
  refine ⟨fun htaken => ?_, fun htaken => ?_, fun htaken hfrozen => ?_, fun htaken hfrozen hhigh => ?_, fun htaken hfrozen hlow => ?_, fun htaken => ?_⟩
  · exact (x .abort).exec_aborts s htaken (.inr rfl) (.inl rfl)
  · exact (x .resetUnit).exec_aborts s htaken (.inl rfl) (.inr rfl)
  · obtain ⟨off, hhalt⟩ := (b .freeze).freeze_halt 1 hfrozen
    exact ⟨_, hrow .freeze _ htaken nofun nofun rfl, rfl, congrArg Halt.frozen hhalt, congrArg PowSt.haltAt (congrArg Halt.pow hhalt)⟩
  · exact ⟨_, hrow .thaw _ htaken nofun nofun ((b .thaw).cmdThaw_resumes hhigh hfrozen), rfl, State.thawGo_frozen _⟩
  · exact hrow .thaw _ htaken nofun nofun ((b .thaw).cmdThaw_waits hlow)
  · exact hrow .getStatus _ htaken nofun nofun rfl
end Sys2Proof.Machine
end

section
/-! The packets LAMP_CAL and CHAIN_LOAD, each where none of its checks refuses it (R85, R341, R409, R418, R422, R572). Which lines a run of kind 2 captures, and that the
data of a CHAIN_LOAD is in place at once on the lowest idle mover, are the model's choices (log entries 74, 88). -/
namespace Sys2Proof.Machine
open R

/-! ### LAMP_CAL -/

/-- A LAMP_CAL that starts: its work on the slots of its kind, the sums of earlier runs forgotten. -/
def State.calStarted (s : State) (g : Nat) (k : Pkt) : State :=
  (s.workStart k (lampU g) (s.calSlots g (k.p 0))).modLamp g (fun l => { l with strs := l.strs.map (fun x => { x with sums := [] }) })

section
variable (s : State) (g : Nat) (k : Pkt)
/-- A group whose port runs no job takes a run of its DARK or VREF measurements (R409). -/
theorem State.cmdLampCal_starts (hkind : k.p 0 < 2) (hidle : ∀ p, s.lampPort g = some p → (s.port p).jobOn = false) :
    s.cmdLampCal g k = ((s.calStarted g k).calLight g (k.p 0) (s.calSlots g (k.p 0)).head?, St.OK, [0]) := by
  have hne : k.p 0 ≠ 2 := by omega
  have hlt : k.p 0 < 3 := by omega
  unfold State.cmdLampCal
  rw [State.unless_passes]
  · simp only [if_neg hne]
    rfl
  · cases hport : s.lampPort g with
    | none => simp [hlt, hne]
    | some p => simp [hlt, hne, hidle p hport]
/-- A DELTA run takes a port that captures nothing and has a white target (R85, R418). -/
theorem State.cmdLampCal_delta (p : Nat) (hkind : k.p 0 = 2) (hport : s.lampPort g = some p) (hjob : (s.port p).jobOn = false) (hcap : (s.port p).capture = none)
    (hwhite : s.act (pipeU p) Pipe.WT_SRC ≠ 0) :
    s.cmdLampCal g k = (((s.calStarted g k).deltaCapture g).calLight g 2 (s.calSlots g 2).head?, St.OK, [0]) := by
  unfold State.cmdLampCal
  rw [State.unless_passes]
  · simp only [hkind, if_true]
    rw [State.calStarted, hkind]
  · simp [hkind, hport, hjob, hcap, hwhite]
end

/-! ### CHAIN_LOAD -/

/-- A frame of the chain's length, aligned and in memory, is kept for the next latch (R422, R572). -/
theorem State.cmdChainLoad_loads (s : State) (k : Pkt) (len : Nat) (hlen : len = 64 * cdiv (chainN s s.active) 512) (halign : (k.p 1 * 2 ^ 32 + k.p 0) % 64 = 0)
    (hsize : k.p 2 = len) (hdram : s.inDram (k.p 1 * 2 ^ 32 + k.p 0) len = true) :
    s.cmdChainLoad k =
      ((s.modChain (fun c => { c with loaded := some (ofLe (Machine.Mem.read s.dram (k.p 1 * 2 ^ 32 + k.p 0) len)) })).moverTake len, St.OK, [0]) := by
  have hsize64 : k.p 2 % 64 = 0 := by omega
  unfold State.cmdChainLoad
  rw [← hlen]
  rw [if_neg (by rw [halign]; decide), if_neg (by rw [hsize64]; decide), State.unless_passes]
  rw [hsize]
  simpa using hdram

/-- Settles O40: a packet taken runs its command, and nothing refuses it; LAMP_CAL by its kind and the slots that it has. -/
theorem lightPacketsComplete : Obligations.Light_packets_complete := by
  intro s t urgent tag uid flags params env x b k
  have hrow (o : Op) (r : Answer) (htaken : (x o).taken s = true) (h1 : o ≠ .abort) (h2 : o ≠ .resetUnit) (hr : (b o).runOp o (k o) env = r) :=
    (x o).exec_answered s r htaken rfl h1 h2 hr
  refine ⟨?_, ?_, ?_⟩
  · intro htaken a q g c hidle
    refine ⟨fun hkind => ?_, fun j l hkind hslots => ?_⟩
    · refine hrow .lampCal _ htaken nofun nofun ((a.cmdLampCal_starts g q (by omega) hidle).trans ?_)
      rw [hkind]
      rfl
    · refine hrow .lampCal _ htaken nofun nofun ((a.cmdLampCal_starts g q (by omega) hidle).trans ?_)
      rw [hkind, hslots]
      rfl
  · intro htaken a q g p hkind hport hjob hcap hwhite c j l hslots
    refine hrow .lampCal _ htaken nofun nofun ((a.cmdLampCal_delta g q p hkind hport hjob hcap hwhite).trans ?_)
    rw [hslots, State.calStarted, hkind]
    rfl
  · intro htaken a base len halign hsize hdram
    exact hrow .chainLoad _ htaken nofun nofun (a.cmdChainLoad_loads (k .chainLoad) len rfl halign hsize hdram)
end Sys2Proof.Machine
end

section
/-! NORMAL replies behind an ABORT of NORMAL that has still to be answered (R83, R90, R91). -/
namespace Sys2Proof.Machine
open R

/-- While an ABORT or RESET_UNIT of NORMAL is unanswered, a NORMAL reply is held, whatever room the reply FIFO has (R83, R90). -/
theorem State.answer_behind_abort (s : State) (k : Pkt) (status : Nat) (results : List Nat) (hreply : (tbit k.flags 1 && status == St.OK) = false) (hnormal : k.urgent = false)
    (hpends : s.normalPends = true) :
    s.answer k status results = { s with reply := { s.reply with held := s.reply.held ++ [replyWords k.urgent status k.tag k.seq results] } } := by
  simp [State.answer, State.replyNormal, hreply, hnormal, hpends]

/-- A device out of reset whose reply FIFO is empty, with an ABORT of axis 0 that came through NORMAL and waits for the axis. -/
def abortUnanswered : State :=
  { State.reset with
    sys := { State.reset.sys with inReset := false },
    aborts := [{ uid := axU 0, waiting := [(axU 0, 1600000)], tag := 0, seq := 1, urgent := false, reset := false }] }
/-- A GET_STATUS that came through NORMAL. -/
def normalGetStatus : Pkt := pktOf false (pktWords Op.getStatus.code 0 devU 0 []) 2

/-- Refutes O55: nothing is asked of `normalPends`. With an ABORT of NORMAL unanswered, the reply of a NORMAL packet is held although no reply is held before it and the FIFO is empty. -/
theorem not_repliesLeaveRoomForUrgent : ¬ Obligations.Replies_leave_room_for_urgent := by
  intro h
  obtain ⟨hwritten, -⟩ := h abortUnanswered normalGetStatus St.OK [] rfl rfl
  obtain ⟨hwords, -⟩ := hwritten rfl rfl (by decide)
  rw [abortUnanswered.answer_behind_abort normalGetStatus St.OK [] rfl rfl rfl] at hwords
  exact absurd hwords (by decide)
end Sys2Proof.Machine
end
